-- ==== Sys2Proof/Word.lean ====
section
/-! DEFINITION. The word types of the model and the table in which it keeps sparse state. -/

namespace Sys2Proof

/-- A 32-bit register or instruction word. -/
abbrev Word := BitVec 32

/-- A 64-bit general register. -/
abbrev DWord := BitVec 64

/-- A byte. -/
abbrev Byte := BitVec 8

/-- Sparse state by key: rising keys, and no entry equal to the value an absent key stands for. -/
abbrev Table (α : Type) := List (Nat × α)

/-- The value a table holds at a key; `d` is the value an absent key stands for. -/
def Table.get {α : Type} (t : Table α) (k : Nat) (d : α) : α :=
  match t with
  | [] => d
  | (k', v) :: r => if k' = k then v else Table.get r k d

/-- Removes every entry of a key. -/
def Table.erase {α : Type} (t : Table α) (k : Nat) : Table α :=
  t.filter fun e => e.1 ≠ k

/-- Inserts an entry in key order, in place of an entry of the same key. -/
def Table.ins {α : Type} (t : Table α) (k : Nat) (v : α) : Table α :=
  match t with
  | [] => [(k, v)]
  | (k', v') :: r =>
    if k < k' then (k, v) :: (k', v') :: r
    else if k = k' then (k, v) :: r
    else (k', v') :: Table.ins r k v

/-- Sets the value at a key; setting the value an absent key stands for removes the entry. -/
def Table.put {α : Type} [DecidableEq α] (t : Table α) (k : Nat) (d v : α) : Table α :=
  if v = d then Table.erase t k else Table.ins t k v

/-- The canonical form: keys strictly rising, no entry equal to what its absence stands for. -/
def Table.wf {α : Type} [DecidableEq α] (t : Table α) (d : Nat → α) : Bool :=
  match t with
  | [] => true
  | (k, v) :: r => decide (v ≠ d k) && (r.all fun e => decide (k < e.1)) && Table.wf r d

/-- The big-endian value of a list of bytes (R9). -/
def beNat (bs : List Byte) : Nat := bs.foldl (fun a b => a * 256 + b.toNat) 0

/-- The `n` low bytes of a value, big-endian (R9). -/
def beBytes : Nat → Nat → List Byte
  | 0, _ => []
  | n + 1, v => BitVec.ofNat 8 (v / 256 ^ n) :: beBytes n v

/-- The `n` bytes of a list from an offset; bytes past its end are zero. -/
def sliceBytes (bs : List Byte) (off n : Nat) : List Byte :=
  (List.range n).map fun i => bs.getD (off + i) 0

/-- Bits hi:lo of a natural number (R9). -/
def bitsOf (v hi lo : Nat) : Nat := (v / 2 ^ lo) % 2 ^ (hi + 1 - lo)

/-- A value with bits hi:lo replaced. -/
def withBits (v hi lo x : Nat) : Nat :=
  (v / 2 ^ (hi + 1)) * 2 ^ (hi + 1) + (x % 2 ^ (hi + 1 - lo)) * 2 ^ lo + v % 2 ^ lo

/-- Bit i of a natural number. -/
def bitAt (v i : Nat) : Bool := (v / 2 ^ i) % 2 = 1

/-- A natural number with bit i set or cleared. -/
def setBit (v i : Nat) (b : Bool) : Nat := withBits v i i (if b then 1 else 0)

/-- One for true, zero for false. -/
def ofBool (b : Bool) : Nat := if b then 1 else 0

/-- The signed value of a w-bit number. -/
def signedOf (v w : Nat) : Int := if 2 ^ (w - 1) ≤ v % 2 ^ w then (v % 2 ^ w : Nat) - (2 ^ w : Nat) else (v % 2 ^ w : Nat)

/-- ⌈a / b⌉. -/
def ceilDiv (a b : Nat) : Nat := (a + b - 1) / b

/-- A w-bit two's-complement number, from an integer. -/
def wrapInt (v : Int) (w : Nat) : Nat := (v % ((2 ^ w : Nat) : Int)).toNat

end Sys2Proof
end

