-- ==== Sys2Proof/Syntax.lean ====
section
/-! DEFINITION. The commands of the device: one constructor for each row of the spec's operation table, with the
operands the row's rule names. A command is what reaches the device from outside (a frame, a pin, a register access, a
message) or the next whole step of one of its own engines, which the sender of commands lets happen. -/

namespace Sys2Proof

/-- Who makes a control-space access (R628, R629): the Glasshouse at kernel or at user privilege, JTAG, or the start
sequence while it loads a caddy. -/
inductive Requester where
  | kernel | user | jtag | loader
  deriving DecidableEq, Repr

/-- Whether a word that an instruction reads is uncorrectable: none, the instruction word itself (R206, R526), or the nth
line or word its access reads (R261, R285, R526). -/
inductive ReadFault where
  | none | fetch
  | data (n : Nat)
  deriving DecidableEq, Repr

/-- What executes an instruction: a packet context of an engine of a slice (R187), or a context of the Glasshouse
(R516), with what of its reads is uncorrectable. -/
inductive Agent where
  | engine (slice eng ctx : Nat) (bad : ReadFault)
  | core (ctx : Nat) (bad : ReadFault)
  deriving DecidableEq, Repr

/-- What an early wake comes from (R472): a wake compare, or the gate list of a port. -/
inductive WakeSource where
  | compare (k : Nat)
  | gate (port : Nat)
  deriving DecidableEq, Repr

/-- Whether a cell of the frame being sent reads uncorrectable (R311, R312): not at all, a data block, or the header of
the nth cell of the chain. -/
inductive CellFault where
  | none
  | data (n : Nat)
  | header (n : Nat)
  deriving DecidableEq, Repr

/-- The module pins of a site (R68). -/
inductive ModulePin where
  | prs | los | flt
  deriving DecidableEq, Repr

/-- A condition that keeps the device in reset (R613, R616): PORST_N low, VDD_AON below its reset level, AON_CLK missing, SYSRST_N
low, or another supply below its reset level. -/
inductive Hold where
  | porst | aonLow | noClock | sysrst
  | supply (i : Nat)
  deriving DecidableEq, Repr

/-- The symbols of a block that are in error when it is read (R167): each place, 0–71, with what differs there. -/
abbrev BlockErr := List (Nat × Nat)

/-- What Weeder reads (R169): a slot or a tag line of the flow region, a block elsewhere in package memory, a block of the flow
cache or of the cell buffer, or a 64-bit word of a control memory, whose errors are the places of its flipped bits. -/
inductive WeederBlock where
  | slot (bucket slot : Nat)
  | tagLine (bucket : Nat)
  | other (address : Nat)
  | cacheLine (bucket slot : Nat)
  | cell (number : Nat)
  | control (memory word : Nat)
  deriving DecidableEq, Repr

/-- What comes of the routine a context runs (R214–R218): the unit's reply, a reply with RETRY set, a micro-fault before or
after the commit point, each with its micro-address, or a corrected micro-word. -/
inductive UnitOutcome where
  | reply
  | retry (addr : Nat)
  | microFault (addr : Nat)
  | postCommit (addr : Nat)
  | corrected
  deriving DecidableEq, Repr

/-- Where a Grix datagram comes from, and the device address it was sent to (R584, R585). -/
structure Peer where
  mac : BitVec 48 := 0
  v6 : Bool := false
  addr : BitVec 128 := 0
  port : BitVec 16 := 0
  dev : BitVec 128 := 0
  deriving DecidableEq, Repr, Inhabited


/-- The commands: the instructions of Trowel and of the Glasshouse, and then the other rows of the operation table in its
order. -/
inductive Instr where
  /-- ADD (R196). -/
  | add (a : Agent) (rd rs1 rs2 : BitVec 5)
  /-- SUB (R196). -/
  | sub (a : Agent) (rd rs1 rs2 : BitVec 5)
  /-- AND (R196). -/
  | and (a : Agent) (rd rs1 rs2 : BitVec 5)
  /-- OR (R196). -/
  | or (a : Agent) (rd rs1 rs2 : BitVec 5)
  /-- XOR (R196). -/
  | xor (a : Agent) (rd rs1 rs2 : BitVec 5)
  /-- SHL (R196). -/
  | shl (a : Agent) (rd rs1 rs2 : BitVec 5)
  /-- SHR (R196). -/
  | shr (a : Agent) (rd rs1 rs2 : BitVec 5)
  /-- SAR (R196). -/
  | sar (a : Agent) (rd rs1 rs2 : BitVec 5)
  /-- CLT (R196). -/
  | clt (a : Agent) (rd rs1 rs2 : BitVec 5)
  /-- CLTU (R196). -/
  | cltu (a : Agent) (rd rs1 rs2 : BitVec 5)
  /-- MUL (R196). -/
  | mul (a : Agent) (rd rs1 rs2 : BitVec 5)
  /-- MULHI (R196). -/
  | mulhi (a : Agent) (rd rs1 rs2 : BitVec 5)
  /-- UMIN (R196). -/
  | umin (a : Agent) (rd rs1 rs2 : BitVec 5)
  /-- UMAX (R196). -/
  | umax (a : Agent) (rd rs1 rs2 : BitVec 5)
  /-- LZC (R196). -/
  | lzc (a : Agent) (rd rs1 rs2 : BitVec 5)
  /-- POPCNT (R196). -/
  | popcnt (a : Agent) (rd rs1 rs2 : BitVec 5)
  /-- ADDK (R195). -/
  | addk (a : Agent) (rd rs1 : BitVec 5) (imm : BitVec 16)
  /-- ANDK (R195). -/
  | andk (a : Agent) (rd rs1 : BitVec 5) (imm : BitVec 16)
  /-- ORK (R195). -/
  | ork (a : Agent) (rd rs1 : BitVec 5) (imm : BitVec 16)
  /-- XORK (R195). -/
  | xork (a : Agent) (rd rs1 : BitVec 5) (imm : BitVec 16)
  /-- SHLK (R195). -/
  | shlk (a : Agent) (rd rs1 : BitVec 5) (imm : BitVec 16)
  /-- SHRK (R195). -/
  | shrk (a : Agent) (rd rs1 : BitVec 5) (imm : BitVec 16)
  /-- SARK (R195). -/
  | sark (a : Agent) (rd rs1 : BitVec 5) (imm : BitVec 16)
  /-- CLTK (R195). -/
  | cltk (a : Agent) (rd rs1 : BitVec 5) (imm : BitVec 16)
  /-- CLTUK (R195). -/
  | cltuk (a : Agent) (rd rs1 : BitVec 5) (imm : BitVec 16)
  /-- INSH (R195). -/
  | insh (a : Agent) (rd : BitVec 5) (sh : BitVec 2) (imm : BitVec 16)
  /-- FXT (R195). -/
  | fxt (a : Agent) (rd rs1 : BitVec 5) (pos lenM1 : BitVec 6)
  /-- FDP (R195). -/
  | fdp (a : Agent) (rd rs1 : BitVec 5) (pos lenM1 : BitVec 6)
  /-- MFPC (R193). -/
  | mfpc (a : Agent) (rd rs1 : BitVec 5) (imm : BitVec 16)
  /-- MTPC (R193). -/
  | mtpc (a : Agent) (rd rs1 : BitVec 5) (imm : BitVec 16)
  /-- LDB (R197). -/
  | ldb (a : Agent) (rd rs1 : BitVec 5) (imm : BitVec 16)
  /-- LDH (R197). -/
  | ldh (a : Agent) (rd rs1 : BitVec 5) (imm : BitVec 16)
  /-- LDW (R197). -/
  | ldw (a : Agent) (rd rs1 : BitVec 5) (imm : BitVec 16)
  /-- LDD (R197). -/
  | ldd (a : Agent) (rd rs1 : BitVec 5) (imm : BitVec 16)
  /-- STB (R198). -/
  | stb (a : Agent) (rs1 rs2 : BitVec 5) (imm : BitVec 16)
  /-- STH (R198). -/
  | sth (a : Agent) (rs1 rs2 : BitVec 5) (imm : BitVec 16)
  /-- STW (R198). -/
  | stw (a : Agent) (rs1 rs2 : BitVec 5) (imm : BitVec 16)
  /-- STD (R198). -/
  | std (a : Agent) (rs1 rs2 : BitVec 5) (imm : BitVec 16)
  /-- BR_EQ (R195). -/
  | brEq (a : Agent) (rs1 rs2 : BitVec 5) (off : BitVec 16)
  /-- BR_NE (R195). -/
  | brNe (a : Agent) (rs1 rs2 : BitVec 5) (off : BitVec 16)
  /-- BR_LTS (R195). -/
  | brLts (a : Agent) (rs1 rs2 : BitVec 5) (off : BitVec 16)
  /-- BR_GES (R195). -/
  | brGes (a : Agent) (rs1 rs2 : BitVec 5) (off : BitVec 16)
  /-- BR_LTU (R195). -/
  | brLtu (a : Agent) (rs1 rs2 : BitVec 5) (off : BitVec 16)
  /-- BR_GEU (R195). -/
  | brGeu (a : Agent) (rs1 rs2 : BitVec 5) (off : BitVec 16)
  /-- CALL (R195). -/
  | call (a : Agent) (off : BitVec 26)
  /-- JMPR (R195). -/
  | jmpr (a : Agent) (rd rs1 : BitVec 5) (imm : BitVec 16)
  /-- FCREATE (R156). -/
  | fcreate (a : Agent) (rd rs1 rs2 : BitVec 5)
  /-- FDELETE (R199). -/
  | fdelete (a : Agent) (rd rs1 rs2 : BitVec 5)
  /-- POLICE (R251). -/
  | police (a : Agent) (rd rs1 rs2 : BitVec 5)
  /-- L2 (R266). -/
  | l2 (a : Agent) (rd rs1 rs2 : BitVec 5)
  /-- LPM4 (R276). -/
  | lpm4 (a : Agent) (rd rs1 rs2 : BitVec 5)
  /-- LPM6 (R276). -/
  | lpm6 (a : Agent) (rd rs1 rs2 : BitVec 5)
  /-- NHOP (R278). -/
  | nhop (a : Agent) (rd rs1 rs2 : BitVec 5)
  /-- ECMP (R279). -/
  | ecmp (a : Agent) (rd rs1 rs2 : BitVec 5)
  /-- NATMAP (R237). -/
  | natmap (a : Agent) (rd rs1 rs2 : BitVec 5)
  /-- NATREL (R240). -/
  | natrel (a : Agent) (rd rs1 rs2 : BitVec 5)
  /-- LBSEL (R246). -/
  | lbsel (a : Agent) (rd rs1 rs2 : BitVec 5)
  /-- SETQ (R200). -/
  | setq (a : Agent) (rd rs1 rs2 : BitVec 5)
  /-- RECIRC (R42). -/
  | recirc (a : Agent) (rd rs1 rs2 : BitVec 5)
  /-- TOCPU (R200). -/
  | tocpu (a : Agent) (rd rs1 rs2 : BitVec 5)
  /-- DROP (R200). -/
  | drop (a : Agent) (rd rs1 rs2 : BitVec 5)
  /-- MIRROR (R320). -/
  | mirror (a : Agent) (rd rs1 rs2 : BitVec 5)
  /-- TSREQ (R377). -/
  | tsreq (a : Agent) (rd rs1 rs2 : BitVec 5)
  /-- EDIT (R201). -/
  | edit (a : Agent) (rd rs1 rs2 : BitVec 5)
  /-- EXIT (R202). -/
  | exit (a : Agent) (rd rs1 rs2 : BitVec 5)
  /-- RDCR (R525). -/
  | rdcr (a : Agent) (rd rs1 rs2 : BitVec 5)
  /-- WRCR (R525). -/
  | wrcr (a : Agent) (rd rs1 rs2 : BitVec 5)
  /-- SETCR (R525). -/
  | setcr (a : Agent) (rd rs1 rs2 : BitVec 5)
  /-- CLRCR (R525). -/
  | clrcr (a : Agent) (rd rs1 rs2 : BitVec 5)
  /-- WAITT (R527). -/
  | waitt (a : Agent) (rd rs1 rs2 : BitVec 5)
  /-- WAITE (R528). -/
  | waite (a : Agent) (rd rs1 rs2 : BitVec 5)
  /-- POST (R531). -/
  | post (a : Agent) (rd rs1 rs2 : BitVec 5)
  /-- TASKEND (R533). -/
  | taskend (a : Agent) (rd rs1 rs2 : BitVec 5)
  /-- CHRES (R536). -/
  | chres (a : Agent) (rd rs1 rs2 : BitVec 5)
  /-- CHCOM (R536). -/
  | chcom (a : Agent) (rd rs1 rs2 : BitVec 5)
  /-- CHRCV (R536). -/
  | chrcv (a : Agent) (rd rs1 rs2 : BitVec 5)
  /-- CHREL (R536). -/
  | chrel (a : Agent) (rd rs1 rs2 : BitVec 5)
  /-- FGET (R539). -/
  | fget (a : Agent) (rd rs1 rs2 : BitVec 5)
  /-- FPUT (R540). -/
  | fput (a : Agent) (rd rs1 rs2 : BitVec 5)
  /-- FREL (R541). -/
  | frel (a : Agent) (rd rs1 rs2 : BitVec 5)
  /-- ATADD (R523). -/
  | atadd (a : Agent) (rd rs1 rs2 : BitVec 5)
  /-- ATXCH (R523). -/
  | atxch (a : Agent) (rd rs1 rs2 : BitVec 5)
  /-- ATCMPX (R523). -/
  | atcmpx (a : Agent) (rd rs1 rs2 : BitVec 5)
  /-- KCALL (R526). -/
  | kcall (a : Agent) (rd rs1 rs2 : BitVec 5)
  /-- KRET (R526). -/
  | kret (a : Agent) (rd rs1 rs2 : BitVec 5)
  /-- ORDER (R522). -/
  | order (a : Agent) (rd rs1 rs2 : BitVec 5)
  /-- HALT (R517). -/
  | halt (a : Agent) (rd rs1 rs2 : BitVec 5)
  /-- FRAME_START_RECEIVED (R24). -/
  | frameStartReceived (port : Nat) (frame : List Byte)
  /-- FRAME_END (R32). -/
  | frameEnd (port : Nat) (pcsErr : Bool) (fecCorr fecUncorr : Nat)
  /-- COZY_DRAIN (R470). -/
  | cozyDrain (slice : Nat)
  /-- WAKE_COMPLETE (R464). -/
  | wakeComplete (slice : Nat)
  /-- DOZE_ENTRY (R464). -/
  | dozeEntry (slice : Nat)
  /-- REST_ENTRY (R464). -/
  | restEntry (slice : Nat)
  /-- DORMANT_ENTRY (R464). -/
  | dormantEntry (slice : Nat)
  /-- EARLY_WAKE (R472). -/
  | earlyWake (src : WakeSource)
  /-- PARSE_HEAD (R25). -/
  | parseHead (slice : Nat) (reserved : Bool)
  /-- FLOW_REQUEST (R30). -/
  | flowRequest (pid : Nat) (errors : List BlockErr)
  /-- RULE_LOOKUP (R116). -/
  | ruleLookup (pid : Nat)
  /-- CACHE_MISS_SERVICE (R148). -/
  | cacheMissService (op : Nat) (errors : List BlockErr)
  /-- REPAIR_TIMEOUT (R172). -/
  | repairTimeout (op : Nat)
  /-- TAG_LINE_REBUILD (R173). -/
  | tagLineRebuild (bucket : Nat) (errors : List BlockErr)
  /-- DISPATCH (R188). -/
  | dispatch (pid : Nat)
  /-- CREATION_SERVICE (R158). -/
  | creationService
  /-- BATCH_WRITE_BACK (R151). -/
  | batchWriteBack (op : Nat)
  /-- SCHEDULER_SELECTION (R341). -/
  | schedulerSelection (port : Nat) (fault : CellFault)
  /-- FRAME_TRANSMIT (R58). -/
  | frameTransmit (port : Nat) (fault : CellFault)
  /-- AGE_SWEEP (R348). -/
  | ageSweep
  /-- SHAPER_REFILL (R345). -/
  | shaperRefill
  /-- GATE_ENTRY_BOUNDARY (R350). -/
  | gateEntryBoundary (port : Nat)
  /-- GATE_SWITCH (R352). -/
  | gateSwitch (port : Nat)
  /-- MAC_CONTROL_FRAME (R61). -/
  | macControlFrame (port : Nat) (frame : List Byte) (pcsErr : Bool) (fecCorr fecUncorr : Nat)
  /-- PAUSE_EXPIRY (R62). -/
  | pauseExpiry (port : Nat) (pri : Option Nat)
  /-- XOFF_REPEAT (R63). -/
  | xoffRepeat (port : Nat) (pri : Option Nat)
  /-- PAUSE_WATCHDOG (R64). -/
  | pauseWatchdog (port : Nat) (pri : Option Nat)
  /-- PAUSE_WATCHDOG_END (R64). -/
  | pauseWatchdogEnd (port : Nat) (pri : Option Nat)
  /-- LPI_ENTRY (R67). -/
  | lpiEntry (port : Nat) (partner : Bool)
  /-- LPI_WAKE_DONE (R67). -/
  | lpiWakeDone (port : Nat) (partner : Bool)
  /-- MODULE_PIN_CHANGE (R69). -/
  | modulePinChange (site : Nat) (pin : ModulePin) (level : Bool)
  /-- PCS_LOCK_CHANGE (R72). -/
  | pcsLockChange (port : Nat) (pcs fec : Bool)
  /-- LINK_DOWN_DECLARED (R72). -/
  | linkDownDeclared (port : Nat)
  /-- LINK_UP_DECLARED (R72). -/
  | linkUpDeclared (port : Nat)
  /-- HOLD_EXPIRY (R76). -/
  | holdExpiry (port : Nat)
  /-- PRT_CFG_WRITE (R54). -/
  | prtCfgWrite (req : Requester) (port : Nat) (value : Word)
  /-- I2C_TRANSACTION (R70). -/
  | i2cTransaction (req : Requester) (master : Nat) (value : Word)
  /-- I2C_DONE (R71). -/
  | i2cDone (master count : Nat) (nack : Bool) (data : List Byte)
  /-- I2C_TIMEOUT (R71). -/
  | i2cTimeout (master : Nat)
  /-- HASH_TEST (R112). -/
  | hashTest (req : Requester) (value : Word)
  /-- RULE_READ (R131). -/
  | ruleRead (target : BitVec 2) (slice : BitVec 2) (shadow : Bool) (index : BitVec 14)
  /-- WRITE_SHADOW (R131). -/
  | writeShadow (target : BitVec 2) (index : BitVec 14)
  /-- COPY_ACTIVE_TO_SHADOW (R131). -/
  | copyActiveToShadow
  /-- RULE_COPY_COMPLETE (R131). -/
  | ruleCopyComplete
  /-- READ_AND_CLEAR_HIT_COUNTER (R131). -/
  | readAndClearHitCounter (target : BitVec 2) (slice : BitVec 2) (index : BitVec 14)
  /-- SWAP (R121). -/
  | swap
  /-- FLOW_CLOCK_TICK (R145). -/
  | flowClockTick
  /-- CREATION_TOKEN_REFILL (R157). -/
  | creationTokenRefill
  /-- PRUNE_VISIT (R166). -/
  | pruneVisit
  /-- PRUNE_DELETE (R166). -/
  | pruneDelete (op : Nat)
  /-- WEEDER_VISIT (R169). -/
  | weederVisit (block : WeederBlock) (errors : BlockErr)
  /-- CORRECTION_ENTRY_EXPIRY (R174). -/
  | correctionEntryExpiry (page : Nat)
  /-- PAGE_RETIREMENT (R176). -/
  | pageRetirement (errors : List BlockErr)
  /-- RETIRE (R177). -/
  | retire (bank : BitVec 3)
  /-- BANK_RETIREMENT_COMPLETE (R177). -/
  | bankRetirementComplete (errors : List ((Nat × Nat) × List BlockErr))
  /-- ZONE_ENTRY_READ (R183). -/
  | zoneEntryRead (zone : BitVec 16)
  /-- ZONE_ENTRY_WRITE (R183). -/
  | zoneEntryWrite (zone : BitVec 16)
  /-- FLE_CLOCK_LO_READ (R180). -/
  | fleClockLoRead
  /-- BUDGET_EXCEEDED (R203). -/
  | budgetExceeded (slice engine ctx : Nat)
  /-- UNIT_REPLY (R216). -/
  | unitReply (slice engine ctx : Nat) (outcome : UnitOutcome)
  /-- TENTATIVE_TIMEOUT (R215). -/
  | tentativeTimeout (slice engine ctx : Nat)
  /-- PROGRAM_ENTRY_READ (R226). -/
  | programEntryRead (slice : BitVec 2) (index : BitVec 16)
  /-- PROGRAM_ENTRY_WRITE (R191). -/
  | programEntryWrite (index : BitVec 16)
  /-- IMEM_DATA_WRITE (R191). -/
  | imemDataWrite (value : Word)
  /-- IMEM_DATA_READ (R226). -/
  | imemDataRead
  /-- MARK (R191). -/
  | mark
  /-- ENGINE_QUARANTINE (R220). -/
  | engineQuarantine (slice : Nat) (engine : BitVec 4)
  /-- ENGINE_RELEASE (R220). -/
  | engineRelease (slice : Nat) (engine : BitVec 4)
  /-- PATCH_DATA_WRITE (R227). -/
  | patchDataWrite (req : Requester) (value : Word)
  /-- INSTALL (R222). -/
  | install (req : Requester)
  /-- PATCH_INSTALLED (R223). -/
  | patchInstalled
  /-- CLEAR (R223). -/
  | clear (req : Requester)
  /-- POOL_EN_WRITE (R232). -/
  | poolEnWrite (req : Requester) (pool : Nat) (addrReg : Bool) (value : Word)
  /-- XLB_SWEEP (R241). -/
  | xlbSweep
  /-- LB_READ (R256). -/
  | lbRead (target : BitVec 2) (group index : BitVec 12)
  /-- LB_WRITE (R248). -/
  | lbWrite (target : BitVec 2) (group index : BitVec 12)
  /-- BUILD (R248). -/
  | build (group : BitVec 12)
  /-- BUILD_COMPLETE (R248). -/
  | buildComplete
  /-- MAPPING_FIND (R257). -/
  | mappingFind (addr : BitVec 13) (pport : BitVec 16)
  /-- MAPPING_FREE (R257). -/
  | mappingFree (addr : BitVec 13) (pport : BitVec 16)
  /-- POLICER_READ (R253). -/
  | policerRead (index : BitVec 17)
  /-- POLICER_WRITE (R253). -/
  | policerWrite (index : BitVec 17)
  /-- LEARN_REQUEST (R269). -/
  | learnRequest (bad : List (Nat × Nat × Nat))
  /-- L2_AGE_VISIT (R271). -/
  | l2AgeVisit (bucket : Nat) (bad : List (Nat × Nat))
  /-- FLUSH_WALK (R272). -/
  | flushWalk (bad : List (Nat × Nat × Nat))
  /-- SEARCH (R283). -/
  | search (table : BitVec 3) (bank : BitVec 2) (index : BitVec 21) (bad : List (Nat × Nat × Nat))
  /-- NEXT (R283). -/
  | next (table : BitVec 3) (bank : BitVec 2) (index : BitVec 21) (bad : List (Nat × Nat × Nat))
  /-- INSERT (R283). -/
  | insert (table : BitVec 3) (bank : BitVec 2) (index : BitVec 21) (bad : List (Nat × Nat × Nat))
  /-- DELETE (R283). -/
  | delete (table : BitVec 3) (bank : BitVec 2) (index : BitVec 21) (bad : List (Nat × Nat × Nat))
  /-- FWD_FLUSH (R283). -/
  | fwdFlush (table : BitVec 3) (bank : BitVec 2) (index : BitVec 21)
  /-- FWD_COPY (R281). -/
  | fwdCopy (table : BitVec 3) (bank : BitVec 2) (index : BitVec 21)
  /-- FWD_COPY_COMPLETE (R281). -/
  | fwdCopyComplete (bad : List (Nat × Nat))
  /-- FWD_READ (R283). -/
  | fwdRead (table : BitVec 3) (bank : BitVec 2) (index : BitVec 21)
  /-- FLIP (R263). -/
  | flip (tables : BitVec 3)
  /-- CELL_FREE (R307). -/
  | cellFree (slice code cell gen : Nat)
  /-- FREE_LIST_WALK (R309). -/
  | freeListWalk
  /-- AUDIT_CYCLE (R310). -/
  | auditCycle
  /-- SPILL_RUN_WRITE (R315). -/
  | spillRunWrite (pool : Nat)
  /-- SPILL_READ_BACK (R316). -/
  | spillReadBack (queue : Nat) (errors : List (Nat × BlockErr))
  /-- OWNER_READ (R325). -/
  | ownerRead (owner : BitVec 11)
  /-- OWNER_WRITE (R325). -/
  | ownerWrite (owner : BitVec 11)
  /-- QUEUE_READ (R360). -/
  | queueRead (queue : BitVec 14)
  /-- QUEUE_WRITE (R360). -/
  | queueWrite (queue : BitVec 14)
  /-- NODE_READ (R360). -/
  | nodeRead (node : BitVec 11)
  /-- NODE_WRITE (R360). -/
  | nodeWrite (node : BitVec 11)
  /-- CONFIG_CHANGE (R351). -/
  | configChange (port : Nat)
  /-- GATE_EN_WRITE (R352). -/
  | gateEnWrite (req : Requester) (port : Nat) (value : Word)
  /-- LIST_ENTRY_READ (R365). -/
  | listEntryRead (port : Nat) (oper : Bool) (index : BitVec 10)
  /-- LIST_ENTRY_WRITE (R365). -/
  | listEntryWrite (port : Nat) (oper : Bool) (index : BitVec 10)
  /-- TIME_STEP_GO (R371). -/
  | timeStepGo (mode : Bool)
  /-- TIME_STEP_APPLIED (R371). -/
  | timeStepApplied
  /-- TIM_NOW_NS_READ (R370). -/
  | timNowNsRead
  /-- TSQ_W0_READ (R380). -/
  | tsqW0Read (slice : Nat)
  /-- PPS_OUT_RISE (R385). -/
  | ppsOutRise
  /-- PPS_OUT_FALL (R385). -/
  | ppsOutFall
  /-- PPS_IN_CAPTURE (R386). -/
  | ppsInCapture
  /-- TRELLIS_EN_WRITE (R410). -/
  | trellisEnWrite (req : Requester) (value : Word)
  /-- TRELLIS_FRAME_SENT (R395). -/
  | trellisFrameSent
  /-- TRELLIS_FRAME_RECEIVED (R397). -/
  | trellisFrameReceived (lane : BitVec 3) (frame : List Byte) (corrected uncorrectable : Nat)
  /-- LANE_IN_FRAME (R403). -/
  | laneInFrame (lane : BitVec 3) (stream : List Byte)
  /-- LANE_OUT_OF_FRAME (R403). -/
  | laneOutOfFrame (lane : BitVec 3)
  /-- SUPERFRAME_ALIGNMENT_CHANGE (R405). -/
  | superframeAlignmentChange
  /-- DEG_WINDOW_END (R406). -/
  | degWindowEnd (counts : List (Nat × Nat))
  /-- DEFECT_DECLARED (R407). -/
  | defectDeclared (kind : Nat)
  /-- DEFECT_CLEARED (R407). -/
  | defectCleared (kind : Nat)
  /-- MDC_BYTE_RECEIVED (R413). -/
  | mdcByteReceived (channel : Nat) (byte : Byte) (stop : Bool)
  /-- MDC_BYTE_SENT (R413). -/
  | mdcByteSent (channel : Nat)
  /-- MDC_TX_WRITE (R415). -/
  | mdcTxWrite (channel : Nat) (byte : Byte)
  /-- MDC_RX_READ (R415). -/
  | mdcRxRead (channel : Nat)
  /-- MDC_EN_WRITE (R414). -/
  | mdcEnWrite (req : Requester) (channel : Nat) (value : Word)
  /-- GRAFT_EN_WRITE (R423). -/
  | graftEnWrite (req : Requester) (value : Word)
  /-- HELLO (R424). -/
  | hello (message : List Byte)
  /-- REPLY (R424). -/
  | reply (message : List Byte)
  /-- CONFIRM (R424). -/
  | confirm (message : List Byte)
  /-- AUTH_TIMEOUT (R424). -/
  | authTimeout
  /-- AUTH_RETRY (R423). -/
  | authRetry
  /-- CLAIMS (R426). -/
  | claims (message : List Byte)
  /-- DELTAS (R441). -/
  | deltas (message : List Byte)
  /-- REPAIR_REQ (R446). -/
  | repairReq (message : List Byte)
  /-- REPAIR_RSP (R172). -/
  | repairRsp (message : List Byte)
  /-- RESYNC_BEGIN (R445). -/
  | resyncBegin (message : List Byte)
  /-- PURGED (R445). -/
  | purged (message : List Byte)
  /-- RESYNC_WALK (R445). -/
  | resyncWalk
  /-- RESYNC_END (R445). -/
  | resyncEnd (message : List Byte)
  /-- HANDOVER (R451). -/
  | handover (message : List Byte)
  /-- HEARTBEAT_MISSING (R436). -/
  | heartbeatMissing
  /-- RETRANSMIT_TIMEOUT (R437). -/
  | retransmitTimeout
  /-- SUSPEND_TIMEOUT (R423). -/
  | suspendTimeout
  /-- WITNESS_FRAME_SEND (R447). -/
  | witnessFrameSend (group : Nat)
  /-- WITNESS_FRAME_RECEIVED (R448). -/
  | witnessFrameReceived (port : Nat) (frame : List Byte) (pcsErr : Bool) (fecCorr fecUncorr : Nat)
  /-- WITNESS_ABSENT (R448). -/
  | witnessAbsent (group : Nat)
  /-- ANNOUNCEMENT (R450). -/
  | announcement
  /-- GRAFT_FLUSH (R439). -/
  | graftFlush
  /-- RETRY (R423). -/
  | retry
  /-- UNPAIR (R423). -/
  | unpair
  /-- ZONE_MODE_READ (R457). -/
  | zoneModeRead (zone : BitVec 16)
  /-- ZONE_MODE_WRITE (R457). -/
  | zoneModeWrite (zone : BitVec 16) (paired home : Bool) (group : BitVec 3)
  /-- HAND_OVER (R451). -/
  | handOver (zone : BitVec 16)
  /-- TAKE (R451). -/
  | take (zone : BitVec 16)
  /-- GRF_SEQ_LO_READ (R456). -/
  | grfSeqLoRead (which : Nat)
  /-- SELF_REFRESH_ENTRY (R473). -/
  | selfRefreshEntry
  /-- SELF_REFRESH_BATCH (R473). -/
  | selfRefreshBatch
  /-- SUPPLY_WARNING (R475). -/
  | supplyWarning (mv : BitVec 16)
  /-- SUPPLY_WARNING_CLEARED (R476). -/
  | supplyWarningCleared (mv : BitVec 16)
  /-- BROWN_OUT (R474). -/
  | brownOut (supply mv : Nat) (provLow : Bool)
  /-- THROTTLE_RAISE (R478). -/
  | throttleRaise (sensor : Nat) (temp : BitVec 16)
  /-- THROTTLE_LOWER (R478). -/
  | throttleLower (sensor : Nat) (temp : BitVec 16)
  /-- THERMAL_RESET (R479). -/
  | thermalReset
  /-- THERMAL_RESET_RELEASE (R479). -/
  | thermalResetRelease (sensor : Nat) (temp : BitVec 16)
  /-- WAKE_COMPARE_ARM (R482). -/
  | wakeCompareArm (req : Requester) (k : Nat) (value : Word)
  /-- COLD_RESET (R614). -/
  | coldReset (cause : Hold) (provLow : Bool)
  /-- WARM_RESET (R615). -/
  | warmReset
  /-- START_STAGE (R500). -/
  | startStage (still : List Hold) ( failing : List Nat)
  /-- STAGE_COMPLETE (R500). -/
  | stageComplete
  /-- STAGE_FAILURE (R500). -/
  | stageFailure (cause : BitVec 32)
  /-- START_HALT_EXPIRY (R504). -/
  | startHaltExpiry
  /-- FLASH_CMD_READ (R513). -/
  | flashCmdRead (req : Requester) (len : BitVec 9)
  /-- PAGE_PROGRAM (R505). -/
  | pageProgram (req : Requester) (len : BitVec 9)
  /-- SECTOR_ERASE (R505). -/
  | sectorErase (req : Requester) (len : BitVec 9)
  /-- FLASH_OP_DONE (R488). -/
  | flashOpDone (ok : Bool)
  /-- FLASH_OP_TIMEOUT (R488). -/
  | flashOpTimeout
  /-- VERIFY (R505). -/
  | verify (req : Requester) (target : BitVec 2)
  /-- APPLY (R506). -/
  | apply (req : Requester) (target : BitVec 2)
  /-- APPLY_COMPLETE (R509). -/
  | applyComplete
  /-- INVALIDATE (R514). -/
  | invalidate (req : Requester) (target : BitVec 2)
  /-- RESTART (R508). -/
  | restart (req : Requester) (slice : BitVec 2)
  /-- SLICE_RESTART_COMPLETE (R508). -/
  | sliceRestartComplete (slice : Nat)
  /-- NVM_RUN_SEQ_LO_READ (R512). -/
  | nvmRunSeqLoRead
  /-- CONTEXT_RELEASE (R518). -/
  | contextRelease (req : Requester) (ctx : BitVec 5) (toIdle user : Bool)
  /-- TIMER_COMPARE_MET (R527). -/
  | timerCompareMet (ctx : Nat)
  /-- POST_WAIT_EXPIRY (R531). -/
  | postWaitExpiry (ctx : Nat)
  /-- TASK_BIND (R532). -/
  | taskBind
  /-- FLOW_HOLD_EXPIRY (R541). -/
  | flowHoldExpiry (ctx : Nat)
  /-- CPU_TX_ENTRY (R544). -/
  | cpuTxEntry
  /-- RING_EN_WRITE (R554). -/
  | ringEnWrite (req : Requester) (ring : Nat) (log2 : BitVec 4)
  /-- STALL_WATCHDOG (R545). -/
  | stallWatchdog
  /-- DEBUG_HALT (R547). -/
  | debugHalt (ctx : BitVec 5)
  /-- DEBUG_RESUME (R547). -/
  | debugResume (ctx : BitVec 5)
  /-- DEBUG_STEP (R547). -/
  | debugStep (ctx : BitVec 5)
  /-- DEBUG_KILL (R548). -/
  | debugKill (ctx : BitVec 5)
  /-- PMU_EVC_LO_READ (R560). -/
  | pmuEvcLoRead (n : Nat)
  /-- PMU_FC_CNT_LO_READ (R564). -/
  | pmuFcCntLoRead (n : Nat)
  /-- FC_RUN_WRITE (R564). -/
  | fcRunWrite (req : Requester) (value : Word)
  /-- FC_FULL_WRITE (R561). -/
  | fcFullWrite (req : Requester) (value : Word)
  /-- QUEUE_COUNTS_READ (R567). -/
  | queueCountsRead (queue : BitVec 14) (clear : Bool)
  /-- HARVEST_EN_WRITE (R574). -/
  | harvestEnWrite (req : Requester) (value : Word)
  /-- MESSAGE_CLOSE (R574). -/
  | messageClose
  /-- TEMPLATE_REFRESH (R574). -/
  | templateRefresh
  /-- MGT_FRAME (R584). -/
  | mgtFrame (frame : List Byte) (otpOk : Bool)
  /-- INIT (R587). -/
  | init (peer : Peer) (body : List Byte)
  /-- FINISH (R587). -/
  | finish (peer : Peer) (session : BitVec 32) (confirm : List Byte)
  /-- FINISH_TIMEOUT (R587). -/
  | finishTimeout (session : BitVec 32)
  /-- SESSION_IDLE_TIMEOUT (R588). -/
  | sessionIdleTimeout (session : BitVec 32)
  /-- READ_REG (R591). -/
  | readReg (peer : Peer) (session : BitVec 32) (seq : BitVec 64) (addr : BitVec 40) (count : BitVec 16) (tag : List Byte)
  /-- WRITE_REG (R591). -/
  | writeReg (peer : Peer) (session : BitVec 32) (seq : BitVec 64) (addr : BitVec 40) (words : List Word) (tag : List Byte)
  /-- FLASH_READ (R591). -/
  | flashRead (peer : Peer) (session : BitVec 32) (seq : BitVec 64) (offset : BitVec 32) (len : BitVec 16) (tag : List Byte)
  /-- FLASH_WRITE (R591). -/
  | flashWrite (peer : Peer) (session : BitVec 32) (seq : BitVec 64) (offset : BitVec 32) (data : List Byte) (tag : List Byte)
  /-- FLASH_ERASE (R591). -/
  | flashErase (peer : Peer) (session : BitVec 32) (seq : BitVec 64) (offset : BitVec 32) (tag : List Byte)
  /-- IMAGE (R591). -/
  | image (peer : Peer) (session : BitVec 32) (seq : BitVec 64) (op target : Byte) (tag : List Byte)
  /-- SLICE_RESTART (R591). -/
  | sliceRestart (peer : Peer) (session : BitVec 32) (seq : BitVec 64) (slice : Byte) (tag : List Byte)
  /-- EVENT_READ (R593). -/
  | eventRead (peer : Peer) (session : BitVec 32) (seq : BitVec 64) (first : BitVec 32) (count : BitVec 16) (tag : List Byte)
  /-- EVENT_SUB (R593). -/
  | eventSub (peer : Peer) (session : BitVec 32) (seq : BitVec 64) (on : Byte) (tag : List Byte)
  /-- QUOTE (R595). -/
  | quote (peer : Peer) (session : BitVec 32) (seq : BitVec 64) (nonce : List Byte) (tag : List Byte)
  /-- IDENTITY (R594). -/
  | identity (peer : Peer) (session : BitVec 32) (seq : BitVec 64) (tag : List Byte)
  /-- DEBUG_CHAL (R599). -/
  | debugChal (peer : Peer) (session : BitVec 32) (seq : BitVec 64) (tag : List Byte)
  /-- DEBUG_RESP (R599). -/
  | debugResp (peer : Peer) (session : BitVec 32) (seq : BitVec 64) (response : List Byte) (tag : List Byte)
  /-- DEBUG_RELOCK (R599). -/
  | debugRelock (peer : Peer) (session : BitVec 32) (seq : BitVec 64) (tag : List Byte)
  /-- OWNER_ADD (R597). -/
  | ownerAdd (peer : Peer) (session : BitVec 32) (seq : BitVec 64) (key : List Byte) (ok : Bool) (tag : List Byte)
  /-- OWNER_REVOKE (R598). -/
  | ownerRevoke (peer : Peer) (session : BitVec 32) (seq : BitVec 64) (slot : Byte) (tag : List Byte)
  /-- CLOSE (R588). -/
  | close (peer : Peer) (session : BitVec 32) (seq : BitVec 64) (tag : List Byte)
  /-- RESET (R591). -/
  | reset (peer : Peer) (session : BitVec 32) (seq : BitVec 64) (tag : List Byte)
  /-- CHAL (R599). -/
  | chal (req : Requester)
  /-- RESP (R599). -/
  | resp (req : Requester)
  /-- RELOCK (R599). -/
  | relock (req : Requester)
  /-- CHALLENGE_LAPSE (R599). -/
  | challengeLapse
  /-- CHALLENGE_BLOCK_END (R599). -/
  | challengeBlockEnd
  /-- POP (R632). -/
  | pop
  /-- REGISTER_WRITE (R18). -/
  | registerWrite (req : Requester) (addr : BitVec 40) (value : Word)
  /-- TIME_COUNTER_INCREMENT (R368). -/
  | timeCounterIncrement (edges : Nat)
  /-- LANE_SIGNAL_DETECT_CHANGE (R406). -/
  | laneSignalDetectChange (lane : BitVec 3) (on locked : Bool)
  /-- BREAK_END (R413). -/
  | breakEnd (channel : Nat)
  /-- LAG_BOUND_EXCEEDED (R438). -/
  | lagBoundExceeded
  /-- MANAGEMENT_LINK_CHANGE (R583). -/
  | managementLinkChange (up : Bool)
  /-- MANAGEMENT_TRANSMIT_DONE (R529). -/
  | managementTransmitDone
  /-- STACK_TEMPERATURE_CHANGE (R477). -/
  | stackTemperatureChange (stack : Nat) (temp : BitVec 16)
  /-- SPILL_WRITE_CAP_HOLD (R317). -/
  | spillWriteCapHold
  /-- RATE_LIMIT_HOLD (R575). -/
  | rateLimitHold
  /-- GLASSHOUSE_RESULT_ARRIVAL (R539). -/
  | glasshouseResultArrival (ctx : Nat)
  deriving DecidableEq, Repr

end Sys2Proof
end

