-- ==== Sys2Proof/Decode.lean ====
section
/-! DEFINITION. Words. The operation table gives no row any bits, so no word spells a command (`decodeTableWord`). The
instructions among the commands have words of their own (R194–R196, R199): `instrWord` is the word of an instruction, and
`decodeInstr` the instruction that a context which fetches a word issues. -/

namespace Sys2Proof

/-- The command a word spells by the table's bits: the table gives bits to no row. -/
def decodeTableWord (_nbits _w : Nat) : Option Instr := none

/-! ## The formats (R194) -/

/-- A word of format A. -/
def wordA (op fn : Nat) (rd rs1 rs2 : BitVec 5) : Word := BitVec.ofNat 6 op ++ BitVec.ofNat 11 fn ++ rs2 ++ rs1 ++ rd

/-- A word of format K, M or C: `low` is rd, or rs2. -/
def wordK (op : Nat) (imm : BitVec 16) (rs1 low : BitVec 5) : Word := BitVec.ofNat 6 op ++ imm ++ rs1 ++ low

/-- A word of format H. -/
def wordH (op : Nat) (imm : BitVec 16) (sh : BitVec 2) (rd : BitVec 5) : Word :=
  BitVec.ofNat 6 op ++ imm ++ (0 : BitVec 3) ++ sh ++ rd

/-- A word of format F; `len` is the length minus 1. -/
def wordF (op : Nat) (pos len : BitVec 6) (rs1 rd : BitVec 5) : Word :=
  BitVec.ofNat 6 op ++ pos ++ len ++ (0 : BitVec 4) ++ rs1 ++ rd

/-- A word of format L. -/
def wordL (op : Nat) (off : BitVec 26) : Word := BitVec.ofNat 6 op ++ off

/-! ## The words of instructions (R195, R196, R199) -/

/-- The word of a command that is an instruction. -/
def instrWord : Instr → Option Word
  | .add _ rd rs1 rs2 => some (wordA 0x00 0x000 rd rs1 rs2)
  | .sub _ rd rs1 rs2 => some (wordA 0x00 0x001 rd rs1 rs2)
  | .and _ rd rs1 rs2 => some (wordA 0x00 0x002 rd rs1 rs2)
  | .or _ rd rs1 rs2 => some (wordA 0x00 0x003 rd rs1 rs2)
  | .xor _ rd rs1 rs2 => some (wordA 0x00 0x004 rd rs1 rs2)
  | .shl _ rd rs1 rs2 => some (wordA 0x00 0x005 rd rs1 rs2)
  | .shr _ rd rs1 rs2 => some (wordA 0x00 0x006 rd rs1 rs2)
  | .sar _ rd rs1 rs2 => some (wordA 0x00 0x007 rd rs1 rs2)
  | .clt _ rd rs1 rs2 => some (wordA 0x00 0x008 rd rs1 rs2)
  | .cltu _ rd rs1 rs2 => some (wordA 0x00 0x009 rd rs1 rs2)
  | .mul _ rd rs1 rs2 => some (wordA 0x00 0x00A rd rs1 rs2)
  | .mulhi _ rd rs1 rs2 => some (wordA 0x00 0x00B rd rs1 rs2)
  | .umin _ rd rs1 rs2 => some (wordA 0x00 0x00C rd rs1 rs2)
  | .umax _ rd rs1 rs2 => some (wordA 0x00 0x00D rd rs1 rs2)
  | .lzc _ rd rs1 rs2 => some (wordA 0x00 0x00E rd rs1 rs2)
  | .popcnt _ rd rs1 rs2 => some (wordA 0x00 0x00F rd rs1 rs2)
  | .fcreate _ rd rs1 rs2 => some (wordA 0x20 0x000 rd rs1 rs2)
  | .fdelete _ rd rs1 rs2 => some (wordA 0x20 0x001 rd rs1 rs2)
  | .police _ rd rs1 rs2 => some (wordA 0x21 0x000 rd rs1 rs2)
  | .l2 _ rd rs1 rs2 => some (wordA 0x22 0x000 rd rs1 rs2)
  | .lpm4 _ rd rs1 rs2 => some (wordA 0x22 0x001 rd rs1 rs2)
  | .lpm6 _ rd rs1 rs2 => some (wordA 0x22 0x002 rd rs1 rs2)
  | .nhop _ rd rs1 rs2 => some (wordA 0x22 0x003 rd rs1 rs2)
  | .ecmp _ rd rs1 rs2 => some (wordA 0x22 0x004 rd rs1 rs2)
  | .natmap _ rd rs1 rs2 => some (wordA 0x23 0x000 rd rs1 rs2)
  | .natrel _ rd rs1 rs2 => some (wordA 0x23 0x001 rd rs1 rs2)
  | .lbsel _ rd rs1 rs2 => some (wordA 0x23 0x002 rd rs1 rs2)
  | .setq _ rd rs1 rs2 => some (wordA 0x24 0x000 rd rs1 rs2)
  | .recirc _ rd rs1 rs2 => some (wordA 0x24 0x001 rd rs1 rs2)
  | .tocpu _ rd rs1 rs2 => some (wordA 0x24 0x002 rd rs1 rs2)
  | .drop _ rd rs1 rs2 => some (wordA 0x24 0x003 rd rs1 rs2)
  | .mirror _ rd rs1 rs2 => some (wordA 0x24 0x004 rd rs1 rs2)
  | .tsreq _ rd rs1 rs2 => some (wordA 0x24 0x005 rd rs1 rs2)
  | .edit _ rd rs1 rs2 => some (wordA 0x24 0x006 rd rs1 rs2)
  | .exit _ rd rs1 rs2 => some (wordA 0x2F 0x000 rd rs1 rs2)
  | .rdcr _ rd rs1 rs2 => some (wordA 0x38 0x000 rd rs1 rs2)
  | .wrcr _ rd rs1 rs2 => some (wordA 0x38 0x001 rd rs1 rs2)
  | .setcr _ rd rs1 rs2 => some (wordA 0x38 0x002 rd rs1 rs2)
  | .clrcr _ rd rs1 rs2 => some (wordA 0x38 0x003 rd rs1 rs2)
  | .waitt _ rd rs1 rs2 => some (wordA 0x39 0x000 rd rs1 rs2)
  | .waite _ rd rs1 rs2 => some (wordA 0x39 0x001 rd rs1 rs2)
  | .post _ rd rs1 rs2 => some (wordA 0x3A 0x000 rd rs1 rs2)
  | .taskend _ rd rs1 rs2 => some (wordA 0x3A 0x001 rd rs1 rs2)
  | .chres _ rd rs1 rs2 => some (wordA 0x3B 0x000 rd rs1 rs2)
  | .chcom _ rd rs1 rs2 => some (wordA 0x3B 0x001 rd rs1 rs2)
  | .chrcv _ rd rs1 rs2 => some (wordA 0x3B 0x002 rd rs1 rs2)
  | .chrel _ rd rs1 rs2 => some (wordA 0x3B 0x003 rd rs1 rs2)
  | .fget _ rd rs1 rs2 => some (wordA 0x3C 0x000 rd rs1 rs2)
  | .fput _ rd rs1 rs2 => some (wordA 0x3C 0x001 rd rs1 rs2)
  | .frel _ rd rs1 rs2 => some (wordA 0x3C 0x002 rd rs1 rs2)
  | .atadd _ rd rs1 rs2 => some (wordA 0x3D 0x000 rd rs1 rs2)
  | .atxch _ rd rs1 rs2 => some (wordA 0x3D 0x001 rd rs1 rs2)
  | .atcmpx _ rd rs1 rs2 => some (wordA 0x3D 0x002 rd rs1 rs2)
  | .kcall _ rd rs1 rs2 => some (wordA 0x3E 0x000 rd rs1 rs2)
  | .kret _ rd rs1 rs2 => some (wordA 0x3E 0x001 rd rs1 rs2)
  | .order _ rd rs1 rs2 => some (wordA 0x3E 0x002 rd rs1 rs2)
  | .halt _ rd rs1 rs2 => some (wordA 0x3E 0x003 rd rs1 rs2)
  | .addk _ rd rs1 imm => some (wordK 0x01 imm rs1 rd)
  | .andk _ rd rs1 imm => some (wordK 0x02 imm rs1 rd)
  | .ork _ rd rs1 imm => some (wordK 0x03 imm rs1 rd)
  | .xork _ rd rs1 imm => some (wordK 0x04 imm rs1 rd)
  | .shlk _ rd rs1 imm => some (wordK 0x05 imm rs1 rd)
  | .shrk _ rd rs1 imm => some (wordK 0x06 imm rs1 rd)
  | .sark _ rd rs1 imm => some (wordK 0x07 imm rs1 rd)
  | .cltk _ rd rs1 imm => some (wordK 0x08 imm rs1 rd)
  | .cltuk _ rd rs1 imm => some (wordK 0x09 imm rs1 rd)
  | .mfpc _ rd rs1 imm => some (wordK 0x0D imm rs1 rd)
  | .mtpc _ rd rs1 imm => some (wordK 0x0E imm rs1 rd)
  | .ldb _ rd rs1 imm => some (wordK 0x10 imm rs1 rd)
  | .ldh _ rd rs1 imm => some (wordK 0x11 imm rs1 rd)
  | .ldw _ rd rs1 imm => some (wordK 0x12 imm rs1 rd)
  | .ldd _ rd rs1 imm => some (wordK 0x13 imm rs1 rd)
  | .jmpr _ rd rs1 imm => some (wordK 0x1F imm rs1 rd)
  | .stb _ rs1 rs2 imm => some (wordK 0x14 imm rs1 rs2)
  | .sth _ rs1 rs2 imm => some (wordK 0x15 imm rs1 rs2)
  | .stw _ rs1 rs2 imm => some (wordK 0x16 imm rs1 rs2)
  | .std _ rs1 rs2 imm => some (wordK 0x17 imm rs1 rs2)
  | .brEq _ rs1 rs2 off => some (wordK 0x18 off rs1 rs2)
  | .brNe _ rs1 rs2 off => some (wordK 0x19 off rs1 rs2)
  | .brLts _ rs1 rs2 off => some (wordK 0x1A off rs1 rs2)
  | .brGes _ rs1 rs2 off => some (wordK 0x1B off rs1 rs2)
  | .brLtu _ rs1 rs2 off => some (wordK 0x1C off rs1 rs2)
  | .brGeu _ rs1 rs2 off => some (wordK 0x1D off rs1 rs2)
  | .insh _ rd sh imm => some (wordH 0x0A imm sh rd)
  | .fxt _ rd rs1 pos lenM1 => some (wordF 0x0B pos lenM1 rs1 rd)
  | .fdp _ rd rs1 pos lenM1 => some (wordF 0x0C pos lenM1 rs1 rd)
  | .call _ off => some (wordL 0x1E off)
  | _ => none

/-- The instruction of format A of an opcode and an fn value (R195, R196, R199). -/
def decodeA (a : Agent) (op fn : Nat) (rd rs1 rs2 : BitVec 5) : Option Instr :=
  match op, fn with
  | 0x00, 0x000 => some (.add a rd rs1 rs2)
  | 0x00, 0x001 => some (.sub a rd rs1 rs2)
  | 0x00, 0x002 => some (.and a rd rs1 rs2)
  | 0x00, 0x003 => some (.or a rd rs1 rs2)
  | 0x00, 0x004 => some (.xor a rd rs1 rs2)
  | 0x00, 0x005 => some (.shl a rd rs1 rs2)
  | 0x00, 0x006 => some (.shr a rd rs1 rs2)
  | 0x00, 0x007 => some (.sar a rd rs1 rs2)
  | 0x00, 0x008 => some (.clt a rd rs1 rs2)
  | 0x00, 0x009 => some (.cltu a rd rs1 rs2)
  | 0x00, 0x00A => some (.mul a rd rs1 rs2)
  | 0x00, 0x00B => some (.mulhi a rd rs1 rs2)
  | 0x00, 0x00C => some (.umin a rd rs1 rs2)
  | 0x00, 0x00D => some (.umax a rd rs1 rs2)
  | 0x00, 0x00E => some (.lzc a rd rs1 rs2)
  | 0x00, 0x00F => some (.popcnt a rd rs1 rs2)
  | 0x20, 0x000 => some (.fcreate a rd rs1 rs2)
  | 0x20, 0x001 => some (.fdelete a rd rs1 rs2)
  | 0x21, 0x000 => some (.police a rd rs1 rs2)
  | 0x22, 0x000 => some (.l2 a rd rs1 rs2)
  | 0x22, 0x001 => some (.lpm4 a rd rs1 rs2)
  | 0x22, 0x002 => some (.lpm6 a rd rs1 rs2)
  | 0x22, 0x003 => some (.nhop a rd rs1 rs2)
  | 0x22, 0x004 => some (.ecmp a rd rs1 rs2)
  | 0x23, 0x000 => some (.natmap a rd rs1 rs2)
  | 0x23, 0x001 => some (.natrel a rd rs1 rs2)
  | 0x23, 0x002 => some (.lbsel a rd rs1 rs2)
  | 0x24, 0x000 => some (.setq a rd rs1 rs2)
  | 0x24, 0x001 => some (.recirc a rd rs1 rs2)
  | 0x24, 0x002 => some (.tocpu a rd rs1 rs2)
  | 0x24, 0x003 => some (.drop a rd rs1 rs2)
  | 0x24, 0x004 => some (.mirror a rd rs1 rs2)
  | 0x24, 0x005 => some (.tsreq a rd rs1 rs2)
  | 0x24, 0x006 => some (.edit a rd rs1 rs2)
  | 0x2F, 0x000 => some (.exit a rd rs1 rs2)
  | 0x38, 0x000 => some (.rdcr a rd rs1 rs2)
  | 0x38, 0x001 => some (.wrcr a rd rs1 rs2)
  | 0x38, 0x002 => some (.setcr a rd rs1 rs2)
  | 0x38, 0x003 => some (.clrcr a rd rs1 rs2)
  | 0x39, 0x000 => some (.waitt a rd rs1 rs2)
  | 0x39, 0x001 => some (.waite a rd rs1 rs2)
  | 0x3A, 0x000 => some (.post a rd rs1 rs2)
  | 0x3A, 0x001 => some (.taskend a rd rs1 rs2)
  | 0x3B, 0x000 => some (.chres a rd rs1 rs2)
  | 0x3B, 0x001 => some (.chcom a rd rs1 rs2)
  | 0x3B, 0x002 => some (.chrcv a rd rs1 rs2)
  | 0x3B, 0x003 => some (.chrel a rd rs1 rs2)
  | 0x3C, 0x000 => some (.fget a rd rs1 rs2)
  | 0x3C, 0x001 => some (.fput a rd rs1 rs2)
  | 0x3C, 0x002 => some (.frel a rd rs1 rs2)
  | 0x3D, 0x000 => some (.atadd a rd rs1 rs2)
  | 0x3D, 0x001 => some (.atxch a rd rs1 rs2)
  | 0x3D, 0x002 => some (.atcmpx a rd rs1 rs2)
  | 0x3E, 0x000 => some (.kcall a rd rs1 rs2)
  | 0x3E, 0x001 => some (.kret a rd rs1 rs2)
  | 0x3E, 0x002 => some (.order a rd rs1 rs2)
  | 0x3E, 0x003 => some (.halt a rd rs1 rs2)
  | _, _ => none

/-- The instruction of format K, M or C of an opcode. -/
def decodeK (a : Agent) (op : Nat) (imm : BitVec 16) (rs1 low : BitVec 5) : Option Instr :=
  match op with
  | 0x01 => some (.addk a low rs1 imm)
  | 0x02 => some (.andk a low rs1 imm)
  | 0x03 => some (.ork a low rs1 imm)
  | 0x04 => some (.xork a low rs1 imm)
  | 0x05 => some (.shlk a low rs1 imm)
  | 0x06 => some (.shrk a low rs1 imm)
  | 0x07 => some (.sark a low rs1 imm)
  | 0x08 => some (.cltk a low rs1 imm)
  | 0x09 => some (.cltuk a low rs1 imm)
  | 0x0D => some (.mfpc a low rs1 imm)
  | 0x0E => some (.mtpc a low rs1 imm)
  | 0x10 => some (.ldb a low rs1 imm)
  | 0x11 => some (.ldh a low rs1 imm)
  | 0x12 => some (.ldw a low rs1 imm)
  | 0x13 => some (.ldd a low rs1 imm)
  | 0x1F => some (.jmpr a low rs1 imm)
  | 0x14 => some (.stb a rs1 low imm)
  | 0x15 => some (.sth a rs1 low imm)
  | 0x16 => some (.stw a rs1 low imm)
  | 0x17 => some (.std a rs1 low imm)
  | 0x18 => some (.brEq a rs1 low imm)
  | 0x19 => some (.brNe a rs1 low imm)
  | 0x1A => some (.brLts a rs1 low imm)
  | 0x1B => some (.brGes a rs1 low imm)
  | 0x1C => some (.brLtu a rs1 low imm)
  | 0x1D => some (.brGeu a rs1 low imm)
  | _ => none

/-- The instruction a context issues when it fetches a word; none where the opcode, the fn value or a field that the format
requires to be zero is illegal. -/
def decodeInstr (a : Agent) (w : Word) : Option Instr :=
  let op := (w.extractLsb' 26 6).toNat
  let rd := w.extractLsb' 0 5
  let rs1 := w.extractLsb' 5 5
  let imm := w.extractLsb' 10 16
  if op = 0x0A then if w.extractLsb' 7 3 = 0 then some (.insh a rd (w.extractLsb' 5 2) imm) else none
  else if op = 0x0B ∨ op = 0x0C then
    let pos := w.extractLsb' 20 6
    let len := w.extractLsb' 14 6
    if w.extractLsb' 10 4 = 0 then some (if op = 0x0B then .fxt a rd rs1 pos len else .fdp a rd rs1 pos len) else none
  else if op = 0x1E then some (.call a (w.extractLsb' 0 26))
  else if op = 0 ∨ 0x20 ≤ op then decodeA a op (w.extractLsb' 15 11).toNat rd rs1 (w.extractLsb' 10 5)
  else decodeK a op imm rs1 rd

/-- What executes an instruction; none for a command that is not an instruction. -/
def Instr.agent? : Instr → Option Agent
  | .add a _ _ _ => some a
  | .sub a _ _ _ => some a
  | .and a _ _ _ => some a
  | .or a _ _ _ => some a
  | .xor a _ _ _ => some a
  | .shl a _ _ _ => some a
  | .shr a _ _ _ => some a
  | .sar a _ _ _ => some a
  | .clt a _ _ _ => some a
  | .cltu a _ _ _ => some a
  | .mul a _ _ _ => some a
  | .mulhi a _ _ _ => some a
  | .umin a _ _ _ => some a
  | .umax a _ _ _ => some a
  | .lzc a _ _ _ => some a
  | .popcnt a _ _ _ => some a
  | .fcreate a _ _ _ => some a
  | .fdelete a _ _ _ => some a
  | .police a _ _ _ => some a
  | .l2 a _ _ _ => some a
  | .lpm4 a _ _ _ => some a
  | .lpm6 a _ _ _ => some a
  | .nhop a _ _ _ => some a
  | .ecmp a _ _ _ => some a
  | .natmap a _ _ _ => some a
  | .natrel a _ _ _ => some a
  | .lbsel a _ _ _ => some a
  | .setq a _ _ _ => some a
  | .recirc a _ _ _ => some a
  | .tocpu a _ _ _ => some a
  | .drop a _ _ _ => some a
  | .mirror a _ _ _ => some a
  | .tsreq a _ _ _ => some a
  | .edit a _ _ _ => some a
  | .exit a _ _ _ => some a
  | .rdcr a _ _ _ => some a
  | .wrcr a _ _ _ => some a
  | .setcr a _ _ _ => some a
  | .clrcr a _ _ _ => some a
  | .waitt a _ _ _ => some a
  | .waite a _ _ _ => some a
  | .post a _ _ _ => some a
  | .taskend a _ _ _ => some a
  | .chres a _ _ _ => some a
  | .chcom a _ _ _ => some a
  | .chrcv a _ _ _ => some a
  | .chrel a _ _ _ => some a
  | .fget a _ _ _ => some a
  | .fput a _ _ _ => some a
  | .frel a _ _ _ => some a
  | .atadd a _ _ _ => some a
  | .atxch a _ _ _ => some a
  | .atcmpx a _ _ _ => some a
  | .kcall a _ _ _ => some a
  | .kret a _ _ _ => some a
  | .order a _ _ _ => some a
  | .halt a _ _ _ => some a
  | .addk a _ _ _ => some a
  | .andk a _ _ _ => some a
  | .ork a _ _ _ => some a
  | .xork a _ _ _ => some a
  | .shlk a _ _ _ => some a
  | .shrk a _ _ _ => some a
  | .sark a _ _ _ => some a
  | .cltk a _ _ _ => some a
  | .cltuk a _ _ _ => some a
  | .mfpc a _ _ _ => some a
  | .mtpc a _ _ _ => some a
  | .ldb a _ _ _ => some a
  | .ldh a _ _ _ => some a
  | .ldw a _ _ _ => some a
  | .ldd a _ _ _ => some a
  | .jmpr a _ _ _ => some a
  | .stb a _ _ _ => some a
  | .sth a _ _ _ => some a
  | .stw a _ _ _ => some a
  | .std a _ _ _ => some a
  | .brEq a _ _ _ => some a
  | .brNe a _ _ _ => some a
  | .brLts a _ _ _ => some a
  | .brGes a _ _ _ => some a
  | .brLtu a _ _ _ => some a
  | .brGeu a _ _ _ => some a
  | .insh a _ _ _ => some a
  | .fxt a _ _ _ _ => some a
  | .fdp a _ _ _ _ => some a
  | .call a _ => some a
  | _ => none

end Sys2Proof
end

