-- ==== Sys2Proof/Config.lean ====
section
/-! DEFINITION. What a device fixes and the spec leaves open: constants without a body, so that nothing can be proved of
their values. -/

namespace Sys2Proof

/-- The management MAC address in OTP (R601: "from OTP"). (DEDUCED, log 12) -/
opaque Config.otpMac : BitVec 48

/-- The free values: a fresh one for each value of the state's own counter. The spec states no result there. (DEDUCED, log
13) -/
opaque Config.freeValue : Nat → BitVec 64

/-- Whether a staged micro-word of 96 bits passes its SEC-DED check (R209, R222: the code is not given). -/
opaque Config.microCheck : Nat → Bool

/-- The words of the control-store ROM, by micro-address (R209: its contents are not given). -/
opaque Config.microRom : Nat → Nat

/-- The ROM routine of a micro instruction, by major opcode × 4,096 + fn: its entry, and its other micro-addresses (R212: the
dispatch table is not given). -/
opaque Config.microEntry : Nat → BitVec 13
@[inherit_doc Config.microEntry] opaque Config.microRest : Nat → List (BitVec 13)

/-- The operation that a code asks of a unit, by unit and code (R210: the codes are not given); the operations are numbered in
the order of R199. -/
opaque Config.unitOp : Nat → Nat → Nat

/-- The body of a HELLO, REPLY or CONFIRM message (R433): its fields. -/
structure PairMsg where
  side : Nat := 0
  key : List Byte := []
  point : List Byte := []
  confirm : List Byte := []
  digest : List Byte := []
  deriving DecidableEq, Repr, Inhabited

/-- Whether an address lies in the boot ROM (R518: its addresses are not given). (DESIGN CHOICE, log 74) -/
opaque Config.bootRom : Nat → Bool

/-- Where in the kernel's part of shared SRAM the boot firmware is put (R518), as a number of bytes. (DESIGN CHOICE, log 86) -/
opaque Config.bootPlace : Nat

/-- The encoding of a pairing body and its inverse (R433: "in the encodings of GB/T 32918.3", which the spec does not
give). -/
opaque Config.pairEncode : PairMsg → List Byte
@[inherit_doc Config.pairEncode] opaque Config.pairDecode : List Byte → PairMsg

/-- An entry of the announcement list in the caddy's Graft section (R450). -/
structure AnnEntry where
  zone : Nat := 0
  v6 : Bool := false
  addr : Nat := 0
  port : Nat := 0
  vid : Nat := 0
  mac : Nat := 0
  router : Bool := false
  deriving DecidableEq, Repr, Inhabited

/-- What the caddy's Graft section sets beside registers (R419, R424, R450): the side, the partner's key, the user
identifiers of the key exchange when the caddy sets them, and the announcements.
(PRESUMED, log 68) -/
structure GraftSetup where
  side : BitVec 1 := 0
  peerKey : List Byte := []
  ids : Option (List Byte × List Byte) := none
  anns : List AnnEntry := []
  annCount : Nat := 3
  annMs : Nat := 100
  deriving DecidableEq, Repr, Inhabited

/-- The setup in the body of a Graft section; the spec gives these items no place in it. (DESIGN CHOICE, log 69) -/
opaque Config.graftSetup : List Byte → GraftSetup

/-- The unique device secret of 256 bits in OTP, which no register, JTAG path or debug command reads (R594). -/
opaque Config.deviceSecret : List Byte

/-- The 32 bytes that the KDF of GB/T 32918.3 makes of a text, as a number (R594: the spec names the standard and does not
restate it). (DEDUCED, log 12) -/
opaque Config.sm2Kdf : List Byte → Nat

/-- The order n of the SM2 curve (R594: the spec does not restate it). (DEDUCED, log 12) -/
opaque Config.sm2Order : Nat

/-- The SM2 public key of a private key (R594). (DEDUCED, log 12) -/
opaque Config.sm2Public : Nat → List Byte

/-- The identity key: the first result of the KDF over the secret, the counter c and the label "OXID", from c on, that lies in 1 to
n − 2 (R594). Of 2^16 counters one does. (DEDUCED, log 12) -/
def Config.identityFrom : Nat → Nat → Nat
  | 0, _ => 0
  | fuel + 1, c =>
    let d := Config.sm2Kdf (Config.deviceSecret ++ beBytes 4 c ++ [0x4F, 0x58, 0x49, 0x44])
    if 1 ≤ d ∧ d ≤ Config.sm2Order - 2 then d else Config.identityFrom fuel (c + 1)

/-- The identity key d (R594). -/
def Config.identitySecret : Nat := Config.identityFrom 65536 0

/-- The device's identity public key (R424, R594). -/
def Config.identityKey : List Byte := Config.sm2Public Config.identitySecret

/-- The public point of an ephemeral key, by its number (R424). -/
opaque Config.ephemeralPoint : Nat → List Byte

/-- The 32-byte key of the SM2 key exchange, from the user identifiers (none: the default ones), the number of the own ephemeral key
and the partner's key and point (R424: GB/T 32918.3). -/
opaque Config.sm2Key : Option (List Byte × List Byte) → Nat → List Byte → List Byte → List Byte

/-- A confirmation value of the exchange: that of the initiator or of the responder, under a key (R424). -/
opaque Config.sm2Confirm : Bool → List Byte → List Byte

/-- SM3 and HMAC-SM3, by key and text. The spec names the standards and does not restate them. (DEDUCED, log 12) -/
opaque Config.sm3 : List Byte → List Byte
@[inherit_doc Config.sm3] opaque Config.hmacSm3 : List Byte → List Byte → List Byte

/-- The device's serial number and what else the certificate in OTP holds (R594): the hash of the issuing key and the
signature. -/
opaque Config.serial : List Byte
@[inherit_doc Config.serial] opaque Config.issuerHash : List Byte
@[inherit_doc Config.serial] opaque Config.certSignature : List Byte

/-- Whether a signature is the SM2 signature of a message under an identifier and a key (R491, R599), by identifier, key,
message and signature. -/
opaque Config.sm2Verify : List Byte → List Byte → List Byte → List Byte → Bool

/-- The SM2 signature of a message under a private key (R595), from the key, random bits and the message. -/
opaque Config.sm2Sign : Nat → Nat → List Byte → List Byte

/-- The Isaivo firmware key in the boot ROM (R492). -/
opaque Config.firmwareKey : List Byte

/-- The debug key hash that the body of a security section holds (R599: the spec gives it no register and no place). (DESIGN
CHOICE, log 112) -/
opaque Config.debugKeyHash : List Byte → List Byte

/-- The identifier that the body of a security section sets for the device, or the default one (R587: the spec gives it no
place). (DESIGN CHOICE, log 112) -/
opaque Config.deviceIdentifier : List Byte → List Byte

/-- The exchange of a Grix session (R587: GB/T 32918.3), from the identity key, the device's identifier, the number of the own
ephemeral key and the INIT body: K_C, K_D, S_B and S_A, 32 bytes each. -/
opaque Config.grixExchange : Nat → List Byte → Nat → List Byte → List Byte

/-- The numbers the spec leaves open: of the causes for which a session closes (R588), of the causes of a stage failure
(R498) and of the checks of an image (R497, R502, R514). -/
opaque Config.closeCause : Nat → BitVec 8
@[inherit_doc Config.closeCause] opaque Config.failCause : Nat → BitVec 32
@[inherit_doc Config.closeCause] opaque Config.checkNumber : Nat → BitVec 16

end Sys2Proof
end

