-- ==== Sys2Proof/Machine/Registers.lean ====
section
/-! DEFINITION. The control-space registers: every register the spec's tables give, with its address (R14, R627), its
fields, their access codes (R12), their value ranges (R18) and its reset value. Reserved bits have no field and read as
zero (R11). -/

namespace Sys2Proof.Machine

/-- The access codes of R12. -/
inductive Access where
  | rw | ro | wo | w1c | rc | rws
  deriving DecidableEq, Repr

/-- One field of a register: its bits, its access code and, where R18 gives one, its range of legal values. -/
structure FieldSpec where
  hi : Nat
  lo : Nat
  acc : Access
  min : Nat := 0
  max : Nat := 0xFFFFFFFF

/-- One register of the spec's tables. `dims` holds, for each index, its count, its stride and its first value. -/
structure RegSpec where
  name : String
  base : Nat
  dims : List (Nat × Nat × Nat)
  fields : List FieldSpec
  reset : List Nat → Nat

/-- A register as the model names it: its address in the control space and its reset value. -/
structure Reg where
  addr : Nat
  reset : Word
  deriving DecidableEq, Repr

/-- A field of a register. -/
structure Fld where
  reg : Reg
  hi : Nat
  lo : Nat
  deriving DecidableEq, Repr

/-- The address of the copy of a register with the given indices (R14). -/
def regOffset : List (Nat × Nat × Nat) → List Nat → Nat
  | (_, stride, first) :: ds, i :: is => (i - first) * stride + regOffset ds is
  | _, _ => 0

/-- The copy of a register with the given indices. -/
def RegSpec.at (r : RegSpec) (ix : List Nat) : Reg :=
  { addr := r.base + regOffset r.dims ix, reset := BitVec.ofNat 32 (r.reset ix) }

/-- The indices that put an offset from a register's base on one of its copies; none when the offset is on no copy. -/
def regIndices : List (Nat × Nat × Nat) → Nat → Option (List Nat)
  | [], 0 => some []
  | [], _ + 1 => none
  | (count, stride, first) :: ds, off =>
    if off / stride < count then (regIndices ds (off % stride)).map ((off / stride + first) :: ·) else none

/-- The indices of the copy of a register at an address, if it has one there. -/
def RegSpec.indices? (r : RegSpec) (addr : Nat) : Option (List Nat) :=
  if addr < r.base then none else regIndices r.dims (addr - r.base)

/-- KTL_DEVICE_ID (R3). -/
def Spec.KTL_DEVICE_ID : RegSpec :=
  { name := "KTL_DEVICE_ID", base := 0x100000, dims := [], reset := fun _ => 0x3200B100
    fields := [{ hi := 31, lo := 16, acc := .ro }, { hi := 15, lo := 8, acc := .ro }] }
@[inherit_doc Spec.KTL_DEVICE_ID] def Reg.KTL_DEVICE_ID : Reg := Spec.KTL_DEVICE_ID.at []
@[inherit_doc Spec.KTL_DEVICE_ID] def Fld.KTL_DEVICE_ID_PART : Fld := ⟨Reg.KTL_DEVICE_ID, 31, 16⟩
@[inherit_doc Spec.KTL_DEVICE_ID] def Fld.KTL_DEVICE_ID_STEP : Fld := ⟨Reg.KTL_DEVICE_ID, 15, 8⟩
/-- PRT_INTERNAL_CTL (R46). -/
def Spec.PRT_INTERNAL_CTL : RegSpec :=
  { name := "PRT_INTERNAL_CTL", base := 0x480000, dims := [], reset := fun _ => 0x4
    fields := [{ hi := 7, lo := 6, acc := .rw }, ⟨2, 0, .rw, 2, 4⟩] }
@[inherit_doc Spec.PRT_INTERNAL_CTL] def Reg.PRT_INTERNAL_CTL : Reg := Spec.PRT_INTERNAL_CTL.at []
@[inherit_doc Spec.PRT_INTERNAL_CTL] def Fld.PRT_INTERNAL_CTL_TRELLIS_SLICE : Fld := ⟨Reg.PRT_INTERNAL_CTL, 7, 6⟩
@[inherit_doc Spec.PRT_INTERNAL_CTL] def Fld.PRT_INTERNAL_CTL_MAX_PASS : Fld := ⟨Reg.PRT_INTERNAL_CTL, 2, 0⟩
/-- PRT_RECIRC_DROP (R47). -/
def Spec.PRT_RECIRC_DROP : RegSpec :=
  { name := "PRT_RECIRC_DROP", base := 0x480004, dims := [], reset := fun _ => 0x0
    fields := [{ hi := 31, lo := 0, acc := .rc }] }
@[inherit_doc Spec.PRT_RECIRC_DROP] def Reg.PRT_RECIRC_DROP : Reg := Spec.PRT_RECIRC_DROP.at []
/-- PRT_CFG (R81). -/
def Spec.PRT_CFG : RegSpec :=
  { name := "PRT_CFG", base := 0x400000, dims := [(64, 0x1000, 0)], reset := fun _ => 0x2
    fields := [{ hi := 10, lo := 10, acc := .rw }, { hi := 9, lo := 8, acc := .rw }, ⟨5, 4, .rw, 0, 2⟩, { hi := 2, lo := 2, acc := .rw }, { hi := 1, lo := 1, acc := .rw }, { hi := 0, lo := 0, acc := .rw }] }
@[inherit_doc Spec.PRT_CFG] def Reg.PRT_CFG (p : Nat) : Reg := Spec.PRT_CFG.at [p]
@[inherit_doc Spec.PRT_CFG] def Fld.PRT_CFG_MOD_IGN (p : Nat) : Fld := ⟨Reg.PRT_CFG p, 10, 10⟩
@[inherit_doc Spec.PRT_CFG] def Fld.PRT_CFG_FEC_MODE (p : Nat) : Fld := ⟨Reg.PRT_CFG p, 9, 8⟩
@[inherit_doc Spec.PRT_CFG] def Fld.PRT_CFG_FC_MODE (p : Nat) : Fld := ⟨Reg.PRT_CFG p, 5, 4⟩
@[inherit_doc Spec.PRT_CFG] def Fld.PRT_CFG_LPI_EN (p : Nat) : Fld := ⟨Reg.PRT_CFG p, 2, 2⟩
@[inherit_doc Spec.PRT_CFG] def Fld.PRT_CFG_CT_EN (p : Nat) : Fld := ⟨Reg.PRT_CFG p, 1, 1⟩
@[inherit_doc Spec.PRT_CFG] def Fld.PRT_CFG_ENABLE (p : Nat) : Fld := ⟨Reg.PRT_CFG p, 0, 0⟩
/-- PRT_STATUS (R82). -/
def Spec.PRT_STATUS : RegSpec :=
  { name := "PRT_STATUS", base := 0x400004, dims := [(64, 0x1000, 0)], reset := fun _ => 0x0
    fields := [{ hi := 18, lo := 18, acc := .ro }, { hi := 17, lo := 17, acc := .ro }, { hi := 16, lo := 16, acc := .ro }, { hi := 15, lo := 8, acc := .ro }, { hi := 7, lo := 7, acc := .ro }, { hi := 6, lo := 6, acc := .ro }, { hi := 5, lo := 5, acc := .ro }, { hi := 4, lo := 4, acc := .ro }, { hi := 3, lo := 3, acc := .ro }, { hi := 2, lo := 2, acc := .ro }, { hi := 1, lo := 1, acc := .ro }, { hi := 0, lo := 0, acc := .ro }] }
@[inherit_doc Spec.PRT_STATUS] def Reg.PRT_STATUS (p : Nat) : Reg := Spec.PRT_STATUS.at [p]
@[inherit_doc Spec.PRT_STATUS] def Fld.PRT_STATUS_WD_ACTIVE (p : Nat) : Fld := ⟨Reg.PRT_STATUS p, 18, 18⟩
@[inherit_doc Spec.PRT_STATUS] def Fld.PRT_STATUS_LPI_RX (p : Nat) : Fld := ⟨Reg.PRT_STATUS p, 17, 17⟩
@[inherit_doc Spec.PRT_STATUS] def Fld.PRT_STATUS_LPI_TX (p : Nat) : Fld := ⟨Reg.PRT_STATUS p, 16, 16⟩
@[inherit_doc Spec.PRT_STATUS] def Fld.PRT_STATUS_RX_PFC_PAUSED (p : Nat) : Fld := ⟨Reg.PRT_STATUS p, 15, 8⟩
@[inherit_doc Spec.PRT_STATUS] def Fld.PRT_STATUS_RX_PAUSED (p : Nat) : Fld := ⟨Reg.PRT_STATUS p, 7, 7⟩
@[inherit_doc Spec.PRT_STATUS] def Fld.PRT_STATUS_HOLD (p : Nat) : Fld := ⟨Reg.PRT_STATUS p, 6, 6⟩
@[inherit_doc Spec.PRT_STATUS] def Fld.PRT_STATUS_MOD_FLT (p : Nat) : Fld := ⟨Reg.PRT_STATUS p, 5, 5⟩
@[inherit_doc Spec.PRT_STATUS] def Fld.PRT_STATUS_MOD_LOS (p : Nat) : Fld := ⟨Reg.PRT_STATUS p, 4, 4⟩
@[inherit_doc Spec.PRT_STATUS] def Fld.PRT_STATUS_MOD_PRS (p : Nat) : Fld := ⟨Reg.PRT_STATUS p, 3, 3⟩
@[inherit_doc Spec.PRT_STATUS] def Fld.PRT_STATUS_FEC_LOCK (p : Nat) : Fld := ⟨Reg.PRT_STATUS p, 2, 2⟩
@[inherit_doc Spec.PRT_STATUS] def Fld.PRT_STATUS_PCS_LOCK (p : Nat) : Fld := ⟨Reg.PRT_STATUS p, 1, 1⟩
@[inherit_doc Spec.PRT_STATUS] def Fld.PRT_STATUS_LINK (p : Nat) : Fld := ⟨Reg.PRT_STATUS p, 0, 0⟩
/-- PRT_EVENT (R83). -/
def Spec.PRT_EVENT : RegSpec :=
  { name := "PRT_EVENT", base := 0x400008, dims := [(64, 0x1000, 0)], reset := fun _ => 0x0
    fields := [{ hi := 5, lo := 5, acc := .w1c }, { hi := 4, lo := 4, acc := .w1c }, { hi := 3, lo := 3, acc := .w1c }, { hi := 2, lo := 2, acc := .w1c }, { hi := 1, lo := 1, acc := .w1c }, { hi := 0, lo := 0, acc := .w1c }] }
@[inherit_doc Spec.PRT_EVENT] def Reg.PRT_EVENT (p : Nat) : Reg := Spec.PRT_EVENT.at [p]
@[inherit_doc Spec.PRT_EVENT] def Fld.PRT_EVENT_PAUSE_WD (p : Nat) : Fld := ⟨Reg.PRT_EVENT p, 5, 5⟩
@[inherit_doc Spec.PRT_EVENT] def Fld.PRT_EVENT_MOD_CHG (p : Nat) : Fld := ⟨Reg.PRT_EVENT p, 4, 4⟩
@[inherit_doc Spec.PRT_EVENT] def Fld.PRT_EVENT_STOMP (p : Nat) : Fld := ⟨Reg.PRT_EVENT p, 3, 3⟩
@[inherit_doc Spec.PRT_EVENT] def Fld.PRT_EVENT_HOLD_EXP (p : Nat) : Fld := ⟨Reg.PRT_EVENT p, 2, 2⟩
@[inherit_doc Spec.PRT_EVENT] def Fld.PRT_EVENT_LINK_UP (p : Nat) : Fld := ⟨Reg.PRT_EVENT p, 1, 1⟩
@[inherit_doc Spec.PRT_EVENT] def Fld.PRT_EVENT_LINK_DOWN (p : Nat) : Fld := ⟨Reg.PRT_EVENT p, 0, 0⟩
/-- PRT_TIMERS (R84). -/
def Spec.PRT_TIMERS : RegSpec :=
  { name := "PRT_TIMERS", base := 0x40000C, dims := [(64, 0x1000, 0)], reset := fun _ => 0x414
    fields := [⟨26, 20, .rw, 0, 100⟩, ⟨19, 10, .rw, 0, 1000⟩, ⟨9, 0, .rw, 0, 1000⟩] }
@[inherit_doc Spec.PRT_TIMERS] def Reg.PRT_TIMERS (p : Nat) : Reg := Spec.PRT_TIMERS.at [p]
@[inherit_doc Spec.PRT_TIMERS] def Fld.PRT_TIMERS_DN_DELAY_MS (p : Nat) : Fld := ⟨Reg.PRT_TIMERS p, 26, 20⟩
@[inherit_doc Spec.PRT_TIMERS] def Fld.PRT_TIMERS_UP_DELAY_MS (p : Nat) : Fld := ⟨Reg.PRT_TIMERS p, 19, 10⟩
@[inherit_doc Spec.PRT_TIMERS] def Fld.PRT_TIMERS_HOLD_MS (p : Nat) : Fld := ⟨Reg.PRT_TIMERS p, 9, 0⟩
/-- PRT_PAUSE (R85). -/
def Spec.PRT_PAUSE : RegSpec :=
  { name := "PRT_PAUSE", base := 0x400010, dims := [(64, 0x1000, 0)], reset := fun _ => 0xFFFF
    fields := [{ hi := 23, lo := 16, acc := .rw }, ⟨15, 0, .rw, 1, 65535⟩] }
@[inherit_doc Spec.PRT_PAUSE] def Reg.PRT_PAUSE (p : Nat) : Reg := Spec.PRT_PAUSE.at [p]
@[inherit_doc Spec.PRT_PAUSE] def Fld.PRT_PAUSE_PFC_EN (p : Nat) : Fld := ⟨Reg.PRT_PAUSE p, 23, 16⟩
@[inherit_doc Spec.PRT_PAUSE] def Fld.PRT_PAUSE_PAUSE_TIME (p : Nat) : Fld := ⟨Reg.PRT_PAUSE p, 15, 0⟩
/-- PRT_PAUSE_WD (R85). -/
def Spec.PRT_PAUSE_WD : RegSpec :=
  { name := "PRT_PAUSE_WD", base := 0x400014, dims := [(64, 0x1000, 0)], reset := fun _ => 0xC8
    fields := [⟨10, 0, .rw, 0, 1000⟩] }
@[inherit_doc Spec.PRT_PAUSE_WD] def Reg.PRT_PAUSE_WD (p : Nat) : Reg := Spec.PRT_PAUSE_WD.at [p]
@[inherit_doc Spec.PRT_PAUSE_WD] def Fld.PRT_PAUSE_WD_WD_MS (p : Nat) : Fld := ⟨Reg.PRT_PAUSE_WD p, 10, 0⟩
/-- PRT_LPI (R86). -/
def Spec.PRT_LPI : RegSpec :=
  { name := "PRT_LPI", base := 0x400018, dims := [(64, 0x1000, 0)], reset := fun _ => 0x50064
    fields := [⟨23, 16, .rw, 1, 50⟩, ⟨15, 0, .rw, 1, 65535⟩] }
@[inherit_doc Spec.PRT_LPI] def Reg.PRT_LPI (p : Nat) : Reg := Spec.PRT_LPI.at [p]
@[inherit_doc Spec.PRT_LPI] def Fld.PRT_LPI_TW_US (p : Nat) : Fld := ⟨Reg.PRT_LPI p, 23, 16⟩
@[inherit_doc Spec.PRT_LPI] def Fld.PRT_LPI_IDLE_US (p : Nat) : Fld := ⟨Reg.PRT_LPI p, 15, 0⟩
/-- PRT_RX_OVERRUN (R87). -/
def Spec.PRT_RX_OVERRUN : RegSpec :=
  { name := "PRT_RX_OVERRUN", base := 0x400100, dims := [(64, 0x1000, 0)], reset := fun _ => 0x0
    fields := [{ hi := 31, lo := 0, acc := .rc }] }
@[inherit_doc Spec.PRT_RX_OVERRUN] def Reg.PRT_RX_OVERRUN (p : Nat) : Reg := Spec.PRT_RX_OVERRUN.at [p]
/-- PRT_RX_RUNT (R87). -/
def Spec.PRT_RX_RUNT : RegSpec :=
  { name := "PRT_RX_RUNT", base := 0x400104, dims := [(64, 0x1000, 0)], reset := fun _ => 0x0
    fields := [{ hi := 31, lo := 0, acc := .rc }] }
@[inherit_doc Spec.PRT_RX_RUNT] def Reg.PRT_RX_RUNT (p : Nat) : Reg := Spec.PRT_RX_RUNT.at [p]
/-- PRT_RX_OVERSIZE (R87). -/
def Spec.PRT_RX_OVERSIZE : RegSpec :=
  { name := "PRT_RX_OVERSIZE", base := 0x400108, dims := [(64, 0x1000, 0)], reset := fun _ => 0x0
    fields := [{ hi := 31, lo := 0, acc := .rc }] }
@[inherit_doc Spec.PRT_RX_OVERSIZE] def Reg.PRT_RX_OVERSIZE (p : Nat) : Reg := Spec.PRT_RX_OVERSIZE.at [p]
/-- PRT_RX_FCS_ERR (R87). -/
def Spec.PRT_RX_FCS_ERR : RegSpec :=
  { name := "PRT_RX_FCS_ERR", base := 0x40010C, dims := [(64, 0x1000, 0)], reset := fun _ => 0x0
    fields := [{ hi := 31, lo := 0, acc := .rc }] }
@[inherit_doc Spec.PRT_RX_FCS_ERR] def Reg.PRT_RX_FCS_ERR (p : Nat) : Reg := Spec.PRT_RX_FCS_ERR.at [p]
/-- PRT_RX_PCS_ERR (R87). -/
def Spec.PRT_RX_PCS_ERR : RegSpec :=
  { name := "PRT_RX_PCS_ERR", base := 0x400110, dims := [(64, 0x1000, 0)], reset := fun _ => 0x0
    fields := [{ hi := 31, lo := 0, acc := .rc }] }
@[inherit_doc Spec.PRT_RX_PCS_ERR] def Reg.PRT_RX_PCS_ERR (p : Nat) : Reg := Spec.PRT_RX_PCS_ERR.at [p]
/-- PRT_RX_MAC_CTL (R87). -/
def Spec.PRT_RX_MAC_CTL : RegSpec :=
  { name := "PRT_RX_MAC_CTL", base := 0x400114, dims := [(64, 0x1000, 0)], reset := fun _ => 0x0
    fields := [{ hi := 31, lo := 0, acc := .rc }] }
@[inherit_doc Spec.PRT_RX_MAC_CTL] def Reg.PRT_RX_MAC_CTL (p : Nat) : Reg := Spec.PRT_RX_MAC_CTL.at [p]
/-- PRT_RX_MAC_CTL_BAD (R87). -/
def Spec.PRT_RX_MAC_CTL_BAD : RegSpec :=
  { name := "PRT_RX_MAC_CTL_BAD", base := 0x400118, dims := [(64, 0x1000, 0)], reset := fun _ => 0x0
    fields := [{ hi := 31, lo := 0, acc := .rc }] }
@[inherit_doc Spec.PRT_RX_MAC_CTL_BAD] def Reg.PRT_RX_MAC_CTL_BAD (p : Nat) : Reg := Spec.PRT_RX_MAC_CTL_BAD.at [p]
/-- PRT_TX_PAUSE (R87). -/
def Spec.PRT_TX_PAUSE : RegSpec :=
  { name := "PRT_TX_PAUSE", base := 0x40011C, dims := [(64, 0x1000, 0)], reset := fun _ => 0x0
    fields := [{ hi := 31, lo := 0, acc := .rc }] }
@[inherit_doc Spec.PRT_TX_PAUSE] def Reg.PRT_TX_PAUSE (p : Nat) : Reg := Spec.PRT_TX_PAUSE.at [p]
/-- PRT_TX_STOMP (R87). -/
def Spec.PRT_TX_STOMP : RegSpec :=
  { name := "PRT_TX_STOMP", base := 0x400120, dims := [(64, 0x1000, 0)], reset := fun _ => 0x0
    fields := [{ hi := 31, lo := 0, acc := .rc }] }
@[inherit_doc Spec.PRT_TX_STOMP] def Reg.PRT_TX_STOMP (p : Nat) : Reg := Spec.PRT_TX_STOMP.at [p]
/-- PRT_TX_ABORT (R87). -/
def Spec.PRT_TX_ABORT : RegSpec :=
  { name := "PRT_TX_ABORT", base := 0x400124, dims := [(64, 0x1000, 0)], reset := fun _ => 0x0
    fields := [{ hi := 31, lo := 0, acc := .rc }] }
@[inherit_doc Spec.PRT_TX_ABORT] def Reg.PRT_TX_ABORT (p : Nat) : Reg := Spec.PRT_TX_ABORT.at [p]
/-- PRT_DROP_AGE (R87). -/
def Spec.PRT_DROP_AGE : RegSpec :=
  { name := "PRT_DROP_AGE", base := 0x400128, dims := [(64, 0x1000, 0)], reset := fun _ => 0x0
    fields := [{ hi := 31, lo := 0, acc := .rc }] }
@[inherit_doc Spec.PRT_DROP_AGE] def Reg.PRT_DROP_AGE (p : Nat) : Reg := Spec.PRT_DROP_AGE.at [p]
/-- PRT_DROP_HOLD (R87). -/
def Spec.PRT_DROP_HOLD : RegSpec :=
  { name := "PRT_DROP_HOLD", base := 0x40012C, dims := [(64, 0x1000, 0)], reset := fun _ => 0x0
    fields := [{ hi := 31, lo := 0, acc := .rc }] }
@[inherit_doc Spec.PRT_DROP_HOLD] def Reg.PRT_DROP_HOLD (p : Nat) : Reg := Spec.PRT_DROP_HOLD.at [p]
/-- PRT_DROP_DOWN (R87). -/
def Spec.PRT_DROP_DOWN : RegSpec :=
  { name := "PRT_DROP_DOWN", base := 0x400130, dims := [(67, 0x1000, 0)], reset := fun _ => 0x0
    fields := [{ hi := 31, lo := 0, acc := .rc }] }
@[inherit_doc Spec.PRT_DROP_DOWN] def Reg.PRT_DROP_DOWN (p : Nat) : Reg := Spec.PRT_DROP_DOWN.at [p]
/-- PRT_FEC_CORR (R87). -/
def Spec.PRT_FEC_CORR : RegSpec :=
  { name := "PRT_FEC_CORR", base := 0x400134, dims := [(64, 0x1000, 0)], reset := fun _ => 0x0
    fields := [{ hi := 31, lo := 0, acc := .rc }] }
@[inherit_doc Spec.PRT_FEC_CORR] def Reg.PRT_FEC_CORR (p : Nat) : Reg := Spec.PRT_FEC_CORR.at [p]
/-- PRT_FEC_UNCORR (R87). -/
def Spec.PRT_FEC_UNCORR : RegSpec :=
  { name := "PRT_FEC_UNCORR", base := 0x400138, dims := [(64, 0x1000, 0)], reset := fun _ => 0x0
    fields := [{ hi := 31, lo := 0, acc := .rc }] }
@[inherit_doc Spec.PRT_FEC_UNCORR] def Reg.PRT_FEC_UNCORR (p : Nat) : Reg := Spec.PRT_FEC_UNCORR.at [p]
/-- PRT_RX_COZY_DROP (R87). -/
def Spec.PRT_RX_COZY_DROP : RegSpec :=
  { name := "PRT_RX_COZY_DROP", base := 0x40013C, dims := [(64, 0x1000, 0)], reset := fun _ => 0x0
    fields := [{ hi := 31, lo := 0, acc := .rc }] }
@[inherit_doc Spec.PRT_RX_COZY_DROP] def Reg.PRT_RX_COZY_DROP (p : Nat) : Reg := Spec.PRT_RX_COZY_DROP.at [p]
/-- PRT_CORR_MISSED (R87). -/
def Spec.PRT_CORR_MISSED : RegSpec :=
  { name := "PRT_CORR_MISSED", base := 0x400140, dims := [(64, 0x1000, 0)], reset := fun _ => 0x0
    fields := [{ hi := 31, lo := 0, acc := .rc }] }
@[inherit_doc Spec.PRT_CORR_MISSED] def Reg.PRT_CORR_MISSED (p : Nat) : Reg := Spec.PRT_CORR_MISSED.at [p]
/-- PRT_SLICE_MODE (R88). -/
def Spec.PRT_SLICE_MODE : RegSpec :=
  { name := "PRT_SLICE_MODE", base := 0x480010, dims := [], reset := fun _ => 0xFFFFFFFF
    fields := [{ hi := 31, lo := 16, acc := .ro }, { hi := 15, lo := 0, acc := .rw }] }
@[inherit_doc Spec.PRT_SLICE_MODE] def Reg.PRT_SLICE_MODE : Reg := Spec.PRT_SLICE_MODE.at []
@[inherit_doc Spec.PRT_SLICE_MODE] def Fld.PRT_SLICE_MODE_ACTIVE : Fld := ⟨Reg.PRT_SLICE_MODE, 31, 16⟩
@[inherit_doc Spec.PRT_SLICE_MODE] def Fld.PRT_SLICE_MODE_MODE : Fld := ⟨Reg.PRT_SLICE_MODE, 15, 0⟩
/-- PRT_LANE_POL_0 (R88). -/
def Spec.PRT_LANE_POL_0 : RegSpec :=
  { name := "PRT_LANE_POL_0", base := 0x480014, dims := [], reset := fun _ => 0x0
    fields := [{ hi := 31, lo := 0, acc := .rw }] }
@[inherit_doc Spec.PRT_LANE_POL_0] def Reg.PRT_LANE_POL_0 : Reg := Spec.PRT_LANE_POL_0.at []
/-- PRT_LANE_POL_1 (R88). -/
def Spec.PRT_LANE_POL_1 : RegSpec :=
  { name := "PRT_LANE_POL_1", base := 0x480018, dims := [], reset := fun _ => 0x0
    fields := [{ hi := 31, lo := 0, acc := .rw }] }
@[inherit_doc Spec.PRT_LANE_POL_1] def Reg.PRT_LANE_POL_1 : Reg := Spec.PRT_LANE_POL_1.at []
/-- PRT_BASE_MAC_HI (R88). -/
def Spec.PRT_BASE_MAC_HI : RegSpec :=
  { name := "PRT_BASE_MAC_HI", base := 0x480020, dims := [], reset := fun _ => 0x0
    fields := [{ hi := 15, lo := 0, acc := .rw }] }
@[inherit_doc Spec.PRT_BASE_MAC_HI] def Reg.PRT_BASE_MAC_HI : Reg := Spec.PRT_BASE_MAC_HI.at []
@[inherit_doc Spec.PRT_BASE_MAC_HI] def Fld.PRT_BASE_MAC_HI_MAC_HI : Fld := ⟨Reg.PRT_BASE_MAC_HI, 15, 0⟩
/-- PRT_BASE_MAC_LO (R88). -/
def Spec.PRT_BASE_MAC_LO : RegSpec :=
  { name := "PRT_BASE_MAC_LO", base := 0x480024, dims := [], reset := fun _ => 0x0
    fields := [{ hi := 31, lo := 0, acc := .rw }] }
@[inherit_doc Spec.PRT_BASE_MAC_LO] def Reg.PRT_BASE_MAC_LO : Reg := Spec.PRT_BASE_MAC_LO.at []
/-- PRT_I2C_CMD (R89). -/
def Spec.PRT_I2C_CMD : RegSpec :=
  { name := "PRT_I2C_CMD", base := 0x480100, dims := [(4, 0x10, 0)], reset := fun _ => 0x10050
    fields := [{ hi := 31, lo := 31, acc := .wo }, { hi := 25, lo := 25, acc := .rw }, { hi := 24, lo := 24, acc := .rw }, ⟨23, 16, .rw, 1, 128⟩, { hi := 15, lo := 8, acc := .rw }, { hi := 6, lo := 0, acc := .rw }] }
@[inherit_doc Spec.PRT_I2C_CMD] def Reg.PRT_I2C_CMD (p : Nat) : Reg := Spec.PRT_I2C_CMD.at [p]
@[inherit_doc Spec.PRT_I2C_CMD] def Fld.PRT_I2C_CMD_GO (p : Nat) : Fld := ⟨Reg.PRT_I2C_CMD p, 31, 31⟩
@[inherit_doc Spec.PRT_I2C_CMD] def Fld.PRT_I2C_CMD_FAST (p : Nat) : Fld := ⟨Reg.PRT_I2C_CMD p, 25, 25⟩
@[inherit_doc Spec.PRT_I2C_CMD] def Fld.PRT_I2C_CMD_READ (p : Nat) : Fld := ⟨Reg.PRT_I2C_CMD p, 24, 24⟩
@[inherit_doc Spec.PRT_I2C_CMD] def Fld.PRT_I2C_CMD_LEN (p : Nat) : Fld := ⟨Reg.PRT_I2C_CMD p, 23, 16⟩
@[inherit_doc Spec.PRT_I2C_CMD] def Fld.PRT_I2C_CMD_OFFSET (p : Nat) : Fld := ⟨Reg.PRT_I2C_CMD p, 15, 8⟩
@[inherit_doc Spec.PRT_I2C_CMD] def Fld.PRT_I2C_CMD_DEV_ADDR (p : Nat) : Fld := ⟨Reg.PRT_I2C_CMD p, 6, 0⟩
/-- PRT_I2C_STAT (R89). -/
def Spec.PRT_I2C_STAT : RegSpec :=
  { name := "PRT_I2C_STAT", base := 0x480104, dims := [(4, 0x10, 0)], reset := fun _ => 0x0
    fields := [{ hi := 15, lo := 8, acc := .ro }, { hi := 3, lo := 3, acc := .w1c }, { hi := 2, lo := 2, acc := .w1c }, { hi := 1, lo := 1, acc := .w1c }, { hi := 0, lo := 0, acc := .ro }] }
@[inherit_doc Spec.PRT_I2C_STAT] def Reg.PRT_I2C_STAT (p : Nat) : Reg := Spec.PRT_I2C_STAT.at [p]
@[inherit_doc Spec.PRT_I2C_STAT] def Fld.PRT_I2C_STAT_COUNT (p : Nat) : Fld := ⟨Reg.PRT_I2C_STAT p, 15, 8⟩
@[inherit_doc Spec.PRT_I2C_STAT] def Fld.PRT_I2C_STAT_TIMEOUT (p : Nat) : Fld := ⟨Reg.PRT_I2C_STAT p, 3, 3⟩
@[inherit_doc Spec.PRT_I2C_STAT] def Fld.PRT_I2C_STAT_NACK (p : Nat) : Fld := ⟨Reg.PRT_I2C_STAT p, 2, 2⟩
@[inherit_doc Spec.PRT_I2C_STAT] def Fld.PRT_I2C_STAT_DONE (p : Nat) : Fld := ⟨Reg.PRT_I2C_STAT p, 1, 1⟩
@[inherit_doc Spec.PRT_I2C_STAT] def Fld.PRT_I2C_STAT_BUSY (p : Nat) : Fld := ⟨Reg.PRT_I2C_STAT p, 0, 0⟩
/-- PAR_FAULT_DROP (R124). -/
def Spec.PAR_FAULT_DROP : RegSpec :=
  { name := "PAR_FAULT_DROP", base := 0x500010, dims := [(4, 0x40000, 0)], reset := fun _ => 0x0
    fields := [{ hi := 31, lo := 0, acc := .rc }] }
@[inherit_doc Spec.PAR_FAULT_DROP] def Reg.PAR_FAULT_DROP (p : Nat) : Reg := Spec.PAR_FAULT_DROP.at [p]
/-- PAR_FAULT_PASS (R124). -/
def Spec.PAR_FAULT_PASS : RegSpec :=
  { name := "PAR_FAULT_PASS", base := 0x500014, dims := [(4, 0x40000, 0)], reset := fun _ => 0x0
    fields := [{ hi := 31, lo := 0, acc := .rc }] }
@[inherit_doc Spec.PAR_FAULT_PASS] def Reg.PAR_FAULT_PASS (p : Nat) : Reg := Spec.PAR_FAULT_PASS.at [p]
/-- PAR_TAG_EXTRA (R124). -/
def Spec.PAR_TAG_EXTRA : RegSpec :=
  { name := "PAR_TAG_EXTRA", base := 0x500018, dims := [(4, 0x40000, 0)], reset := fun _ => 0x0
    fields := [{ hi := 31, lo := 0, acc := .rc }] }
@[inherit_doc Spec.PAR_TAG_EXTRA] def Reg.PAR_TAG_EXTRA (p : Nat) : Reg := Spec.PAR_TAG_EXTRA.at [p]
/-- PAR_PORT_ZONE (R125). -/
def Spec.PAR_PORT_ZONE : RegSpec :=
  { name := "PAR_PORT_ZONE", base := 0x500100, dims := [(4, 0x40000, 0), (19, 0x4, 0)], reset := fun _ => 0x0
    fields := [{ hi := 15, lo := 0, acc := .rw }] }
@[inherit_doc Spec.PAR_PORT_ZONE] def Reg.PAR_PORT_ZONE (p i : Nat) : Reg := Spec.PAR_PORT_ZONE.at [p, i]
@[inherit_doc Spec.PAR_PORT_ZONE] def Fld.PAR_PORT_ZONE_ZONE (p i : Nat) : Fld := ⟨Reg.PAR_PORT_ZONE p i, 15, 0⟩
/-- PAR_PSEL (R126). -/
def Spec.PAR_PSEL : RegSpec :=
  { name := "PAR_PSEL", base := 0x500200, dims := [(4, 0x40000, 0), (19, 0x10, 0), (4, 0x4, 0)], reset := fun _ => 0x0
    fields := [{ hi := 29, lo := 24, acc := .rw }, { hi := 21, lo := 16, acc := .rw }, { hi := 13, lo := 8, acc := .rw }, { hi := 5, lo := 0, acc := .rw }] }
@[inherit_doc Spec.PAR_PSEL] def Reg.PAR_PSEL (p i j : Nat) : Reg := Spec.PAR_PSEL.at [p, i, j]
@[inherit_doc Spec.PAR_PSEL] def Fld.PAR_PSEL_PROF_3 (p i j : Nat) : Fld := ⟨Reg.PAR_PSEL p i j, 29, 24⟩
@[inherit_doc Spec.PAR_PSEL] def Fld.PAR_PSEL_PROF_2 (p i j : Nat) : Fld := ⟨Reg.PAR_PSEL p i j, 21, 16⟩
@[inherit_doc Spec.PAR_PSEL] def Fld.PAR_PSEL_PROF_1 (p i j : Nat) : Fld := ⟨Reg.PAR_PSEL p i j, 13, 8⟩
@[inherit_doc Spec.PAR_PSEL] def Fld.PAR_PSEL_PROF_0 (p i j : Nat) : Fld := ⟨Reg.PAR_PSEL p i j, 5, 0⟩
/-- PAR_PROF_CFG (R127). -/
def Spec.PAR_PROF_CFG : RegSpec :=
  { name := "PAR_PROF_CFG", base := 0x501000, dims := [(4, 0x40000, 0), (64, 0x8, 0)], reset := fun _ => 0x100
    fields := [{ hi := 14, lo := 14, acc := .rw }, { hi := 13, lo := 13, acc := .rw }, { hi := 12, lo := 12, acc := .rw }, ⟨11, 8, .rw, 0, 2⟩, ⟨7, 4, .rw, 0, 2⟩, { hi := 2, lo := 2, acc := .rw }, { hi := 1, lo := 0, acc := .rw }] }
@[inherit_doc Spec.PAR_PROF_CFG] def Reg.PAR_PROF_CFG (p i : Nat) : Reg := Spec.PAR_PROF_CFG.at [p, i]
@[inherit_doc Spec.PAR_PROF_CFG] def Fld.PAR_PROF_CFG_FAULT_PASS (p i : Nat) : Fld := ⟨Reg.PAR_PROF_CFG p i, 14, 14⟩
@[inherit_doc Spec.PAR_PROF_CFG] def Fld.PAR_PROF_CFG_TUNNEL_OUTER (p i : Nat) : Fld := ⟨Reg.PAR_PROF_CFG p i, 13, 13⟩
@[inherit_doc Spec.PAR_PROF_CFG] def Fld.PAR_PROF_CFG_VXLAN_EN (p i : Nat) : Fld := ⟨Reg.PAR_PROF_CFG p i, 12, 12⟩
@[inherit_doc Spec.PAR_PROF_CFG] def Fld.PAR_PROF_CFG_KIND_OTHER (p i : Nat) : Fld := ⟨Reg.PAR_PROF_CFG p i, 11, 8⟩
@[inherit_doc Spec.PAR_PROF_CFG] def Fld.PAR_PROF_CFG_KIND_PORT (p i : Nat) : Fld := ⟨Reg.PAR_PROF_CFG p i, 7, 4⟩
@[inherit_doc Spec.PAR_PROF_CFG] def Fld.PAR_PROF_CFG_VLAN_INNER (p i : Nat) : Fld := ⟨Reg.PAR_PROF_CFG p i, 2, 2⟩
@[inherit_doc Spec.PAR_PROF_CFG] def Fld.PAR_PROF_CFG_ZONE_SRC (p i : Nat) : Fld := ⟨Reg.PAR_PROF_CFG p i, 1, 0⟩
/-- PAR_PROF_USER (R128). -/
def Spec.PAR_PROF_USER : RegSpec :=
  { name := "PAR_PROF_USER", base := 0x501004, dims := [(4, 0x40000, 0), (64, 0x8, 0)], reset := fun _ => 0x0
    fields := [{ hi := 31, lo := 31, acc := .rw }, { hi := 9, lo := 8, acc := .rw }, { hi := 7, lo := 0, acc := .rw }] }
@[inherit_doc Spec.PAR_PROF_USER] def Reg.PAR_PROF_USER (p i : Nat) : Reg := Spec.PAR_PROF_USER.at [p, i]
@[inherit_doc Spec.PAR_PROF_USER] def Fld.PAR_PROF_USER_USER_EN (p i : Nat) : Fld := ⟨Reg.PAR_PROF_USER p i, 31, 31⟩
@[inherit_doc Spec.PAR_PROF_USER] def Fld.PAR_PROF_USER_ANCHOR (p i : Nat) : Fld := ⟨Reg.PAR_PROF_USER p i, 9, 8⟩
@[inherit_doc Spec.PAR_PROF_USER] def Fld.PAR_PROF_USER_OFFSET (p i : Nat) : Fld := ⟨Reg.PAR_PROF_USER p i, 7, 0⟩
/-- PAR_VLAN_ZONE (R129). -/
def Spec.PAR_VLAN_ZONE : RegSpec :=
  { name := "PAR_VLAN_ZONE", base := 0x502000, dims := [(4, 0x40000, 0), (4096, 0x4, 0)], reset := fun _ => 0x0
    fields := [{ hi := 16, lo := 16, acc := .rw }, { hi := 15, lo := 0, acc := .rw }] }
@[inherit_doc Spec.PAR_VLAN_ZONE] def Reg.PAR_VLAN_ZONE (p i : Nat) : Reg := Spec.PAR_VLAN_ZONE.at [p, i]
@[inherit_doc Spec.PAR_VLAN_ZONE] def Fld.PAR_VLAN_ZONE_VALID (p i : Nat) : Fld := ⟨Reg.PAR_VLAN_ZONE p i, 16, 16⟩
@[inherit_doc Spec.PAR_VLAN_ZONE] def Fld.PAR_VLAN_ZONE_ZONE (p i : Nat) : Fld := ⟨Reg.PAR_VLAN_ZONE p i, 15, 0⟩
/-- PAR_HASH_SEED_LO (R130). -/
def Spec.PAR_HASH_SEED_LO : RegSpec :=
  { name := "PAR_HASH_SEED_LO", base := 0x53F000, dims := [], reset := fun _ => 0xFFFFFFFF
    fields := [{ hi := 31, lo := 0, acc := .rw }] }
@[inherit_doc Spec.PAR_HASH_SEED_LO] def Reg.PAR_HASH_SEED_LO : Reg := Spec.PAR_HASH_SEED_LO.at []
/-- PAR_HASH_SEED_HI (R130). -/
def Spec.PAR_HASH_SEED_HI : RegSpec :=
  { name := "PAR_HASH_SEED_HI", base := 0x53F004, dims := [], reset := fun _ => 0xFFFFFFFF
    fields := [{ hi := 31, lo := 0, acc := .rw }] }
@[inherit_doc Spec.PAR_HASH_SEED_HI] def Reg.PAR_HASH_SEED_HI : Reg := Spec.PAR_HASH_SEED_HI.at []
/-- PAR_HASH_TEST (R130). -/
def Spec.PAR_HASH_TEST : RegSpec :=
  { name := "PAR_HASH_TEST", base := 0x53F010, dims := [], reset := fun _ => 0xF
    fields := [{ hi := 31, lo := 31, acc := .wo }, ⟨5, 0, .rw, 1, 39⟩] }
@[inherit_doc Spec.PAR_HASH_TEST] def Reg.PAR_HASH_TEST : Reg := Spec.PAR_HASH_TEST.at []
@[inherit_doc Spec.PAR_HASH_TEST] def Fld.PAR_HASH_TEST_GO : Fld := ⟨Reg.PAR_HASH_TEST, 31, 31⟩
@[inherit_doc Spec.PAR_HASH_TEST] def Fld.PAR_HASH_TEST_LEN : Fld := ⟨Reg.PAR_HASH_TEST, 5, 0⟩
/-- PAR_HASH_TEST_LO (R130). -/
def Spec.PAR_HASH_TEST_LO : RegSpec :=
  { name := "PAR_HASH_TEST_LO", base := 0x53F014, dims := [], reset := fun _ => 0x0
    fields := [{ hi := 31, lo := 0, acc := .ro }] }
@[inherit_doc Spec.PAR_HASH_TEST_LO] def Reg.PAR_HASH_TEST_LO : Reg := Spec.PAR_HASH_TEST_LO.at []
/-- PAR_HASH_TEST_HI (R130). -/
def Spec.PAR_HASH_TEST_HI : RegSpec :=
  { name := "PAR_HASH_TEST_HI", base := 0x53F018, dims := [], reset := fun _ => 0x0
    fields := [{ hi := 31, lo := 0, acc := .ro }] }
@[inherit_doc Spec.PAR_HASH_TEST_HI] def Reg.PAR_HASH_TEST_HI : Reg := Spec.PAR_HASH_TEST_HI.at []
/-- PAR_HASH_DATA (R130). -/
def Spec.PAR_HASH_DATA : RegSpec :=
  { name := "PAR_HASH_DATA", base := 0x53F100, dims := [(10, 0x4, 0)], reset := fun _ => 0x0
    fields := [{ hi := 31, lo := 0, acc := .rw }] }
@[inherit_doc Spec.PAR_HASH_DATA] def Reg.PAR_HASH_DATA (p : Nat) : Reg := Spec.PAR_HASH_DATA.at [p]
/-- RUL_ACC_CMD (R131). -/
def Spec.RUL_ACC_CMD : RegSpec :=
  { name := "RUL_ACC_CMD", base := 0x63F010, dims := [], reset := fun _ => 0x0
    fields := [{ hi := 31, lo := 31, acc := .wo }, { hi := 30, lo := 28, acc := .rw }, { hi := 27, lo := 26, acc := .rw }, { hi := 25, lo := 24, acc := .rw }, { hi := 23, lo := 23, acc := .rw }, { hi := 13, lo := 0, acc := .rw }] }
@[inherit_doc Spec.RUL_ACC_CMD] def Reg.RUL_ACC_CMD : Reg := Spec.RUL_ACC_CMD.at []
@[inherit_doc Spec.RUL_ACC_CMD] def Fld.RUL_ACC_CMD_GO : Fld := ⟨Reg.RUL_ACC_CMD, 31, 31⟩
@[inherit_doc Spec.RUL_ACC_CMD] def Fld.RUL_ACC_CMD_OP : Fld := ⟨Reg.RUL_ACC_CMD, 30, 28⟩
@[inherit_doc Spec.RUL_ACC_CMD] def Fld.RUL_ACC_CMD_TARGET : Fld := ⟨Reg.RUL_ACC_CMD, 27, 26⟩
@[inherit_doc Spec.RUL_ACC_CMD] def Fld.RUL_ACC_CMD_SLICE : Fld := ⟨Reg.RUL_ACC_CMD, 25, 24⟩
@[inherit_doc Spec.RUL_ACC_CMD] def Fld.RUL_ACC_CMD_BANK : Fld := ⟨Reg.RUL_ACC_CMD, 23, 23⟩
@[inherit_doc Spec.RUL_ACC_CMD] def Fld.RUL_ACC_CMD_INDEX : Fld := ⟨Reg.RUL_ACC_CMD, 13, 0⟩
/-- RUL_ACC_STAT (R131). -/
def Spec.RUL_ACC_STAT : RegSpec :=
  { name := "RUL_ACC_STAT", base := 0x63F014, dims := [], reset := fun _ => 0x0
    fields := [{ hi := 7, lo := 4, acc := .ro }, { hi := 2, lo := 2, acc := .w1c }, { hi := 1, lo := 1, acc := .w1c }, { hi := 0, lo := 0, acc := .ro }] }
@[inherit_doc Spec.RUL_ACC_STAT] def Reg.RUL_ACC_STAT : Reg := Spec.RUL_ACC_STAT.at []
@[inherit_doc Spec.RUL_ACC_STAT] def Fld.RUL_ACC_STAT_REASON : Fld := ⟨Reg.RUL_ACC_STAT, 7, 4⟩
@[inherit_doc Spec.RUL_ACC_STAT] def Fld.RUL_ACC_STAT_REJECTED : Fld := ⟨Reg.RUL_ACC_STAT, 2, 2⟩
@[inherit_doc Spec.RUL_ACC_STAT] def Fld.RUL_ACC_STAT_DONE : Fld := ⟨Reg.RUL_ACC_STAT, 1, 1⟩
@[inherit_doc Spec.RUL_ACC_STAT] def Fld.RUL_ACC_STAT_BUSY : Fld := ⟨Reg.RUL_ACC_STAT, 0, 0⟩
/-- RUL_EPOCH_CTL (R132). -/
def Spec.RUL_EPOCH_CTL : RegSpec :=
  { name := "RUL_EPOCH_CTL", base := 0x63F000, dims := [], reset := fun _ => 0x0
    fields := [{ hi := 31, lo := 31, acc := .wo }, { hi := 9, lo := 9, acc := .w1c }, { hi := 8, lo := 8, acc := .ro }, { hi := 7, lo := 4, acc := .ro }, { hi := 3, lo := 0, acc := .ro }] }
@[inherit_doc Spec.RUL_EPOCH_CTL] def Reg.RUL_EPOCH_CTL : Reg := Spec.RUL_EPOCH_CTL.at []
@[inherit_doc Spec.RUL_EPOCH_CTL] def Fld.RUL_EPOCH_CTL_SWAP : Fld := ⟨Reg.RUL_EPOCH_CTL, 31, 31⟩
@[inherit_doc Spec.RUL_EPOCH_CTL] def Fld.RUL_EPOCH_CTL_SWAP_REFUSED : Fld := ⟨Reg.RUL_EPOCH_CTL, 9, 9⟩
@[inherit_doc Spec.RUL_EPOCH_CTL] def Fld.RUL_EPOCH_CTL_OLD_LIVE : Fld := ⟨Reg.RUL_EPOCH_CTL, 8, 8⟩
@[inherit_doc Spec.RUL_EPOCH_CTL] def Fld.RUL_EPOCH_CTL_OLD_EPOCH : Fld := ⟨Reg.RUL_EPOCH_CTL, 7, 4⟩
@[inherit_doc Spec.RUL_EPOCH_CTL] def Fld.RUL_EPOCH_CTL_CUR_EPOCH : Fld := ⟨Reg.RUL_EPOCH_CTL, 3, 0⟩
/-- RUL_OLD_REFS (R132). -/
def Spec.RUL_OLD_REFS : RegSpec :=
  { name := "RUL_OLD_REFS", base := 0x63F004, dims := [], reset := fun _ => 0x0
    fields := [{ hi := 18, lo := 0, acc := .ro }] }
@[inherit_doc Spec.RUL_OLD_REFS] def Reg.RUL_OLD_REFS : Reg := Spec.RUL_OLD_REFS.at []
@[inherit_doc Spec.RUL_OLD_REFS] def Fld.RUL_OLD_REFS_REFS : Fld := ⟨Reg.RUL_OLD_REFS, 18, 0⟩
/-- FLE_CFG (R178). -/
def Spec.FLE_CFG : RegSpec :=
  { name := "FLE_CFG", base := 0x700000, dims := [], reset := fun _ => 0x80001800
    fields := [{ hi := 31, lo := 30, acc := .ro }, ⟨13, 0, .rw, 1, 8192⟩] }
@[inherit_doc Spec.FLE_CFG] def Reg.FLE_CFG : Reg := Spec.FLE_CFG.at []
@[inherit_doc Spec.FLE_CFG] def Fld.FLE_CFG_REGION : Fld := ⟨Reg.FLE_CFG, 31, 30⟩
@[inherit_doc Spec.FLE_CFG] def Fld.FLE_CFG_OVL_THRESH : Fld := ⟨Reg.FLE_CFG, 13, 0⟩
/-- FLE_PRUNE_CTL (R179). -/
def Spec.FLE_PRUNE_CTL : RegSpec :=
  { name := "FLE_PRUNE_CTL", base := 0x700004, dims := [], reset := fun _ => 0x8000000A
    fields := [{ hi := 31, lo := 31, acc := .rw }, ⟨9, 0, .rw, 1, 600⟩] }
@[inherit_doc Spec.FLE_PRUNE_CTL] def Reg.FLE_PRUNE_CTL : Reg := Spec.FLE_PRUNE_CTL.at []
@[inherit_doc Spec.FLE_PRUNE_CTL] def Fld.FLE_PRUNE_CTL_EN : Fld := ⟨Reg.FLE_PRUNE_CTL, 31, 31⟩
@[inherit_doc Spec.FLE_PRUNE_CTL] def Fld.FLE_PRUNE_CTL_SWEEP_S : Fld := ⟨Reg.FLE_PRUNE_CTL, 9, 0⟩
/-- FLE_STATUS (R179). -/
def Spec.FLE_STATUS : RegSpec :=
  { name := "FLE_STATUS", base := 0x700008, dims := [], reset := fun _ => 0x0
    fields := [{ hi := 15, lo := 8, acc := .ro }, { hi := 3, lo := 0, acc := .ro }] }
@[inherit_doc Spec.FLE_STATUS] def Reg.FLE_STATUS : Reg := Spec.FLE_STATUS.at []
@[inherit_doc Spec.FLE_STATUS] def Fld.FLE_STATUS_BANK_RETIRED : Fld := ⟨Reg.FLE_STATUS, 15, 8⟩
@[inherit_doc Spec.FLE_STATUS] def Fld.FLE_STATUS_OVERLOAD : Fld := ⟨Reg.FLE_STATUS, 3, 0⟩
/-- FLE_CACHE_CTL (R179). -/
def Spec.FLE_CACHE_CTL : RegSpec :=
  { name := "FLE_CACHE_CTL", base := 0x70000C, dims := [], reset := fun _ => 0x0
    fields := [{ hi := 31, lo := 31, acc := .wo }, { hi := 3, lo := 3, acc := .ro }, { hi := 2, lo := 0, acc := .rw }] }
@[inherit_doc Spec.FLE_CACHE_CTL] def Reg.FLE_CACHE_CTL : Reg := Spec.FLE_CACHE_CTL.at []
@[inherit_doc Spec.FLE_CACHE_CTL] def Fld.FLE_CACHE_CTL_RETIRE : Fld := ⟨Reg.FLE_CACHE_CTL, 31, 31⟩
@[inherit_doc Spec.FLE_CACHE_CTL] def Fld.FLE_CACHE_CTL_RETIRING : Fld := ⟨Reg.FLE_CACHE_CTL, 3, 3⟩
@[inherit_doc Spec.FLE_CACHE_CTL] def Fld.FLE_CACHE_CTL_BANK : Fld := ⟨Reg.FLE_CACHE_CTL, 2, 0⟩
/-- FLE_BANK_HOLD (R181). -/
def Spec.FLE_BANK_HOLD : RegSpec :=
  { name := "FLE_BANK_HOLD", base := 0x700040, dims := [(8, 0x4, 0)], reset := fun _ => 0x0
    fields := [{ hi := 26, lo := 16, acc := .rc }, { hi := 10, lo := 0, acc := .ro }] }
@[inherit_doc Spec.FLE_BANK_HOLD] def Reg.FLE_BANK_HOLD (p : Nat) : Reg := Spec.FLE_BANK_HOLD.at [p]
@[inherit_doc Spec.FLE_BANK_HOLD] def Fld.FLE_BANK_HOLD_PEAK (p : Nat) : Fld := ⟨Reg.FLE_BANK_HOLD p, 26, 16⟩
@[inherit_doc Spec.FLE_BANK_HOLD] def Fld.FLE_BANK_HOLD_USED (p : Nat) : Fld := ⟨Reg.FLE_BANK_HOLD p, 10, 0⟩
/-- FLE_SLICE_TAGS (R181). -/
def Spec.FLE_SLICE_TAGS : RegSpec :=
  { name := "FLE_SLICE_TAGS", base := 0x700080, dims := [(4, 0x40000, 0)], reset := fun _ => 0x0
    fields := [{ hi := 13, lo := 0, acc := .ro }] }
@[inherit_doc Spec.FLE_SLICE_TAGS] def Reg.FLE_SLICE_TAGS (p : Nat) : Reg := Spec.FLE_SLICE_TAGS.at [p]
@[inherit_doc Spec.FLE_SLICE_TAGS] def Fld.FLE_SLICE_TAGS_TAGS (p : Nat) : Fld := ⟨Reg.FLE_SLICE_TAGS p, 13, 0⟩
/-- FLE_CREATED (R182). -/
def Spec.FLE_CREATED : RegSpec :=
  { name := "FLE_CREATED", base := 0x700100, dims := [], reset := fun _ => 0x0
    fields := [{ hi := 31, lo := 0, acc := .rc }] }
@[inherit_doc Spec.FLE_CREATED] def Reg.FLE_CREATED : Reg := Spec.FLE_CREATED.at []
/-- FLE_CREATE_FAIL (R182). -/
def Spec.FLE_CREATE_FAIL : RegSpec :=
  { name := "FLE_CREATE_FAIL", base := 0x700104, dims := [], reset := fun _ => 0x0
    fields := [{ hi := 31, lo := 0, acc := .rc }] }
@[inherit_doc Spec.FLE_CREATE_FAIL] def Reg.FLE_CREATE_FAIL : Reg := Spec.FLE_CREATE_FAIL.at []
/-- FLE_EVICTED (R182). -/
def Spec.FLE_EVICTED : RegSpec :=
  { name := "FLE_EVICTED", base := 0x700108, dims := [], reset := fun _ => 0x0
    fields := [{ hi := 31, lo := 0, acc := .rc }] }
@[inherit_doc Spec.FLE_EVICTED] def Reg.FLE_EVICTED : Reg := Spec.FLE_EVICTED.at []
/-- FLE_AGED (R182). -/
def Spec.FLE_AGED : RegSpec :=
  { name := "FLE_AGED", base := 0x70010C, dims := [], reset := fun _ => 0x0
    fields := [{ hi := 31, lo := 0, acc := .rc }] }
@[inherit_doc Spec.FLE_AGED] def Reg.FLE_AGED : Reg := Spec.FLE_AGED.at []
/-- FLE_CORRECTED (R182). -/
def Spec.FLE_CORRECTED : RegSpec :=
  { name := "FLE_CORRECTED", base := 0x700110, dims := [], reset := fun _ => 0x0
    fields := [{ hi := 31, lo := 0, acc := .rc }] }
@[inherit_doc Spec.FLE_CORRECTED] def Reg.FLE_CORRECTED : Reg := Spec.FLE_CORRECTED.at []
/-- FLE_POISONED (R182). -/
def Spec.FLE_POISONED : RegSpec :=
  { name := "FLE_POISONED", base := 0x700114, dims := [], reset := fun _ => 0x0
    fields := [{ hi := 31, lo := 0, acc := .rc }] }
@[inherit_doc Spec.FLE_POISONED] def Reg.FLE_POISONED : Reg := Spec.FLE_POISONED.at []
/-- FLE_REPAIRED (R182). -/
def Spec.FLE_REPAIRED : RegSpec :=
  { name := "FLE_REPAIRED", base := 0x700118, dims := [], reset := fun _ => 0x0
    fields := [{ hi := 31, lo := 0, acc := .rc }] }
@[inherit_doc Spec.FLE_REPAIRED] def Reg.FLE_REPAIRED : Reg := Spec.FLE_REPAIRED.at []
/-- FLE_REPAIR_FAILED (R182). -/
def Spec.FLE_REPAIR_FAILED : RegSpec :=
  { name := "FLE_REPAIR_FAILED", base := 0x70011C, dims := [], reset := fun _ => 0x0
    fields := [{ hi := 31, lo := 0, acc := .rc }] }
@[inherit_doc Spec.FLE_REPAIR_FAILED] def Reg.FLE_REPAIR_FAILED : Reg := Spec.FLE_REPAIR_FAILED.at []
/-- FLE_OVL_REFUSED (R182). -/
def Spec.FLE_OVL_REFUSED : RegSpec :=
  { name := "FLE_OVL_REFUSED", base := 0x700120, dims := [], reset := fun _ => 0x0
    fields := [{ hi := 31, lo := 0, acc := .rc }] }
@[inherit_doc Spec.FLE_OVL_REFUSED] def Reg.FLE_OVL_REFUSED : Reg := Spec.FLE_OVL_REFUSED.at []
/-- FLE_ZONE_REFUSED (R182). -/
def Spec.FLE_ZONE_REFUSED : RegSpec :=
  { name := "FLE_ZONE_REFUSED", base := 0x700124, dims := [], reset := fun _ => 0x0
    fields := [{ hi := 31, lo := 0, acc := .rc }] }
@[inherit_doc Spec.FLE_ZONE_REFUSED] def Reg.FLE_ZONE_REFUSED : Reg := Spec.FLE_ZONE_REFUSED.at []
/-- FLE_RO_DISCARD (R182). -/
def Spec.FLE_RO_DISCARD : RegSpec :=
  { name := "FLE_RO_DISCARD", base := 0x700128, dims := [], reset := fun _ => 0x0
    fields := [{ hi := 31, lo := 0, acc := .rc }] }
@[inherit_doc Spec.FLE_RO_DISCARD] def Reg.FLE_RO_DISCARD : Reg := Spec.FLE_RO_DISCARD.at []
/-- FLE_LOST (R182). -/
def Spec.FLE_LOST : RegSpec :=
  { name := "FLE_LOST", base := 0x70012C, dims := [], reset := fun _ => 0x0
    fields := [{ hi := 31, lo := 0, acc := .rc }] }
@[inherit_doc Spec.FLE_LOST] def Reg.FLE_LOST : Reg := Spec.FLE_LOST.at []
/-- FLE_ZONE_CMD (R183). -/
def Spec.FLE_ZONE_CMD : RegSpec :=
  { name := "FLE_ZONE_CMD", base := 0x700400, dims := [], reset := fun _ => 0x0
    fields := [{ hi := 31, lo := 31, acc := .wo }, { hi := 30, lo := 30, acc := .rw }, { hi := 15, lo := 0, acc := .rw }] }
@[inherit_doc Spec.FLE_ZONE_CMD] def Reg.FLE_ZONE_CMD : Reg := Spec.FLE_ZONE_CMD.at []
@[inherit_doc Spec.FLE_ZONE_CMD] def Fld.FLE_ZONE_CMD_GO : Fld := ⟨Reg.FLE_ZONE_CMD, 31, 31⟩
@[inherit_doc Spec.FLE_ZONE_CMD] def Fld.FLE_ZONE_CMD_WRITE : Fld := ⟨Reg.FLE_ZONE_CMD, 30, 30⟩
@[inherit_doc Spec.FLE_ZONE_CMD] def Fld.FLE_ZONE_CMD_ZONE : Fld := ⟨Reg.FLE_ZONE_CMD, 15, 0⟩
/-- FLE_ZONE_DATA (R183). -/
def Spec.FLE_ZONE_DATA : RegSpec :=
  { name := "FLE_ZONE_DATA", base := 0x700404, dims := [], reset := fun _ => 0x0
    fields := [{ hi := 27, lo := 0, acc := .rw }] }
@[inherit_doc Spec.FLE_ZONE_DATA] def Reg.FLE_ZONE_DATA : Reg := Spec.FLE_ZONE_DATA.at []
@[inherit_doc Spec.FLE_ZONE_DATA] def Fld.FLE_ZONE_DATA_LIMIT : Fld := ⟨Reg.FLE_ZONE_DATA, 27, 0⟩
/-- FLE_ZONE_PROF (R183). -/
def Spec.FLE_ZONE_PROF : RegSpec :=
  { name := "FLE_ZONE_PROF", base := 0x700408, dims := [], reset := fun _ => 0x0
    fields := [{ hi := 7, lo := 0, acc := .rw }] }
@[inherit_doc Spec.FLE_ZONE_PROF] def Reg.FLE_ZONE_PROF : Reg := Spec.FLE_ZONE_PROF.at []
@[inherit_doc Spec.FLE_ZONE_PROF] def Fld.FLE_ZONE_PROF_PROFILE : Fld := ⟨Reg.FLE_ZONE_PROF, 7, 0⟩
/-- FLE_ZONE_COUNT (R183). -/
def Spec.FLE_ZONE_COUNT : RegSpec :=
  { name := "FLE_ZONE_COUNT", base := 0x70040C, dims := [], reset := fun _ => 0x0
    fields := [{ hi := 27, lo := 0, acc := .ro }] }
@[inherit_doc Spec.FLE_ZONE_COUNT] def Reg.FLE_ZONE_COUNT : Reg := Spec.FLE_ZONE_COUNT.at []
@[inherit_doc Spec.FLE_ZONE_COUNT] def Fld.FLE_ZONE_COUNT_COUNT : Fld := ⟨Reg.FLE_ZONE_COUNT, 27, 0⟩
/-- FLE_ZPROF_CFG (R184). -/
def Spec.FLE_ZPROF_CFG : RegSpec :=
  { name := "FLE_ZPROF_CFG", base := 0x701000, dims := [(256, 0x20, 0)], reset := fun _ => 0x20200000
    fields := [⟨31, 30, .rw, 0, 2⟩, ⟨29, 28, .rw, 0, 2⟩, ⟨22, 16, .rw, 1, 64⟩, { hi := 15, lo := 0, acc := .rw }] }
@[inherit_doc Spec.FLE_ZPROF_CFG] def Reg.FLE_ZPROF_CFG (p : Nat) : Reg := Spec.FLE_ZPROF_CFG.at [p]
@[inherit_doc Spec.FLE_ZPROF_CFG] def Fld.FLE_ZPROF_CFG_MISS_POLICY (p : Nat) : Fld := ⟨Reg.FLE_ZPROF_CFG p, 31, 30⟩
@[inherit_doc Spec.FLE_ZPROF_CFG] def Fld.FLE_ZPROF_CFG_EVICT (p : Nat) : Fld := ⟨Reg.FLE_ZPROF_CFG p, 29, 28⟩
@[inherit_doc Spec.FLE_ZPROF_CFG] def Fld.FLE_ZPROF_CFG_MERGE_MAX (p : Nat) : Fld := ⟨Reg.FLE_ZPROF_CFG p, 22, 16⟩
@[inherit_doc Spec.FLE_ZPROF_CFG] def Fld.FLE_ZPROF_CFG_CR_RATE (p : Nat) : Fld := ⟨Reg.FLE_ZPROF_CFG p, 15, 0⟩
/-- FLE_ZPROF_BURST (R184). -/
def Spec.FLE_ZPROF_BURST : RegSpec :=
  { name := "FLE_ZPROF_BURST", base := 0x701004, dims := [(256, 0x20, 0)], reset := fun _ => 0x4000
    fields := [⟨19, 0, .rw, 1, 1048575⟩] }
@[inherit_doc Spec.FLE_ZPROF_BURST] def Reg.FLE_ZPROF_BURST (p : Nat) : Reg := Spec.FLE_ZPROF_BURST.at [p]
@[inherit_doc Spec.FLE_ZPROF_BURST] def Fld.FLE_ZPROF_BURST_CR_BURST (p : Nat) : Fld := ⟨Reg.FLE_ZPROF_BURST p, 19, 0⟩
/-- FLE_ZPROF_TMO (R184). -/
def Spec.FLE_ZPROF_TMO : RegSpec :=
  { name := "FLE_ZPROF_TMO", base := 0x701008, dims := [(256, 0x20, 0), (4, 0x4, 0)], reset := fun ix => [0x1D10001E, 0x000A00F0, 0x012C001E, 0x012C003C].getD (ix.getD 1 0) 0
    fields := [⟨31, 16, .rw, 0, 32767⟩, ⟨15, 0, .rw, 0, 32767⟩] }
@[inherit_doc Spec.FLE_ZPROF_TMO] def Reg.FLE_ZPROF_TMO (p i : Nat) : Reg := Spec.FLE_ZPROF_TMO.at [p, i]
@[inherit_doc Spec.FLE_ZPROF_TMO] def Fld.FLE_ZPROF_TMO_TMO_HI (p i : Nat) : Fld := ⟨Reg.FLE_ZPROF_TMO p i, 31, 16⟩
@[inherit_doc Spec.FLE_ZPROF_TMO] def Fld.FLE_ZPROF_TMO_TMO_LO (p i : Nat) : Fld := ⟨Reg.FLE_ZPROF_TMO p i, 15, 0⟩
/-- PMEM_RETIRE_CFG (R185). -/
def Spec.PMEM_RETIRE_CFG : RegSpec :=
  { name := "PMEM_RETIRE_CFG", base := 0x1500000, dims := [], reset := fun _ => 0x10008
    fields := [{ hi := 16, lo := 16, acc := .rw }, ⟨7, 0, .rw, 1, 255⟩] }
@[inherit_doc Spec.PMEM_RETIRE_CFG] def Reg.PMEM_RETIRE_CFG : Reg := Spec.PMEM_RETIRE_CFG.at []
@[inherit_doc Spec.PMEM_RETIRE_CFG] def Fld.PMEM_RETIRE_CFG_AUTO : Fld := ⟨Reg.PMEM_RETIRE_CFG, 16, 16⟩
@[inherit_doc Spec.PMEM_RETIRE_CFG] def Fld.PMEM_RETIRE_CFG_CORR_LIMIT : Fld := ⟨Reg.PMEM_RETIRE_CFG, 7, 0⟩
/-- PMEM_RETIRE_STAT (R185). -/
def Spec.PMEM_RETIRE_STAT : RegSpec :=
  { name := "PMEM_RETIRE_STAT", base := 0x1500004, dims := [], reset := fun _ => 0x0
    fields := [{ hi := 12, lo := 0, acc := .ro }] }
@[inherit_doc Spec.PMEM_RETIRE_STAT] def Reg.PMEM_RETIRE_STAT : Reg := Spec.PMEM_RETIRE_STAT.at []
@[inherit_doc Spec.PMEM_RETIRE_STAT] def Fld.PMEM_RETIRE_STAT_USED : Fld := ⟨Reg.PMEM_RETIRE_STAT, 12, 0⟩
/-- PMEM_WEEDER_CTL (R185). -/
def Spec.PMEM_WEEDER_CTL : RegSpec :=
  { name := "PMEM_WEEDER_CTL", base := 0x1500008, dims := [], reset := fun _ => 0x80000E10
    fields := [{ hi := 31, lo := 31, acc := .rw }, ⟨16, 0, .rw, 60, 86400⟩] }
@[inherit_doc Spec.PMEM_WEEDER_CTL] def Reg.PMEM_WEEDER_CTL : Reg := Spec.PMEM_WEEDER_CTL.at []
@[inherit_doc Spec.PMEM_WEEDER_CTL] def Fld.PMEM_WEEDER_CTL_EN : Fld := ⟨Reg.PMEM_WEEDER_CTL, 31, 31⟩
@[inherit_doc Spec.PMEM_WEEDER_CTL] def Fld.PMEM_WEEDER_CTL_SWEEP_S : Fld := ⟨Reg.PMEM_WEEDER_CTL, 16, 0⟩
/-- TRW_ENG_STAT (R224). -/
def Spec.TRW_ENG_STAT : RegSpec :=
  { name := "TRW_ENG_STAT", base := 0x800000, dims := [(4, 0x40000, 0)], reset := fun _ => 0x0
    fields := [{ hi := 31, lo := 16, acc := .ro }, { hi := 15, lo := 0, acc := .ro }] }
@[inherit_doc Spec.TRW_ENG_STAT] def Reg.TRW_ENG_STAT (p : Nat) : Reg := Spec.TRW_ENG_STAT.at [p]
@[inherit_doc Spec.TRW_ENG_STAT] def Fld.TRW_ENG_STAT_BUSY (p : Nat) : Fld := ⟨Reg.TRW_ENG_STAT p, 31, 16⟩
@[inherit_doc Spec.TRW_ENG_STAT] def Fld.TRW_ENG_STAT_QUAR (p : Nat) : Fld := ⟨Reg.TRW_ENG_STAT p, 15, 0⟩
/-- TRW_ENG_CTL (R224). -/
def Spec.TRW_ENG_CTL : RegSpec :=
  { name := "TRW_ENG_CTL", base := 0x800004, dims := [(4, 0x40000, 0)], reset := fun _ => 0x0
    fields := [{ hi := 31, lo := 31, acc := .wo }, { hi := 30, lo := 30, acc := .wo }, { hi := 3, lo := 0, acc := .rw }] }
@[inherit_doc Spec.TRW_ENG_CTL] def Reg.TRW_ENG_CTL (p : Nat) : Reg := Spec.TRW_ENG_CTL.at [p]
@[inherit_doc Spec.TRW_ENG_CTL] def Fld.TRW_ENG_CTL_QUARANTINE (p : Nat) : Fld := ⟨Reg.TRW_ENG_CTL p, 31, 31⟩
@[inherit_doc Spec.TRW_ENG_CTL] def Fld.TRW_ENG_CTL_RELEASE (p : Nat) : Fld := ⟨Reg.TRW_ENG_CTL p, 30, 30⟩
@[inherit_doc Spec.TRW_ENG_CTL] def Fld.TRW_ENG_CTL_ENGINE (p : Nat) : Fld := ⟨Reg.TRW_ENG_CTL p, 3, 0⟩
/-- TRW_EXC (R225). -/
def Spec.TRW_EXC : RegSpec :=
  { name := "TRW_EXC", base := 0x800100, dims := [(4, 0x40000, 0), (8, 0x4, 0)], reset := fun _ => 0x0
    fields := [{ hi := 31, lo := 0, acc := .rc }] }
@[inherit_doc Spec.TRW_EXC] def Reg.TRW_EXC (p i : Nat) : Reg := Spec.TRW_EXC.at [p, i]
/-- TRW_NO_PROG (R225). -/
def Spec.TRW_NO_PROG : RegSpec :=
  { name := "TRW_NO_PROG", base := 0x800120, dims := [(4, 0x40000, 0)], reset := fun _ => 0x0
    fields := [{ hi := 31, lo := 0, acc := .rc }] }
@[inherit_doc Spec.TRW_NO_PROG] def Reg.TRW_NO_PROG (p : Nat) : Reg := Spec.TRW_NO_PROG.at [p]
/-- TRW_NO_DEST (R225). -/
def Spec.TRW_NO_DEST : RegSpec :=
  { name := "TRW_NO_DEST", base := 0x800124, dims := [(4, 0x40000, 0)], reset := fun _ => 0x0
    fields := [{ hi := 31, lo := 0, acc := .rc }] }
@[inherit_doc Spec.TRW_NO_DEST] def Reg.TRW_NO_DEST (p : Nat) : Reg := Spec.TRW_NO_DEST.at [p]
/-- TRW_QUAR_DROP (R225). -/
def Spec.TRW_QUAR_DROP : RegSpec :=
  { name := "TRW_QUAR_DROP", base := 0x800128, dims := [(4, 0x40000, 0)], reset := fun _ => 0x0
    fields := [{ hi := 31, lo := 0, acc := .rc }] }
@[inherit_doc Spec.TRW_QUAR_DROP] def Reg.TRW_QUAR_DROP (p : Nat) : Reg := Spec.TRW_QUAR_DROP.at [p]
/-- TRW_RESTART (R225). -/
def Spec.TRW_RESTART : RegSpec :=
  { name := "TRW_RESTART", base := 0x80012C, dims := [(4, 0x40000, 0)], reset := fun _ => 0x0
    fields := [{ hi := 31, lo := 0, acc := .rc }] }
@[inherit_doc Spec.TRW_RESTART] def Reg.TRW_RESTART (p : Nat) : Reg := Spec.TRW_RESTART.at [p]
/-- TRW_CS_CORR (R225). -/
def Spec.TRW_CS_CORR : RegSpec :=
  { name := "TRW_CS_CORR", base := 0x800130, dims := [(4, 0x40000, 0)], reset := fun _ => 0x0
    fields := [{ hi := 31, lo := 0, acc := .rc }] }
@[inherit_doc Spec.TRW_CS_CORR] def Reg.TRW_CS_CORR (p : Nat) : Reg := Spec.TRW_CS_CORR.at [p]
/-- TRW_DROP (R225). -/
def Spec.TRW_DROP : RegSpec :=
  { name := "TRW_DROP", base := 0x800134, dims := [(4, 0x40000, 0)], reset := fun _ => 0x0
    fields := [{ hi := 31, lo := 0, acc := .rc }] }
@[inherit_doc Spec.TRW_DROP] def Reg.TRW_DROP (p : Nat) : Reg := Spec.TRW_DROP.at [p]
/-- TRW_ROM_INFO (R226). -/
def Spec.TRW_ROM_INFO : RegSpec :=
  { name := "TRW_ROM_INFO", base := 0x83F000, dims := [], reset := fun _ => 0x3
    fields := [{ hi := 7, lo := 0, acc := .ro }] }
@[inherit_doc Spec.TRW_ROM_INFO] def Reg.TRW_ROM_INFO : Reg := Spec.TRW_ROM_INFO.at []
@[inherit_doc Spec.TRW_ROM_INFO] def Fld.TRW_ROM_INFO_ROM_REV : Fld := ⟨Reg.TRW_ROM_INFO, 7, 0⟩
/-- TRW_PROG_CMD (R226). -/
def Spec.TRW_PROG_CMD : RegSpec :=
  { name := "TRW_PROG_CMD", base := 0x83F010, dims := [], reset := fun _ => 0x0
    fields := [{ hi := 31, lo := 31, acc := .wo }, { hi := 30, lo := 30, acc := .rw }, { hi := 17, lo := 16, acc := .rw }, { hi := 15, lo := 0, acc := .rw }] }
@[inherit_doc Spec.TRW_PROG_CMD] def Reg.TRW_PROG_CMD : Reg := Spec.TRW_PROG_CMD.at []
@[inherit_doc Spec.TRW_PROG_CMD] def Fld.TRW_PROG_CMD_GO : Fld := ⟨Reg.TRW_PROG_CMD, 31, 31⟩
@[inherit_doc Spec.TRW_PROG_CMD] def Fld.TRW_PROG_CMD_WRITE : Fld := ⟨Reg.TRW_PROG_CMD, 30, 30⟩
@[inherit_doc Spec.TRW_PROG_CMD] def Fld.TRW_PROG_CMD_SLICE : Fld := ⟨Reg.TRW_PROG_CMD, 17, 16⟩
@[inherit_doc Spec.TRW_PROG_CMD] def Fld.TRW_PROG_CMD_INDEX : Fld := ⟨Reg.TRW_PROG_CMD, 15, 0⟩
/-- TRW_PROG_STAT (R226). -/
def Spec.TRW_PROG_STAT : RegSpec :=
  { name := "TRW_PROG_STAT", base := 0x83F014, dims := [], reset := fun _ => 0x0
    fields := [{ hi := 1, lo := 1, acc := .w1c }, { hi := 0, lo := 0, acc := .w1c }] }
@[inherit_doc Spec.TRW_PROG_STAT] def Reg.TRW_PROG_STAT : Reg := Spec.TRW_PROG_STAT.at []
@[inherit_doc Spec.TRW_PROG_STAT] def Fld.TRW_PROG_STAT_REJECTED : Fld := ⟨Reg.TRW_PROG_STAT, 1, 1⟩
@[inherit_doc Spec.TRW_PROG_STAT] def Fld.TRW_PROG_STAT_DONE : Fld := ⟨Reg.TRW_PROG_STAT, 0, 0⟩
/-- TRW_PROG_DATA_HI (R226). -/
def Spec.TRW_PROG_DATA_HI : RegSpec :=
  { name := "TRW_PROG_DATA_HI", base := 0x83F018, dims := [], reset := fun _ => 0x0
    fields := [{ hi := 31, lo := 0, acc := .rw }] }
@[inherit_doc Spec.TRW_PROG_DATA_HI] def Reg.TRW_PROG_DATA_HI : Reg := Spec.TRW_PROG_DATA_HI.at []
/-- TRW_PROG_DATA_LO (R226). -/
def Spec.TRW_PROG_DATA_LO : RegSpec :=
  { name := "TRW_PROG_DATA_LO", base := 0x83F01C, dims := [], reset := fun _ => 0x0
    fields := [{ hi := 31, lo := 0, acc := .rw }] }
@[inherit_doc Spec.TRW_PROG_DATA_LO] def Reg.TRW_PROG_DATA_LO : Reg := Spec.TRW_PROG_DATA_LO.at []
/-- TRW_IMEM_ADDR (R226). -/
def Spec.TRW_IMEM_ADDR : RegSpec :=
  { name := "TRW_IMEM_ADDR", base := 0x83F020, dims := [], reset := fun _ => 0x0
    fields := [{ hi := 19, lo := 18, acc := .rw }, { hi := 17, lo := 0, acc := .rw }] }
@[inherit_doc Spec.TRW_IMEM_ADDR] def Reg.TRW_IMEM_ADDR : Reg := Spec.TRW_IMEM_ADDR.at []
@[inherit_doc Spec.TRW_IMEM_ADDR] def Fld.TRW_IMEM_ADDR_SLICE : Fld := ⟨Reg.TRW_IMEM_ADDR, 19, 18⟩
@[inherit_doc Spec.TRW_IMEM_ADDR] def Fld.TRW_IMEM_ADDR_ADDR : Fld := ⟨Reg.TRW_IMEM_ADDR, 17, 0⟩
/-- TRW_IMEM_DATA (R226). -/
def Spec.TRW_IMEM_DATA : RegSpec :=
  { name := "TRW_IMEM_DATA", base := 0x83F024, dims := [], reset := fun _ => 0x0
    fields := [{ hi := 31, lo := 0, acc := .rw }] }
@[inherit_doc Spec.TRW_IMEM_DATA] def Reg.TRW_IMEM_DATA : Reg := Spec.TRW_IMEM_DATA.at []
/-- TRW_MARK (R226). -/
def Spec.TRW_MARK : RegSpec :=
  { name := "TRW_MARK", base := 0x83F030, dims := [], reset := fun _ => 0x1
    fields := [{ hi := 31, lo := 31, acc := .wo }, { hi := 0, lo := 0, acc := .ro }] }
@[inherit_doc Spec.TRW_MARK] def Reg.TRW_MARK : Reg := Spec.TRW_MARK.at []
@[inherit_doc Spec.TRW_MARK] def Fld.TRW_MARK_MARK : Fld := ⟨Reg.TRW_MARK, 31, 31⟩
@[inherit_doc Spec.TRW_MARK] def Fld.TRW_MARK_DRAINED : Fld := ⟨Reg.TRW_MARK, 0, 0⟩
/-- TRW_PATCH_CTL (R227). -/
def Spec.TRW_PATCH_CTL : RegSpec :=
  { name := "TRW_PATCH_CTL", base := 0x83F040, dims := [], reset := fun _ => 0x0
    fields := [{ hi := 31, lo := 31, acc := .wo }, { hi := 30, lo := 30, acc := .wo }, { hi := 15, lo := 0, acc := .rw }] }
@[inherit_doc Spec.TRW_PATCH_CTL] def Reg.TRW_PATCH_CTL : Reg := Spec.TRW_PATCH_CTL.at []
@[inherit_doc Spec.TRW_PATCH_CTL] def Fld.TRW_PATCH_CTL_INSTALL : Fld := ⟨Reg.TRW_PATCH_CTL, 31, 31⟩
@[inherit_doc Spec.TRW_PATCH_CTL] def Fld.TRW_PATCH_CTL_CLEAR : Fld := ⟨Reg.TRW_PATCH_CTL, 30, 30⟩
@[inherit_doc Spec.TRW_PATCH_CTL] def Fld.TRW_PATCH_CTL_STAGED_ID : Fld := ⟨Reg.TRW_PATCH_CTL, 15, 0⟩
/-- TRW_PATCH_STAT (R227). -/
def Spec.TRW_PATCH_STAT : RegSpec :=
  { name := "TRW_PATCH_STAT", base := 0x83F044, dims := [], reset := fun _ => 0x0
    fields := [{ hi := 31, lo := 16, acc := .ro }, { hi := 3, lo := 1, acc := .ro }, { hi := 0, lo := 0, acc := .ro }] }
@[inherit_doc Spec.TRW_PATCH_STAT] def Reg.TRW_PATCH_STAT : Reg := Spec.TRW_PATCH_STAT.at []
@[inherit_doc Spec.TRW_PATCH_STAT] def Fld.TRW_PATCH_STAT_ACTIVE_ID : Fld := ⟨Reg.TRW_PATCH_STAT, 31, 16⟩
@[inherit_doc Spec.TRW_PATCH_STAT] def Fld.TRW_PATCH_STAT_REASON : Fld := ⟨Reg.TRW_PATCH_STAT, 3, 1⟩
@[inherit_doc Spec.TRW_PATCH_STAT] def Fld.TRW_PATCH_STAT_BUSY : Fld := ⟨Reg.TRW_PATCH_STAT, 0, 0⟩
/-- TRW_PATCH_ADDR (R227). -/
def Spec.TRW_PATCH_ADDR : RegSpec :=
  { name := "TRW_PATCH_ADDR", base := 0x83F048, dims := [], reset := fun _ => 0x0
    fields := [{ hi := 8, lo := 0, acc := .rw }] }
@[inherit_doc Spec.TRW_PATCH_ADDR] def Reg.TRW_PATCH_ADDR : Reg := Spec.TRW_PATCH_ADDR.at []
@[inherit_doc Spec.TRW_PATCH_ADDR] def Fld.TRW_PATCH_ADDR_ADDR : Fld := ⟨Reg.TRW_PATCH_ADDR, 8, 0⟩
/-- TRW_PATCH_DATA (R227). -/
def Spec.TRW_PATCH_DATA : RegSpec :=
  { name := "TRW_PATCH_DATA", base := 0x83F04C, dims := [(3, 0x4, 0)], reset := fun _ => 0x0
    fields := [{ hi := 31, lo := 0, acc := .rw }] }
@[inherit_doc Spec.TRW_PATCH_DATA] def Reg.TRW_PATCH_DATA (p : Nat) : Reg := Spec.TRW_PATCH_DATA.at [p]
/-- TRW_PATCH_MATCH (R227). -/
def Spec.TRW_PATCH_MATCH : RegSpec :=
  { name := "TRW_PATCH_MATCH", base := 0x83F080, dims := [(32, 0x4, 0)], reset := fun _ => 0x0
    fields := [{ hi := 31, lo := 0, acc := .rw }] }
@[inherit_doc Spec.TRW_PATCH_MATCH] def Reg.TRW_PATCH_MATCH (p : Nat) : Reg := Spec.TRW_PATCH_MATCH.at [p]
/-- FLE_POL_CMD (R253). -/
def Spec.FLE_POL_CMD : RegSpec :=
  { name := "FLE_POL_CMD", base := 0x704000, dims := [], reset := fun _ => 0x0
    fields := [{ hi := 31, lo := 31, acc := .wo }, { hi := 30, lo := 30, acc := .rw }, { hi := 16, lo := 0, acc := .rw }] }
@[inherit_doc Spec.FLE_POL_CMD] def Reg.FLE_POL_CMD : Reg := Spec.FLE_POL_CMD.at []
@[inherit_doc Spec.FLE_POL_CMD] def Fld.FLE_POL_CMD_GO : Fld := ⟨Reg.FLE_POL_CMD, 31, 31⟩
@[inherit_doc Spec.FLE_POL_CMD] def Fld.FLE_POL_CMD_WRITE : Fld := ⟨Reg.FLE_POL_CMD, 30, 30⟩
@[inherit_doc Spec.FLE_POL_CMD] def Fld.FLE_POL_CMD_INDEX : Fld := ⟨Reg.FLE_POL_CMD, 16, 0⟩
/-- FLE_POL_STAT (R253). -/
def Spec.FLE_POL_STAT : RegSpec :=
  { name := "FLE_POL_STAT", base := 0x704004, dims := [], reset := fun _ => 0x0
    fields := [{ hi := 2, lo := 2, acc := .w1c }, { hi := 1, lo := 1, acc := .w1c }, { hi := 0, lo := 0, acc := .ro }] }
@[inherit_doc Spec.FLE_POL_STAT] def Reg.FLE_POL_STAT : Reg := Spec.FLE_POL_STAT.at []
@[inherit_doc Spec.FLE_POL_STAT] def Fld.FLE_POL_STAT_REJECTED : Fld := ⟨Reg.FLE_POL_STAT, 2, 2⟩
@[inherit_doc Spec.FLE_POL_STAT] def Fld.FLE_POL_STAT_DONE : Fld := ⟨Reg.FLE_POL_STAT, 1, 1⟩
@[inherit_doc Spec.FLE_POL_STAT] def Fld.FLE_POL_STAT_BUSY : Fld := ⟨Reg.FLE_POL_STAT, 0, 0⟩
/-- FLE_POL_DATA_0 (R253). -/
def Spec.FLE_POL_DATA_0 : RegSpec :=
  { name := "FLE_POL_DATA_0", base := 0x704010, dims := [], reset := fun _ => 0x0
    fields := [{ hi := 31, lo := 31, acc := .rw }, { hi := 30, lo := 30, acc := .rw }, { hi := 29, lo := 29, acc := .rw }] }
@[inherit_doc Spec.FLE_POL_DATA_0] def Reg.FLE_POL_DATA_0 : Reg := Spec.FLE_POL_DATA_0.at []
@[inherit_doc Spec.FLE_POL_DATA_0] def Fld.FLE_POL_DATA_0_VALID : Fld := ⟨Reg.FLE_POL_DATA_0, 31, 31⟩
@[inherit_doc Spec.FLE_POL_DATA_0] def Fld.FLE_POL_DATA_0_MODE : Fld := ⟨Reg.FLE_POL_DATA_0, 30, 30⟩
@[inherit_doc Spec.FLE_POL_DATA_0] def Fld.FLE_POL_DATA_0_AWARE : Fld := ⟨Reg.FLE_POL_DATA_0, 29, 29⟩
/-- FLE_POL_DATA_1 (R253). -/
def Spec.FLE_POL_DATA_1 : RegSpec :=
  { name := "FLE_POL_DATA_1", base := 0x704014, dims := [], reset := fun _ => 0x0
    fields := [{ hi := 31, lo := 0, acc := .rw }] }
@[inherit_doc Spec.FLE_POL_DATA_1] def Reg.FLE_POL_DATA_1 : Reg := Spec.FLE_POL_DATA_1.at []
/-- FLE_POL_DATA_2 (R253). -/
def Spec.FLE_POL_DATA_2 : RegSpec :=
  { name := "FLE_POL_DATA_2", base := 0x704018, dims := [], reset := fun _ => 0x0
    fields := [{ hi := 31, lo := 0, acc := .rw }] }
@[inherit_doc Spec.FLE_POL_DATA_2] def Reg.FLE_POL_DATA_2 : Reg := Spec.FLE_POL_DATA_2.at []
/-- FLE_POL_DATA_3 (R253). -/
def Spec.FLE_POL_DATA_3 : RegSpec :=
  { name := "FLE_POL_DATA_3", base := 0x70401C, dims := [], reset := fun _ => 0x0
    fields := [{ hi := 23, lo := 0, acc := .rw }] }
@[inherit_doc Spec.FLE_POL_DATA_3] def Reg.FLE_POL_DATA_3 : Reg := Spec.FLE_POL_DATA_3.at []
@[inherit_doc Spec.FLE_POL_DATA_3] def Fld.FLE_POL_DATA_3_CBS : Fld := ⟨Reg.FLE_POL_DATA_3, 23, 0⟩
/-- FLE_POL_DATA_4 (R253). -/
def Spec.FLE_POL_DATA_4 : RegSpec :=
  { name := "FLE_POL_DATA_4", base := 0x704020, dims := [], reset := fun _ => 0x0
    fields := [{ hi := 23, lo := 0, acc := .rw }] }
@[inherit_doc Spec.FLE_POL_DATA_4] def Reg.FLE_POL_DATA_4 : Reg := Spec.FLE_POL_DATA_4.at []
@[inherit_doc Spec.FLE_POL_DATA_4] def Fld.FLE_POL_DATA_4_EBS_PBS : Fld := ⟨Reg.FLE_POL_DATA_4, 23, 0⟩
/-- XLB_CFG (R254). -/
def Spec.XLB_CFG : RegSpec :=
  { name := "XLB_CFG", base := 0x900000, dims := [], reset := fun _ => 0xA003C
    fields := [⟨25, 16, .rw, 0, 600⟩, ⟨11, 0, .rw, 0, 3600⟩] }
@[inherit_doc Spec.XLB_CFG] def Reg.XLB_CFG : Reg := Spec.XLB_CFG.at []
@[inherit_doc Spec.XLB_CFG] def Fld.XLB_CFG_MAP_HOLD_S : Fld := ⟨Reg.XLB_CFG, 25, 16⟩
@[inherit_doc Spec.XLB_CFG] def Fld.XLB_CFG_BLOCK_HOLD_S : Fld := ⟨Reg.XLB_CFG, 11, 0⟩
/-- XLB_MAPS (R254). -/
def Spec.XLB_MAPS : RegSpec :=
  { name := "XLB_MAPS", base := 0x900030, dims := [], reset := fun _ => 0x0
    fields := [{ hi := 24, lo := 0, acc := .ro }] }
@[inherit_doc Spec.XLB_MAPS] def Reg.XLB_MAPS : Reg := Spec.XLB_MAPS.at []
@[inherit_doc Spec.XLB_MAPS] def Fld.XLB_MAPS_COUNT : Fld := ⟨Reg.XLB_MAPS, 24, 0⟩
/-- XLB_SUBS (R254). -/
def Spec.XLB_SUBS : RegSpec :=
  { name := "XLB_SUBS", base := 0x900034, dims := [], reset := fun _ => 0x0
    fields := [{ hi := 21, lo := 0, acc := .ro }] }
@[inherit_doc Spec.XLB_SUBS] def Reg.XLB_SUBS : Reg := Spec.XLB_SUBS.at []
@[inherit_doc Spec.XLB_SUBS] def Fld.XLB_SUBS_COUNT : Fld := ⟨Reg.XLB_SUBS, 21, 0⟩
/-- XLB_NAT_ST (R254). -/
def Spec.XLB_NAT_ST : RegSpec :=
  { name := "XLB_NAT_ST", base := 0x900010, dims := [(5, 0x4, 1)], reset := fun _ => 0x0
    fields := [{ hi := 31, lo := 0, acc := .rc }] }
@[inherit_doc Spec.XLB_NAT_ST] def Reg.XLB_NAT_ST (p : Nat) : Reg := Spec.XLB_NAT_ST.at [p]
/-- XLB_LB_EMPTY (R254). -/
def Spec.XLB_LB_EMPTY : RegSpec :=
  { name := "XLB_LB_EMPTY", base := 0x900024, dims := [], reset := fun _ => 0x0
    fields := [{ hi := 31, lo := 0, acc := .rc }] }
@[inherit_doc Spec.XLB_LB_EMPTY] def Reg.XLB_LB_EMPTY : Reg := Spec.XLB_LB_EMPTY.at []
/-- XLB_REF_UNDER (R254). -/
def Spec.XLB_REF_UNDER : RegSpec :=
  { name := "XLB_REF_UNDER", base := 0x900028, dims := [], reset := fun _ => 0x0
    fields := [{ hi := 31, lo := 0, acc := .rc }] }
@[inherit_doc Spec.XLB_REF_UNDER] def Reg.XLB_REF_UNDER : Reg := Spec.XLB_REF_UNDER.at []
/-- XLB_POOL_EXH (R254). -/
def Spec.XLB_POOL_EXH : RegSpec :=
  { name := "XLB_POOL_EXH", base := 0x903000, dims := [(256, 0x4, 0)], reset := fun _ => 0x0
    fields := [{ hi := 31, lo := 0, acc := .rc }] }
@[inherit_doc Spec.XLB_POOL_EXH] def Reg.XLB_POOL_EXH (p : Nat) : Reg := Spec.XLB_POOL_EXH.at [p]
/-- XLB_POOL_CFG (R255). -/
def Spec.XLB_POOL_CFG : RegSpec :=
  { name := "XLB_POOL_CFG", base := 0x901000, dims := [(256, 0x10, 0)], reset := fun _ => 0x5A0102
    fields := [{ hi := 31, lo := 31, acc := .rw }, ⟨22, 16, .rw, 1, 100⟩, ⟨10, 8, .rw, 1, 4⟩, { hi := 1, lo := 0, acc := .rw }] }
@[inherit_doc Spec.XLB_POOL_CFG] def Reg.XLB_POOL_CFG (p : Nat) : Reg := Spec.XLB_POOL_CFG.at [p]
@[inherit_doc Spec.XLB_POOL_CFG] def Fld.XLB_POOL_CFG_EN (p : Nat) : Fld := ⟨Reg.XLB_POOL_CFG p, 31, 31⟩
@[inherit_doc Spec.XLB_POOL_CFG] def Fld.XLB_POOL_CFG_HIGH_PCT (p : Nat) : Fld := ⟨Reg.XLB_POOL_CFG p, 22, 16⟩
@[inherit_doc Spec.XLB_POOL_CFG] def Fld.XLB_POOL_CFG_BLOCKS_MAX (p : Nat) : Fld := ⟨Reg.XLB_POOL_CFG p, 10, 8⟩
@[inherit_doc Spec.XLB_POOL_CFG] def Fld.XLB_POOL_CFG_BLOCK (p : Nat) : Fld := ⟨Reg.XLB_POOL_CFG p, 1, 0⟩
/-- XLB_POOL_ADDR (R255). -/
def Spec.XLB_POOL_ADDR : RegSpec :=
  { name := "XLB_POOL_ADDR", base := 0x901004, dims := [(256, 0x10, 0)], reset := fun _ => 0x0
    fields := [{ hi := 28, lo := 16, acc := .rw }, { hi := 13, lo := 0, acc := .rw }] }
@[inherit_doc Spec.XLB_POOL_ADDR] def Reg.XLB_POOL_ADDR (p : Nat) : Reg := Spec.XLB_POOL_ADDR.at [p]
@[inherit_doc Spec.XLB_POOL_ADDR] def Fld.XLB_POOL_ADDR_FIRST (p : Nat) : Fld := ⟨Reg.XLB_POOL_ADDR p, 28, 16⟩
@[inherit_doc Spec.XLB_POOL_ADDR] def Fld.XLB_POOL_ADDR_COUNT (p : Nat) : Fld := ⟨Reg.XLB_POOL_ADDR p, 13, 0⟩
/-- XLB_POOL_PORTS (R255). -/
def Spec.XLB_POOL_PORTS : RegSpec :=
  { name := "XLB_POOL_PORTS", base := 0x901008, dims := [(256, 0x10, 0)], reset := fun _ => 0x400FFFF
    fields := [{ hi := 31, lo := 16, acc := .rw }, { hi := 15, lo := 0, acc := .rw }] }
@[inherit_doc Spec.XLB_POOL_PORTS] def Reg.XLB_POOL_PORTS (p : Nat) : Reg := Spec.XLB_POOL_PORTS.at [p]
@[inherit_doc Spec.XLB_POOL_PORTS] def Fld.XLB_POOL_PORTS_PORT_LO (p : Nat) : Fld := ⟨Reg.XLB_POOL_PORTS p, 31, 16⟩
@[inherit_doc Spec.XLB_POOL_PORTS] def Fld.XLB_POOL_PORTS_PORT_HI (p : Nat) : Fld := ⟨Reg.XLB_POOL_PORTS p, 15, 0⟩
/-- XLB_POOL_USE (R255). -/
def Spec.XLB_POOL_USE : RegSpec :=
  { name := "XLB_POOL_USE", base := 0x90100C, dims := [(256, 0x10, 0)], reset := fun _ => 0x0
    fields := [{ hi := 23, lo := 0, acc := .ro }] }
@[inherit_doc Spec.XLB_POOL_USE] def Reg.XLB_POOL_USE (p : Nat) : Reg := Spec.XLB_POOL_USE.at [p]
@[inherit_doc Spec.XLB_POOL_USE] def Fld.XLB_POOL_USE_BLOCKS (p : Nat) : Fld := ⟨Reg.XLB_POOL_USE p, 23, 0⟩
/-- XLB_LB_CMD (R256). -/
def Spec.XLB_LB_CMD : RegSpec :=
  { name := "XLB_LB_CMD", base := 0x904000, dims := [], reset := fun _ => 0x0
    fields := [{ hi := 31, lo := 31, acc := .wo }, { hi := 30, lo := 28, acc := .rw }, { hi := 27, lo := 26, acc := .rw }, { hi := 23, lo := 12, acc := .rw }, { hi := 11, lo := 0, acc := .rw }] }
@[inherit_doc Spec.XLB_LB_CMD] def Reg.XLB_LB_CMD : Reg := Spec.XLB_LB_CMD.at []
@[inherit_doc Spec.XLB_LB_CMD] def Fld.XLB_LB_CMD_GO : Fld := ⟨Reg.XLB_LB_CMD, 31, 31⟩
@[inherit_doc Spec.XLB_LB_CMD] def Fld.XLB_LB_CMD_OP : Fld := ⟨Reg.XLB_LB_CMD, 30, 28⟩
@[inherit_doc Spec.XLB_LB_CMD] def Fld.XLB_LB_CMD_TARGET : Fld := ⟨Reg.XLB_LB_CMD, 27, 26⟩
@[inherit_doc Spec.XLB_LB_CMD] def Fld.XLB_LB_CMD_GROUP : Fld := ⟨Reg.XLB_LB_CMD, 23, 12⟩
@[inherit_doc Spec.XLB_LB_CMD] def Fld.XLB_LB_CMD_INDEX : Fld := ⟨Reg.XLB_LB_CMD, 11, 0⟩
/-- XLB_LB_STAT (R256). -/
def Spec.XLB_LB_STAT : RegSpec :=
  { name := "XLB_LB_STAT", base := 0x904004, dims := [], reset := fun _ => 0x0
    fields := [{ hi := 7, lo := 4, acc := .ro }, { hi := 2, lo := 2, acc := .w1c }, { hi := 1, lo := 1, acc := .w1c }, { hi := 0, lo := 0, acc := .ro }] }
@[inherit_doc Spec.XLB_LB_STAT] def Reg.XLB_LB_STAT : Reg := Spec.XLB_LB_STAT.at []
@[inherit_doc Spec.XLB_LB_STAT] def Fld.XLB_LB_STAT_REASON : Fld := ⟨Reg.XLB_LB_STAT, 7, 4⟩
@[inherit_doc Spec.XLB_LB_STAT] def Fld.XLB_LB_STAT_REJECTED : Fld := ⟨Reg.XLB_LB_STAT, 2, 2⟩
@[inherit_doc Spec.XLB_LB_STAT] def Fld.XLB_LB_STAT_DONE : Fld := ⟨Reg.XLB_LB_STAT, 1, 1⟩
@[inherit_doc Spec.XLB_LB_STAT] def Fld.XLB_LB_STAT_BUSY : Fld := ⟨Reg.XLB_LB_STAT, 0, 0⟩
/-- XLB_MAP_CMD (R257). -/
def Spec.XLB_MAP_CMD : RegSpec :=
  { name := "XLB_MAP_CMD", base := 0x905000, dims := [], reset := fun _ => 0x0
    fields := [{ hi := 31, lo := 31, acc := .wo }, { hi := 30, lo := 30, acc := .rw }, { hi := 29, lo := 29, acc := .ro }, { hi := 28, lo := 16, acc := .rw }, { hi := 15, lo := 0, acc := .rw }] }
@[inherit_doc Spec.XLB_MAP_CMD] def Reg.XLB_MAP_CMD : Reg := Spec.XLB_MAP_CMD.at []
@[inherit_doc Spec.XLB_MAP_CMD] def Fld.XLB_MAP_CMD_GO : Fld := ⟨Reg.XLB_MAP_CMD, 31, 31⟩
@[inherit_doc Spec.XLB_MAP_CMD] def Fld.XLB_MAP_CMD_FREE : Fld := ⟨Reg.XLB_MAP_CMD, 30, 30⟩
@[inherit_doc Spec.XLB_MAP_CMD] def Fld.XLB_MAP_CMD_FOUND : Fld := ⟨Reg.XLB_MAP_CMD, 29, 29⟩
@[inherit_doc Spec.XLB_MAP_CMD] def Fld.XLB_MAP_CMD_ADDR : Fld := ⟨Reg.XLB_MAP_CMD, 28, 16⟩
@[inherit_doc Spec.XLB_MAP_CMD] def Fld.XLB_MAP_CMD_PORT : Fld := ⟨Reg.XLB_MAP_CMD, 15, 0⟩
/-- FWD_PORT_L2 (R287). -/
def Spec.FWD_PORT_L2 : RegSpec :=
  { name := "FWD_PORT_L2", base := 0xA00000, dims := [(67, 0x1000, 0)], reset := fun ix => if 65 ≤ ix.headD 0 then 1 else 0x80000001
    fields := [{ hi := 31, lo := 31, acc := .rw }, { hi := 11, lo := 0, acc := .rw }] }
@[inherit_doc Spec.FWD_PORT_L2] def Reg.FWD_PORT_L2 (p : Nat) : Reg := Spec.FWD_PORT_L2.at [p]
@[inherit_doc Spec.FWD_PORT_L2] def Fld.FWD_PORT_L2_LEARN_EN (p : Nat) : Fld := ⟨Reg.FWD_PORT_L2 p, 31, 31⟩
@[inherit_doc Spec.FWD_PORT_L2] def Fld.FWD_PORT_L2_PVID (p : Nat) : Fld := ⟨Reg.FWD_PORT_L2 p, 11, 0⟩
/-- FWD_CFG (R288). -/
def Spec.FWD_CFG : RegSpec :=
  { name := "FWD_CFG", base := 0xA80000, dims := [], reset := fun _ => 0x12C
    fields := [{ hi := 31, lo := 31, acc := .rw }, { hi := 15, lo := 0, acc := .rw }] }
@[inherit_doc Spec.FWD_CFG] def Reg.FWD_CFG : Reg := Spec.FWD_CFG.at []
@[inherit_doc Spec.FWD_CFG] def Fld.FWD_CFG_LEARN_ON_DROP : Fld := ⟨Reg.FWD_CFG, 31, 31⟩
@[inherit_doc Spec.FWD_CFG] def Fld.FWD_CFG_AGE_S : Fld := ⟨Reg.FWD_CFG, 15, 0⟩
/-- FWD_MOVE_CFG (R288). -/
def Spec.FWD_MOVE_CFG : RegSpec :=
  { name := "FWD_MOVE_CFG", base := 0xA80004, dims := [], reset := fun _ => 0x40003E8
    fields := [⟨31, 24, .rw, 1, 255⟩, ⟨15, 0, .rw, 1, 60000⟩] }
@[inherit_doc Spec.FWD_MOVE_CFG] def Reg.FWD_MOVE_CFG : Reg := Spec.FWD_MOVE_CFG.at []
@[inherit_doc Spec.FWD_MOVE_CFG] def Fld.FWD_MOVE_CFG_LIMIT : Fld := ⟨Reg.FWD_MOVE_CFG, 31, 24⟩
@[inherit_doc Spec.FWD_MOVE_CFG] def Fld.FWD_MOVE_CFG_WINDOW_MS : Fld := ⟨Reg.FWD_MOVE_CFG, 15, 0⟩
/-- FWD_PIN_CFG (R288). -/
def Spec.FWD_PIN_CFG : RegSpec :=
  { name := "FWD_PIN_CFG", base := 0xA80008, dims := [], reset := fun _ => 0xA
    fields := [⟨11, 0, .rw, 1, 3600⟩] }
@[inherit_doc Spec.FWD_PIN_CFG] def Reg.FWD_PIN_CFG : Reg := Spec.FWD_PIN_CFG.at []
@[inherit_doc Spec.FWD_PIN_CFG] def Fld.FWD_PIN_CFG_PIN_S : Fld := ⟨Reg.FWD_PIN_CFG, 11, 0⟩
/-- FWD_EPOCH_CTL (R288). -/
def Spec.FWD_EPOCH_CTL : RegSpec :=
  { name := "FWD_EPOCH_CTL", base := 0xA80010, dims := [], reset := fun _ => 0x0
    fields := [{ hi := 31, lo := 31, acc := .wo }, { hi := 30, lo := 28, acc := .rw }, { hi := 26, lo := 26, acc := .w1c }, { hi := 18, lo := 16, acc := .ro }, { hi := 11, lo := 8, acc := .ro }, { hi := 7, lo := 4, acc := .ro }, { hi := 3, lo := 0, acc := .ro }] }
@[inherit_doc Spec.FWD_EPOCH_CTL] def Reg.FWD_EPOCH_CTL : Reg := Spec.FWD_EPOCH_CTL.at []
@[inherit_doc Spec.FWD_EPOCH_CTL] def Fld.FWD_EPOCH_CTL_FLIP : Fld := ⟨Reg.FWD_EPOCH_CTL, 31, 31⟩
@[inherit_doc Spec.FWD_EPOCH_CTL] def Fld.FWD_EPOCH_CTL_TABLES : Fld := ⟨Reg.FWD_EPOCH_CTL, 30, 28⟩
@[inherit_doc Spec.FWD_EPOCH_CTL] def Fld.FWD_EPOCH_CTL_FLIP_REFUSED : Fld := ⟨Reg.FWD_EPOCH_CTL, 26, 26⟩
@[inherit_doc Spec.FWD_EPOCH_CTL] def Fld.FWD_EPOCH_CTL_OLD_LIVE : Fld := ⟨Reg.FWD_EPOCH_CTL, 18, 16⟩
@[inherit_doc Spec.FWD_EPOCH_CTL] def Fld.FWD_EPOCH_CTL_CUR_L2 : Fld := ⟨Reg.FWD_EPOCH_CTL, 11, 8⟩
@[inherit_doc Spec.FWD_EPOCH_CTL] def Fld.FWD_EPOCH_CTL_CUR_V4 : Fld := ⟨Reg.FWD_EPOCH_CTL, 7, 4⟩
@[inherit_doc Spec.FWD_EPOCH_CTL] def Fld.FWD_EPOCH_CTL_CUR_V6 : Fld := ⟨Reg.FWD_EPOCH_CTL, 3, 0⟩
/-- FWD_OLD_REFS (R288). -/
def Spec.FWD_OLD_REFS : RegSpec :=
  { name := "FWD_OLD_REFS", base := 0xA80014, dims := [(3, 0x4, 0)], reset := fun _ => 0x0
    fields := [{ hi := 18, lo := 0, acc := .ro }] }
@[inherit_doc Spec.FWD_OLD_REFS] def Reg.FWD_OLD_REFS (p : Nat) : Reg := Spec.FWD_OLD_REFS.at [p]
@[inherit_doc Spec.FWD_OLD_REFS] def Fld.FWD_OLD_REFS_REFS (p : Nat) : Fld := ⟨Reg.FWD_OLD_REFS p, 18, 0⟩
/-- FWD_CMD (R289). -/
def Spec.FWD_CMD : RegSpec :=
  { name := "FWD_CMD", base := 0xA80020, dims := [], reset := fun _ => 0x0
    fields := [{ hi := 31, lo := 31, acc := .wo }, { hi := 30, lo := 28, acc := .rw }, { hi := 27, lo := 25, acc := .rw }, { hi := 24, lo := 23, acc := .rw }, { hi := 20, lo := 0, acc := .rw }] }
@[inherit_doc Spec.FWD_CMD] def Reg.FWD_CMD : Reg := Spec.FWD_CMD.at []
@[inherit_doc Spec.FWD_CMD] def Fld.FWD_CMD_GO : Fld := ⟨Reg.FWD_CMD, 31, 31⟩
@[inherit_doc Spec.FWD_CMD] def Fld.FWD_CMD_OP : Fld := ⟨Reg.FWD_CMD, 30, 28⟩
@[inherit_doc Spec.FWD_CMD] def Fld.FWD_CMD_TABLE : Fld := ⟨Reg.FWD_CMD, 27, 25⟩
@[inherit_doc Spec.FWD_CMD] def Fld.FWD_CMD_BANK : Fld := ⟨Reg.FWD_CMD, 24, 23⟩
@[inherit_doc Spec.FWD_CMD] def Fld.FWD_CMD_INDEX : Fld := ⟨Reg.FWD_CMD, 20, 0⟩
/-- FWD_CMD_STAT (R289). -/
def Spec.FWD_CMD_STAT : RegSpec :=
  { name := "FWD_CMD_STAT", base := 0xA80024, dims := [], reset := fun _ => 0x0
    fields := [{ hi := 7, lo := 4, acc := .ro }, { hi := 1, lo := 1, acc := .w1c }, { hi := 0, lo := 0, acc := .ro }] }
@[inherit_doc Spec.FWD_CMD_STAT] def Reg.FWD_CMD_STAT : Reg := Spec.FWD_CMD_STAT.at []
@[inherit_doc Spec.FWD_CMD_STAT] def Fld.FWD_CMD_STAT_STATUS : Fld := ⟨Reg.FWD_CMD_STAT, 7, 4⟩
@[inherit_doc Spec.FWD_CMD_STAT] def Fld.FWD_CMD_STAT_DONE : Fld := ⟨Reg.FWD_CMD_STAT, 1, 1⟩
@[inherit_doc Spec.FWD_CMD_STAT] def Fld.FWD_CMD_STAT_BUSY : Fld := ⟨Reg.FWD_CMD_STAT, 0, 0⟩
/-- FWD_CMD_RES (R289). -/
def Spec.FWD_CMD_RES : RegSpec :=
  { name := "FWD_CMD_RES", base := 0xA80028, dims := [], reset := fun _ => 0x0
    fields := [{ hi := 31, lo := 31, acc := .ro }, { hi := 20, lo := 0, acc := .ro }] }
@[inherit_doc Spec.FWD_CMD_RES] def Reg.FWD_CMD_RES : Reg := Spec.FWD_CMD_RES.at []
@[inherit_doc Spec.FWD_CMD_RES] def Fld.FWD_CMD_RES_FOUND : Fld := ⟨Reg.FWD_CMD_RES, 31, 31⟩
@[inherit_doc Spec.FWD_CMD_RES] def Fld.FWD_CMD_RES_SLOT : Fld := ⟨Reg.FWD_CMD_RES, 20, 0⟩
/-- FWD_LEARNED (R290). -/
def Spec.FWD_LEARNED : RegSpec :=
  { name := "FWD_LEARNED", base := 0xA80080, dims := [], reset := fun _ => 0x0
    fields := [{ hi := 31, lo := 0, acc := .rc }] }
@[inherit_doc Spec.FWD_LEARNED] def Reg.FWD_LEARNED : Reg := Spec.FWD_LEARNED.at []
/-- FWD_LEARN_DROP (R290). -/
def Spec.FWD_LEARN_DROP : RegSpec :=
  { name := "FWD_LEARN_DROP", base := 0xA80084, dims := [], reset := fun _ => 0x0
    fields := [{ hi := 31, lo := 0, acc := .rc }] }
@[inherit_doc Spec.FWD_LEARN_DROP] def Reg.FWD_LEARN_DROP : Reg := Spec.FWD_LEARN_DROP.at []
/-- FWD_LEARN_FULL (R290). -/
def Spec.FWD_LEARN_FULL : RegSpec :=
  { name := "FWD_LEARN_FULL", base := 0xA80088, dims := [], reset := fun _ => 0x0
    fields := [{ hi := 31, lo := 0, acc := .rc }] }
@[inherit_doc Spec.FWD_LEARN_FULL] def Reg.FWD_LEARN_FULL : Reg := Spec.FWD_LEARN_FULL.at []
/-- FWD_MOVES (R290). -/
def Spec.FWD_MOVES : RegSpec :=
  { name := "FWD_MOVES", base := 0xA8008C, dims := [], reset := fun _ => 0x0
    fields := [{ hi := 31, lo := 0, acc := .rc }] }
@[inherit_doc Spec.FWD_MOVES] def Reg.FWD_MOVES : Reg := Spec.FWD_MOVES.at []
/-- FWD_MOVE_BLOCKED (R290). -/
def Spec.FWD_MOVE_BLOCKED : RegSpec :=
  { name := "FWD_MOVE_BLOCKED", base := 0xA80090, dims := [], reset := fun _ => 0x0
    fields := [{ hi := 31, lo := 0, acc := .rc }] }
@[inherit_doc Spec.FWD_MOVE_BLOCKED] def Reg.FWD_MOVE_BLOCKED : Reg := Spec.FWD_MOVE_BLOCKED.at []
/-- FWD_STATIC_CONFLICT (R290). -/
def Spec.FWD_STATIC_CONFLICT : RegSpec :=
  { name := "FWD_STATIC_CONFLICT", base := 0xA80094, dims := [], reset := fun _ => 0x0
    fields := [{ hi := 31, lo := 0, acc := .rc }] }
@[inherit_doc Spec.FWD_STATIC_CONFLICT] def Reg.FWD_STATIC_CONFLICT : Reg := Spec.FWD_STATIC_CONFLICT.at []
/-- FWD_AGED (R290). -/
def Spec.FWD_AGED : RegSpec :=
  { name := "FWD_AGED", base := 0xA80098, dims := [], reset := fun _ => 0x0
    fields := [{ hi := 31, lo := 0, acc := .rc }] }
@[inherit_doc Spec.FWD_AGED] def Reg.FWD_AGED : Reg := Spec.FWD_AGED.at []
/-- FWD_FLUSHED (R290). -/
def Spec.FWD_FLUSHED : RegSpec :=
  { name := "FWD_FLUSHED", base := 0xA8009C, dims := [], reset := fun _ => 0x0
    fields := [{ hi := 31, lo := 0, acc := .rc }] }
@[inherit_doc Spec.FWD_FLUSHED] def Reg.FWD_FLUSHED : Reg := Spec.FWD_FLUSHED.at []
/-- FWD_TBL_LOST (R290). -/
def Spec.FWD_TBL_LOST : RegSpec :=
  { name := "FWD_TBL_LOST", base := 0xA800A0, dims := [], reset := fun _ => 0x0
    fields := [{ hi := 31, lo := 0, acc := .rc }] }
@[inherit_doc Spec.FWD_TBL_LOST] def Reg.FWD_TBL_LOST : Reg := Spec.FWD_TBL_LOST.at []
/-- BUF_FL (R323). -/
def Spec.BUF_FL : RegSpec :=
  { name := "BUF_FL", base := 0xB00000, dims := [(4, 0x40000, 0), (8, 0x4, 0)], reset := fun _ => 0x2000
    fields := [{ hi := 31, lo := 31, acc := .ro }, { hi := 13, lo := 0, acc := .ro }] }
@[inherit_doc Spec.BUF_FL] def Reg.BUF_FL (p i : Nat) : Reg := Spec.BUF_FL.at [p, i]
@[inherit_doc Spec.BUF_FL] def Fld.BUF_FL_WALKING (p i : Nat) : Fld := ⟨Reg.BUF_FL p i, 31, 31⟩
@[inherit_doc Spec.BUF_FL] def Fld.BUF_FL_COUNT (p i : Nat) : Fld := ⟨Reg.BUF_FL p i, 13, 0⟩
/-- BUF_CFG (R324). -/
def Spec.BUF_CFG : RegSpec :=
  { name := "BUF_CFG", base := 0xB10000, dims := [], reset := fun _ => 0x800003E8
    fields := [{ hi := 31, lo := 31, acc := .rw }, ⟨13, 0, .rw, 100, 10000⟩] }
@[inherit_doc Spec.BUF_CFG] def Reg.BUF_CFG : Reg := Spec.BUF_CFG.at []
@[inherit_doc Spec.BUF_CFG] def Fld.BUF_CFG_COMPOST_EN : Fld := ⟨Reg.BUF_CFG, 31, 31⟩
@[inherit_doc Spec.BUF_CFG] def Fld.BUF_CFG_LEAK_MS : Fld := ⟨Reg.BUF_CFG, 13, 0⟩
/-- BUF_RET (R324). -/
def Spec.BUF_RET : RegSpec :=
  { name := "BUF_RET", base := 0xB10004, dims := [], reset := fun _ => 0x1000
    fields := [{ hi := 17, lo := 0, acc := .rw }] }
@[inherit_doc Spec.BUF_RET] def Reg.BUF_RET : Reg := Spec.BUF_RET.at []
@[inherit_doc Spec.BUF_RET] def Fld.BUF_RET_RET_CELLS : Fld := ⟨Reg.BUF_RET, 17, 0⟩
/-- BUF_PORT_PRI (R324). -/
def Spec.BUF_PORT_PRI : RegSpec :=
  { name := "BUF_PORT_PRI", base := 0xB10400, dims := [(65, 0x4, 0)], reset := fun _ => 0x0
    fields := [{ hi := 2, lo := 0, acc := .rw }] }
@[inherit_doc Spec.BUF_PORT_PRI] def Reg.BUF_PORT_PRI (p : Nat) : Reg := Spec.BUF_PORT_PRI.at [p]
@[inherit_doc Spec.BUF_PORT_PRI] def Fld.BUF_PORT_PRI_DEF_PRI (p : Nat) : Fld := ⟨Reg.BUF_PORT_PRI p, 2, 0⟩
/-- BUF_SPILL_CFG (R324). -/
def Spec.BUF_SPILL_CFG : RegSpec :=
  { name := "BUF_SPILL_CFG", base := 0xB10140, dims := [], reset := fun _ => 0x800
    fields := [{ hi := 31, lo := 31, acc := .rw }, { hi := 30, lo := 30, acc := .rw }, { hi := 15, lo := 0, acc := .rw }] }
@[inherit_doc Spec.BUF_SPILL_CFG] def Reg.BUF_SPILL_CFG : Reg := Spec.BUF_SPILL_CFG.at []
@[inherit_doc Spec.BUF_SPILL_CFG] def Fld.BUF_SPILL_CFG_EN : Fld := ⟨Reg.BUF_SPILL_CFG, 31, 31⟩
@[inherit_doc Spec.BUF_SPILL_CFG] def Fld.BUF_SPILL_CFG_EXT : Fld := ⟨Reg.BUF_SPILL_CFG, 30, 30⟩
@[inherit_doc Spec.BUF_SPILL_CFG] def Fld.BUF_SPILL_CFG_KEEP_CELLS : Fld := ⟨Reg.BUF_SPILL_CFG, 15, 0⟩
/-- BUF_SPILL_FETCH (R324). -/
def Spec.BUF_SPILL_FETCH : RegSpec :=
  { name := "BUF_SPILL_FETCH", base := 0xB10144, dims := [], reset := fun _ => 0x400
    fields := [{ hi := 15, lo := 0, acc := .rw }] }
@[inherit_doc Spec.BUF_SPILL_FETCH] def Reg.BUF_SPILL_FETCH : Reg := Spec.BUF_SPILL_FETCH.at []
@[inherit_doc Spec.BUF_SPILL_FETCH] def Fld.BUF_SPILL_FETCH_FETCH_CELLS : Fld := ⟨Reg.BUF_SPILL_FETCH, 15, 0⟩
/-- BUF_SPILL_STAT (R324). -/
def Spec.BUF_SPILL_STAT : RegSpec :=
  { name := "BUF_SPILL_STAT", base := 0xB10148, dims := [], reset := fun _ => 0x0
    fields := [{ hi := 22, lo := 0, acc := .ro }] }
@[inherit_doc Spec.BUF_SPILL_STAT] def Reg.BUF_SPILL_STAT : Reg := Spec.BUF_SPILL_STAT.at []
@[inherit_doc Spec.BUF_SPILL_STAT] def Fld.BUF_SPILL_STAT_PAGES : Fld := ⟨Reg.BUF_SPILL_STAT, 22, 0⟩
/-- BUF_SPILL_RUNS (R324). -/
def Spec.BUF_SPILL_RUNS : RegSpec :=
  { name := "BUF_SPILL_RUNS", base := 0xB1014C, dims := [], reset := fun _ => 0x0
    fields := [{ hi := 17, lo := 0, acc := .ro }] }
@[inherit_doc Spec.BUF_SPILL_RUNS] def Reg.BUF_SPILL_RUNS : Reg := Spec.BUF_SPILL_RUNS.at []
@[inherit_doc Spec.BUF_SPILL_RUNS] def Fld.BUF_SPILL_RUNS_RUNS : Fld := ⟨Reg.BUF_SPILL_RUNS, 17, 0⟩
/-- BUF_OWN_CMD (R325). -/
def Spec.BUF_OWN_CMD : RegSpec :=
  { name := "BUF_OWN_CMD", base := 0xB10100, dims := [], reset := fun _ => 0x0
    fields := [{ hi := 31, lo := 31, acc := .wo }, { hi := 30, lo := 30, acc := .rw }, { hi := 10, lo := 0, acc := .rw }] }
@[inherit_doc Spec.BUF_OWN_CMD] def Reg.BUF_OWN_CMD : Reg := Spec.BUF_OWN_CMD.at []
@[inherit_doc Spec.BUF_OWN_CMD] def Fld.BUF_OWN_CMD_GO : Fld := ⟨Reg.BUF_OWN_CMD, 31, 31⟩
@[inherit_doc Spec.BUF_OWN_CMD] def Fld.BUF_OWN_CMD_WRITE : Fld := ⟨Reg.BUF_OWN_CMD, 30, 30⟩
@[inherit_doc Spec.BUF_OWN_CMD] def Fld.BUF_OWN_CMD_OWNER : Fld := ⟨Reg.BUF_OWN_CMD, 10, 0⟩
/-- BUF_OWN_STAT (R325). -/
def Spec.BUF_OWN_STAT : RegSpec :=
  { name := "BUF_OWN_STAT", base := 0xB10104, dims := [], reset := fun _ => 0x0
    fields := [{ hi := 7, lo := 4, acc := .ro }, { hi := 2, lo := 2, acc := .w1c }, { hi := 1, lo := 1, acc := .w1c }, { hi := 0, lo := 0, acc := .ro }] }
@[inherit_doc Spec.BUF_OWN_STAT] def Reg.BUF_OWN_STAT : Reg := Spec.BUF_OWN_STAT.at []
@[inherit_doc Spec.BUF_OWN_STAT] def Fld.BUF_OWN_STAT_REASON : Fld := ⟨Reg.BUF_OWN_STAT, 7, 4⟩
@[inherit_doc Spec.BUF_OWN_STAT] def Fld.BUF_OWN_STAT_REJECTED : Fld := ⟨Reg.BUF_OWN_STAT, 2, 2⟩
@[inherit_doc Spec.BUF_OWN_STAT] def Fld.BUF_OWN_STAT_DONE : Fld := ⟨Reg.BUF_OWN_STAT, 1, 1⟩
@[inherit_doc Spec.BUF_OWN_STAT] def Fld.BUF_OWN_STAT_BUSY : Fld := ⟨Reg.BUF_OWN_STAT, 0, 0⟩
/-- BUF_OWN_DATA_0 (R325). -/
def Spec.BUF_OWN_DATA_0 : RegSpec :=
  { name := "BUF_OWN_DATA_0", base := 0xB10110, dims := [], reset := fun _ => 0x30002B
    fields := [{ hi := 31, lo := 31, acc := .rw }, { hi := 29, lo := 29, acc := .rw }, { hi := 27, lo := 24, acc := .rw }, { hi := 22, lo := 20, acc := .rw }, { hi := 17, lo := 0, acc := .rw }] }
@[inherit_doc Spec.BUF_OWN_DATA_0] def Reg.BUF_OWN_DATA_0 : Reg := Spec.BUF_OWN_DATA_0.at []
@[inherit_doc Spec.BUF_OWN_DATA_0] def Fld.BUF_OWN_DATA_0_MIR : Fld := ⟨Reg.BUF_OWN_DATA_0, 31, 31⟩
@[inherit_doc Spec.BUF_OWN_DATA_0] def Fld.BUF_OWN_DATA_0_SPILL_EN : Fld := ⟨Reg.BUF_OWN_DATA_0, 29, 29⟩
@[inherit_doc Spec.BUF_OWN_DATA_0] def Fld.BUF_OWN_DATA_0_POOL : Fld := ⟨Reg.BUF_OWN_DATA_0, 27, 24⟩
@[inherit_doc Spec.BUF_OWN_DATA_0] def Fld.BUF_OWN_DATA_0_ALPHA : Fld := ⟨Reg.BUF_OWN_DATA_0, 22, 20⟩
@[inherit_doc Spec.BUF_OWN_DATA_0] def Fld.BUF_OWN_DATA_0_MIN : Fld := ⟨Reg.BUF_OWN_DATA_0, 17, 0⟩
/-- BUF_OWN_DATA_1 (R325). -/
def Spec.BUF_OWN_DATA_1 : RegSpec :=
  { name := "BUF_OWN_DATA_1", base := 0xB10114, dims := [], reset := fun _ => 0x0
    fields := [{ hi := 17, lo := 0, acc := .rw }] }
@[inherit_doc Spec.BUF_OWN_DATA_1] def Reg.BUF_OWN_DATA_1 : Reg := Spec.BUF_OWN_DATA_1.at []
@[inherit_doc Spec.BUF_OWN_DATA_1] def Fld.BUF_OWN_DATA_1_HDRM : Fld := ⟨Reg.BUF_OWN_DATA_1, 17, 0⟩
/-- BUF_OWN_DATA_2 (R325). -/
def Spec.BUF_OWN_DATA_2 : RegSpec :=
  { name := "BUF_OWN_DATA_2", base := 0xB10118, dims := [], reset := fun _ => 0x3FFFF
    fields := [{ hi := 21, lo := 0, acc := .rw }] }
@[inherit_doc Spec.BUF_OWN_DATA_2] def Reg.BUF_OWN_DATA_2 : Reg := Spec.BUF_OWN_DATA_2.at []
@[inherit_doc Spec.BUF_OWN_DATA_2] def Fld.BUF_OWN_DATA_2_XOFF_SPILL : Fld := ⟨Reg.BUF_OWN_DATA_2, 21, 0⟩
/-- BUF_OWN_DATA_3 (R325). -/
def Spec.BUF_OWN_DATA_3 : RegSpec :=
  { name := "BUF_OWN_DATA_3", base := 0xB1011C, dims := [], reset := fun _ => 0x3FFFF
    fields := [{ hi := 17, lo := 0, acc := .rw }] }
@[inherit_doc Spec.BUF_OWN_DATA_3] def Reg.BUF_OWN_DATA_3 : Reg := Spec.BUF_OWN_DATA_3.at []
@[inherit_doc Spec.BUF_OWN_DATA_3] def Fld.BUF_OWN_DATA_3_XON : Fld := ⟨Reg.BUF_OWN_DATA_3, 17, 0⟩
/-- BUF_OWN_DATA_4 (R325). -/
def Spec.BUF_OWN_DATA_4 : RegSpec :=
  { name := "BUF_OWN_DATA_4", base := 0xB10120, dims := [], reset := fun _ => 0x0
    fields := [{ hi := 17, lo := 0, acc := .ro }] }
@[inherit_doc Spec.BUF_OWN_DATA_4] def Reg.BUF_OWN_DATA_4 : Reg := Spec.BUF_OWN_DATA_4.at []
@[inherit_doc Spec.BUF_OWN_DATA_4] def Fld.BUF_OWN_DATA_4_USE : Fld := ⟨Reg.BUF_OWN_DATA_4, 17, 0⟩
/-- BUF_OWN_DATA_5 (R325). -/
def Spec.BUF_OWN_DATA_5 : RegSpec :=
  { name := "BUF_OWN_DATA_5", base := 0xB10124, dims := [], reset := fun _ => 0x0
    fields := [{ hi := 31, lo := 0, acc := .ro }] }
@[inherit_doc Spec.BUF_OWN_DATA_5] def Reg.BUF_OWN_DATA_5 : Reg := Spec.BUF_OWN_DATA_5.at []
/-- BUF_POOL_CFG (R326). -/
def Spec.BUF_POOL_CFG : RegSpec :=
  { name := "BUF_POOL_CFG", base := 0xB11000, dims := [(16, 0x20, 0)], reset := fun ix => (if 8 ≤ ix.headD 0 then 1 <<< 31 else 0) ||| 0x5A <<< 24 ||| (if ix.headD 0 = 0 ∨ ix.headD 0 = 8 then 0x3E000 else 0)
    fields := [{ hi := 31, lo := 31, acc := .rw }, ⟨30, 24, .rw, 1, 100⟩, { hi := 17, lo := 0, acc := .rw }] }
@[inherit_doc Spec.BUF_POOL_CFG] def Reg.BUF_POOL_CFG (p : Nat) : Reg := Spec.BUF_POOL_CFG.at [p]
@[inherit_doc Spec.BUF_POOL_CFG] def Fld.BUF_POOL_CFG_KIND (p : Nat) : Fld := ⟨Reg.BUF_POOL_CFG p, 31, 31⟩
@[inherit_doc Spec.BUF_POOL_CFG] def Fld.BUF_POOL_CFG_WARN_PCT (p : Nat) : Fld := ⟨Reg.BUF_POOL_CFG p, 30, 24⟩
@[inherit_doc Spec.BUF_POOL_CFG] def Fld.BUF_POOL_CFG_CELLS (p : Nat) : Fld := ⟨Reg.BUF_POOL_CFG p, 17, 0⟩
/-- BUF_POOL_SPON (R326). -/
def Spec.BUF_POOL_SPON : RegSpec :=
  { name := "BUF_POOL_SPON", base := 0xB11004, dims := [(16, 0x20, 0)], reset := fun _ => 0x0
    fields := [{ hi := 17, lo := 0, acc := .rw }] }
@[inherit_doc Spec.BUF_POOL_SPON] def Reg.BUF_POOL_SPON (p : Nat) : Reg := Spec.BUF_POOL_SPON.at [p]
@[inherit_doc Spec.BUF_POOL_SPON] def Fld.BUF_POOL_SPON_SPILL_ON (p : Nat) : Fld := ⟨Reg.BUF_POOL_SPON p, 17, 0⟩
/-- BUF_POOL_SPOFF (R326). -/
def Spec.BUF_POOL_SPOFF : RegSpec :=
  { name := "BUF_POOL_SPOFF", base := 0xB11008, dims := [(16, 0x20, 0)], reset := fun _ => 0x0
    fields := [{ hi := 17, lo := 0, acc := .rw }] }
@[inherit_doc Spec.BUF_POOL_SPOFF] def Reg.BUF_POOL_SPOFF (p : Nat) : Reg := Spec.BUF_POOL_SPOFF.at [p]
@[inherit_doc Spec.BUF_POOL_SPOFF] def Fld.BUF_POOL_SPOFF_SPILL_OFF (p : Nat) : Fld := ⟨Reg.BUF_POOL_SPOFF p, 17, 0⟩
/-- BUF_POOL_USE (R326). -/
def Spec.BUF_POOL_USE : RegSpec :=
  { name := "BUF_POOL_USE", base := 0xB1100C, dims := [(16, 0x20, 0)], reset := fun _ => 0x0
    fields := [{ hi := 17, lo := 0, acc := .ro }] }
@[inherit_doc Spec.BUF_POOL_USE] def Reg.BUF_POOL_USE (p : Nat) : Reg := Spec.BUF_POOL_USE.at [p]
@[inherit_doc Spec.BUF_POOL_USE] def Fld.BUF_POOL_USE_USE (p : Nat) : Fld := ⟨Reg.BUF_POOL_USE p, 17, 0⟩
/-- BUF_POOL_FREE (R326). -/
def Spec.BUF_POOL_FREE : RegSpec :=
  { name := "BUF_POOL_FREE", base := 0xB11010, dims := [(16, 0x20, 0)], reset := fun _ => 0x0
    fields := [{ hi := 17, lo := 0, acc := .ro }] }
@[inherit_doc Spec.BUF_POOL_FREE] def Reg.BUF_POOL_FREE (p : Nat) : Reg := Spec.BUF_POOL_FREE.at [p]
@[inherit_doc Spec.BUF_POOL_FREE] def Fld.BUF_POOL_FREE_F (p : Nat) : Fld := ⟨Reg.BUF_POOL_FREE p, 17, 0⟩
/-- BUF_POOL_PEAK (R326). -/
def Spec.BUF_POOL_PEAK : RegSpec :=
  { name := "BUF_POOL_PEAK", base := 0xB11014, dims := [(16, 0x20, 0)], reset := fun _ => 0x0
    fields := [{ hi := 17, lo := 0, acc := .rc }] }
@[inherit_doc Spec.BUF_POOL_PEAK] def Reg.BUF_POOL_PEAK (p : Nat) : Reg := Spec.BUF_POOL_PEAK.at [p]
@[inherit_doc Spec.BUF_POOL_PEAK] def Fld.BUF_POOL_PEAK_PEAK (p : Nat) : Fld := ⟨Reg.BUF_POOL_PEAK p, 17, 0⟩
/-- BUF_MIR_CFG (R327). -/
def Spec.BUF_MIR_CFG : RegSpec :=
  { name := "BUF_MIR_CFG", base := 0xB12000, dims := [(8, 0x10, 0)], reset := fun _ => 0x40000000
    fields := [{ hi := 31, lo := 31, acc := .rw }, { hi := 30, lo := 30, acc := .rw }, { hi := 29, lo := 29, acc := .rw }, ⟨22, 16, .rw, 0, 66⟩, { hi := 7, lo := 0, acc := .rw }] }
@[inherit_doc Spec.BUF_MIR_CFG] def Reg.BUF_MIR_CFG (p : Nat) : Reg := Spec.BUF_MIR_CFG.at [p]
@[inherit_doc Spec.BUF_MIR_CFG] def Fld.BUF_MIR_CFG_EN (p : Nat) : Fld := ⟨Reg.BUF_MIR_CFG p, 31, 31⟩
@[inherit_doc Spec.BUF_MIR_CFG] def Fld.BUF_MIR_CFG_HDR (p : Nat) : Fld := ⟨Reg.BUF_MIR_CFG p, 30, 30⟩
@[inherit_doc Spec.BUF_MIR_CFG] def Fld.BUF_MIR_CFG_TAG_EN (p : Nat) : Fld := ⟨Reg.BUF_MIR_CFG p, 29, 29⟩
@[inherit_doc Spec.BUF_MIR_CFG] def Fld.BUF_MIR_CFG_PORT (p : Nat) : Fld := ⟨Reg.BUF_MIR_CFG p, 22, 16⟩
@[inherit_doc Spec.BUF_MIR_CFG] def Fld.BUF_MIR_CFG_QUEUE (p : Nat) : Fld := ⟨Reg.BUF_MIR_CFG p, 7, 0⟩
/-- BUF_MIR_SAMPLE (R327). -/
def Spec.BUF_MIR_SAMPLE : RegSpec :=
  { name := "BUF_MIR_SAMPLE", base := 0xB12004, dims := [(8, 0x10, 0)], reset := fun _ => 0x1
    fields := [⟨23, 0, .rw, 1, 16777215⟩] }
@[inherit_doc Spec.BUF_MIR_SAMPLE] def Reg.BUF_MIR_SAMPLE (p : Nat) : Reg := Spec.BUF_MIR_SAMPLE.at [p]
@[inherit_doc Spec.BUF_MIR_SAMPLE] def Fld.BUF_MIR_SAMPLE_N (p : Nat) : Fld := ⟨Reg.BUF_MIR_SAMPLE p, 23, 0⟩
/-- BUF_MIR_TRUNC (R327). -/
def Spec.BUF_MIR_TRUNC : RegSpec :=
  { name := "BUF_MIR_TRUNC", base := 0xB12008, dims := [(8, 0x10, 0)], reset := fun _ => 0x0
    fields := [{ hi := 13, lo := 0, acc := .rw }] }
@[inherit_doc Spec.BUF_MIR_TRUNC] def Reg.BUF_MIR_TRUNC (p : Nat) : Reg := Spec.BUF_MIR_TRUNC.at [p]
@[inherit_doc Spec.BUF_MIR_TRUNC] def Fld.BUF_MIR_TRUNC_TRUNC (p : Nat) : Fld := ⟨Reg.BUF_MIR_TRUNC p, 13, 0⟩
/-- BUF_MIR_SEQ (R327). -/
def Spec.BUF_MIR_SEQ : RegSpec :=
  { name := "BUF_MIR_SEQ", base := 0xB1200C, dims := [(8, 0x10, 0)], reset := fun _ => 0x0
    fields := [{ hi := 15, lo := 0, acc := .ro }] }
@[inherit_doc Spec.BUF_MIR_SEQ] def Reg.BUF_MIR_SEQ (p : Nat) : Reg := Spec.BUF_MIR_SEQ.at [p]
@[inherit_doc Spec.BUF_MIR_SEQ] def Fld.BUF_MIR_SEQ_SEQ (p : Nat) : Fld := ⟨Reg.BUF_MIR_SEQ p, 15, 0⟩
/-- BUF_ING_DROP (R328). -/
def Spec.BUF_ING_DROP : RegSpec :=
  { name := "BUF_ING_DROP", base := 0xB10200, dims := [], reset := fun _ => 0x0
    fields := [{ hi := 31, lo := 0, acc := .rc }] }
@[inherit_doc Spec.BUF_ING_DROP] def Reg.BUF_ING_DROP : Reg := Spec.BUF_ING_DROP.at []
/-- BUF_EGR_DROP (R328). -/
def Spec.BUF_EGR_DROP : RegSpec :=
  { name := "BUF_EGR_DROP", base := 0xB10204, dims := [], reset := fun _ => 0x0
    fields := [{ hi := 31, lo := 0, acc := .rc }] }
@[inherit_doc Spec.BUF_EGR_DROP] def Reg.BUF_EGR_DROP : Reg := Spec.BUF_EGR_DROP.at []
/-- BUF_MIR_COPIES (R328). -/
def Spec.BUF_MIR_COPIES : RegSpec :=
  { name := "BUF_MIR_COPIES", base := 0xB10208, dims := [], reset := fun _ => 0x0
    fields := [{ hi := 31, lo := 0, acc := .rc }] }
@[inherit_doc Spec.BUF_MIR_COPIES] def Reg.BUF_MIR_COPIES : Reg := Spec.BUF_MIR_COPIES.at []
/-- BUF_MIR_DROP (R328). -/
def Spec.BUF_MIR_DROP : RegSpec :=
  { name := "BUF_MIR_DROP", base := 0xB1020C, dims := [], reset := fun _ => 0x0
    fields := [{ hi := 31, lo := 0, acc := .rc }] }
@[inherit_doc Spec.BUF_MIR_DROP] def Reg.BUF_MIR_DROP : Reg := Spec.BUF_MIR_DROP.at []
/-- BUF_DOUBLE_FREE (R328). -/
def Spec.BUF_DOUBLE_FREE : RegSpec :=
  { name := "BUF_DOUBLE_FREE", base := 0xB10214, dims := [], reset := fun _ => 0x0
    fields := [{ hi := 31, lo := 0, acc := .rc }] }
@[inherit_doc Spec.BUF_DOUBLE_FREE] def Reg.BUF_DOUBLE_FREE : Reg := Spec.BUF_DOUBLE_FREE.at []
/-- BUF_NONOWNER_FREE (R328). -/
def Spec.BUF_NONOWNER_FREE : RegSpec :=
  { name := "BUF_NONOWNER_FREE", base := 0xB10218, dims := [], reset := fun _ => 0x0
    fields := [{ hi := 31, lo := 0, acc := .rc }] }
@[inherit_doc Spec.BUF_NONOWNER_FREE] def Reg.BUF_NONOWNER_FREE : Reg := Spec.BUF_NONOWNER_FREE.at []
/-- BUF_LEAKED (R328). -/
def Spec.BUF_LEAKED : RegSpec :=
  { name := "BUF_LEAKED", base := 0xB1021C, dims := [], reset := fun _ => 0x0
    fields := [{ hi := 31, lo := 0, acc := .rc }] }
@[inherit_doc Spec.BUF_LEAKED] def Reg.BUF_LEAKED : Reg := Spec.BUF_LEAKED.at []
/-- BUF_FL_REBUILT (R328). -/
def Spec.BUF_FL_REBUILT : RegSpec :=
  { name := "BUF_FL_REBUILT", base := 0xB10220, dims := [], reset := fun _ => 0x0
    fields := [{ hi := 31, lo := 0, acc := .rc }] }
@[inherit_doc Spec.BUF_FL_REBUILT] def Reg.BUF_FL_REBUILT : Reg := Spec.BUF_FL_REBUILT.at []
/-- BUF_UNCORR (R328). -/
def Spec.BUF_UNCORR : RegSpec :=
  { name := "BUF_UNCORR", base := 0xB10224, dims := [], reset := fun _ => 0x0
    fields := [{ hi := 31, lo := 0, acc := .rc }] }
@[inherit_doc Spec.BUF_UNCORR] def Reg.BUF_UNCORR : Reg := Spec.BUF_UNCORR.at []
/-- BUF_CELLS_RETIRED (R328). -/
def Spec.BUF_CELLS_RETIRED : RegSpec :=
  { name := "BUF_CELLS_RETIRED", base := 0xB10228, dims := [], reset := fun _ => 0x0
    fields := [{ hi := 31, lo := 0, acc := .rc }] }
@[inherit_doc Spec.BUF_CELLS_RETIRED] def Reg.BUF_CELLS_RETIRED : Reg := Spec.BUF_CELLS_RETIRED.at []
/-- BUF_SPILL_UNCORR (R328). -/
def Spec.BUF_SPILL_UNCORR : RegSpec :=
  { name := "BUF_SPILL_UNCORR", base := 0xB1022C, dims := [], reset := fun _ => 0x0
    fields := [{ hi := 31, lo := 0, acc := .rc }] }
@[inherit_doc Spec.BUF_SPILL_UNCORR] def Reg.BUF_SPILL_UNCORR : Reg := Spec.BUF_SPILL_UNCORR.at []
/-- SCH_PORT_CFG (R357). -/
def Spec.SCH_PORT_CFG : RegSpec :=
  { name := "SCH_PORT_CFG", base := 0xC00000, dims := [(67, 0x1000, 0)], reset := fun ix => (8 * ix.headD 0) <<< 16 ||| 0x14 <<< 10 ||| 8
    fields := [{ hi := 29, lo := 16, acc := .rw }, { hi := 15, lo := 10, acc := .rw }, ⟨8, 0, .rw, 1, 256⟩] }
@[inherit_doc Spec.SCH_PORT_CFG] def Reg.SCH_PORT_CFG (p : Nat) : Reg := Spec.SCH_PORT_CFG.at [p]
@[inherit_doc Spec.SCH_PORT_CFG] def Fld.SCH_PORT_CFG_QBASE (p : Nat) : Fld := ⟨Reg.SCH_PORT_CFG p, 29, 16⟩
@[inherit_doc Spec.SCH_PORT_CFG] def Fld.SCH_PORT_CFG_OVH (p : Nat) : Fld := ⟨Reg.SCH_PORT_CFG p, 15, 10⟩
@[inherit_doc Spec.SCH_PORT_CFG] def Fld.SCH_PORT_CFG_QCOUNT (p : Nat) : Fld := ⟨Reg.SCH_PORT_CFG p, 8, 0⟩
/-- SCH_PORT_SHAPE (R358). -/
def Spec.SCH_PORT_SHAPE : RegSpec :=
  { name := "SCH_PORT_SHAPE", base := 0xC00004, dims := [(67, 0x1000, 0)], reset := fun _ => 0x0
    fields := [{ hi := 31, lo := 31, acc := .rw }, { hi := 21, lo := 0, acc := .rw }] }
@[inherit_doc Spec.SCH_PORT_SHAPE] def Reg.SCH_PORT_SHAPE (p : Nat) : Reg := Spec.SCH_PORT_SHAPE.at [p]
@[inherit_doc Spec.SCH_PORT_SHAPE] def Fld.SCH_PORT_SHAPE_EN (p : Nat) : Fld := ⟨Reg.SCH_PORT_SHAPE p, 31, 31⟩
@[inherit_doc Spec.SCH_PORT_SHAPE] def Fld.SCH_PORT_SHAPE_INC (p : Nat) : Fld := ⟨Reg.SCH_PORT_SHAPE p, 21, 0⟩
/-- SCH_PORT_BURST (R358). -/
def Spec.SCH_PORT_BURST : RegSpec :=
  { name := "SCH_PORT_BURST", base := 0xC00008, dims := [(67, 0x1000, 0)], reset := fun _ => 0x2800
    fields := [⟨23, 0, .rw, 1, 16777215⟩] }
@[inherit_doc Spec.SCH_PORT_BURST] def Reg.SCH_PORT_BURST (p : Nat) : Reg := Spec.SCH_PORT_BURST.at [p]
@[inherit_doc Spec.SCH_PORT_BURST] def Fld.SCH_PORT_BURST_BURST (p : Nat) : Fld := ⟨Reg.SCH_PORT_BURST p, 23, 0⟩
/-- SCH_SDU (R358). -/
def Spec.SCH_SDU : RegSpec :=
  { name := "SCH_SDU", base := 0xC00010, dims := [(67, 0x1000, 0), (4, 0x4, 0)], reset := fun _ => 0x28002800
    fields := [⟨29, 16, .rw, 64, 10240⟩, ⟨13, 0, .rw, 64, 10240⟩] }
@[inherit_doc Spec.SCH_SDU] def Reg.SCH_SDU (p i : Nat) : Reg := Spec.SCH_SDU.at [p, i]
@[inherit_doc Spec.SCH_SDU] def Fld.SCH_SDU_SDU_HI (p i : Nat) : Fld := ⟨Reg.SCH_SDU p i, 29, 16⟩
@[inherit_doc Spec.SCH_SDU] def Fld.SCH_SDU_SDU_LO (p i : Nat) : Fld := ⟨Reg.SCH_SDU p i, 13, 0⟩
/-- SCH_NOQ_DROP (R359). -/
def Spec.SCH_NOQ_DROP : RegSpec :=
  { name := "SCH_NOQ_DROP", base := 0xC00100, dims := [(67, 0x1000, 0)], reset := fun _ => 0x0
    fields := [{ hi := 31, lo := 0, acc := .rc }] }
@[inherit_doc Spec.SCH_NOQ_DROP] def Reg.SCH_NOQ_DROP (p : Nat) : Reg := Spec.SCH_NOQ_DROP.at [p]
/-- SCH_SDU_DROP (R359). -/
def Spec.SCH_SDU_DROP : RegSpec :=
  { name := "SCH_SDU_DROP", base := 0xC00104, dims := [(67, 0x1000, 0)], reset := fun _ => 0x0
    fields := [{ hi := 31, lo := 0, acc := .rc }] }
@[inherit_doc Spec.SCH_SDU_DROP] def Reg.SCH_SDU_DROP (p : Nat) : Reg := Spec.SCH_SDU_DROP.at [p]
/-- SCH_QFULL_DROP (R359). -/
def Spec.SCH_QFULL_DROP : RegSpec :=
  { name := "SCH_QFULL_DROP", base := 0xC00108, dims := [(67, 0x1000, 0)], reset := fun _ => 0x0
    fields := [{ hi := 31, lo := 0, acc := .rc }] }
@[inherit_doc Spec.SCH_QFULL_DROP] def Reg.SCH_QFULL_DROP (p : Nat) : Reg := Spec.SCH_QFULL_DROP.at [p]
/-- SCH_AGE_DROP (R359). -/
def Spec.SCH_AGE_DROP : RegSpec :=
  { name := "SCH_AGE_DROP", base := 0xC0010C, dims := [(67, 0x1000, 0)], reset := fun _ => 0x0
    fields := [{ hi := 31, lo := 0, acc := .rc }] }
@[inherit_doc Spec.SCH_AGE_DROP] def Reg.SCH_AGE_DROP (p : Nat) : Reg := Spec.SCH_AGE_DROP.at [p]
/-- SCH_Q_CMD (R360). -/
def Spec.SCH_Q_CMD : RegSpec :=
  { name := "SCH_Q_CMD", base := 0xC80000, dims := [], reset := fun _ => 0x0
    fields := [{ hi := 31, lo := 31, acc := .wo }, { hi := 30, lo := 30, acc := .rw }, { hi := 13, lo := 0, acc := .rw }] }
@[inherit_doc Spec.SCH_Q_CMD] def Reg.SCH_Q_CMD : Reg := Spec.SCH_Q_CMD.at []
@[inherit_doc Spec.SCH_Q_CMD] def Fld.SCH_Q_CMD_GO : Fld := ⟨Reg.SCH_Q_CMD, 31, 31⟩
@[inherit_doc Spec.SCH_Q_CMD] def Fld.SCH_Q_CMD_WRITE : Fld := ⟨Reg.SCH_Q_CMD, 30, 30⟩
@[inherit_doc Spec.SCH_Q_CMD] def Fld.SCH_Q_CMD_QUEUE : Fld := ⟨Reg.SCH_Q_CMD, 13, 0⟩
/-- SCH_N_CMD (R360). -/
def Spec.SCH_N_CMD : RegSpec :=
  { name := "SCH_N_CMD", base := 0xC80040, dims := [], reset := fun _ => 0x0
    fields := [{ hi := 31, lo := 31, acc := .wo }, { hi := 30, lo := 30, acc := .rw }, { hi := 10, lo := 0, acc := .rw }] }
@[inherit_doc Spec.SCH_N_CMD] def Reg.SCH_N_CMD : Reg := Spec.SCH_N_CMD.at []
@[inherit_doc Spec.SCH_N_CMD] def Fld.SCH_N_CMD_GO : Fld := ⟨Reg.SCH_N_CMD, 31, 31⟩
@[inherit_doc Spec.SCH_N_CMD] def Fld.SCH_N_CMD_WRITE : Fld := ⟨Reg.SCH_N_CMD, 30, 30⟩
@[inherit_doc Spec.SCH_N_CMD] def Fld.SCH_N_CMD_NODE : Fld := ⟨Reg.SCH_N_CMD, 10, 0⟩
/-- SCH_Q_STAT (R360). -/
def Spec.SCH_Q_STAT : RegSpec :=
  { name := "SCH_Q_STAT", base := 0xC80004, dims := [], reset := fun _ => 0x0
    fields := [{ hi := 7, lo := 4, acc := .ro }, { hi := 2, lo := 2, acc := .w1c }, { hi := 1, lo := 1, acc := .w1c }, { hi := 0, lo := 0, acc := .ro }] }
@[inherit_doc Spec.SCH_Q_STAT] def Reg.SCH_Q_STAT : Reg := Spec.SCH_Q_STAT.at []
@[inherit_doc Spec.SCH_Q_STAT] def Fld.SCH_Q_STAT_REASON : Fld := ⟨Reg.SCH_Q_STAT, 7, 4⟩
@[inherit_doc Spec.SCH_Q_STAT] def Fld.SCH_Q_STAT_REJECTED : Fld := ⟨Reg.SCH_Q_STAT, 2, 2⟩
@[inherit_doc Spec.SCH_Q_STAT] def Fld.SCH_Q_STAT_DONE : Fld := ⟨Reg.SCH_Q_STAT, 1, 1⟩
@[inherit_doc Spec.SCH_Q_STAT] def Fld.SCH_Q_STAT_BUSY : Fld := ⟨Reg.SCH_Q_STAT, 0, 0⟩
/-- SCH_N_STAT (R360). -/
def Spec.SCH_N_STAT : RegSpec :=
  { name := "SCH_N_STAT", base := 0xC80044, dims := [], reset := fun _ => 0x0
    fields := [{ hi := 7, lo := 4, acc := .ro }, { hi := 2, lo := 2, acc := .w1c }, { hi := 1, lo := 1, acc := .w1c }, { hi := 0, lo := 0, acc := .ro }] }
@[inherit_doc Spec.SCH_N_STAT] def Reg.SCH_N_STAT : Reg := Spec.SCH_N_STAT.at []
@[inherit_doc Spec.SCH_N_STAT] def Fld.SCH_N_STAT_REASON : Fld := ⟨Reg.SCH_N_STAT, 7, 4⟩
@[inherit_doc Spec.SCH_N_STAT] def Fld.SCH_N_STAT_REJECTED : Fld := ⟨Reg.SCH_N_STAT, 2, 2⟩
@[inherit_doc Spec.SCH_N_STAT] def Fld.SCH_N_STAT_DONE : Fld := ⟨Reg.SCH_N_STAT, 1, 1⟩
@[inherit_doc Spec.SCH_N_STAT] def Fld.SCH_N_STAT_BUSY : Fld := ⟨Reg.SCH_N_STAT, 0, 0⟩
/-- SCH_Q_DATA_0 (R361). -/
def Spec.SCH_Q_DATA_0 : RegSpec :=
  { name := "SCH_Q_DATA_0", base := 0xC80010, dims := [], reset := fun _ => 0x1
    fields := [{ hi := 31, lo := 31, acc := .rw }, { hi := 26, lo := 16, acc := .rw }, { hi := 15, lo := 13, acc := .rw }, { hi := 12, lo := 10, acc := .rw }, { hi := 9, lo := 0, acc := .rw }] }
@[inherit_doc Spec.SCH_Q_DATA_0] def Reg.SCH_Q_DATA_0 : Reg := Spec.SCH_Q_DATA_0.at []
@[inherit_doc Spec.SCH_Q_DATA_0] def Fld.SCH_Q_DATA_0_PNODE : Fld := ⟨Reg.SCH_Q_DATA_0, 31, 31⟩
@[inherit_doc Spec.SCH_Q_DATA_0] def Fld.SCH_Q_DATA_0_PARENT : Fld := ⟨Reg.SCH_Q_DATA_0, 26, 16⟩
@[inherit_doc Spec.SCH_Q_DATA_0] def Fld.SCH_Q_DATA_0_PRIO : Fld := ⟨Reg.SCH_Q_DATA_0, 15, 13⟩
@[inherit_doc Spec.SCH_Q_DATA_0] def Fld.SCH_Q_DATA_0_TC : Fld := ⟨Reg.SCH_Q_DATA_0, 12, 10⟩
@[inherit_doc Spec.SCH_Q_DATA_0] def Fld.SCH_Q_DATA_0_WEIGHT : Fld := ⟨Reg.SCH_Q_DATA_0, 9, 0⟩
/-- SCH_Q_DATA_1 (R361). -/
def Spec.SCH_Q_DATA_1 : RegSpec :=
  { name := "SCH_Q_DATA_1", base := 0xC80014, dims := [], reset := fun _ => 0x80000032
    fields := [{ hi := 31, lo := 31, acc := .rw }, { hi := 26, lo := 24, acc := .rw }, { hi := 14, lo := 0, acc := .rw }] }
@[inherit_doc Spec.SCH_Q_DATA_1] def Reg.SCH_Q_DATA_1 : Reg := Spec.SCH_Q_DATA_1.at []
@[inherit_doc Spec.SCH_Q_DATA_1] def Fld.SCH_Q_DATA_1_PFC_EN : Fld := ⟨Reg.SCH_Q_DATA_1, 31, 31⟩
@[inherit_doc Spec.SCH_Q_DATA_1] def Fld.SCH_Q_DATA_1_PFC_PRI : Fld := ⟨Reg.SCH_Q_DATA_1, 26, 24⟩
@[inherit_doc Spec.SCH_Q_DATA_1] def Fld.SCH_Q_DATA_1_AGE : Fld := ⟨Reg.SCH_Q_DATA_1, 14, 0⟩
/-- SCH_Q_DATA_2 (R361). -/
def Spec.SCH_Q_DATA_2 : RegSpec :=
  { name := "SCH_Q_DATA_2", base := 0xC80018, dims := [], reset := fun _ => 0x0
    fields := [{ hi := 31, lo := 31, acc := .rw }, { hi := 21, lo := 0, acc := .rw }] }
@[inherit_doc Spec.SCH_Q_DATA_2] def Reg.SCH_Q_DATA_2 : Reg := Spec.SCH_Q_DATA_2.at []
@[inherit_doc Spec.SCH_Q_DATA_2] def Fld.SCH_Q_DATA_2_SH_EN : Fld := ⟨Reg.SCH_Q_DATA_2, 31, 31⟩
@[inherit_doc Spec.SCH_Q_DATA_2] def Fld.SCH_Q_DATA_2_INC : Fld := ⟨Reg.SCH_Q_DATA_2, 21, 0⟩
/-- SCH_Q_DATA_3 (R361). -/
def Spec.SCH_Q_DATA_3 : RegSpec :=
  { name := "SCH_Q_DATA_3", base := 0xC8001C, dims := [], reset := fun _ => 0x2800
    fields := [{ hi := 23, lo := 0, acc := .rw }] }
@[inherit_doc Spec.SCH_Q_DATA_3] def Reg.SCH_Q_DATA_3 : Reg := Spec.SCH_Q_DATA_3.at []
@[inherit_doc Spec.SCH_Q_DATA_3] def Fld.SCH_Q_DATA_3_BURST : Fld := ⟨Reg.SCH_Q_DATA_3, 23, 0⟩
/-- SCH_Q_DATA_4 (R361). -/
def Spec.SCH_Q_DATA_4 : RegSpec :=
  { name := "SCH_Q_DATA_4", base := 0xC80020, dims := [], reset := fun _ => 0x0
    fields := [{ hi := 18, lo := 0, acc := .rw }] }
@[inherit_doc Spec.SCH_Q_DATA_4] def Reg.SCH_Q_DATA_4 : Reg := Spec.SCH_Q_DATA_4.at []
@[inherit_doc Spec.SCH_Q_DATA_4] def Fld.SCH_Q_DATA_4_QMAX : Fld := ⟨Reg.SCH_Q_DATA_4, 18, 0⟩
/-- SCH_Q_DATA_5 (R361). -/
def Spec.SCH_Q_DATA_5 : RegSpec :=
  { name := "SCH_Q_DATA_5", base := 0xC80024, dims := [], reset := fun _ => 0x0
    fields := [{ hi := 22, lo := 0, acc := .ro }] }
@[inherit_doc Spec.SCH_Q_DATA_5] def Reg.SCH_Q_DATA_5 : Reg := Spec.SCH_Q_DATA_5.at []
@[inherit_doc Spec.SCH_Q_DATA_5] def Fld.SCH_Q_DATA_5_PKTS : Fld := ⟨Reg.SCH_Q_DATA_5, 22, 0⟩
/-- SCH_Q_DATA_6 (R361). -/
def Spec.SCH_Q_DATA_6 : RegSpec :=
  { name := "SCH_Q_DATA_6", base := 0xC80028, dims := [], reset := fun _ => 0x0
    fields := [{ hi := 31, lo := 0, acc := .ro }] }
@[inherit_doc Spec.SCH_Q_DATA_6] def Reg.SCH_Q_DATA_6 : Reg := Spec.SCH_Q_DATA_6.at []
/-- SCH_Q_DATA_7 (R361). -/
def Spec.SCH_Q_DATA_7 : RegSpec :=
  { name := "SCH_Q_DATA_7", base := 0xC8002C, dims := [], reset := fun _ => 0x0
    fields := [{ hi := 31, lo := 0, acc := .ro }] }
@[inherit_doc Spec.SCH_Q_DATA_7] def Reg.SCH_Q_DATA_7 : Reg := Spec.SCH_Q_DATA_7.at []
/-- SCH_N_DATA_1 (R362). -/
def Spec.SCH_N_DATA_1 : RegSpec :=
  { name := "SCH_N_DATA_1", base := 0xC80054, dims := [], reset := fun _ => 0x0
    fields := [{ hi := 31, lo := 31, acc := .rw }, { hi := 6, lo := 0, acc := .rw }] }
@[inherit_doc Spec.SCH_N_DATA_1] def Reg.SCH_N_DATA_1 : Reg := Spec.SCH_N_DATA_1.at []
@[inherit_doc Spec.SCH_N_DATA_1] def Fld.SCH_N_DATA_1_EN : Fld := ⟨Reg.SCH_N_DATA_1, 31, 31⟩
@[inherit_doc Spec.SCH_N_DATA_1] def Fld.SCH_N_DATA_1_PORT : Fld := ⟨Reg.SCH_N_DATA_1, 6, 0⟩
/-- GTE_CFG (R363). -/
def Spec.GTE_CFG : RegSpec :=
  { name := "GTE_CFG", base := 0xD00000, dims := [(64, 0x1000, 0)], reset := fun _ => 0xFF004B
    fields := [{ hi := 31, lo := 31, acc := .rw }, { hi := 23, lo := 16, acc := .rw }, { hi := 9, lo := 0, acc := .rw }] }
@[inherit_doc Spec.GTE_CFG] def Reg.GTE_CFG (p : Nat) : Reg := Spec.GTE_CFG.at [p]
@[inherit_doc Spec.GTE_CFG] def Fld.GTE_CFG_EN (p : Nat) : Fld := ⟨Reg.GTE_CFG p, 31, 31⟩
@[inherit_doc Spec.GTE_CFG] def Fld.GTE_CFG_INIT_GATES (p : Nat) : Fld := ⟨Reg.GTE_CFG p, 23, 16⟩
@[inherit_doc Spec.GTE_CFG] def Fld.GTE_CFG_TX_LEAD_NS (p : Nat) : Fld := ⟨Reg.GTE_CFG p, 9, 0⟩
/-- GTE_CTL (R363). -/
def Spec.GTE_CTL : RegSpec :=
  { name := "GTE_CTL", base := 0xD00004, dims := [(64, 0x1000, 0)], reset := fun _ => 0x0
    fields := [{ hi := 31, lo := 31, acc := .wo }, { hi := 3, lo := 3, acc := .w1c }, { hi := 2, lo := 2, acc := .w1c }, { hi := 1, lo := 1, acc := .ro }, { hi := 0, lo := 0, acc := .ro }] }
@[inherit_doc Spec.GTE_CTL] def Reg.GTE_CTL (p : Nat) : Reg := Spec.GTE_CTL.at [p]
@[inherit_doc Spec.GTE_CTL] def Fld.GTE_CTL_CONFIG_CHANGE (p : Nat) : Fld := ⟨Reg.GTE_CTL p, 31, 31⟩
@[inherit_doc Spec.GTE_CTL] def Fld.GTE_CTL_REFUSED (p : Nat) : Fld := ⟨Reg.GTE_CTL p, 3, 3⟩
@[inherit_doc Spec.GTE_CTL] def Fld.GTE_CTL_SWITCHED (p : Nat) : Fld := ⟨Reg.GTE_CTL p, 2, 2⟩
@[inherit_doc Spec.GTE_CTL] def Fld.GTE_CTL_PENDING (p : Nat) : Fld := ⟨Reg.GTE_CTL p, 1, 1⟩
@[inherit_doc Spec.GTE_CTL] def Fld.GTE_CTL_OPER_VALID (p : Nat) : Fld := ⟨Reg.GTE_CTL p, 0, 0⟩
/-- GTE_STAT (R363). -/
def Spec.GTE_STAT : RegSpec :=
  { name := "GTE_STAT", base := 0xD00044, dims := [(64, 0x1000, 0)], reset := fun _ => 0xFF0000
    fields := [{ hi := 31, lo := 24, acc := .ro }, { hi := 23, lo := 16, acc := .ro }, { hi := 9, lo := 0, acc := .ro }] }
@[inherit_doc Spec.GTE_STAT] def Reg.GTE_STAT (p : Nat) : Reg := Spec.GTE_STAT.at [p]
@[inherit_doc Spec.GTE_STAT] def Fld.GTE_STAT_SDU_FIT (p : Nat) : Fld := ⟨Reg.GTE_STAT p, 31, 24⟩
@[inherit_doc Spec.GTE_STAT] def Fld.GTE_STAT_CUR_GATES (p : Nat) : Fld := ⟨Reg.GTE_STAT p, 23, 16⟩
@[inherit_doc Spec.GTE_STAT] def Fld.GTE_STAT_CUR_ENTRY (p : Nat) : Fld := ⟨Reg.GTE_STAT p, 9, 0⟩
/-- GTE_ADMIN_LEN (R364). -/
def Spec.GTE_ADMIN_LEN : RegSpec :=
  { name := "GTE_ADMIN_LEN", base := 0xD00008, dims := [(64, 0x1000, 0)], reset := fun _ => 0x1
    fields := [⟨10, 0, .rw, 1, 1024⟩] }
@[inherit_doc Spec.GTE_ADMIN_LEN] def Reg.GTE_ADMIN_LEN (p : Nat) : Reg := Spec.GTE_ADMIN_LEN.at [p]
@[inherit_doc Spec.GTE_ADMIN_LEN] def Fld.GTE_ADMIN_LEN_LEN (p : Nat) : Fld := ⟨Reg.GTE_ADMIN_LEN p, 10, 0⟩
/-- GTE_OPER_LEN (R364). -/
def Spec.GTE_OPER_LEN : RegSpec :=
  { name := "GTE_OPER_LEN", base := 0xD00020, dims := [(64, 0x1000, 0)], reset := fun _ => 0x1
    fields := [{ hi := 10, lo := 0, acc := .ro }] }
@[inherit_doc Spec.GTE_OPER_LEN] def Reg.GTE_OPER_LEN (p : Nat) : Reg := Spec.GTE_OPER_LEN.at [p]
@[inherit_doc Spec.GTE_OPER_LEN] def Fld.GTE_OPER_LEN_LEN (p : Nat) : Fld := ⟨Reg.GTE_OPER_LEN p, 10, 0⟩
/-- GTE_ADMIN_CYCLE (R364). -/
def Spec.GTE_ADMIN_CYCLE : RegSpec :=
  { name := "GTE_ADMIN_CYCLE", base := 0xD0000C, dims := [(64, 0x1000, 0)], reset := fun _ => 0xF4240
    fields := [⟨29, 0, .rw, 1000, 1000000000⟩] }
@[inherit_doc Spec.GTE_ADMIN_CYCLE] def Reg.GTE_ADMIN_CYCLE (p : Nat) : Reg := Spec.GTE_ADMIN_CYCLE.at [p]
@[inherit_doc Spec.GTE_ADMIN_CYCLE] def Fld.GTE_ADMIN_CYCLE_CYCLE (p : Nat) : Fld := ⟨Reg.GTE_ADMIN_CYCLE p, 29, 0⟩
/-- GTE_OPER_CYCLE (R364). -/
def Spec.GTE_OPER_CYCLE : RegSpec :=
  { name := "GTE_OPER_CYCLE", base := 0xD00024, dims := [(64, 0x1000, 0)], reset := fun _ => 0xF4240
    fields := [{ hi := 29, lo := 0, acc := .ro }] }
@[inherit_doc Spec.GTE_OPER_CYCLE] def Reg.GTE_OPER_CYCLE (p : Nat) : Reg := Spec.GTE_OPER_CYCLE.at [p]
@[inherit_doc Spec.GTE_OPER_CYCLE] def Fld.GTE_OPER_CYCLE_CYCLE (p : Nat) : Fld := ⟨Reg.GTE_OPER_CYCLE p, 29, 0⟩
/-- GTE_ADMIN_EXT (R364). -/
def Spec.GTE_ADMIN_EXT : RegSpec :=
  { name := "GTE_ADMIN_EXT", base := 0xD00010, dims := [(64, 0x1000, 0)], reset := fun _ => 0x0
    fields := [⟨29, 0, .rw, 0, 1000000000⟩] }
@[inherit_doc Spec.GTE_ADMIN_EXT] def Reg.GTE_ADMIN_EXT (p : Nat) : Reg := Spec.GTE_ADMIN_EXT.at [p]
@[inherit_doc Spec.GTE_ADMIN_EXT] def Fld.GTE_ADMIN_EXT_EXT (p : Nat) : Fld := ⟨Reg.GTE_ADMIN_EXT p, 29, 0⟩
/-- GTE_OPER_EXT (R364). -/
def Spec.GTE_OPER_EXT : RegSpec :=
  { name := "GTE_OPER_EXT", base := 0xD00028, dims := [(64, 0x1000, 0)], reset := fun _ => 0x0
    fields := [{ hi := 29, lo := 0, acc := .ro }] }
@[inherit_doc Spec.GTE_OPER_EXT] def Reg.GTE_OPER_EXT (p : Nat) : Reg := Spec.GTE_OPER_EXT.at [p]
@[inherit_doc Spec.GTE_OPER_EXT] def Fld.GTE_OPER_EXT_EXT (p : Nat) : Fld := ⟨Reg.GTE_OPER_EXT p, 29, 0⟩
/-- GTE_ADMIN_BASE_SH (R364). -/
def Spec.GTE_ADMIN_BASE_SH : RegSpec :=
  { name := "GTE_ADMIN_BASE_SH", base := 0xD00014, dims := [(64, 0x1000, 0)], reset := fun _ => 0x0
    fields := [{ hi := 15, lo := 0, acc := .rw }] }
@[inherit_doc Spec.GTE_ADMIN_BASE_SH] def Reg.GTE_ADMIN_BASE_SH (p : Nat) : Reg := Spec.GTE_ADMIN_BASE_SH.at [p]
@[inherit_doc Spec.GTE_ADMIN_BASE_SH] def Fld.GTE_ADMIN_BASE_SH_SEC_HI (p : Nat) : Fld := ⟨Reg.GTE_ADMIN_BASE_SH p, 15, 0⟩
/-- GTE_OPER_BASE_SH (R364). -/
def Spec.GTE_OPER_BASE_SH : RegSpec :=
  { name := "GTE_OPER_BASE_SH", base := 0xD0002C, dims := [(64, 0x1000, 0)], reset := fun _ => 0x0
    fields := [{ hi := 15, lo := 0, acc := .ro }] }
@[inherit_doc Spec.GTE_OPER_BASE_SH] def Reg.GTE_OPER_BASE_SH (p : Nat) : Reg := Spec.GTE_OPER_BASE_SH.at [p]
@[inherit_doc Spec.GTE_OPER_BASE_SH] def Fld.GTE_OPER_BASE_SH_SEC_HI (p : Nat) : Fld := ⟨Reg.GTE_OPER_BASE_SH p, 15, 0⟩
/-- GTE_ADMIN_BASE_SL (R364). -/
def Spec.GTE_ADMIN_BASE_SL : RegSpec :=
  { name := "GTE_ADMIN_BASE_SL", base := 0xD00018, dims := [(64, 0x1000, 0)], reset := fun _ => 0x0
    fields := [{ hi := 31, lo := 0, acc := .rw }] }
@[inherit_doc Spec.GTE_ADMIN_BASE_SL] def Reg.GTE_ADMIN_BASE_SL (p : Nat) : Reg := Spec.GTE_ADMIN_BASE_SL.at [p]
/-- GTE_OPER_BASE_SL (R364). -/
def Spec.GTE_OPER_BASE_SL : RegSpec :=
  { name := "GTE_OPER_BASE_SL", base := 0xD00030, dims := [(64, 0x1000, 0)], reset := fun _ => 0x0
    fields := [{ hi := 31, lo := 0, acc := .ro }] }
@[inherit_doc Spec.GTE_OPER_BASE_SL] def Reg.GTE_OPER_BASE_SL (p : Nat) : Reg := Spec.GTE_OPER_BASE_SL.at [p]
/-- GTE_ADMIN_BASE_NS (R364). -/
def Spec.GTE_ADMIN_BASE_NS : RegSpec :=
  { name := "GTE_ADMIN_BASE_NS", base := 0xD0001C, dims := [(64, 0x1000, 0)], reset := fun _ => 0x0
    fields := [⟨29, 0, .rw, 0, 999999999⟩] }
@[inherit_doc Spec.GTE_ADMIN_BASE_NS] def Reg.GTE_ADMIN_BASE_NS (p : Nat) : Reg := Spec.GTE_ADMIN_BASE_NS.at [p]
@[inherit_doc Spec.GTE_ADMIN_BASE_NS] def Fld.GTE_ADMIN_BASE_NS_NS (p : Nat) : Fld := ⟨Reg.GTE_ADMIN_BASE_NS p, 29, 0⟩
/-- GTE_OPER_BASE_NS (R364). -/
def Spec.GTE_OPER_BASE_NS : RegSpec :=
  { name := "GTE_OPER_BASE_NS", base := 0xD00034, dims := [(64, 0x1000, 0)], reset := fun _ => 0x0
    fields := [{ hi := 29, lo := 0, acc := .ro }] }
@[inherit_doc Spec.GTE_OPER_BASE_NS] def Reg.GTE_OPER_BASE_NS (p : Nat) : Reg := Spec.GTE_OPER_BASE_NS.at [p]
@[inherit_doc Spec.GTE_OPER_BASE_NS] def Fld.GTE_OPER_BASE_NS_NS (p : Nat) : Fld := ⟨Reg.GTE_OPER_BASE_NS p, 29, 0⟩
/-- GTE_CHANGE_SH (R364). -/
def Spec.GTE_CHANGE_SH : RegSpec :=
  { name := "GTE_CHANGE_SH", base := 0xD00038, dims := [(64, 0x1000, 0)], reset := fun _ => 0x0
    fields := [{ hi := 15, lo := 0, acc := .ro }] }
@[inherit_doc Spec.GTE_CHANGE_SH] def Reg.GTE_CHANGE_SH (p : Nat) : Reg := Spec.GTE_CHANGE_SH.at [p]
@[inherit_doc Spec.GTE_CHANGE_SH] def Fld.GTE_CHANGE_SH_SEC_HI (p : Nat) : Fld := ⟨Reg.GTE_CHANGE_SH p, 15, 0⟩
/-- GTE_CHANGE_SL (R364). -/
def Spec.GTE_CHANGE_SL : RegSpec :=
  { name := "GTE_CHANGE_SL", base := 0xD0003C, dims := [(64, 0x1000, 0)], reset := fun _ => 0x0
    fields := [{ hi := 31, lo := 0, acc := .ro }] }
@[inherit_doc Spec.GTE_CHANGE_SL] def Reg.GTE_CHANGE_SL (p : Nat) : Reg := Spec.GTE_CHANGE_SL.at [p]
/-- GTE_CHANGE_NS (R364). -/
def Spec.GTE_CHANGE_NS : RegSpec :=
  { name := "GTE_CHANGE_NS", base := 0xD00040, dims := [(64, 0x1000, 0)], reset := fun _ => 0x0
    fields := [{ hi := 29, lo := 0, acc := .ro }] }
@[inherit_doc Spec.GTE_CHANGE_NS] def Reg.GTE_CHANGE_NS (p : Nat) : Reg := Spec.GTE_CHANGE_NS.at [p]
@[inherit_doc Spec.GTE_CHANGE_NS] def Fld.GTE_CHANGE_NS_NS (p : Nat) : Fld := ⟨Reg.GTE_CHANGE_NS p, 29, 0⟩
/-- GTE_LIST_CMD (R365). -/
def Spec.GTE_LIST_CMD : RegSpec :=
  { name := "GTE_LIST_CMD", base := 0xD00050, dims := [(64, 0x1000, 0)], reset := fun _ => 0x0
    fields := [{ hi := 31, lo := 31, acc := .wo }, { hi := 30, lo := 30, acc := .rw }, { hi := 29, lo := 29, acc := .rw }, { hi := 9, lo := 0, acc := .rw }] }
@[inherit_doc Spec.GTE_LIST_CMD] def Reg.GTE_LIST_CMD (p : Nat) : Reg := Spec.GTE_LIST_CMD.at [p]
@[inherit_doc Spec.GTE_LIST_CMD] def Fld.GTE_LIST_CMD_GO (p : Nat) : Fld := ⟨Reg.GTE_LIST_CMD p, 31, 31⟩
@[inherit_doc Spec.GTE_LIST_CMD] def Fld.GTE_LIST_CMD_WRITE (p : Nat) : Fld := ⟨Reg.GTE_LIST_CMD p, 30, 30⟩
@[inherit_doc Spec.GTE_LIST_CMD] def Fld.GTE_LIST_CMD_OPER (p : Nat) : Fld := ⟨Reg.GTE_LIST_CMD p, 29, 29⟩
@[inherit_doc Spec.GTE_LIST_CMD] def Fld.GTE_LIST_CMD_INDEX (p : Nat) : Fld := ⟨Reg.GTE_LIST_CMD p, 9, 0⟩
/-- GTE_LIST_STAT (R365). -/
def Spec.GTE_LIST_STAT : RegSpec :=
  { name := "GTE_LIST_STAT", base := 0xD00054, dims := [(64, 0x1000, 0)], reset := fun _ => 0x0
    fields := [{ hi := 2, lo := 2, acc := .w1c }, { hi := 1, lo := 1, acc := .w1c }] }
@[inherit_doc Spec.GTE_LIST_STAT] def Reg.GTE_LIST_STAT (p : Nat) : Reg := Spec.GTE_LIST_STAT.at [p]
@[inherit_doc Spec.GTE_LIST_STAT] def Fld.GTE_LIST_STAT_REJECTED (p : Nat) : Fld := ⟨Reg.GTE_LIST_STAT p, 2, 2⟩
@[inherit_doc Spec.GTE_LIST_STAT] def Fld.GTE_LIST_STAT_DONE (p : Nat) : Fld := ⟨Reg.GTE_LIST_STAT p, 1, 1⟩
/-- GTE_LIST_DATA_0 (R365). -/
def Spec.GTE_LIST_DATA_0 : RegSpec :=
  { name := "GTE_LIST_DATA_0", base := 0xD00058, dims := [(64, 0x1000, 0)], reset := fun _ => 0xFF
    fields := [{ hi := 7, lo := 0, acc := .rw }] }
@[inherit_doc Spec.GTE_LIST_DATA_0] def Reg.GTE_LIST_DATA_0 (p : Nat) : Reg := Spec.GTE_LIST_DATA_0.at [p]
@[inherit_doc Spec.GTE_LIST_DATA_0] def Fld.GTE_LIST_DATA_0_GATES (p : Nat) : Fld := ⟨Reg.GTE_LIST_DATA_0 p, 7, 0⟩
/-- GTE_LIST_DATA_1 (R365). -/
def Spec.GTE_LIST_DATA_1 : RegSpec :=
  { name := "GTE_LIST_DATA_1", base := 0xD0005C, dims := [(64, 0x1000, 0)], reset := fun _ => 0xF4240
    fields := [{ hi := 29, lo := 0, acc := .rw }] }
@[inherit_doc Spec.GTE_LIST_DATA_1] def Reg.GTE_LIST_DATA_1 (p : Nat) : Reg := Spec.GTE_LIST_DATA_1.at [p]
@[inherit_doc Spec.GTE_LIST_DATA_1] def Fld.GTE_LIST_DATA_1_INTERVAL (p : Nat) : Fld := ⟨Reg.GTE_LIST_DATA_1 p, 29, 0⟩
/-- TIM_NOW_SH (R389). -/
def Spec.TIM_NOW_SH : RegSpec :=
  { name := "TIM_NOW_SH", base := 0xE80000, dims := [], reset := fun _ => 0x0
    fields := [{ hi := 31, lo := 0, acc := .ro }] }
@[inherit_doc Spec.TIM_NOW_SH] def Reg.TIM_NOW_SH : Reg := Spec.TIM_NOW_SH.at []
/-- TIM_NOW_SL (R389). -/
def Spec.TIM_NOW_SL : RegSpec :=
  { name := "TIM_NOW_SL", base := 0xE80004, dims := [], reset := fun _ => 0x0
    fields := [{ hi := 31, lo := 0, acc := .ro }] }
@[inherit_doc Spec.TIM_NOW_SL] def Reg.TIM_NOW_SL : Reg := Spec.TIM_NOW_SL.at []
/-- TIM_NOW_NS (R389). -/
def Spec.TIM_NOW_NS : RegSpec :=
  { name := "TIM_NOW_NS", base := 0xE80008, dims := [], reset := fun _ => 0x0
    fields := [{ hi := 29, lo := 0, acc := .ro }] }
@[inherit_doc Spec.TIM_NOW_NS] def Reg.TIM_NOW_NS : Reg := Spec.TIM_NOW_NS.at []
@[inherit_doc Spec.TIM_NOW_NS] def Fld.TIM_NOW_NS_NS : Fld := ⟨Reg.TIM_NOW_NS, 29, 0⟩
/-- TIM_NOW_FRAC (R389). -/
def Spec.TIM_NOW_FRAC : RegSpec :=
  { name := "TIM_NOW_FRAC", base := 0xE8000C, dims := [], reset := fun _ => 0x0
    fields := [{ hi := 15, lo := 0, acc := .ro }] }
@[inherit_doc Spec.TIM_NOW_FRAC] def Reg.TIM_NOW_FRAC : Reg := Spec.TIM_NOW_FRAC.at []
@[inherit_doc Spec.TIM_NOW_FRAC] def Fld.TIM_NOW_FRAC_FRAC : Fld := ⟨Reg.TIM_NOW_FRAC, 15, 0⟩
/-- TIM_ADJ (R389). -/
def Spec.TIM_ADJ : RegSpec :=
  { name := "TIM_ADJ", base := 0xE80010, dims := [], reset := fun _ => 0x0
    fields := [{ hi := 31, lo := 0, acc := .rws }] }
@[inherit_doc Spec.TIM_ADJ] def Reg.TIM_ADJ : Reg := Spec.TIM_ADJ.at []
/-- TIM_SET_SH (R389). -/
def Spec.TIM_SET_SH : RegSpec :=
  { name := "TIM_SET_SH", base := 0xE80014, dims := [], reset := fun _ => 0x0
    fields := [{ hi := 31, lo := 0, acc := .rw }] }
@[inherit_doc Spec.TIM_SET_SH] def Reg.TIM_SET_SH : Reg := Spec.TIM_SET_SH.at []
/-- TIM_SET_SL (R389). -/
def Spec.TIM_SET_SL : RegSpec :=
  { name := "TIM_SET_SL", base := 0xE80018, dims := [], reset := fun _ => 0x0
    fields := [{ hi := 31, lo := 0, acc := .rw }] }
@[inherit_doc Spec.TIM_SET_SL] def Reg.TIM_SET_SL : Reg := Spec.TIM_SET_SL.at []
/-- TIM_SET_NS (R389). -/
def Spec.TIM_SET_NS : RegSpec :=
  { name := "TIM_SET_NS", base := 0xE8001C, dims := [], reset := fun _ => 0x0
    fields := [⟨29, 0, .rw, 0, 999999999⟩] }
@[inherit_doc Spec.TIM_SET_NS] def Reg.TIM_SET_NS : Reg := Spec.TIM_SET_NS.at []
@[inherit_doc Spec.TIM_SET_NS] def Fld.TIM_SET_NS_NS : Fld := ⟨Reg.TIM_SET_NS, 29, 0⟩
/-- TIM_STEP_CTL (R389). -/
def Spec.TIM_STEP_CTL : RegSpec :=
  { name := "TIM_STEP_CTL", base := 0xE80020, dims := [], reset := fun _ => 0x0
    fields := [{ hi := 31, lo := 31, acc := .wo }, { hi := 30, lo := 30, acc := .rw }, { hi := 15, lo := 8, acc := .ro }, { hi := 1, lo := 1, acc := .w1c }, { hi := 0, lo := 0, acc := .ro }] }
@[inherit_doc Spec.TIM_STEP_CTL] def Reg.TIM_STEP_CTL : Reg := Spec.TIM_STEP_CTL.at []
@[inherit_doc Spec.TIM_STEP_CTL] def Fld.TIM_STEP_CTL_GO : Fld := ⟨Reg.TIM_STEP_CTL, 31, 31⟩
@[inherit_doc Spec.TIM_STEP_CTL] def Fld.TIM_STEP_CTL_MODE : Fld := ⟨Reg.TIM_STEP_CTL, 30, 30⟩
@[inherit_doc Spec.TIM_STEP_CTL] def Fld.TIM_STEP_CTL_STEP_SEQ : Fld := ⟨Reg.TIM_STEP_CTL, 15, 8⟩
@[inherit_doc Spec.TIM_STEP_CTL] def Fld.TIM_STEP_CTL_REJECTED : Fld := ⟨Reg.TIM_STEP_CTL, 1, 1⟩
@[inherit_doc Spec.TIM_STEP_CTL] def Fld.TIM_STEP_CTL_BUSY : Fld := ⟨Reg.TIM_STEP_CTL, 0, 0⟩
/-- TIM_STEP_OFS (R389). -/
def Spec.TIM_STEP_OFS : RegSpec :=
  { name := "TIM_STEP_OFS", base := 0xE80024, dims := [], reset := fun _ => 0x0
    fields := [{ hi := 31, lo := 0, acc := .rw }] }
@[inherit_doc Spec.TIM_STEP_OFS] def Reg.TIM_STEP_OFS : Reg := Spec.TIM_STEP_OFS.at []
/-- TIM_PPSOUT_CFG (R390). -/
def Spec.TIM_PPSOUT_CFG : RegSpec :=
  { name := "TIM_PPSOUT_CFG", base := 0xE80040, dims := [], reset := fun _ => 0x186A0
    fields := [{ hi := 31, lo := 31, acc := .rws }, ⟨18, 0, .rws, 1, 500000⟩] }
@[inherit_doc Spec.TIM_PPSOUT_CFG] def Reg.TIM_PPSOUT_CFG : Reg := Spec.TIM_PPSOUT_CFG.at []
@[inherit_doc Spec.TIM_PPSOUT_CFG] def Fld.TIM_PPSOUT_CFG_EN : Fld := ⟨Reg.TIM_PPSOUT_CFG, 31, 31⟩
@[inherit_doc Spec.TIM_PPSOUT_CFG] def Fld.TIM_PPSOUT_CFG_WIDTH_US : Fld := ⟨Reg.TIM_PPSOUT_CFG, 18, 0⟩
/-- TIM_PPSOUT_OFS (R390). -/
def Spec.TIM_PPSOUT_OFS : RegSpec :=
  { name := "TIM_PPSOUT_OFS", base := 0xE80044, dims := [], reset := fun _ => 0x0
    fields := [⟨29, 0, .rws, 0, 999999999⟩] }
@[inherit_doc Spec.TIM_PPSOUT_OFS] def Reg.TIM_PPSOUT_OFS : Reg := Spec.TIM_PPSOUT_OFS.at []
@[inherit_doc Spec.TIM_PPSOUT_OFS] def Fld.TIM_PPSOUT_OFS_OFFSET_NS : Fld := ⟨Reg.TIM_PPSOUT_OFS, 29, 0⟩
/-- TIM_PPSIN_CTL (R390). -/
def Spec.TIM_PPSIN_CTL : RegSpec :=
  { name := "TIM_PPSIN_CTL", base := 0xE80050, dims := [], reset := fun _ => 0x0
    fields := [{ hi := 31, lo := 31, acc := .rw }, { hi := 2, lo := 2, acc := .w1c }, { hi := 1, lo := 1, acc := .w1c }] }
@[inherit_doc Spec.TIM_PPSIN_CTL] def Reg.TIM_PPSIN_CTL : Reg := Spec.TIM_PPSIN_CTL.at []
@[inherit_doc Spec.TIM_PPSIN_CTL] def Fld.TIM_PPSIN_CTL_EN : Fld := ⟨Reg.TIM_PPSIN_CTL, 31, 31⟩
@[inherit_doc Spec.TIM_PPSIN_CTL] def Fld.TIM_PPSIN_CTL_MISSED : Fld := ⟨Reg.TIM_PPSIN_CTL, 2, 2⟩
@[inherit_doc Spec.TIM_PPSIN_CTL] def Fld.TIM_PPSIN_CTL_CAPTURED : Fld := ⟨Reg.TIM_PPSIN_CTL, 1, 1⟩
/-- TIM_PPSIN_SH (R390). -/
def Spec.TIM_PPSIN_SH : RegSpec :=
  { name := "TIM_PPSIN_SH", base := 0xE80054, dims := [], reset := fun _ => 0x0
    fields := [{ hi := 15, lo := 0, acc := .ro }] }
@[inherit_doc Spec.TIM_PPSIN_SH] def Reg.TIM_PPSIN_SH : Reg := Spec.TIM_PPSIN_SH.at []
@[inherit_doc Spec.TIM_PPSIN_SH] def Fld.TIM_PPSIN_SH_SEC_HI : Fld := ⟨Reg.TIM_PPSIN_SH, 15, 0⟩
/-- TIM_PPSIN_SL (R390). -/
def Spec.TIM_PPSIN_SL : RegSpec :=
  { name := "TIM_PPSIN_SL", base := 0xE80058, dims := [], reset := fun _ => 0x0
    fields := [{ hi := 31, lo := 0, acc := .ro }] }
@[inherit_doc Spec.TIM_PPSIN_SL] def Reg.TIM_PPSIN_SL : Reg := Spec.TIM_PPSIN_SL.at []
/-- TIM_PPSIN_NS (R390). -/
def Spec.TIM_PPSIN_NS : RegSpec :=
  { name := "TIM_PPSIN_NS", base := 0xE8005C, dims := [], reset := fun _ => 0x0
    fields := [{ hi := 29, lo := 0, acc := .ro }] }
@[inherit_doc Spec.TIM_PPSIN_NS] def Reg.TIM_PPSIN_NS : Reg := Spec.TIM_PPSIN_NS.at []
@[inherit_doc Spec.TIM_PPSIN_NS] def Fld.TIM_PPSIN_NS_NS : Fld := ⟨Reg.TIM_PPSIN_NS, 29, 0⟩
/-- TIM_PPSIN_FRAC (R390). -/
def Spec.TIM_PPSIN_FRAC : RegSpec :=
  { name := "TIM_PPSIN_FRAC", base := 0xE80060, dims := [], reset := fun _ => 0x0
    fields := [{ hi := 15, lo := 0, acc := .ro }] }
@[inherit_doc Spec.TIM_PPSIN_FRAC] def Reg.TIM_PPSIN_FRAC : Reg := Spec.TIM_PPSIN_FRAC.at []
@[inherit_doc Spec.TIM_PPSIN_FRAC] def Fld.TIM_PPSIN_FRAC_FRAC : Fld := ⟨Reg.TIM_PPSIN_FRAC, 15, 0⟩
/-- TIM_RX_CORR (R391). -/
def Spec.TIM_RX_CORR : RegSpec :=
  { name := "TIM_RX_CORR", base := 0xE00000, dims := [(64, 0x1000, 0)], reset := fun _ => 0x0
    fields := [{ hi := 31, lo := 0, acc := .rw }] }
@[inherit_doc Spec.TIM_RX_CORR] def Reg.TIM_RX_CORR (p : Nat) : Reg := Spec.TIM_RX_CORR.at [p]
/-- TIM_TX_CORR (R391). -/
def Spec.TIM_TX_CORR : RegSpec :=
  { name := "TIM_TX_CORR", base := 0xE00004, dims := [(64, 0x1000, 0)], reset := fun _ => 0x0
    fields := [{ hi := 31, lo := 0, acc := .rw }] }
@[inherit_doc Spec.TIM_TX_CORR] def Reg.TIM_TX_CORR (p : Nat) : Reg := Spec.TIM_TX_CORR.at [p]
/-- TIM_PORT_CFG (R391). -/
def Spec.TIM_PORT_CFG : RegSpec :=
  { name := "TIM_PORT_CFG", base := 0xE00008, dims := [(64, 0x1000, 0)], reset := fun _ => 0x0
    fields := [{ hi := 0, lo := 0, acc := .rw }] }
@[inherit_doc Spec.TIM_PORT_CFG] def Reg.TIM_PORT_CFG (p : Nat) : Reg := Spec.TIM_PORT_CFG.at [p]
@[inherit_doc Spec.TIM_PORT_CFG] def Fld.TIM_PORT_CFG_CORR_OVR (p : Nat) : Fld := ⟨Reg.TIM_PORT_CFG p, 0, 0⟩
/-- TIM_OS_FAIL (R391). -/
def Spec.TIM_OS_FAIL : RegSpec :=
  { name := "TIM_OS_FAIL", base := 0xE00100, dims := [(64, 0x1000, 0)], reset := fun _ => 0x0
    fields := [{ hi := 31, lo := 0, acc := .rc }] }
@[inherit_doc Spec.TIM_OS_FAIL] def Reg.TIM_OS_FAIL (p : Nat) : Reg := Spec.TIM_OS_FAIL.at [p]
/-- TIM_TSQ_W0 (R392). -/
def Spec.TIM_TSQ_W0 : RegSpec :=
  { name := "TIM_TSQ_W0", base := 0xE00800, dims := [(4, 0x40000, 0)], reset := fun _ => 0xE0
    fields := [{ hi := 31, lo := 0, acc := .rc }] }
@[inherit_doc Spec.TIM_TSQ_W0] def Reg.TIM_TSQ_W0 (p : Nat) : Reg := Spec.TIM_TSQ_W0.at [p]
/-- TIM_TSQ_W1 (R392). -/
def Spec.TIM_TSQ_W1 : RegSpec :=
  { name := "TIM_TSQ_W1", base := 0xE00804, dims := [(4, 0x40000, 0)], reset := fun _ => 0x0
    fields := [{ hi := 31, lo := 0, acc := .ro }] }
@[inherit_doc Spec.TIM_TSQ_W1] def Reg.TIM_TSQ_W1 (p : Nat) : Reg := Spec.TIM_TSQ_W1.at [p]
/-- TIM_TSQ_W2 (R392). -/
def Spec.TIM_TSQ_W2 : RegSpec :=
  { name := "TIM_TSQ_W2", base := 0xE00808, dims := [(4, 0x40000, 0)], reset := fun _ => 0x0
    fields := [{ hi := 31, lo := 0, acc := .ro }] }
@[inherit_doc Spec.TIM_TSQ_W2] def Reg.TIM_TSQ_W2 (p : Nat) : Reg := Spec.TIM_TSQ_W2.at [p]
/-- TIM_TSQ_W3 (R392). -/
def Spec.TIM_TSQ_W3 : RegSpec :=
  { name := "TIM_TSQ_W3", base := 0xE0080C, dims := [(4, 0x40000, 0)], reset := fun _ => 0x0
    fields := [{ hi := 31, lo := 0, acc := .ro }] }
@[inherit_doc Spec.TIM_TSQ_W3] def Reg.TIM_TSQ_W3 (p : Nat) : Reg := Spec.TIM_TSQ_W3.at [p]
/-- TIM_TSQ_STAT (R392). -/
def Spec.TIM_TSQ_STAT : RegSpec :=
  { name := "TIM_TSQ_STAT", base := 0xE00810, dims := [(4, 0x40000, 0)], reset := fun _ => 0x0
    fields := [{ hi := 31, lo := 31, acc := .w1c }, { hi := 6, lo := 0, acc := .ro }] }
@[inherit_doc Spec.TIM_TSQ_STAT] def Reg.TIM_TSQ_STAT (p : Nat) : Reg := Spec.TIM_TSQ_STAT.at [p]
@[inherit_doc Spec.TIM_TSQ_STAT] def Fld.TIM_TSQ_STAT_OVF (p : Nat) : Fld := ⟨Reg.TIM_TSQ_STAT p, 31, 31⟩
@[inherit_doc Spec.TIM_TSQ_STAT] def Fld.TIM_TSQ_STAT_COUNT (p : Nat) : Fld := ⟨Reg.TIM_TSQ_STAT p, 6, 0⟩
/-- TIM_TSQ_LOST (R392). -/
def Spec.TIM_TSQ_LOST : RegSpec :=
  { name := "TIM_TSQ_LOST", base := 0xE00814, dims := [(4, 0x40000, 0)], reset := fun _ => 0x0
    fields := [{ hi := 31, lo := 0, acc := .rc }] }
@[inherit_doc Spec.TIM_TSQ_LOST] def Reg.TIM_TSQ_LOST (p : Nat) : Reg := Spec.TIM_TSQ_LOST.at [p]
/-- TRL_CFG (R417). -/
def Spec.TRL_CFG : RegSpec :=
  { name := "TRL_CFG", base := 0xF00000, dims := [], reset := fun _ => 0x10000014
    fields := [{ hi := 31, lo := 31, acc := .rw }, { hi := 30, lo := 30, acc := .rw }, { hi := 29, lo := 29, acc := .rw }, { hi := 28, lo := 28, acc := .rw }, ⟨9, 0, .rw, 0, 1000⟩] }
@[inherit_doc Spec.TRL_CFG] def Reg.TRL_CFG : Reg := Spec.TRL_CFG.at []
@[inherit_doc Spec.TRL_CFG] def Fld.TRL_CFG_EN : Fld := ⟨Reg.TRL_CFG, 31, 31⟩
@[inherit_doc Spec.TRL_CFG] def Fld.TRL_CFG_MOD_IGN : Fld := ⟨Reg.TRL_CFG, 30, 30⟩
@[inherit_doc Spec.TRL_CFG] def Fld.TRL_CFG_FORCE_RDI : Fld := ⟨Reg.TRL_CFG, 29, 29⟩
@[inherit_doc Spec.TRL_CFG] def Fld.TRL_CFG_CT_EN : Fld := ⟨Reg.TRL_CFG, 28, 28⟩
@[inherit_doc Spec.TRL_CFG] def Fld.TRL_CFG_HOLD_MS : Fld := ⟨Reg.TRL_CFG, 9, 0⟩
/-- TRL_LANE_CFG (R417). -/
def Spec.TRL_LANE_CFG : RegSpec :=
  { name := "TRL_LANE_CFG", base := 0xF00004, dims := [], reset := fun _ => 0x0
    fields := [{ hi := 15, lo := 8, acc := .rw }, { hi := 7, lo := 0, acc := .rw }] }
@[inherit_doc Spec.TRL_LANE_CFG] def Reg.TRL_LANE_CFG : Reg := Spec.TRL_LANE_CFG.at []
@[inherit_doc Spec.TRL_LANE_CFG] def Fld.TRL_LANE_CFG_TX_POL : Fld := ⟨Reg.TRL_LANE_CFG, 15, 8⟩
@[inherit_doc Spec.TRL_LANE_CFG] def Fld.TRL_LANE_CFG_RX_POL : Fld := ⟨Reg.TRL_LANE_CFG, 7, 0⟩
/-- TRL_STATUS (R417). -/
def Spec.TRL_STATUS : RegSpec :=
  { name := "TRL_STATUS", base := 0xF00008, dims := [], reset := fun _ => 0x0
    fields := [{ hi := 31, lo := 30, acc := .ro }, { hi := 29, lo := 29, acc := .ro }, { hi := 28, lo := 28, acc := .ro }, { hi := 27, lo := 27, acc := .ro }, { hi := 26, lo := 26, acc := .ro }, { hi := 25, lo := 25, acc := .ro }, { hi := 24, lo := 24, acc := .ro }, { hi := 23, lo := 23, acc := .ro }, { hi := 15, lo := 8, acc := .ro }, { hi := 7, lo := 0, acc := .ro }] }
@[inherit_doc Spec.TRL_STATUS] def Reg.TRL_STATUS : Reg := Spec.TRL_STATUS.at []
@[inherit_doc Spec.TRL_STATUS] def Fld.TRL_STATUS_STATE : Fld := ⟨Reg.TRL_STATUS, 31, 30⟩
@[inherit_doc Spec.TRL_STATUS] def Fld.TRL_STATUS_LOS : Fld := ⟨Reg.TRL_STATUS, 29, 29⟩
@[inherit_doc Spec.TRL_STATUS] def Fld.TRL_STATUS_LOF : Fld := ⟨Reg.TRL_STATUS, 28, 28⟩
@[inherit_doc Spec.TRL_STATUS] def Fld.TRL_STATUS_LOM : Fld := ⟨Reg.TRL_STATUS, 27, 27⟩
@[inherit_doc Spec.TRL_STATUS] def Fld.TRL_STATUS_DEG : Fld := ⟨Reg.TRL_STATUS, 26, 26⟩
@[inherit_doc Spec.TRL_STATUS] def Fld.TRL_STATUS_RDI : Fld := ⟨Reg.TRL_STATUS, 25, 25⟩
@[inherit_doc Spec.TRL_STATUS] def Fld.TRL_STATUS_REM_DEG : Fld := ⟨Reg.TRL_STATUS, 24, 24⟩
@[inherit_doc Spec.TRL_STATUS] def Fld.TRL_STATUS_PRS : Fld := ⟨Reg.TRL_STATUS, 23, 23⟩
@[inherit_doc Spec.TRL_STATUS] def Fld.TRL_STATUS_LANE_LOA : Fld := ⟨Reg.TRL_STATUS, 15, 8⟩
@[inherit_doc Spec.TRL_STATUS] def Fld.TRL_STATUS_LANE_LOS : Fld := ⟨Reg.TRL_STATUS, 7, 0⟩
/-- TRL_EVENT (R417). -/
def Spec.TRL_EVENT : RegSpec :=
  { name := "TRL_EVENT", base := 0xF0000C, dims := [], reset := fun _ => 0x0
    fields := [{ hi := 7, lo := 7, acc := .w1c }, { hi := 6, lo := 6, acc := .w1c }, { hi := 5, lo := 5, acc := .w1c }, { hi := 4, lo := 4, acc := .w1c }, { hi := 3, lo := 3, acc := .w1c }, { hi := 2, lo := 2, acc := .w1c }, { hi := 1, lo := 1, acc := .w1c }, { hi := 0, lo := 0, acc := .w1c }] }
@[inherit_doc Spec.TRL_EVENT] def Reg.TRL_EVENT : Reg := Spec.TRL_EVENT.at []
@[inherit_doc Spec.TRL_EVENT] def Fld.TRL_EVENT_STATE_CHG : Fld := ⟨Reg.TRL_EVENT, 7, 7⟩
@[inherit_doc Spec.TRL_EVENT] def Fld.TRL_EVENT_RDI_CHG : Fld := ⟨Reg.TRL_EVENT, 6, 6⟩
@[inherit_doc Spec.TRL_EVENT] def Fld.TRL_EVENT_DEG_CHG : Fld := ⟨Reg.TRL_EVENT, 5, 5⟩
@[inherit_doc Spec.TRL_EVENT] def Fld.TRL_EVENT_LOM_CHG : Fld := ⟨Reg.TRL_EVENT, 4, 4⟩
@[inherit_doc Spec.TRL_EVENT] def Fld.TRL_EVENT_LOF_CHG : Fld := ⟨Reg.TRL_EVENT, 3, 3⟩
@[inherit_doc Spec.TRL_EVENT] def Fld.TRL_EVENT_LOA_CHG : Fld := ⟨Reg.TRL_EVENT, 2, 2⟩
@[inherit_doc Spec.TRL_EVENT] def Fld.TRL_EVENT_LOS_CHG : Fld := ⟨Reg.TRL_EVENT, 1, 1⟩
@[inherit_doc Spec.TRL_EVENT] def Fld.TRL_EVENT_MDC_OVF : Fld := ⟨Reg.TRL_EVENT, 0, 0⟩
/-- TRL_LANE_MAP (R417). -/
def Spec.TRL_LANE_MAP : RegSpec :=
  { name := "TRL_LANE_MAP", base := 0xF00010, dims := [], reset := fun _ => 0xFAC688
    fields := [{ hi := 23, lo := 0, acc := .ro }] }
@[inherit_doc Spec.TRL_LANE_MAP] def Reg.TRL_LANE_MAP : Reg := Spec.TRL_LANE_MAP.at []
@[inherit_doc Spec.TRL_LANE_MAP] def Fld.TRL_LANE_MAP_MAP : Fld := ⟨Reg.TRL_LANE_MAP, 23, 0⟩
/-- TRL_DEG_CFG (R417). -/
def Spec.TRL_DEG_CFG : RegSpec :=
  { name := "TRL_DEG_CFG", base := 0xF00014, dims := [], reset := fun _ => 0xA604
    fields := [⟨23, 0, .rw, 1, 16777215⟩] }
@[inherit_doc Spec.TRL_DEG_CFG] def Reg.TRL_DEG_CFG : Reg := Spec.TRL_DEG_CFG.at []
@[inherit_doc Spec.TRL_DEG_CFG] def Fld.TRL_DEG_CFG_THRESH : Fld := ⟨Reg.TRL_DEG_CFG, 23, 0⟩
/-- TRL_INTEG (R417). -/
def Spec.TRL_INTEG : RegSpec :=
  { name := "TRL_INTEG", base := 0xF00020, dims := [(6, 0x4, 0)], reset := fun _ => 0x190064
    fields := [⟨25, 16, .rw, 0, 1000⟩, ⟨9, 0, .rw, 0, 1000⟩] }
@[inherit_doc Spec.TRL_INTEG] def Reg.TRL_INTEG (p : Nat) : Reg := Spec.TRL_INTEG.at [p]
@[inherit_doc Spec.TRL_INTEG] def Fld.TRL_INTEG_SET (p : Nat) : Fld := ⟨Reg.TRL_INTEG p, 25, 16⟩
@[inherit_doc Spec.TRL_INTEG] def Fld.TRL_INTEG_CLR (p : Nat) : Fld := ⟨Reg.TRL_INTEG p, 9, 0⟩
/-- TRL_OH_CRC (R417). -/
def Spec.TRL_OH_CRC : RegSpec :=
  { name := "TRL_OH_CRC", base := 0xF00100, dims := [], reset := fun _ => 0x0
    fields := [{ hi := 31, lo := 0, acc := .rc }] }
@[inherit_doc Spec.TRL_OH_CRC] def Reg.TRL_OH_CRC : Reg := Spec.TRL_OH_CRC.at []
/-- TRL_HDR_ERR (R417). -/
def Spec.TRL_HDR_ERR : RegSpec :=
  { name := "TRL_HDR_ERR", base := 0xF00104, dims := [], reset := fun _ => 0x0
    fields := [{ hi := 31, lo := 0, acc := .rc }] }
@[inherit_doc Spec.TRL_HDR_ERR] def Reg.TRL_HDR_ERR : Reg := Spec.TRL_HDR_ERR.at []
/-- TRL_RX_ABORT (R417). -/
def Spec.TRL_RX_ABORT : RegSpec :=
  { name := "TRL_RX_ABORT", base := 0xF00108, dims := [], reset := fun _ => 0x0
    fields := [{ hi := 31, lo := 0, acc := .rc }] }
@[inherit_doc Spec.TRL_RX_ABORT] def Reg.TRL_RX_ABORT : Reg := Spec.TRL_RX_ABORT.at []
/-- TRL_TX_ABORT (R417). -/
def Spec.TRL_TX_ABORT : RegSpec :=
  { name := "TRL_TX_ABORT", base := 0xF0010C, dims := [], reset := fun _ => 0x0
    fields := [{ hi := 31, lo := 0, acc := .rc }] }
@[inherit_doc Spec.TRL_TX_ABORT] def Reg.TRL_TX_ABORT : Reg := Spec.TRL_TX_ABORT.at []
/-- TRL_FEC_CORR (R417). -/
def Spec.TRL_FEC_CORR : RegSpec :=
  { name := "TRL_FEC_CORR", base := 0xF00110, dims := [], reset := fun _ => 0x0
    fields := [{ hi := 31, lo := 0, acc := .rc }] }
@[inherit_doc Spec.TRL_FEC_CORR] def Reg.TRL_FEC_CORR : Reg := Spec.TRL_FEC_CORR.at []
/-- TRL_FEC_UNCORR (R417). -/
def Spec.TRL_FEC_UNCORR : RegSpec :=
  { name := "TRL_FEC_UNCORR", base := 0xF00114, dims := [], reset := fun _ => 0x0
    fields := [{ hi := 31, lo := 0, acc := .rc }] }
@[inherit_doc Spec.TRL_FEC_UNCORR] def Reg.TRL_FEC_UNCORR : Reg := Spec.TRL_FEC_UNCORR.at []
/-- TRL_OOF (R417). -/
def Spec.TRL_OOF : RegSpec :=
  { name := "TRL_OOF", base := 0xF00118, dims := [], reset := fun _ => 0x0
    fields := [{ hi := 31, lo := 0, acc := .rc }] }
@[inherit_doc Spec.TRL_OOF] def Reg.TRL_OOF : Reg := Spec.TRL_OOF.at []
/-- TRL_MDC_CFG (R417). -/
def Spec.TRL_MDC_CFG : RegSpec :=
  { name := "TRL_MDC_CFG", base := 0xF00200, dims := [(2, 0x20, 0)], reset := fun _ => 0x12DFD
    fields := [{ hi := 31, lo := 31, acc := .rw }, { hi := 30, lo := 30, acc := .rw }, ⟨19, 0, .rw, 805, 618475⟩] }
@[inherit_doc Spec.TRL_MDC_CFG] def Reg.TRL_MDC_CFG (p : Nat) : Reg := Spec.TRL_MDC_CFG.at [p]
@[inherit_doc Spec.TRL_MDC_CFG] def Fld.TRL_MDC_CFG_EN (p : Nat) : Fld := ⟨Reg.TRL_MDC_CFG p, 31, 31⟩
@[inherit_doc Spec.TRL_MDC_CFG] def Fld.TRL_MDC_CFG_SRC (p : Nat) : Fld := ⟨Reg.TRL_MDC_CFG p, 30, 30⟩
@[inherit_doc Spec.TRL_MDC_CFG] def Fld.TRL_MDC_CFG_BAUD_INC (p : Nat) : Fld := ⟨Reg.TRL_MDC_CFG p, 19, 0⟩
/-- TRL_MDC_STAT (R417). -/
def Spec.TRL_MDC_STAT : RegSpec :=
  { name := "TRL_MDC_STAT", base := 0xF00204, dims := [(2, 0x20, 0)], reset := fun _ => 0x0
    fields := [{ hi := 24, lo := 16, acc := .ro }, { hi := 12, lo := 4, acc := .ro }, { hi := 2, lo := 2, acc := .w1c }, { hi := 1, lo := 1, acc := .w1c }, { hi := 0, lo := 0, acc := .w1c }] }
@[inherit_doc Spec.TRL_MDC_STAT] def Reg.TRL_MDC_STAT (p : Nat) : Reg := Spec.TRL_MDC_STAT.at [p]
@[inherit_doc Spec.TRL_MDC_STAT] def Fld.TRL_MDC_STAT_IN_LEVEL (p : Nat) : Fld := ⟨Reg.TRL_MDC_STAT p, 24, 16⟩
@[inherit_doc Spec.TRL_MDC_STAT] def Fld.TRL_MDC_STAT_OUT_LEVEL (p : Nat) : Fld := ⟨Reg.TRL_MDC_STAT p, 12, 4⟩
@[inherit_doc Spec.TRL_MDC_STAT] def Fld.TRL_MDC_STAT_FRAME_ERR (p : Nat) : Fld := ⟨Reg.TRL_MDC_STAT p, 2, 2⟩
@[inherit_doc Spec.TRL_MDC_STAT] def Fld.TRL_MDC_STAT_OVF_IN (p : Nat) : Fld := ⟨Reg.TRL_MDC_STAT p, 1, 1⟩
@[inherit_doc Spec.TRL_MDC_STAT] def Fld.TRL_MDC_STAT_OVF_OUT (p : Nat) : Fld := ⟨Reg.TRL_MDC_STAT p, 0, 0⟩
/-- TRL_MDC_TX (R417). -/
def Spec.TRL_MDC_TX : RegSpec :=
  { name := "TRL_MDC_TX", base := 0xF00208, dims := [(2, 0x20, 0)], reset := fun _ => 0x0
    fields := [{ hi := 7, lo := 0, acc := .wo }] }
@[inherit_doc Spec.TRL_MDC_TX] def Reg.TRL_MDC_TX (p : Nat) : Reg := Spec.TRL_MDC_TX.at [p]
@[inherit_doc Spec.TRL_MDC_TX] def Fld.TRL_MDC_TX_DATA (p : Nat) : Fld := ⟨Reg.TRL_MDC_TX p, 7, 0⟩
/-- TRL_MDC_RX (R417). -/
def Spec.TRL_MDC_RX : RegSpec :=
  { name := "TRL_MDC_RX", base := 0xF0020C, dims := [(2, 0x20, 0)], reset := fun _ => 0x0
    fields := [{ hi := 8, lo := 8, acc := .rc }, { hi := 7, lo := 0, acc := .rc }] }
@[inherit_doc Spec.TRL_MDC_RX] def Reg.TRL_MDC_RX (p : Nat) : Reg := Spec.TRL_MDC_RX.at [p]
@[inherit_doc Spec.TRL_MDC_RX] def Fld.TRL_MDC_RX_VALID (p : Nat) : Fld := ⟨Reg.TRL_MDC_RX p, 8, 8⟩
@[inherit_doc Spec.TRL_MDC_RX] def Fld.TRL_MDC_RX_DATA (p : Nat) : Fld := ⟨Reg.TRL_MDC_RX p, 7, 0⟩
/-- TRL_MDC_LOST (R417). -/
def Spec.TRL_MDC_LOST : RegSpec :=
  { name := "TRL_MDC_LOST", base := 0xF00210, dims := [(2, 0x20, 0)], reset := fun _ => 0x0
    fields := [{ hi := 31, lo := 0, acc := .rc }] }
@[inherit_doc Spec.TRL_MDC_LOST] def Reg.TRL_MDC_LOST (p : Nat) : Reg := Spec.TRL_MDC_LOST.at [p]
/-- GRF_CFG (R453). -/
def Spec.GRF_CFG : RegSpec :=
  { name := "GRF_CFG", base := 0x1000000, dims := [], reset := fun _ => 0xC8
    fields := [{ hi := 31, lo := 31, acc := .rw }, ⟨30, 29, .rw, 0, 2⟩, { hi := 23, lo := 16, acc := .rw }, ⟨8, 0, .rw, 10, 395⟩] }
@[inherit_doc Spec.GRF_CFG] def Reg.GRF_CFG : Reg := Spec.GRF_CFG.at []
@[inherit_doc Spec.GRF_CFG] def Fld.GRF_CFG_EN : Fld := ⟨Reg.GRF_CFG, 31, 31⟩
@[inherit_doc Spec.GRF_CFG] def Fld.GRF_CFG_STBY_ACT : Fld := ⟨Reg.GRF_CFG, 30, 29⟩
@[inherit_doc Spec.GRF_CFG] def Fld.GRF_CFG_STBY_Q : Fld := ⟨Reg.GRF_CFG, 23, 16⟩
@[inherit_doc Spec.GRF_CFG] def Fld.GRF_CFG_SHARE_GBPS : Fld := ⟨Reg.GRF_CFG, 8, 0⟩
/-- GRF_RATE (R453). -/
def Spec.GRF_RATE : RegSpec :=
  { name := "GRF_RATE", base := 0x1000004, dims := [], reset := fun _ => 0x64
    fields := [⟨6, 0, .rw, 1, 100⟩] }
@[inherit_doc Spec.GRF_RATE] def Reg.GRF_RATE : Reg := Spec.GRF_RATE.at []
@[inherit_doc Spec.GRF_RATE] def Fld.GRF_RATE_RESYNC_GBPS : Fld := ⟨Reg.GRF_RATE, 6, 0⟩
/-- GRF_TIMERS (R454). -/
def Spec.GRF_TIMERS : RegSpec :=
  { name := "GRF_TIMERS", base := 0x1000008, dims := [], reset := fun _ => 0x30307D0
    fields := [⟨31, 24, .rw, 1, 100⟩, ⟨23, 16, .rw, 2, 100⟩, ⟨15, 0, .rw, 100, 65535⟩] }
@[inherit_doc Spec.GRF_TIMERS] def Reg.GRF_TIMERS : Reg := Spec.GRF_TIMERS.at []
@[inherit_doc Spec.GRF_TIMERS] def Fld.GRF_TIMERS_HB_MS : Fld := ⟨Reg.GRF_TIMERS, 31, 24⟩
@[inherit_doc Spec.GRF_TIMERS] def Fld.GRF_TIMERS_WIT_MS : Fld := ⟨Reg.GRF_TIMERS, 23, 16⟩
@[inherit_doc Spec.GRF_TIMERS] def Fld.GRF_TIMERS_LAG_US : Fld := ⟨Reg.GRF_TIMERS, 15, 0⟩
/-- GRF_TIMERS_2 (R454). -/
def Spec.GRF_TIMERS_2 : RegSpec :=
  { name := "GRF_TIMERS_2", base := 0x100000C, dims := [], reset := fun _ => 0x13880064
    fields := [⟨31, 16, .rw, 100, 60000⟩, ⟨15, 0, .rw, 20, 10000⟩] }
@[inherit_doc Spec.GRF_TIMERS_2] def Reg.GRF_TIMERS_2 : Reg := Spec.GRF_TIMERS_2.at []
@[inherit_doc Spec.GRF_TIMERS_2] def Fld.GRF_TIMERS_2_SUSP_MS : Fld := ⟨Reg.GRF_TIMERS_2, 31, 16⟩
@[inherit_doc Spec.GRF_TIMERS_2] def Fld.GRF_TIMERS_2_RETX_US : Fld := ⟨Reg.GRF_TIMERS_2, 15, 0⟩
/-- GRF_STATUS (R455). -/
def Spec.GRF_STATUS : RegSpec :=
  { name := "GRF_STATUS", base := 0x1000010, dims := [], reset := fun _ => 0x0
    fields := [{ hi := 31, lo := 29, acc := .ro }, { hi := 28, lo := 28, acc := .ro }, { hi := 27, lo := 27, acc := .ro }, { hi := 26, lo := 24, acc := .ro }, { hi := 23, lo := 0, acc := .ro }] }
@[inherit_doc Spec.GRF_STATUS] def Reg.GRF_STATUS : Reg := Spec.GRF_STATUS.at []
@[inherit_doc Spec.GRF_STATUS] def Fld.GRF_STATUS_PAIR : Fld := ⟨Reg.GRF_STATUS, 31, 29⟩
@[inherit_doc Spec.GRF_STATUS] def Fld.GRF_STATUS_LAG : Fld := ⟨Reg.GRF_STATUS, 28, 28⟩
@[inherit_doc Spec.GRF_STATUS] def Fld.GRF_STATUS_SIDE : Fld := ⟨Reg.GRF_STATUS, 27, 27⟩
@[inherit_doc Spec.GRF_STATUS] def Fld.GRF_STATUS_REASON : Fld := ⟨Reg.GRF_STATUS, 26, 24⟩
@[inherit_doc Spec.GRF_STATUS] def Fld.GRF_STATUS_LOG_USED : Fld := ⟨Reg.GRF_STATUS, 23, 0⟩
/-- GRF_CTL (R455). -/
def Spec.GRF_CTL : RegSpec :=
  { name := "GRF_CTL", base := 0x1000014, dims := [], reset := fun _ => 0x0
    fields := [{ hi := 31, lo := 31, acc := .wo }, { hi := 30, lo := 30, acc := .wo }, { hi := 29, lo := 29, acc := .wo }] }
@[inherit_doc Spec.GRF_CTL] def Reg.GRF_CTL : Reg := Spec.GRF_CTL.at []
@[inherit_doc Spec.GRF_CTL] def Fld.GRF_CTL_FLUSH : Fld := ⟨Reg.GRF_CTL, 31, 31⟩
@[inherit_doc Spec.GRF_CTL] def Fld.GRF_CTL_RETRY : Fld := ⟨Reg.GRF_CTL, 30, 30⟩
@[inherit_doc Spec.GRF_CTL] def Fld.GRF_CTL_UNPAIR : Fld := ⟨Reg.GRF_CTL, 29, 29⟩
/-- GRF_ZONE_CMD (R457). -/
def Spec.GRF_ZONE_CMD : RegSpec :=
  { name := "GRF_ZONE_CMD", base := 0x1000100, dims := [], reset := fun _ => 0x0
    fields := [{ hi := 31, lo := 31, acc := .wo }, { hi := 30, lo := 30, acc := .rw }, ⟨29, 28, .rw, 0, 2⟩, { hi := 15, lo := 0, acc := .rw }] }
@[inherit_doc Spec.GRF_ZONE_CMD] def Reg.GRF_ZONE_CMD : Reg := Spec.GRF_ZONE_CMD.at []
@[inherit_doc Spec.GRF_ZONE_CMD] def Fld.GRF_ZONE_CMD_GO : Fld := ⟨Reg.GRF_ZONE_CMD, 31, 31⟩
@[inherit_doc Spec.GRF_ZONE_CMD] def Fld.GRF_ZONE_CMD_WRITE : Fld := ⟨Reg.GRF_ZONE_CMD, 30, 30⟩
@[inherit_doc Spec.GRF_ZONE_CMD] def Fld.GRF_ZONE_CMD_ACT : Fld := ⟨Reg.GRF_ZONE_CMD, 29, 28⟩
@[inherit_doc Spec.GRF_ZONE_CMD] def Fld.GRF_ZONE_CMD_ZONE : Fld := ⟨Reg.GRF_ZONE_CMD, 15, 0⟩
/-- GRF_ZONE_DATA (R457). -/
def Spec.GRF_ZONE_DATA : RegSpec :=
  { name := "GRF_ZONE_DATA", base := 0x1000104, dims := [], reset := fun _ => 0x0
    fields := [{ hi := 31, lo := 31, acc := .rw }, { hi := 30, lo := 30, acc := .rw }, { hi := 29, lo := 27, acc := .rw }, { hi := 26, lo := 26, acc := .ro }, { hi := 25, lo := 24, acc := .ro }] }
@[inherit_doc Spec.GRF_ZONE_DATA] def Reg.GRF_ZONE_DATA : Reg := Spec.GRF_ZONE_DATA.at []
@[inherit_doc Spec.GRF_ZONE_DATA] def Fld.GRF_ZONE_DATA_PAIRED : Fld := ⟨Reg.GRF_ZONE_DATA, 31, 31⟩
@[inherit_doc Spec.GRF_ZONE_DATA] def Fld.GRF_ZONE_DATA_HOME : Fld := ⟨Reg.GRF_ZONE_DATA, 30, 30⟩
@[inherit_doc Spec.GRF_ZONE_DATA] def Fld.GRF_ZONE_DATA_GROUP : Fld := ⟨Reg.GRF_ZONE_DATA, 29, 27⟩
@[inherit_doc Spec.GRF_ZONE_DATA] def Fld.GRF_ZONE_DATA_ROLE : Fld := ⟨Reg.GRF_ZONE_DATA, 26, 26⟩
@[inherit_doc Spec.GRF_ZONE_DATA] def Fld.GRF_ZONE_DATA_STATE : Fld := ⟨Reg.GRF_ZONE_DATA, 25, 24⟩
/-- GRF_ZONE_STAT (R457). -/
def Spec.GRF_ZONE_STAT : RegSpec :=
  { name := "GRF_ZONE_STAT", base := 0x1000108, dims := [], reset := fun _ => 0x0
    fields := [{ hi := 7, lo := 4, acc := .ro }, { hi := 2, lo := 2, acc := .w1c }, { hi := 1, lo := 1, acc := .w1c }, { hi := 0, lo := 0, acc := .ro }] }
@[inherit_doc Spec.GRF_ZONE_STAT] def Reg.GRF_ZONE_STAT : Reg := Spec.GRF_ZONE_STAT.at []
@[inherit_doc Spec.GRF_ZONE_STAT] def Fld.GRF_ZONE_STAT_REASON : Fld := ⟨Reg.GRF_ZONE_STAT, 7, 4⟩
@[inherit_doc Spec.GRF_ZONE_STAT] def Fld.GRF_ZONE_STAT_REJECTED : Fld := ⟨Reg.GRF_ZONE_STAT, 2, 2⟩
@[inherit_doc Spec.GRF_ZONE_STAT] def Fld.GRF_ZONE_STAT_DONE : Fld := ⟨Reg.GRF_ZONE_STAT, 1, 1⟩
@[inherit_doc Spec.GRF_ZONE_STAT] def Fld.GRF_ZONE_STAT_BUSY : Fld := ⟨Reg.GRF_ZONE_STAT, 0, 0⟩
/-- GRF_WIT (R458). -/
def Spec.GRF_WIT : RegSpec :=
  { name := "GRF_WIT", base := 0x1000200, dims := [(8, 0x4, 0)], reset := fun _ => 0x0
    fields := [{ hi := 31, lo := 31, acc := .rw }, { hi := 29, lo := 24, acc := .rw }, { hi := 21, lo := 16, acc := .rw }] }
@[inherit_doc Spec.GRF_WIT] def Reg.GRF_WIT (p : Nat) : Reg := Spec.GRF_WIT.at [p]
@[inherit_doc Spec.GRF_WIT] def Fld.GRF_WIT_EN (p : Nat) : Fld := ⟨Reg.GRF_WIT p, 31, 31⟩
@[inherit_doc Spec.GRF_WIT] def Fld.GRF_WIT_PEER_PORT (p : Nat) : Fld := ⟨Reg.GRF_WIT p, 29, 24⟩
@[inherit_doc Spec.GRF_WIT] def Fld.GRF_WIT_PORT (p : Nat) : Fld := ⟨Reg.GRF_WIT p, 21, 16⟩
/-- GRF_PEER_MAC_HI (R458). -/
def Spec.GRF_PEER_MAC_HI : RegSpec :=
  { name := "GRF_PEER_MAC_HI", base := 0x1000220, dims := [], reset := fun _ => 0x0
    fields := [{ hi := 15, lo := 0, acc := .rw }] }
@[inherit_doc Spec.GRF_PEER_MAC_HI] def Reg.GRF_PEER_MAC_HI : Reg := Spec.GRF_PEER_MAC_HI.at []
@[inherit_doc Spec.GRF_PEER_MAC_HI] def Fld.GRF_PEER_MAC_HI_MAC_HI : Fld := ⟨Reg.GRF_PEER_MAC_HI, 15, 0⟩
/-- GRF_PEER_MAC_LO (R458). -/
def Spec.GRF_PEER_MAC_LO : RegSpec :=
  { name := "GRF_PEER_MAC_LO", base := 0x1000224, dims := [], reset := fun _ => 0x0
    fields := [{ hi := 31, lo := 0, acc := .rw }] }
@[inherit_doc Spec.GRF_PEER_MAC_LO] def Reg.GRF_PEER_MAC_LO : Reg := Spec.GRF_PEER_MAC_LO.at []
/-- GRF_WIT_STAT (R458). -/
def Spec.GRF_WIT_STAT : RegSpec :=
  { name := "GRF_WIT_STAT", base := 0x1000228, dims := [], reset := fun _ => 0x0
    fields := [{ hi := 7, lo := 0, acc := .ro }] }
@[inherit_doc Spec.GRF_WIT_STAT] def Reg.GRF_WIT_STAT : Reg := Spec.GRF_WIT_STAT.at []
@[inherit_doc Spec.GRF_WIT_STAT] def Fld.GRF_WIT_STAT_PRESENT : Fld := ⟨Reg.GRF_WIT_STAT, 7, 0⟩
/-- GRF_ENTRIES_TX (R459). -/
def Spec.GRF_ENTRIES_TX : RegSpec :=
  { name := "GRF_ENTRIES_TX", base := 0x1000300, dims := [], reset := fun _ => 0x0
    fields := [{ hi := 31, lo := 0, acc := .rc }] }
@[inherit_doc Spec.GRF_ENTRIES_TX] def Reg.GRF_ENTRIES_TX : Reg := Spec.GRF_ENTRIES_TX.at []
/-- GRF_FOLDED (R459). -/
def Spec.GRF_FOLDED : RegSpec :=
  { name := "GRF_FOLDED", base := 0x1000304, dims := [], reset := fun _ => 0x0
    fields := [{ hi := 31, lo := 0, acc := .rc }] }
@[inherit_doc Spec.GRF_FOLDED] def Reg.GRF_FOLDED : Reg := Spec.GRF_FOLDED.at []
/-- GRF_RETX (R459). -/
def Spec.GRF_RETX : RegSpec :=
  { name := "GRF_RETX", base := 0x1000308, dims := [], reset := fun _ => 0x0
    fields := [{ hi := 31, lo := 0, acc := .rc }] }
@[inherit_doc Spec.GRF_RETX] def Reg.GRF_RETX : Reg := Spec.GRF_RETX.at []
/-- GRF_ENTRIES_RX (R459). -/
def Spec.GRF_ENTRIES_RX : RegSpec :=
  { name := "GRF_ENTRIES_RX", base := 0x100030C, dims := [], reset := fun _ => 0x0
    fields := [{ hi := 31, lo := 0, acc := .rc }] }
@[inherit_doc Spec.GRF_ENTRIES_RX] def Reg.GRF_ENTRIES_RX : Reg := Spec.GRF_ENTRIES_RX.at []
/-- GRF_DUP (R459). -/
def Spec.GRF_DUP : RegSpec :=
  { name := "GRF_DUP", base := 0x1000310, dims := [], reset := fun _ => 0x0
    fields := [{ hi := 31, lo := 0, acc := .rc }] }
@[inherit_doc Spec.GRF_DUP] def Reg.GRF_DUP : Reg := Spec.GRF_DUP.at []
/-- GRF_GAP (R459). -/
def Spec.GRF_GAP : RegSpec :=
  { name := "GRF_GAP", base := 0x1000314, dims := [], reset := fun _ => 0x0
    fields := [{ hi := 31, lo := 0, acc := .rc }] }
@[inherit_doc Spec.GRF_GAP] def Reg.GRF_GAP : Reg := Spec.GRF_GAP.at []
/-- GRF_MSG_CRC (R459). -/
def Spec.GRF_MSG_CRC : RegSpec :=
  { name := "GRF_MSG_CRC", base := 0x1000318, dims := [], reset := fun _ => 0x0
    fields := [{ hi := 31, lo := 0, acc := .rc }] }
@[inherit_doc Spec.GRF_MSG_CRC] def Reg.GRF_MSG_CRC : Reg := Spec.GRF_MSG_CRC.at []
/-- GRF_MALFORMED (R459). -/
def Spec.GRF_MALFORMED : RegSpec :=
  { name := "GRF_MALFORMED", base := 0x100031C, dims := [], reset := fun _ => 0x0
    fields := [{ hi := 31, lo := 0, acc := .rc }] }
@[inherit_doc Spec.GRF_MALFORMED] def Reg.GRF_MALFORMED : Reg := Spec.GRF_MALFORMED.at []
/-- GRF_APPLY_FAIL (R459). -/
def Spec.GRF_APPLY_FAIL : RegSpec :=
  { name := "GRF_APPLY_FAIL", base := 0x1000320, dims := [], reset := fun _ => 0x0
    fields := [{ hi := 31, lo := 0, acc := .rc }] }
@[inherit_doc Spec.GRF_APPLY_FAIL] def Reg.GRF_APPLY_FAIL : Reg := Spec.GRF_APPLY_FAIL.at []
/-- GRF_STBY_PKTS (R459). -/
def Spec.GRF_STBY_PKTS : RegSpec :=
  { name := "GRF_STBY_PKTS", base := 0x1000324, dims := [], reset := fun _ => 0x0
    fields := [{ hi := 31, lo := 0, acc := .rc }] }
@[inherit_doc Spec.GRF_STBY_PKTS] def Reg.GRF_STBY_PKTS : Reg := Spec.GRF_STBY_PKTS.at []
/-- GRF_REPAIR_SERVED (R459). -/
def Spec.GRF_REPAIR_SERVED : RegSpec :=
  { name := "GRF_REPAIR_SERVED", base := 0x1000328, dims := [], reset := fun _ => 0x0
    fields := [{ hi := 31, lo := 0, acc := .rc }] }
@[inherit_doc Spec.GRF_REPAIR_SERVED] def Reg.GRF_REPAIR_SERVED : Reg := Spec.GRF_REPAIR_SERVED.at []
/-- GRF_WIT_BAD (R459). -/
def Spec.GRF_WIT_BAD : RegSpec :=
  { name := "GRF_WIT_BAD", base := 0x100032C, dims := [], reset := fun _ => 0x0
    fields := [{ hi := 31, lo := 0, acc := .rc }] }
@[inherit_doc Spec.GRF_WIT_BAD] def Reg.GRF_WIT_BAD : Reg := Spec.GRF_WIT_BAD.at []
/-- KTL_PWR_CFG (R481). -/
def Spec.KTL_PWR_CFG : RegSpec :=
  { name := "KTL_PWR_CFG", base := 0x100010, dims := [], reset := fun _ => 0xFF0000C8
    fields := [{ hi := 31, lo := 28, acc := .rw }, { hi := 27, lo := 24, acc := .rw }, ⟨15, 0, .rw, 10, 65535⟩] }
@[inherit_doc Spec.KTL_PWR_CFG] def Reg.KTL_PWR_CFG : Reg := Spec.KTL_PWR_CFG.at []
@[inherit_doc Spec.KTL_PWR_CFG] def Fld.KTL_PWR_CFG_REST_EN : Fld := ⟨Reg.KTL_PWR_CFG, 31, 28⟩
@[inherit_doc Spec.KTL_PWR_CFG] def Fld.KTL_PWR_CFG_DORMANT_EN : Fld := ⟨Reg.KTL_PWR_CFG, 27, 24⟩
@[inherit_doc Spec.KTL_PWR_CFG] def Fld.KTL_PWR_CFG_REST_US : Fld := ⟨Reg.KTL_PWR_CFG, 15, 0⟩
/-- KTL_LEAD (R481). -/
def Spec.KTL_LEAD : RegSpec :=
  { name := "KTL_LEAD", base := 0x100014, dims := [], reset := fun _ => 0x3E8
    fields := [⟨16, 0, .rw, 0, 100000⟩] }
@[inherit_doc Spec.KTL_LEAD] def Reg.KTL_LEAD : Reg := Spec.KTL_LEAD.at []
@[inherit_doc Spec.KTL_LEAD] def Fld.KTL_LEAD_LEAD_NS : Fld := ⟨Reg.KTL_LEAD, 16, 0⟩
/-- KTL_COZY_CFG (R481). -/
def Spec.KTL_COZY_CFG : RegSpec :=
  { name := "KTL_COZY_CFG", base := 0x100018, dims := [], reset := fun _ => 0x20000
    fields := [⟨19, 0, .rw, 16384, 524288⟩] }
@[inherit_doc Spec.KTL_COZY_CFG] def Reg.KTL_COZY_CFG : Reg := Spec.KTL_COZY_CFG.at []
@[inherit_doc Spec.KTL_COZY_CFG] def Fld.KTL_COZY_CFG_COZY_RSV : Fld := ⟨Reg.KTL_COZY_CFG, 19, 0⟩
/-- KTL_SR_CFG (R481). -/
def Spec.KTL_SR_CFG : RegSpec :=
  { name := "KTL_SR_CFG", base := 0x10001C, dims := [], reset := fun _ => 0x800A0064
    fields := [{ hi := 31, lo := 31, acc := .rw }, ⟨25, 16, .rw, 1, 1000⟩, ⟨15, 0, .rw, 10, 10000⟩] }
@[inherit_doc Spec.KTL_SR_CFG] def Reg.KTL_SR_CFG : Reg := Spec.KTL_SR_CFG.at []
@[inherit_doc Spec.KTL_SR_CFG] def Fld.KTL_SR_CFG_SR_EN : Fld := ⟨Reg.KTL_SR_CFG, 31, 31⟩
@[inherit_doc Spec.KTL_SR_CFG] def Fld.KTL_SR_CFG_SR_IDLE_MS : Fld := ⟨Reg.KTL_SR_CFG, 25, 16⟩
@[inherit_doc Spec.KTL_SR_CFG] def Fld.KTL_SR_CFG_SR_BATCH_MS : Fld := ⟨Reg.KTL_SR_CFG, 15, 0⟩
/-- KTL_PWR_STAT (R481). -/
def Spec.KTL_PWR_STAT : RegSpec :=
  { name := "KTL_PWR_STAT", base := 0x100020, dims := [], reset := fun _ => 0xFF
    fields := [{ hi := 31, lo := 31, acc := .ro }, { hi := 30, lo := 30, acc := .ro }, { hi := 29, lo := 28, acc := .ro }, { hi := 11, lo := 8, acc := .ro }, { hi := 7, lo := 0, acc := .ro }] }
@[inherit_doc Spec.KTL_PWR_STAT] def Reg.KTL_PWR_STAT : Reg := Spec.KTL_PWR_STAT.at []
@[inherit_doc Spec.KTL_PWR_STAT] def Fld.KTL_PWR_STAT_SR : Fld := ⟨Reg.KTL_PWR_STAT, 31, 31⟩
@[inherit_doc Spec.KTL_PWR_STAT] def Fld.KTL_PWR_STAT_WARN : Fld := ⟨Reg.KTL_PWR_STAT, 30, 30⟩
@[inherit_doc Spec.KTL_PWR_STAT] def Fld.KTL_PWR_STAT_THROT : Fld := ⟨Reg.KTL_PWR_STAT, 29, 28⟩
@[inherit_doc Spec.KTL_PWR_STAT] def Fld.KTL_PWR_STAT_WAKING : Fld := ⟨Reg.KTL_PWR_STAT, 11, 8⟩
@[inherit_doc Spec.KTL_PWR_STAT] def Fld.KTL_PWR_STAT_STATE : Fld := ⟨Reg.KTL_PWR_STAT, 7, 0⟩
/-- KTL_HOLD (R481). -/
def Spec.KTL_HOLD : RegSpec :=
  { name := "KTL_HOLD", base := 0x100024, dims := [], reset := fun _ => 0x0
    fields := [{ hi := 3, lo := 0, acc := .rw }] }
@[inherit_doc Spec.KTL_HOLD] def Reg.KTL_HOLD : Reg := Spec.KTL_HOLD.at []
@[inherit_doc Spec.KTL_HOLD] def Fld.KTL_HOLD_HOLD_RUN : Fld := ⟨Reg.KTL_HOLD, 3, 0⟩
/-- KTL_WCMP_CTL (R482). -/
def Spec.KTL_WCMP_CTL : RegSpec :=
  { name := "KTL_WCMP_CTL", base := 0x100100, dims := [(16, 0x10, 0)], reset := fun _ => 0x0
    fields := [{ hi := 31, lo := 31, acc := .rw }, { hi := 3, lo := 0, acc := .rw }] }
@[inherit_doc Spec.KTL_WCMP_CTL] def Reg.KTL_WCMP_CTL (p : Nat) : Reg := Spec.KTL_WCMP_CTL.at [p]
@[inherit_doc Spec.KTL_WCMP_CTL] def Fld.KTL_WCMP_CTL_ARM (p : Nat) : Fld := ⟨Reg.KTL_WCMP_CTL p, 31, 31⟩
@[inherit_doc Spec.KTL_WCMP_CTL] def Fld.KTL_WCMP_CTL_MASK (p : Nat) : Fld := ⟨Reg.KTL_WCMP_CTL p, 3, 0⟩
/-- KTL_WCMP_SH (R482). -/
def Spec.KTL_WCMP_SH : RegSpec :=
  { name := "KTL_WCMP_SH", base := 0x100104, dims := [(16, 0x10, 0)], reset := fun _ => 0x0
    fields := [{ hi := 15, lo := 0, acc := .rw }] }
@[inherit_doc Spec.KTL_WCMP_SH] def Reg.KTL_WCMP_SH (p : Nat) : Reg := Spec.KTL_WCMP_SH.at [p]
@[inherit_doc Spec.KTL_WCMP_SH] def Fld.KTL_WCMP_SH_SEC_HI (p : Nat) : Fld := ⟨Reg.KTL_WCMP_SH p, 15, 0⟩
/-- KTL_WCMP_SL (R482). -/
def Spec.KTL_WCMP_SL : RegSpec :=
  { name := "KTL_WCMP_SL", base := 0x100108, dims := [(16, 0x10, 0)], reset := fun _ => 0x0
    fields := [{ hi := 31, lo := 0, acc := .rw }] }
@[inherit_doc Spec.KTL_WCMP_SL] def Reg.KTL_WCMP_SL (p : Nat) : Reg := Spec.KTL_WCMP_SL.at [p]
/-- KTL_WCMP_NS (R482). -/
def Spec.KTL_WCMP_NS : RegSpec :=
  { name := "KTL_WCMP_NS", base := 0x10010C, dims := [(16, 0x10, 0)], reset := fun _ => 0x0
    fields := [{ hi := 29, lo := 0, acc := .rw }] }
@[inherit_doc Spec.KTL_WCMP_NS] def Reg.KTL_WCMP_NS (p : Nat) : Reg := Spec.KTL_WCMP_NS.at [p]
@[inherit_doc Spec.KTL_WCMP_NS] def Fld.KTL_WCMP_NS_NS (p : Nat) : Fld := ⟨Reg.KTL_WCMP_NS p, 29, 0⟩
/-- KTL_WARN_STAT (R483). -/
def Spec.KTL_WARN_STAT : RegSpec :=
  { name := "KTL_WARN_STAT", base := 0x100044, dims := [], reset := fun _ => 0x0
    fields := [{ hi := 31, lo := 16, acc := .ro }, { hi := 15, lo := 0, acc := .ro }] }
@[inherit_doc Spec.KTL_WARN_STAT] def Reg.KTL_WARN_STAT : Reg := Spec.KTL_WARN_STAT.at []
@[inherit_doc Spec.KTL_WARN_STAT] def Fld.KTL_WARN_STAT_COUNT : Fld := ⟨Reg.KTL_WARN_STAT, 31, 16⟩
@[inherit_doc Spec.KTL_WARN_STAT] def Fld.KTL_WARN_STAT_LAST_US : Fld := ⟨Reg.KTL_WARN_STAT, 15, 0⟩
/-- KTL_RESET_CAUSE (R483). -/
def Spec.KTL_RESET_CAUSE : RegSpec :=
  { name := "KTL_RESET_CAUSE", base := 0x100048, dims := [], reset := fun _ => 0x80
    fields := [{ hi := 7, lo := 7, acc := .ro }, { hi := 6, lo := 6, acc := .ro }, { hi := 5, lo := 5, acc := .ro }, { hi := 4, lo := 4, acc := .ro }, { hi := 2, lo := 0, acc := .ro }] }
@[inherit_doc Spec.KTL_RESET_CAUSE] def Reg.KTL_RESET_CAUSE : Reg := Spec.KTL_RESET_CAUSE.at []
@[inherit_doc Spec.KTL_RESET_CAUSE] def Fld.KTL_RESET_CAUSE_COLD : Fld := ⟨Reg.KTL_RESET_CAUSE, 7, 7⟩
@[inherit_doc Spec.KTL_RESET_CAUSE] def Fld.KTL_RESET_CAUSE_PIN : Fld := ⟨Reg.KTL_RESET_CAUSE, 6, 6⟩
@[inherit_doc Spec.KTL_RESET_CAUSE] def Fld.KTL_RESET_CAUSE_BROWNOUT : Fld := ⟨Reg.KTL_RESET_CAUSE, 5, 5⟩
@[inherit_doc Spec.KTL_RESET_CAUSE] def Fld.KTL_RESET_CAUSE_THERMAL : Fld := ⟨Reg.KTL_RESET_CAUSE, 4, 4⟩
@[inherit_doc Spec.KTL_RESET_CAUSE] def Fld.KTL_RESET_CAUSE_SUPPLY : Fld := ⟨Reg.KTL_RESET_CAUSE, 2, 0⟩
/-- KTL_THERM_CFG (R483). -/
def Spec.KTL_THERM_CFG : RegSpec :=
  { name := "KTL_THERM_CFG", base := 0x100050, dims := [], reset := fun _ => 0x69
    fields := [⟨7, 0, .rw, 90, 105⟩] }
@[inherit_doc Spec.KTL_THERM_CFG] def Reg.KTL_THERM_CFG : Reg := Spec.KTL_THERM_CFG.at []
@[inherit_doc Spec.KTL_THERM_CFG] def Fld.KTL_THERM_CFG_THROTTLE_C : Fld := ⟨Reg.KTL_THERM_CFG, 7, 0⟩
/-- KTL_VMON (R483). -/
def Spec.KTL_VMON : RegSpec :=
  { name := "KTL_VMON", base := 0x100060, dims := [(8, 0x4, 0)], reset := fun _ => 0x0
    fields := [{ hi := 31, lo := 16, acc := .rc }, { hi := 15, lo := 0, acc := .ro }] }
@[inherit_doc Spec.KTL_VMON] def Reg.KTL_VMON (p : Nat) : Reg := Spec.KTL_VMON.at [p]
@[inherit_doc Spec.KTL_VMON] def Fld.KTL_VMON_MIN (p : Nat) : Fld := ⟨Reg.KTL_VMON p, 31, 16⟩
@[inherit_doc Spec.KTL_VMON] def Fld.KTL_VMON_MV (p : Nat) : Fld := ⟨Reg.KTL_VMON p, 15, 0⟩
/-- KTL_TEMP (R483). -/
def Spec.KTL_TEMP : RegSpec :=
  { name := "KTL_TEMP", base := 0x100080, dims := [(10, 0x4, 0)], reset := fun _ => 0x0
    fields := [{ hi := 31, lo := 16, acc := .rc }, { hi := 15, lo := 0, acc := .ro }] }
@[inherit_doc Spec.KTL_TEMP] def Reg.KTL_TEMP (p : Nat) : Reg := Spec.KTL_TEMP.at [p]
@[inherit_doc Spec.KTL_TEMP] def Fld.KTL_TEMP_PEAK (p : Nat) : Fld := ⟨Reg.KTL_TEMP p, 31, 16⟩
@[inherit_doc Spec.KTL_TEMP] def Fld.KTL_TEMP_TEMP (p : Nat) : Fld := ⟨Reg.KTL_TEMP p, 15, 0⟩
/-- KTL_WAKES (R484). -/
def Spec.KTL_WAKES : RegSpec :=
  { name := "KTL_WAKES", base := 0x100200, dims := [(4, 0x4, 0)], reset := fun _ => 0x0
    fields := [{ hi := 31, lo := 0, acc := .rc }] }
@[inherit_doc Spec.KTL_WAKES] def Reg.KTL_WAKES (p : Nat) : Reg := Spec.KTL_WAKES.at [p]
/-- KTL_COZY_DROP (R484). -/
def Spec.KTL_COZY_DROP : RegSpec :=
  { name := "KTL_COZY_DROP", base := 0x100210, dims := [(4, 0x4, 0)], reset := fun _ => 0x0
    fields := [{ hi := 31, lo := 0, acc := .rc }] }
@[inherit_doc Spec.KTL_COZY_DROP] def Reg.KTL_COZY_DROP (p : Nat) : Reg := Spec.KTL_COZY_DROP.at [p]
/-- KTL_COZY_PEAK (R484). -/
def Spec.KTL_COZY_PEAK : RegSpec :=
  { name := "KTL_COZY_PEAK", base := 0x100220, dims := [(4, 0x4, 0)], reset := fun _ => 0x0
    fields := [{ hi := 20, lo := 0, acc := .rc }] }
@[inherit_doc Spec.KTL_COZY_PEAK] def Reg.KTL_COZY_PEAK (p : Nat) : Reg := Spec.KTL_COZY_PEAK.at [p]
@[inherit_doc Spec.KTL_COZY_PEAK] def Fld.KTL_COZY_PEAK_COUNT (p : Nat) : Fld := ⟨Reg.KTL_COZY_PEAK p, 20, 0⟩
/-- NVM_STATUS (R512). -/
def Spec.NVM_STATUS : RegSpec :=
  { name := "NVM_STATUS", base := 0x300000, dims := [], reset := fun _ => 0x0
    fields := [{ hi := 31, lo := 28, acc := .ro }, { hi := 27, lo := 27, acc := .ro }, { hi := 26, lo := 26, acc := .ro }, { hi := 25, lo := 25, acc := .ro }, { hi := 24, lo := 24, acc := .ro }, { hi := 23, lo := 23, acc := .ro }, { hi := 22, lo := 22, acc := .ro }, { hi := 21, lo := 20, acc := .ro }, { hi := 19, lo := 19, acc := .ro }, { hi := 11, lo := 8, acc := .ro }] }
@[inherit_doc Spec.NVM_STATUS] def Reg.NVM_STATUS : Reg := Spec.NVM_STATUS.at []
@[inherit_doc Spec.NVM_STATUS] def Fld.NVM_STATUS_STAGE : Fld := ⟨Reg.NVM_STATUS, 31, 28⟩
@[inherit_doc Spec.NVM_STATUS] def Fld.NVM_STATUS_BOOT_COPY : Fld := ⟨Reg.NVM_STATUS, 27, 27⟩
@[inherit_doc Spec.NVM_STATUS] def Fld.NVM_STATUS_CADDY_COPY : Fld := ⟨Reg.NVM_STATUS, 26, 26⟩
@[inherit_doc Spec.NVM_STATUS] def Fld.NVM_STATUS_SINGLE : Fld := ⟨Reg.NVM_STATUS, 25, 25⟩
@[inherit_doc Spec.NVM_STATUS] def Fld.NVM_STATUS_SLOW_PM : Fld := ⟨Reg.NVM_STATUS, 24, 24⟩
@[inherit_doc Spec.NVM_STATUS] def Fld.NVM_STATUS_DEGRADED : Fld := ⟨Reg.NVM_STATUS, 23, 23⟩
@[inherit_doc Spec.NVM_STATUS] def Fld.NVM_STATUS_START_PEND : Fld := ⟨Reg.NVM_STATUS, 22, 22⟩
@[inherit_doc Spec.NVM_STATUS] def Fld.NVM_STATUS_APPLY_RESULT : Fld := ⟨Reg.NVM_STATUS, 21, 20⟩
@[inherit_doc Spec.NVM_STATUS] def Fld.NVM_STATUS_APPLYING : Fld := ⟨Reg.NVM_STATUS, 19, 19⟩
@[inherit_doc Spec.NVM_STATUS] def Fld.NVM_STATUS_SLICE_SKIP : Fld := ⟨Reg.NVM_STATUS, 11, 8⟩
/-- NVM_FL_CMD (R513). -/
def Spec.NVM_FL_CMD : RegSpec :=
  { name := "NVM_FL_CMD", base := 0x300020, dims := [], reset := fun _ => 0x100
    fields := [{ hi := 31, lo := 31, acc := .wo }, { hi := 30, lo := 28, acc := .rw }, ⟨8, 0, .rw, 1, 256⟩] }
@[inherit_doc Spec.NVM_FL_CMD] def Reg.NVM_FL_CMD : Reg := Spec.NVM_FL_CMD.at []
@[inherit_doc Spec.NVM_FL_CMD] def Fld.NVM_FL_CMD_GO : Fld := ⟨Reg.NVM_FL_CMD, 31, 31⟩
@[inherit_doc Spec.NVM_FL_CMD] def Fld.NVM_FL_CMD_OP : Fld := ⟨Reg.NVM_FL_CMD, 30, 28⟩
@[inherit_doc Spec.NVM_FL_CMD] def Fld.NVM_FL_CMD_LEN : Fld := ⟨Reg.NVM_FL_CMD, 8, 0⟩
/-- NVM_FL_STAT (R513). -/
def Spec.NVM_FL_STAT : RegSpec :=
  { name := "NVM_FL_STAT", base := 0x300028, dims := [], reset := fun _ => 0x0
    fields := [{ hi := 7, lo := 4, acc := .ro }, { hi := 2, lo := 2, acc := .w1c }, { hi := 1, lo := 1, acc := .w1c }, { hi := 0, lo := 0, acc := .ro }] }
@[inherit_doc Spec.NVM_FL_STAT] def Reg.NVM_FL_STAT : Reg := Spec.NVM_FL_STAT.at []
@[inherit_doc Spec.NVM_FL_STAT] def Fld.NVM_FL_STAT_REASON : Fld := ⟨Reg.NVM_FL_STAT, 7, 4⟩
@[inherit_doc Spec.NVM_FL_STAT] def Fld.NVM_FL_STAT_REJECTED : Fld := ⟨Reg.NVM_FL_STAT, 2, 2⟩
@[inherit_doc Spec.NVM_FL_STAT] def Fld.NVM_FL_STAT_DONE : Fld := ⟨Reg.NVM_FL_STAT, 1, 1⟩
@[inherit_doc Spec.NVM_FL_STAT] def Fld.NVM_FL_STAT_BUSY : Fld := ⟨Reg.NVM_FL_STAT, 0, 0⟩
/-- NVM_IMG_CMD (R514). -/
def Spec.NVM_IMG_CMD : RegSpec :=
  { name := "NVM_IMG_CMD", base := 0x300040, dims := [], reset := fun _ => 0x0
    fields := [{ hi := 31, lo := 31, acc := .wo }, { hi := 30, lo := 28, acc := .rw }, { hi := 1, lo := 0, acc := .rw }] }
@[inherit_doc Spec.NVM_IMG_CMD] def Reg.NVM_IMG_CMD : Reg := Spec.NVM_IMG_CMD.at []
@[inherit_doc Spec.NVM_IMG_CMD] def Fld.NVM_IMG_CMD_GO : Fld := ⟨Reg.NVM_IMG_CMD, 31, 31⟩
@[inherit_doc Spec.NVM_IMG_CMD] def Fld.NVM_IMG_CMD_OP : Fld := ⟨Reg.NVM_IMG_CMD, 30, 28⟩
@[inherit_doc Spec.NVM_IMG_CMD] def Fld.NVM_IMG_CMD_TARGET : Fld := ⟨Reg.NVM_IMG_CMD, 1, 0⟩
/-- NVM_IMG_STAT (R514). -/
def Spec.NVM_IMG_STAT : RegSpec :=
  { name := "NVM_IMG_STAT", base := 0x300044, dims := [], reset := fun _ => 0x0
    fields := [{ hi := 31, lo := 16, acc := .ro }, { hi := 7, lo := 4, acc := .ro }, { hi := 3, lo := 3, acc := .ro }, { hi := 2, lo := 2, acc := .w1c }, { hi := 1, lo := 1, acc := .w1c }, { hi := 0, lo := 0, acc := .ro }] }
@[inherit_doc Spec.NVM_IMG_STAT] def Reg.NVM_IMG_STAT : Reg := Spec.NVM_IMG_STAT.at []
@[inherit_doc Spec.NVM_IMG_STAT] def Fld.NVM_IMG_STAT_CHECK : Fld := ⟨Reg.NVM_IMG_STAT, 31, 16⟩
@[inherit_doc Spec.NVM_IMG_STAT] def Fld.NVM_IMG_STAT_REASON : Fld := ⟨Reg.NVM_IMG_STAT, 7, 4⟩
@[inherit_doc Spec.NVM_IMG_STAT] def Fld.NVM_IMG_STAT_VALID : Fld := ⟨Reg.NVM_IMG_STAT, 3, 3⟩
@[inherit_doc Spec.NVM_IMG_STAT] def Fld.NVM_IMG_STAT_REJECTED : Fld := ⟨Reg.NVM_IMG_STAT, 2, 2⟩
@[inherit_doc Spec.NVM_IMG_STAT] def Fld.NVM_IMG_STAT_DONE : Fld := ⟨Reg.NVM_IMG_STAT, 1, 1⟩
@[inherit_doc Spec.NVM_IMG_STAT] def Fld.NVM_IMG_STAT_BUSY : Fld := ⟨Reg.NVM_IMG_STAT, 0, 0⟩
/-- NVM_SLICE_CTL (R514). -/
def Spec.NVM_SLICE_CTL : RegSpec :=
  { name := "NVM_SLICE_CTL", base := 0x300048, dims := [], reset := fun _ => 0x0
    fields := [{ hi := 31, lo := 31, acc := .wo }, { hi := 1, lo := 0, acc := .rw }] }
@[inherit_doc Spec.NVM_SLICE_CTL] def Reg.NVM_SLICE_CTL : Reg := Spec.NVM_SLICE_CTL.at []
@[inherit_doc Spec.NVM_SLICE_CTL] def Fld.NVM_SLICE_CTL_RESTART : Fld := ⟨Reg.NVM_SLICE_CTL, 31, 31⟩
@[inherit_doc Spec.NVM_SLICE_CTL] def Fld.NVM_SLICE_CTL_SLICE : Fld := ⟨Reg.NVM_SLICE_CTL, 1, 0⟩
/-- GLH_CFG (R550). -/
def Spec.GLH_CFG : RegSpec :=
  { name := "GLH_CFG", base := 0x1100000, dims := [], reset := fun _ => 0x32000A
    fields := [⟨25, 16, .rw, 10, 1000⟩, ⟨9, 0, .rw, 1, 1000⟩] }
@[inherit_doc Spec.GLH_CFG] def Reg.GLH_CFG : Reg := Spec.GLH_CFG.at []
@[inherit_doc Spec.GLH_CFG] def Fld.GLH_CFG_FHOLD_US : Fld := ⟨Reg.GLH_CFG, 25, 16⟩
@[inherit_doc Spec.GLH_CFG] def Fld.GLH_CFG_WD_MS : Fld := ⟨Reg.GLH_CFG, 9, 0⟩
/-- GLH_CFG2 (R550). -/
def Spec.GLH_CFG2 : RegSpec :=
  { name := "GLH_CFG2", base := 0x1100004, dims := [], reset := fun _ => 0x3E8
    fields := [{ hi := 15, lo := 0, acc := .rw }] }
@[inherit_doc Spec.GLH_CFG2] def Reg.GLH_CFG2 : Reg := Spec.GLH_CFG2.at []
@[inherit_doc Spec.GLH_CFG2] def Fld.GLH_CFG2_POST_WAIT_US : Fld := ⟨Reg.GLH_CFG2, 15, 0⟩
/-- GLH_STATUS (R550). -/
def Spec.GLH_STATUS : RegSpec :=
  { name := "GLH_STATUS", base := 0x1100008, dims := [], reset := fun _ => 0x0
    fields := [{ hi := 31, lo := 31, acc := .ro }, { hi := 30, lo := 30, acc := .ro }, { hi := 12, lo := 0, acc := .ro }] }
@[inherit_doc Spec.GLH_STATUS] def Reg.GLH_STATUS : Reg := Spec.GLH_STATUS.at []
@[inherit_doc Spec.GLH_STATUS] def Fld.GLH_STATUS_CLK_HALF : Fld := ⟨Reg.GLH_STATUS, 31, 31⟩
@[inherit_doc Spec.GLH_STATUS] def Fld.GLH_STATUS_WD_SUSP : Fld := ⟨Reg.GLH_STATUS, 30, 30⟩
@[inherit_doc Spec.GLH_STATUS] def Fld.GLH_STATUS_DISP_USED : Fld := ⟨Reg.GLH_STATUS, 12, 0⟩
/-- GLH_RECOV_HI (R550). -/
def Spec.GLH_RECOV_HI : RegSpec :=
  { name := "GLH_RECOV_HI", base := 0x110000C, dims := [], reset := fun _ => 0x0
    fields := [{ hi := 7, lo := 0, acc := .rw }] }
@[inherit_doc Spec.GLH_RECOV_HI] def Reg.GLH_RECOV_HI : Reg := Spec.GLH_RECOV_HI.at []
@[inherit_doc Spec.GLH_RECOV_HI] def Fld.GLH_RECOV_HI_IA_HI : Fld := ⟨Reg.GLH_RECOV_HI, 7, 0⟩
/-- GLH_RECOV_LO (R550). -/
def Spec.GLH_RECOV_LO : RegSpec :=
  { name := "GLH_RECOV_LO", base := 0x1100010, dims := [], reset := fun _ => 0x0
    fields := [{ hi := 31, lo := 0, acc := .rw }] }
@[inherit_doc Spec.GLH_RECOV_LO] def Reg.GLH_RECOV_LO : Reg := Spec.GLH_RECOV_LO.at []
/-- GLH_CTX_CTL (R551). -/
def Spec.GLH_CTX_CTL : RegSpec :=
  { name := "GLH_CTX_CTL", base := 0x1100100, dims := [(32, 0x10, 0)], reset := fun ix => if ix.headD 0 = 0 then 2 else 0
    fields := [{ hi := 31, lo := 31, acc := .wo }, { hi := 30, lo := 30, acc := .rw }, { hi := 29, lo := 29, acc := .rw }, { hi := 2, lo := 0, acc := .ro }] }
@[inherit_doc Spec.GLH_CTX_CTL] def Reg.GLH_CTX_CTL (p : Nat) : Reg := Spec.GLH_CTX_CTL.at [p]
@[inherit_doc Spec.GLH_CTX_CTL] def Fld.GLH_CTX_CTL_RELEASE (p : Nat) : Fld := ⟨Reg.GLH_CTX_CTL p, 31, 31⟩
@[inherit_doc Spec.GLH_CTX_CTL] def Fld.GLH_CTX_CTL_TO_IDLE (p : Nat) : Fld := ⟨Reg.GLH_CTX_CTL p, 30, 30⟩
@[inherit_doc Spec.GLH_CTX_CTL] def Fld.GLH_CTX_CTL_USER (p : Nat) : Fld := ⟨Reg.GLH_CTX_CTL p, 29, 29⟩
@[inherit_doc Spec.GLH_CTX_CTL] def Fld.GLH_CTX_CTL_STATE (p : Nat) : Fld := ⟨Reg.GLH_CTX_CTL p, 2, 0⟩
/-- GLH_CTX_IA_HI (R551). -/
def Spec.GLH_CTX_IA_HI : RegSpec :=
  { name := "GLH_CTX_IA_HI", base := 0x1100104, dims := [(32, 0x10, 0)], reset := fun _ => 0x0
    fields := [{ hi := 7, lo := 0, acc := .rw }] }
@[inherit_doc Spec.GLH_CTX_IA_HI] def Reg.GLH_CTX_IA_HI (p : Nat) : Reg := Spec.GLH_CTX_IA_HI.at [p]
@[inherit_doc Spec.GLH_CTX_IA_HI] def Fld.GLH_CTX_IA_HI_IA_HI (p : Nat) : Fld := ⟨Reg.GLH_CTX_IA_HI p, 7, 0⟩
/-- GLH_CTX_IA_LO (R551). -/
def Spec.GLH_CTX_IA_LO : RegSpec :=
  { name := "GLH_CTX_IA_LO", base := 0x1100108, dims := [(32, 0x10, 0)], reset := fun _ => 0x0
    fields := [{ hi := 31, lo := 0, acc := .rw }] }
@[inherit_doc Spec.GLH_CTX_IA_LO] def Reg.GLH_CTX_IA_LO (p : Nat) : Reg := Spec.GLH_CTX_IA_LO.at [p]
/-- GLH_CTX_WAIT (R551). -/
def Spec.GLH_CTX_WAIT : RegSpec :=
  { name := "GLH_CTX_WAIT", base := 0x110010C, dims := [(32, 0x10, 0)], reset := fun _ => 0x0
    fields := [{ hi := 31, lo := 28, acc := .ro }, { hi := 15, lo := 8, acc := .ro }] }
@[inherit_doc Spec.GLH_CTX_WAIT] def Reg.GLH_CTX_WAIT (p : Nat) : Reg := Spec.GLH_CTX_WAIT.at [p]
@[inherit_doc Spec.GLH_CTX_WAIT] def Fld.GLH_CTX_WAIT_KIND (p : Nat) : Fld := ⟨Reg.GLH_CTX_WAIT p, 31, 28⟩
@[inherit_doc Spec.GLH_CTX_WAIT] def Fld.GLH_CTX_WAIT_CHANNEL (p : Nat) : Fld := ⟨Reg.GLH_CTX_WAIT p, 15, 8⟩
/-- GLH_EVT_CFG (R552). -/
def Spec.GLH_EVT_CFG : RegSpec :=
  { name := "GLH_EVT_CFG", base := 0x1103000, dims := [(32, 0x10, 0)], reset := fun _ => 0x0
    fields := [⟨31, 30, .rw, 0, 2⟩, { hi := 29, lo := 29, acc := .rw }, ⟨28, 24, .rw, 0, 30⟩, { hi := 20, lo := 16, acc := .rw }, { hi := 15, lo := 15, acc := .rw }, { hi := 0, lo := 0, acc := .ro }] }
@[inherit_doc Spec.GLH_EVT_CFG] def Reg.GLH_EVT_CFG (p : Nat) : Reg := Spec.GLH_EVT_CFG.at [p]
@[inherit_doc Spec.GLH_EVT_CFG] def Fld.GLH_EVT_CFG_MODE (p : Nat) : Fld := ⟨Reg.GLH_EVT_CFG p, 31, 30⟩
@[inherit_doc Spec.GLH_EVT_CFG] def Fld.GLH_EVT_CFG_USER (p : Nat) : Fld := ⟨Reg.GLH_EVT_CFG p, 29, 29⟩
@[inherit_doc Spec.GLH_EVT_CFG] def Fld.GLH_EVT_CFG_LEVEL (p : Nat) : Fld := ⟨Reg.GLH_EVT_CFG p, 28, 24⟩
@[inherit_doc Spec.GLH_EVT_CFG] def Fld.GLH_EVT_CFG_CTX (p : Nat) : Fld := ⟨Reg.GLH_EVT_CFG p, 20, 16⟩
@[inherit_doc Spec.GLH_EVT_CFG] def Fld.GLH_EVT_CFG_TAGGED (p : Nat) : Fld := ⟨Reg.GLH_EVT_CFG p, 15, 15⟩
@[inherit_doc Spec.GLH_EVT_CFG] def Fld.GLH_EVT_CFG_PEND (p : Nat) : Fld := ⟨Reg.GLH_EVT_CFG p, 0, 0⟩
/-- GLH_EVT_ENTRY_HI (R552). -/
def Spec.GLH_EVT_ENTRY_HI : RegSpec :=
  { name := "GLH_EVT_ENTRY_HI", base := 0x1103004, dims := [(32, 0x10, 0)], reset := fun _ => 0x0
    fields := [{ hi := 7, lo := 0, acc := .rw }] }
@[inherit_doc Spec.GLH_EVT_ENTRY_HI] def Reg.GLH_EVT_ENTRY_HI (p : Nat) : Reg := Spec.GLH_EVT_ENTRY_HI.at [p]
@[inherit_doc Spec.GLH_EVT_ENTRY_HI] def Fld.GLH_EVT_ENTRY_HI_IA_HI (p : Nat) : Fld := ⟨Reg.GLH_EVT_ENTRY_HI p, 7, 0⟩
/-- GLH_EVT_ENTRY_LO (R552). -/
def Spec.GLH_EVT_ENTRY_LO : RegSpec :=
  { name := "GLH_EVT_ENTRY_LO", base := 0x1103008, dims := [(32, 0x10, 0)], reset := fun _ => 0x0
    fields := [{ hi := 31, lo := 0, acc := .rw }] }
@[inherit_doc Spec.GLH_EVT_ENTRY_LO] def Reg.GLH_EVT_ENTRY_LO (p : Nat) : Reg := Spec.GLH_EVT_ENTRY_LO.at [p]
/-- GLH_EVT_TAG (R552). -/
def Spec.GLH_EVT_TAG : RegSpec :=
  { name := "GLH_EVT_TAG", base := 0x110300C, dims := [(32, 0x10, 0)], reset := fun _ => 0x0
    fields := [{ hi := 31, lo := 0, acc := .rw }] }
@[inherit_doc Spec.GLH_EVT_TAG] def Reg.GLH_EVT_TAG (p : Nat) : Reg := Spec.GLH_EVT_TAG.at [p]
/-- GLH_CHAN_CFG (R553). -/
def Spec.GLH_CHAN_CFG : RegSpec :=
  { name := "GLH_CHAN_CFG", base := 0x1104000, dims := [(256, 0x8, 0)], reset := fun _ => 0x0
    fields := [{ hi := 31, lo := 31, acc := .rw }, { hi := 30, lo := 30, acc := .rw }, { hi := 29, lo := 29, acc := .rw }, { hi := 20, lo := 16, acc := .rw }, { hi := 4, lo := 0, acc := .rw }] }
@[inherit_doc Spec.GLH_CHAN_CFG] def Reg.GLH_CHAN_CFG (p : Nat) : Reg := Spec.GLH_CHAN_CFG.at [p]
@[inherit_doc Spec.GLH_CHAN_CFG] def Fld.GLH_CHAN_CFG_EN (p : Nat) : Fld := ⟨Reg.GLH_CHAN_CFG p, 31, 31⟩
@[inherit_doc Spec.GLH_CHAN_CFG] def Fld.GLH_CHAN_CFG_USER (p : Nat) : Fld := ⟨Reg.GLH_CHAN_CFG p, 30, 30⟩
@[inherit_doc Spec.GLH_CHAN_CFG] def Fld.GLH_CHAN_CFG_SIG (p : Nat) : Fld := ⟨Reg.GLH_CHAN_CFG p, 29, 29⟩
@[inherit_doc Spec.GLH_CHAN_CFG] def Fld.GLH_CHAN_CFG_SIG_CTX (p : Nat) : Fld := ⟨Reg.GLH_CHAN_CFG p, 20, 16⟩
@[inherit_doc Spec.GLH_CHAN_CFG] def Fld.GLH_CHAN_CFG_SIG_BIT (p : Nat) : Fld := ⟨Reg.GLH_CHAN_CFG p, 4, 0⟩
/-- GLH_CHAN_STAT (R553). -/
def Spec.GLH_CHAN_STAT : RegSpec :=
  { name := "GLH_CHAN_STAT", base := 0x1104004, dims := [(256, 0x8, 0)], reset := fun _ => 0x100000
    fields := [{ hi := 20, lo := 16, acc := .ro }, { hi := 12, lo := 8, acc := .ro }, { hi := 4, lo := 0, acc := .ro }] }
@[inherit_doc Spec.GLH_CHAN_STAT] def Reg.GLH_CHAN_STAT (p : Nat) : Reg := Spec.GLH_CHAN_STAT.at [p]
@[inherit_doc Spec.GLH_CHAN_STAT] def Fld.GLH_CHAN_STAT_FREE (p : Nat) : Fld := ⟨Reg.GLH_CHAN_STAT p, 20, 16⟩
@[inherit_doc Spec.GLH_CHAN_STAT] def Fld.GLH_CHAN_STAT_COMMITTED (p : Nat) : Fld := ⟨Reg.GLH_CHAN_STAT p, 12, 8⟩
@[inherit_doc Spec.GLH_CHAN_STAT] def Fld.GLH_CHAN_STAT_RESERVED (p : Nat) : Fld := ⟨Reg.GLH_CHAN_STAT p, 4, 0⟩
/-- GLH_RXR_CFG (R554). -/
def Spec.GLH_RXR_CFG : RegSpec :=
  { name := "GLH_RXR_CFG", base := 0x1106000, dims := [(16, 0x10, 0)], reset := fun _ => 0x4
    fields := [{ hi := 31, lo := 31, acc := .rw }, ⟨3, 0, .rw, 4, 12⟩] }
@[inherit_doc Spec.GLH_RXR_CFG] def Reg.GLH_RXR_CFG (p : Nat) : Reg := Spec.GLH_RXR_CFG.at [p]
@[inherit_doc Spec.GLH_RXR_CFG] def Fld.GLH_RXR_CFG_EN (p : Nat) : Fld := ⟨Reg.GLH_RXR_CFG p, 31, 31⟩
@[inherit_doc Spec.GLH_RXR_CFG] def Fld.GLH_RXR_CFG_LOG2 (p : Nat) : Fld := ⟨Reg.GLH_RXR_CFG p, 3, 0⟩
/-- GLH_TXR_CFG (R554). -/
def Spec.GLH_TXR_CFG : RegSpec :=
  { name := "GLH_TXR_CFG", base := 0x1106100, dims := [], reset := fun _ => 0x4
    fields := [{ hi := 31, lo := 31, acc := .rw }, ⟨3, 0, .rw, 4, 12⟩] }
@[inherit_doc Spec.GLH_TXR_CFG] def Reg.GLH_TXR_CFG : Reg := Spec.GLH_TXR_CFG.at []
@[inherit_doc Spec.GLH_TXR_CFG] def Fld.GLH_TXR_CFG_EN : Fld := ⟨Reg.GLH_TXR_CFG, 31, 31⟩
@[inherit_doc Spec.GLH_TXR_CFG] def Fld.GLH_TXR_CFG_LOG2 : Fld := ⟨Reg.GLH_TXR_CFG, 3, 0⟩
/-- GLH_RXR_BASE_HI (R554). -/
def Spec.GLH_RXR_BASE_HI : RegSpec :=
  { name := "GLH_RXR_BASE_HI", base := 0x1106004, dims := [(16, 0x10, 0)], reset := fun _ => 0x0
    fields := [{ hi := 7, lo := 0, acc := .rw }] }
@[inherit_doc Spec.GLH_RXR_BASE_HI] def Reg.GLH_RXR_BASE_HI (p : Nat) : Reg := Spec.GLH_RXR_BASE_HI.at [p]
@[inherit_doc Spec.GLH_RXR_BASE_HI] def Fld.GLH_RXR_BASE_HI_BASE_HI (p : Nat) : Fld := ⟨Reg.GLH_RXR_BASE_HI p, 7, 0⟩
/-- GLH_TXR_BASE_HI (R554). -/
def Spec.GLH_TXR_BASE_HI : RegSpec :=
  { name := "GLH_TXR_BASE_HI", base := 0x1106104, dims := [], reset := fun _ => 0x0
    fields := [{ hi := 7, lo := 0, acc := .rw }] }
@[inherit_doc Spec.GLH_TXR_BASE_HI] def Reg.GLH_TXR_BASE_HI : Reg := Spec.GLH_TXR_BASE_HI.at []
@[inherit_doc Spec.GLH_TXR_BASE_HI] def Fld.GLH_TXR_BASE_HI_BASE_HI : Fld := ⟨Reg.GLH_TXR_BASE_HI, 7, 0⟩
/-- GLH_RXR_BASE_LO (R554). -/
def Spec.GLH_RXR_BASE_LO : RegSpec :=
  { name := "GLH_RXR_BASE_LO", base := 0x1106008, dims := [(16, 0x10, 0)], reset := fun _ => 0x0
    fields := [{ hi := 31, lo := 0, acc := .rw }] }
@[inherit_doc Spec.GLH_RXR_BASE_LO] def Reg.GLH_RXR_BASE_LO (p : Nat) : Reg := Spec.GLH_RXR_BASE_LO.at [p]
/-- GLH_TXR_BASE_LO (R554). -/
def Spec.GLH_TXR_BASE_LO : RegSpec :=
  { name := "GLH_TXR_BASE_LO", base := 0x1106108, dims := [], reset := fun _ => 0x0
    fields := [{ hi := 31, lo := 0, acc := .rw }] }
@[inherit_doc Spec.GLH_TXR_BASE_LO] def Reg.GLH_TXR_BASE_LO : Reg := Spec.GLH_TXR_BASE_LO.at []
/-- GLH_RXR_HEAD (R554). -/
def Spec.GLH_RXR_HEAD : RegSpec :=
  { name := "GLH_RXR_HEAD", base := 0x110600C, dims := [(16, 0x10, 0)], reset := fun _ => 0x0
    fields := [{ hi := 11, lo := 0, acc := .ro }] }
@[inherit_doc Spec.GLH_RXR_HEAD] def Reg.GLH_RXR_HEAD (p : Nat) : Reg := Spec.GLH_RXR_HEAD.at [p]
@[inherit_doc Spec.GLH_RXR_HEAD] def Fld.GLH_RXR_HEAD_HEAD (p : Nat) : Fld := ⟨Reg.GLH_RXR_HEAD p, 11, 0⟩
/-- GLH_TXR_HEAD (R554). -/
def Spec.GLH_TXR_HEAD : RegSpec :=
  { name := "GLH_TXR_HEAD", base := 0x110610C, dims := [], reset := fun _ => 0x0
    fields := [{ hi := 11, lo := 0, acc := .ro }] }
@[inherit_doc Spec.GLH_TXR_HEAD] def Reg.GLH_TXR_HEAD : Reg := Spec.GLH_TXR_HEAD.at []
@[inherit_doc Spec.GLH_TXR_HEAD] def Fld.GLH_TXR_HEAD_HEAD : Fld := ⟨Reg.GLH_TXR_HEAD, 11, 0⟩
/-- GLH_DBG_CMD (R555). -/
def Spec.GLH_DBG_CMD : RegSpec :=
  { name := "GLH_DBG_CMD", base := 0x1107100, dims := [], reset := fun _ => 0x0
    fields := [{ hi := 31, lo := 31, acc := .wo }, { hi := 30, lo := 28, acc := .rw }, { hi := 4, lo := 0, acc := .rw }] }
@[inherit_doc Spec.GLH_DBG_CMD] def Reg.GLH_DBG_CMD : Reg := Spec.GLH_DBG_CMD.at []
@[inherit_doc Spec.GLH_DBG_CMD] def Fld.GLH_DBG_CMD_GO : Fld := ⟨Reg.GLH_DBG_CMD, 31, 31⟩
@[inherit_doc Spec.GLH_DBG_CMD] def Fld.GLH_DBG_CMD_OP : Fld := ⟨Reg.GLH_DBG_CMD, 30, 28⟩
@[inherit_doc Spec.GLH_DBG_CMD] def Fld.GLH_DBG_CMD_CTX : Fld := ⟨Reg.GLH_DBG_CMD, 4, 0⟩
/-- GLH_DBG_STAT (R555). -/
def Spec.GLH_DBG_STAT : RegSpec :=
  { name := "GLH_DBG_STAT", base := 0x1107104, dims := [], reset := fun _ => 0x0
    fields := [{ hi := 7, lo := 4, acc := .ro }, { hi := 2, lo := 2, acc := .w1c }, { hi := 1, lo := 1, acc := .w1c }] }
@[inherit_doc Spec.GLH_DBG_STAT] def Reg.GLH_DBG_STAT : Reg := Spec.GLH_DBG_STAT.at []
@[inherit_doc Spec.GLH_DBG_STAT] def Fld.GLH_DBG_STAT_REASON : Fld := ⟨Reg.GLH_DBG_STAT, 7, 4⟩
@[inherit_doc Spec.GLH_DBG_STAT] def Fld.GLH_DBG_STAT_REJECTED : Fld := ⟨Reg.GLH_DBG_STAT, 2, 2⟩
@[inherit_doc Spec.GLH_DBG_STAT] def Fld.GLH_DBG_STAT_DONE : Fld := ⟨Reg.GLH_DBG_STAT, 1, 1⟩
/-- GLH_POST_FULL (R556). -/
def Spec.GLH_POST_FULL : RegSpec :=
  { name := "GLH_POST_FULL", base := 0x1107000, dims := [], reset := fun _ => 0x0
    fields := [{ hi := 31, lo := 0, acc := .rc }] }
@[inherit_doc Spec.GLH_POST_FULL] def Reg.GLH_POST_FULL : Reg := Spec.GLH_POST_FULL.at []
/-- GLH_FLOW_EXPIRED (R556). -/
def Spec.GLH_FLOW_EXPIRED : RegSpec :=
  { name := "GLH_FLOW_EXPIRED", base := 0x1107004, dims := [], reset := fun _ => 0x0
    fields := [{ hi := 31, lo := 0, acc := .rc }] }
@[inherit_doc Spec.GLH_FLOW_EXPIRED] def Reg.GLH_FLOW_EXPIRED : Reg := Spec.GLH_FLOW_EXPIRED.at []
/-- GLH_RX_TRUNC (R556). -/
def Spec.GLH_RX_TRUNC : RegSpec :=
  { name := "GLH_RX_TRUNC", base := 0x1107008, dims := [], reset := fun _ => 0x0
    fields := [{ hi := 31, lo := 0, acc := .rc }] }
@[inherit_doc Spec.GLH_RX_TRUNC] def Reg.GLH_RX_TRUNC : Reg := Spec.GLH_RX_TRUNC.at []
/-- GLH_TX_BAD (R556). -/
def Spec.GLH_TX_BAD : RegSpec :=
  { name := "GLH_TX_BAD", base := 0x110700C, dims := [], reset := fun _ => 0x0
    fields := [{ hi := 31, lo := 0, acc := .rc }] }
@[inherit_doc Spec.GLH_TX_BAD] def Reg.GLH_TX_BAD : Reg := Spec.GLH_TX_BAD.at []
/-- GLH_STALLS (R556). -/
def Spec.GLH_STALLS : RegSpec :=
  { name := "GLH_STALLS", base := 0x1107010, dims := [], reset := fun _ => 0x0
    fields := [{ hi := 31, lo := 0, acc := .rc }] }
@[inherit_doc Spec.GLH_STALLS] def Reg.GLH_STALLS : Reg := Spec.GLH_STALLS.at []
/-- GLH_CHAN_LOST (R556). -/
def Spec.GLH_CHAN_LOST : RegSpec :=
  { name := "GLH_CHAN_LOST", base := 0x1107014, dims := [], reset := fun _ => 0x0
    fields := [{ hi := 31, lo := 0, acc := .rc }] }
@[inherit_doc Spec.GLH_CHAN_LOST] def Reg.GLH_CHAN_LOST : Reg := Spec.GLH_CHAN_LOST.at []
/-- GLH_TASKEND_REL (R556). -/
def Spec.GLH_TASKEND_REL : RegSpec :=
  { name := "GLH_TASKEND_REL", base := 0x1107018, dims := [], reset := fun _ => 0x0
    fields := [{ hi := 31, lo := 0, acc := .rc }] }
@[inherit_doc Spec.GLH_TASKEND_REL] def Reg.GLH_TASKEND_REL : Reg := Spec.GLH_TASKEND_REL.at []
/-- GLH_EXC (R556). -/
def Spec.GLH_EXC : RegSpec :=
  { name := "GLH_EXC", base := 0x1107040, dims := [(12, 0x4, 0)], reset := fun _ => 0x0
    fields := [{ hi := 31, lo := 0, acc := .rc }] }
@[inherit_doc Spec.GLH_EXC] def Reg.GLH_EXC (p : Nat) : Reg := Spec.GLH_EXC.at [p]
/-- PMU_EVC_LO (R577). -/
def Spec.PMU_EVC_LO : RegSpec :=
  { name := "PMU_EVC_LO", base := 0x1200000, dims := [(512, 0x8, 0)], reset := fun _ => 0x0
    fields := [{ hi := 31, lo := 0, acc := .ro }] }
@[inherit_doc Spec.PMU_EVC_LO] def Reg.PMU_EVC_LO (p : Nat) : Reg := Spec.PMU_EVC_LO.at [p]
/-- PMU_EVC_HI (R577). -/
def Spec.PMU_EVC_HI : RegSpec :=
  { name := "PMU_EVC_HI", base := 0x1200004, dims := [(512, 0x8, 0)], reset := fun _ => 0x0
    fields := [{ hi := 15, lo := 0, acc := .ro }] }
@[inherit_doc Spec.PMU_EVC_HI] def Reg.PMU_EVC_HI (p : Nat) : Reg := Spec.PMU_EVC_HI.at [p]
@[inherit_doc Spec.PMU_EVC_HI] def Fld.PMU_EVC_HI_COUNT_HI (p : Nat) : Fld := ⟨Reg.PMU_EVC_HI p, 15, 0⟩
/-- PMU_EVC_WRAP (R577). -/
def Spec.PMU_EVC_WRAP : RegSpec :=
  { name := "PMU_EVC_WRAP", base := 0x1201000, dims := [(16, 0x4, 0)], reset := fun _ => 0x0
    fields := [{ hi := 31, lo := 0, acc := .w1c }] }
@[inherit_doc Spec.PMU_EVC_WRAP] def Reg.PMU_EVC_WRAP (p : Nat) : Reg := Spec.PMU_EVC_WRAP.at [p]
/-- PMU_FC_CFG (R578). -/
def Spec.PMU_FC_CFG : RegSpec :=
  { name := "PMU_FC_CFG", base := 0x1202000, dims := [(64, 0x20, 0)], reset := fun _ => 0x0
    fields := [{ hi := 31, lo := 31, acc := .rw }, { hi := 30, lo := 30, acc := .rw }, { hi := 29, lo := 29, acc := .rw }, { hi := 26, lo := 24, acc := .rw }, { hi := 23, lo := 16, acc := .rw }, ⟨3, 0, .rw, 0, 10⟩] }
@[inherit_doc Spec.PMU_FC_CFG] def Reg.PMU_FC_CFG (p : Nat) : Reg := Spec.PMU_FC_CFG.at [p]
@[inherit_doc Spec.PMU_FC_CFG] def Fld.PMU_FC_CFG_EN (p : Nat) : Fld := ⟨Reg.PMU_FC_CFG p, 31, 31⟩
@[inherit_doc Spec.PMU_FC_CFG] def Fld.PMU_FC_CFG_ADDR_EN (p : Nat) : Fld := ⟨Reg.PMU_FC_CFG p, 30, 30⟩
@[inherit_doc Spec.PMU_FC_CFG] def Fld.PMU_FC_CFG_CLASS_EN (p : Nat) : Fld := ⟨Reg.PMU_FC_CFG p, 29, 29⟩
@[inherit_doc Spec.PMU_FC_CFG] def Fld.PMU_FC_CFG_PRIV (p : Nat) : Fld := ⟨Reg.PMU_FC_CFG p, 26, 24⟩
@[inherit_doc Spec.PMU_FC_CFG] def Fld.PMU_FC_CFG_CLASS (p : Nat) : Fld := ⟨Reg.PMU_FC_CFG p, 23, 16⟩
@[inherit_doc Spec.PMU_FC_CFG] def Fld.PMU_FC_CFG_KIND (p : Nat) : Fld := ⟨Reg.PMU_FC_CFG p, 3, 0⟩
/-- PMU_FC_MASTER (R578). -/
def Spec.PMU_FC_MASTER : RegSpec :=
  { name := "PMU_FC_MASTER", base := 0x1202004, dims := [(64, 0x20, 0)], reset := fun _ => 0x0
    fields := [{ hi := 18, lo := 0, acc := .rw }] }
@[inherit_doc Spec.PMU_FC_MASTER] def Reg.PMU_FC_MASTER (p : Nat) : Reg := Spec.PMU_FC_MASTER.at [p]
@[inherit_doc Spec.PMU_FC_MASTER] def Fld.PMU_FC_MASTER_MASTER (p : Nat) : Fld := ⟨Reg.PMU_FC_MASTER p, 18, 0⟩
/-- PMU_FC_ALO_HI (R578). -/
def Spec.PMU_FC_ALO_HI : RegSpec :=
  { name := "PMU_FC_ALO_HI", base := 0x1202008, dims := [(64, 0x20, 0)], reset := fun _ => 0x0
    fields := [{ hi := 7, lo := 0, acc := .rw }] }
@[inherit_doc Spec.PMU_FC_ALO_HI] def Reg.PMU_FC_ALO_HI (p : Nat) : Reg := Spec.PMU_FC_ALO_HI.at [p]
@[inherit_doc Spec.PMU_FC_ALO_HI] def Fld.PMU_FC_ALO_HI_ALO_HI (p : Nat) : Fld := ⟨Reg.PMU_FC_ALO_HI p, 7, 0⟩
/-- PMU_FC_ALO_LO (R578). -/
def Spec.PMU_FC_ALO_LO : RegSpec :=
  { name := "PMU_FC_ALO_LO", base := 0x120200C, dims := [(64, 0x20, 0)], reset := fun _ => 0x0
    fields := [{ hi := 31, lo := 0, acc := .rw }] }
@[inherit_doc Spec.PMU_FC_ALO_LO] def Reg.PMU_FC_ALO_LO (p : Nat) : Reg := Spec.PMU_FC_ALO_LO.at [p]
/-- PMU_FC_AHI_HI (R578). -/
def Spec.PMU_FC_AHI_HI : RegSpec :=
  { name := "PMU_FC_AHI_HI", base := 0x1202010, dims := [(64, 0x20, 0)], reset := fun _ => 0x0
    fields := [{ hi := 7, lo := 0, acc := .rw }] }
@[inherit_doc Spec.PMU_FC_AHI_HI] def Reg.PMU_FC_AHI_HI (p : Nat) : Reg := Spec.PMU_FC_AHI_HI.at [p]
@[inherit_doc Spec.PMU_FC_AHI_HI] def Fld.PMU_FC_AHI_HI_AHI_HI (p : Nat) : Fld := ⟨Reg.PMU_FC_AHI_HI p, 7, 0⟩
/-- PMU_FC_AHI_LO (R578). -/
def Spec.PMU_FC_AHI_LO : RegSpec :=
  { name := "PMU_FC_AHI_LO", base := 0x1202014, dims := [(64, 0x20, 0)], reset := fun _ => 0x0
    fields := [{ hi := 31, lo := 0, acc := .rw }] }
@[inherit_doc Spec.PMU_FC_AHI_LO] def Reg.PMU_FC_AHI_LO (p : Nat) : Reg := Spec.PMU_FC_AHI_LO.at [p]
/-- PMU_FC_CNT_LO (R578). -/
def Spec.PMU_FC_CNT_LO : RegSpec :=
  { name := "PMU_FC_CNT_LO", base := 0x1202018, dims := [(64, 0x20, 0)], reset := fun _ => 0x0
    fields := [{ hi := 31, lo := 0, acc := .rw }] }
@[inherit_doc Spec.PMU_FC_CNT_LO] def Reg.PMU_FC_CNT_LO (p : Nat) : Reg := Spec.PMU_FC_CNT_LO.at [p]
/-- PMU_FC_CNT_HI (R578). -/
def Spec.PMU_FC_CNT_HI : RegSpec :=
  { name := "PMU_FC_CNT_HI", base := 0x120201C, dims := [(64, 0x20, 0)], reset := fun _ => 0x0
    fields := [{ hi := 7, lo := 0, acc := .rw }] }
@[inherit_doc Spec.PMU_FC_CNT_HI] def Reg.PMU_FC_CNT_HI (p : Nat) : Reg := Spec.PMU_FC_CNT_HI.at [p]
@[inherit_doc Spec.PMU_FC_CNT_HI] def Fld.PMU_FC_CNT_HI_COUNT_HI (p : Nat) : Fld := ⟨Reg.PMU_FC_CNT_HI p, 7, 0⟩
/-- PMU_FC_CTL (R579). -/
def Spec.PMU_FC_CTL : RegSpec :=
  { name := "PMU_FC_CTL", base := 0x1203000, dims := [], reset := fun _ => 0x0
    fields := [{ hi := 31, lo := 31, acc := .rw }, { hi := 30, lo := 30, acc := .rw }] }
@[inherit_doc Spec.PMU_FC_CTL] def Reg.PMU_FC_CTL : Reg := Spec.PMU_FC_CTL.at []
@[inherit_doc Spec.PMU_FC_CTL] def Fld.PMU_FC_CTL_RUN : Fld := ⟨Reg.PMU_FC_CTL, 31, 31⟩
@[inherit_doc Spec.PMU_FC_CTL] def Fld.PMU_FC_CTL_FULL : Fld := ⟨Reg.PMU_FC_CTL, 30, 30⟩
/-- PMU_FC_WRAP (R579). -/
def Spec.PMU_FC_WRAP : RegSpec :=
  { name := "PMU_FC_WRAP", base := 0x1203004, dims := [(2, 0x4, 0)], reset := fun _ => 0x0
    fields := [{ hi := 31, lo := 0, acc := .w1c }] }
@[inherit_doc Spec.PMU_FC_WRAP] def Reg.PMU_FC_WRAP (p : Nat) : Reg := Spec.PMU_FC_WRAP.at [p]
/-- PMU_Q_CMD (R579). -/
def Spec.PMU_Q_CMD : RegSpec :=
  { name := "PMU_Q_CMD", base := 0x1203100, dims := [], reset := fun _ => 0x0
    fields := [{ hi := 31, lo := 31, acc := .wo }, { hi := 30, lo := 30, acc := .rw }, { hi := 13, lo := 0, acc := .rw }] }
@[inherit_doc Spec.PMU_Q_CMD] def Reg.PMU_Q_CMD : Reg := Spec.PMU_Q_CMD.at []
@[inherit_doc Spec.PMU_Q_CMD] def Fld.PMU_Q_CMD_GO : Fld := ⟨Reg.PMU_Q_CMD, 31, 31⟩
@[inherit_doc Spec.PMU_Q_CMD] def Fld.PMU_Q_CMD_CLEAR : Fld := ⟨Reg.PMU_Q_CMD, 30, 30⟩
@[inherit_doc Spec.PMU_Q_CMD] def Fld.PMU_Q_CMD_QUEUE : Fld := ⟨Reg.PMU_Q_CMD, 13, 0⟩
/-- HRV_CFG (R580). -/
def Spec.HRV_CFG : RegSpec :=
  { name := "HRV_CFG", base := 0x1300000, dims := [], reset := fun _ => 0x0
    fields := [{ hi := 31, lo := 31, acc := .rw }, { hi := 30, lo := 30, acc := .rw }, { hi := 29, lo := 29, acc := .rw }, { hi := 21, lo := 16, acc := .rw }, { hi := 15, lo := 8, acc := .rw }, { hi := 7, lo := 7, acc := .rw }] }
@[inherit_doc Spec.HRV_CFG] def Reg.HRV_CFG : Reg := Spec.HRV_CFG.at []
@[inherit_doc Spec.HRV_CFG] def Fld.HRV_CFG_EN : Fld := ⟨Reg.HRV_CFG, 31, 31⟩
@[inherit_doc Spec.HRV_CFG] def Fld.HRV_CFG_DEST : Fld := ⟨Reg.HRV_CFG, 30, 30⟩
@[inherit_doc Spec.HRV_CFG] def Fld.HRV_CFG_V6 : Fld := ⟨Reg.HRV_CFG, 29, 29⟩
@[inherit_doc Spec.HRV_CFG] def Fld.HRV_CFG_PORT : Fld := ⟨Reg.HRV_CFG, 21, 16⟩
@[inherit_doc Spec.HRV_CFG] def Fld.HRV_CFG_QUEUE : Fld := ⟨Reg.HRV_CFG, 15, 8⟩
@[inherit_doc Spec.HRV_CFG] def Fld.HRV_CFG_NAT_EN : Fld := ⟨Reg.HRV_CFG, 7, 7⟩
/-- HRV_NHOP (R580). -/
def Spec.HRV_NHOP : RegSpec :=
  { name := "HRV_NHOP", base := 0x1300004, dims := [], reset := fun _ => 0x0
    fields := [{ hi := 15, lo := 0, acc := .rw }] }
@[inherit_doc Spec.HRV_NHOP] def Reg.HRV_NHOP : Reg := Spec.HRV_NHOP.at []
@[inherit_doc Spec.HRV_NHOP] def Fld.HRV_NHOP_NHOP : Fld := ⟨Reg.HRV_NHOP, 15, 0⟩
/-- HRV_DOMAIN (R580). -/
def Spec.HRV_DOMAIN : RegSpec :=
  { name := "HRV_DOMAIN", base := 0x1300008, dims := [], reset := fun _ => 0x0
    fields := [{ hi := 31, lo := 0, acc := .rw }] }
@[inherit_doc Spec.HRV_DOMAIN] def Reg.HRV_DOMAIN : Reg := Spec.HRV_DOMAIN.at []
/-- HRV_PORTS (R580). -/
def Spec.HRV_PORTS : RegSpec :=
  { name := "HRV_PORTS", base := 0x130000C, dims := [], reset := fun _ => 0x12831283
    fields := [{ hi := 31, lo := 16, acc := .rw }, { hi := 15, lo := 0, acc := .rw }] }
@[inherit_doc Spec.HRV_PORTS] def Reg.HRV_PORTS : Reg := Spec.HRV_PORTS.at []
@[inherit_doc Spec.HRV_PORTS] def Fld.HRV_PORTS_SRC_PORT : Fld := ⟨Reg.HRV_PORTS, 31, 16⟩
@[inherit_doc Spec.HRV_PORTS] def Fld.HRV_PORTS_DST_PORT : Fld := ⟨Reg.HRV_PORTS, 15, 0⟩
/-- HRV_TIMERS (R580). -/
def Spec.HRV_TIMERS : RegSpec :=
  { name := "HRV_TIMERS", base := 0x1300030, dims := [], reset := fun _ => 0x3C19000
    fields := [⟨31, 20, .rw, 1, 3600⟩, ⟨19, 10, .rw, 1, 1000⟩] }
@[inherit_doc Spec.HRV_TIMERS] def Reg.HRV_TIMERS : Reg := Spec.HRV_TIMERS.at []
@[inherit_doc Spec.HRV_TIMERS] def Fld.HRV_TIMERS_TPL_S : Fld := ⟨Reg.HRV_TIMERS, 31, 20⟩
@[inherit_doc Spec.HRV_TIMERS] def Fld.HRV_TIMERS_FLUSH_MS : Fld := ⟨Reg.HRV_TIMERS, 19, 10⟩
/-- HRV_ACTIVE (R580). -/
def Spec.HRV_ACTIVE : RegSpec :=
  { name := "HRV_ACTIVE", base := 0x1300034, dims := [], reset := fun _ => 0x708
    fields := [{ hi := 15, lo := 0, acc := .rw }] }
@[inherit_doc Spec.HRV_ACTIVE] def Reg.HRV_ACTIVE : Reg := Spec.HRV_ACTIVE.at []
@[inherit_doc Spec.HRV_ACTIVE] def Fld.HRV_ACTIVE_ACTIVE_S : Fld := ⟨Reg.HRV_ACTIVE, 15, 0⟩
/-- HRV_MTU (R580). -/
def Spec.HRV_MTU : RegSpec :=
  { name := "HRV_MTU", base := 0x1300038, dims := [], reset := fun _ => 0x578
    fields := [⟨13, 0, .rw, 512, 9000⟩] }
@[inherit_doc Spec.HRV_MTU] def Reg.HRV_MTU : Reg := Spec.HRV_MTU.at []
@[inherit_doc Spec.HRV_MTU] def Fld.HRV_MTU_MTU : Fld := ⟨Reg.HRV_MTU, 13, 0⟩
/-- HRV_RATE (R580). -/
def Spec.HRV_RATE : RegSpec :=
  { name := "HRV_RATE", base := 0x130003C, dims := [], reset := fun _ => 0x2710
    fields := [⟨13, 0, .rw, 1, 10000⟩] }
@[inherit_doc Spec.HRV_RATE] def Reg.HRV_RATE : Reg := Spec.HRV_RATE.at []
@[inherit_doc Spec.HRV_RATE] def Fld.HRV_RATE_RATE_KRPS : Fld := ⟨Reg.HRV_RATE, 13, 0⟩
/-- HRV_STAT (R580). -/
def Spec.HRV_STAT : RegSpec :=
  { name := "HRV_STAT", base := 0x1300070, dims := [], reset := fun _ => 0x0
    fields := [{ hi := 16, lo := 0, acc := .ro }] }
@[inherit_doc Spec.HRV_STAT] def Reg.HRV_STAT : Reg := Spec.HRV_STAT.at []
@[inherit_doc Spec.HRV_STAT] def Fld.HRV_STAT_QUEUED : Fld := ⟨Reg.HRV_STAT, 16, 0⟩
/-- HRV_SEQ (R580). -/
def Spec.HRV_SEQ : RegSpec :=
  { name := "HRV_SEQ", base := 0x1300080, dims := [], reset := fun _ => 0x0
    fields := [{ hi := 31, lo := 0, acc := .ro }] }
@[inherit_doc Spec.HRV_SEQ] def Reg.HRV_SEQ : Reg := Spec.HRV_SEQ.at []
/-- HRV_RECORDS (R581). -/
def Spec.HRV_RECORDS : RegSpec :=
  { name := "HRV_RECORDS", base := 0x1300100, dims := [], reset := fun _ => 0x0
    fields := [{ hi := 31, lo := 0, acc := .rc }] }
@[inherit_doc Spec.HRV_RECORDS] def Reg.HRV_RECORDS : Reg := Spec.HRV_RECORDS.at []
/-- HRV_MSGS (R581). -/
def Spec.HRV_MSGS : RegSpec :=
  { name := "HRV_MSGS", base := 0x1300104, dims := [], reset := fun _ => 0x0
    fields := [{ hi := 31, lo := 0, acc := .rc }] }
@[inherit_doc Spec.HRV_MSGS] def Reg.HRV_MSGS : Reg := Spec.HRV_MSGS.at []
/-- HRV_LOST (R581). -/
def Spec.HRV_LOST : RegSpec :=
  { name := "HRV_LOST", base := 0x1300108, dims := [], reset := fun _ => 0x0
    fields := [{ hi := 31, lo := 0, acc := .rc }] }
@[inherit_doc Spec.HRV_LOST] def Reg.HRV_LOST : Reg := Spec.HRV_LOST.at []
/-- HRV_DEFERRED (R581). -/
def Spec.HRV_DEFERRED : RegSpec :=
  { name := "HRV_DEFERRED", base := 0x130010C, dims := [], reset := fun _ => 0x0
    fields := [{ hi := 31, lo := 0, acc := .rc }] }
@[inherit_doc Spec.HRV_DEFERRED] def Reg.HRV_DEFERRED : Reg := Spec.HRV_DEFERRED.at []
/-- SEC_STATUS (R600). -/
def Spec.SEC_STATUS : RegSpec :=
  { name := "SEC_STATUS", base := 0x200000, dims := [], reset := fun _ => 0x0
    fields := [{ hi := 9, lo := 9, acc := .ro }, { hi := 8, lo := 8, acc := .ro }, { hi := 5, lo := 4, acc := .ro }] }
@[inherit_doc Spec.SEC_STATUS] def Reg.SEC_STATUS : Reg := Spec.SEC_STATUS.at []
@[inherit_doc Spec.SEC_STATUS] def Fld.SEC_STATUS_PROV : Fld := ⟨Reg.SEC_STATUS, 9, 9⟩
@[inherit_doc Spec.SEC_STATUS] def Fld.SEC_STATUS_EVER : Fld := ⟨Reg.SEC_STATUS, 8, 8⟩
@[inherit_doc Spec.SEC_STATUS] def Fld.SEC_STATUS_SCOPE : Fld := ⟨Reg.SEC_STATUS, 5, 4⟩
/-- SEC_SLOTS (R600). -/
def Spec.SEC_SLOTS : RegSpec :=
  { name := "SEC_SLOTS", base := 0x200004, dims := [], reset := fun _ => 0x0
    fields := [{ hi := 7, lo := 0, acc := .ro }] }
@[inherit_doc Spec.SEC_SLOTS] def Reg.SEC_SLOTS : Reg := Spec.SEC_SLOTS.at []
@[inherit_doc Spec.SEC_SLOTS] def Fld.SEC_SLOTS_STATE : Fld := ⟨Reg.SEC_SLOTS, 7, 0⟩
/-- SEC_DBG_CTL (R600). -/
def Spec.SEC_DBG_CTL : RegSpec :=
  { name := "SEC_DBG_CTL", base := 0x200008, dims := [], reset := fun _ => 0x0
    fields := [{ hi := 31, lo := 31, acc := .wo }, { hi := 30, lo := 30, acc := .wo }, { hi := 29, lo := 29, acc := .wo }, { hi := 2, lo := 2, acc := .ro }, { hi := 1, lo := 1, acc := .w1c }, { hi := 0, lo := 0, acc := .ro }] }
@[inherit_doc Spec.SEC_DBG_CTL] def Reg.SEC_DBG_CTL : Reg := Spec.SEC_DBG_CTL.at []
@[inherit_doc Spec.SEC_DBG_CTL] def Fld.SEC_DBG_CTL_CHAL : Fld := ⟨Reg.SEC_DBG_CTL, 31, 31⟩
@[inherit_doc Spec.SEC_DBG_CTL] def Fld.SEC_DBG_CTL_RESP : Fld := ⟨Reg.SEC_DBG_CTL, 30, 30⟩
@[inherit_doc Spec.SEC_DBG_CTL] def Fld.SEC_DBG_CTL_RELOCK : Fld := ⟨Reg.SEC_DBG_CTL, 29, 29⟩
@[inherit_doc Spec.SEC_DBG_CTL] def Fld.SEC_DBG_CTL_BLOCKED : Fld := ⟨Reg.SEC_DBG_CTL, 2, 2⟩
@[inherit_doc Spec.SEC_DBG_CTL] def Fld.SEC_DBG_CTL_FAILED : Fld := ⟨Reg.SEC_DBG_CTL, 1, 1⟩
@[inherit_doc Spec.SEC_DBG_CTL] def Fld.SEC_DBG_CTL_PENDING : Fld := ⟨Reg.SEC_DBG_CTL, 0, 0⟩
/-- MGT_CFG (R601). -/
def Spec.MGT_CFG : RegSpec :=
  { name := "MGT_CFG", base := 0x1400000, dims := [], reset := fun _ => 0xB95F
    fields := [{ hi := 31, lo := 31, acc := .rw }, { hi := 30, lo := 30, acc := .rw }, { hi := 29, lo := 29, acc := .rw }, { hi := 28, lo := 28, acc := .rw }, { hi := 27, lo := 27, acc := .rw }, { hi := 15, lo := 0, acc := .rw }] }
@[inherit_doc Spec.MGT_CFG] def Reg.MGT_CFG : Reg := Spec.MGT_CFG.at []
@[inherit_doc Spec.MGT_CFG] def Fld.MGT_CFG_EN : Fld := ⟨Reg.MGT_CFG, 31, 31⟩
@[inherit_doc Spec.MGT_CFG] def Fld.MGT_CFG_MODE : Fld := ⟨Reg.MGT_CFG, 30, 30⟩
@[inherit_doc Spec.MGT_CFG] def Fld.MGT_CFG_V4_EN : Fld := ⟨Reg.MGT_CFG, 29, 29⟩
@[inherit_doc Spec.MGT_CFG] def Fld.MGT_CFG_V6_EN : Fld := ⟨Reg.MGT_CFG, 28, 28⟩
@[inherit_doc Spec.MGT_CFG] def Fld.MGT_CFG_PASS : Fld := ⟨Reg.MGT_CFG, 27, 27⟩
@[inherit_doc Spec.MGT_CFG] def Fld.MGT_CFG_GRIX_PORT : Fld := ⟨Reg.MGT_CFG, 15, 0⟩
/-- MGT_V4_ADDR (R601). -/
def Spec.MGT_V4_ADDR : RegSpec :=
  { name := "MGT_V4_ADDR", base := 0x1400004, dims := [], reset := fun _ => 0x0
    fields := [{ hi := 31, lo := 0, acc := .rw }] }
@[inherit_doc Spec.MGT_V4_ADDR] def Reg.MGT_V4_ADDR : Reg := Spec.MGT_V4_ADDR.at []
/-- MGT_MAC_HI (R601). -/
def Spec.MGT_MAC_HI : RegSpec :=
  { name := "MGT_MAC_HI", base := 0x1400008, dims := [], reset := fun _ => (Config.otpMac.toNat >>> 32) % 65536
    fields := [{ hi := 15, lo := 0, acc := .rw }] }
@[inherit_doc Spec.MGT_MAC_HI] def Reg.MGT_MAC_HI : Reg := Spec.MGT_MAC_HI.at []
@[inherit_doc Spec.MGT_MAC_HI] def Fld.MGT_MAC_HI_MAC_HI : Fld := ⟨Reg.MGT_MAC_HI, 15, 0⟩
/-- MGT_MAC_LO (R601). -/
def Spec.MGT_MAC_LO : RegSpec :=
  { name := "MGT_MAC_LO", base := 0x140000C, dims := [], reset := fun _ => Config.otpMac.toNat % 4294967296
    fields := [{ hi := 31, lo := 0, acc := .rw }] }
@[inherit_doc Spec.MGT_MAC_LO] def Reg.MGT_MAC_LO : Reg := Spec.MGT_MAC_LO.at []
/-- MGT_IDLE (R601). -/
def Spec.MGT_IDLE : RegSpec :=
  { name := "MGT_IDLE", base := 0x1400020, dims := [], reset := fun _ => 0x12C
    fields := [⟨16, 0, .rw, 10, 86400⟩] }
@[inherit_doc Spec.MGT_IDLE] def Reg.MGT_IDLE : Reg := Spec.MGT_IDLE.at []
@[inherit_doc Spec.MGT_IDLE] def Fld.MGT_IDLE_IDLE_S : Fld := ⟨Reg.MGT_IDLE, 16, 0⟩
/-- MGT_STATUS (R601). -/
def Spec.MGT_STATUS : RegSpec :=
  { name := "MGT_STATUS", base := 0x1400024, dims := [], reset := fun _ => 0x0
    fields := [{ hi := 31, lo := 31, acc := .ro }, { hi := 3, lo := 0, acc := .ro }] }
@[inherit_doc Spec.MGT_STATUS] def Reg.MGT_STATUS : Reg := Spec.MGT_STATUS.at []
@[inherit_doc Spec.MGT_STATUS] def Fld.MGT_STATUS_LINK : Fld := ⟨Reg.MGT_STATUS, 31, 31⟩
@[inherit_doc Spec.MGT_STATUS] def Fld.MGT_STATUS_SESSIONS : Fld := ⟨Reg.MGT_STATUS, 3, 0⟩
/-- MGT_RX_DROP (R601). -/
def Spec.MGT_RX_DROP : RegSpec :=
  { name := "MGT_RX_DROP", base := 0x1400100, dims := [], reset := fun _ => 0x0
    fields := [{ hi := 31, lo := 0, acc := .rc }] }
@[inherit_doc Spec.MGT_RX_DROP] def Reg.MGT_RX_DROP : Reg := Spec.MGT_RX_DROP.at []
/-- MGT_AUTH_FAIL (R601). -/
def Spec.MGT_AUTH_FAIL : RegSpec :=
  { name := "MGT_AUTH_FAIL", base := 0x1400104, dims := [], reset := fun _ => 0x0
    fields := [{ hi := 31, lo := 0, acc := .rc }] }
@[inherit_doc Spec.MGT_AUTH_FAIL] def Reg.MGT_AUTH_FAIL : Reg := Spec.MGT_AUTH_FAIL.at []
/-- MGT_TAG_FAIL (R601). -/
def Spec.MGT_TAG_FAIL : RegSpec :=
  { name := "MGT_TAG_FAIL", base := 0x1400108, dims := [], reset := fun _ => 0x0
    fields := [{ hi := 31, lo := 0, acc := .rc }] }
@[inherit_doc Spec.MGT_TAG_FAIL] def Reg.MGT_TAG_FAIL : Reg := Spec.MGT_TAG_FAIL.at []
/-- MGT_REPLAY (R601). -/
def Spec.MGT_REPLAY : RegSpec :=
  { name := "MGT_REPLAY", base := 0x140010C, dims := [], reset := fun _ => 0x0
    fields := [{ hi := 31, lo := 0, acc := .rc }] }
@[inherit_doc Spec.MGT_REPLAY] def Reg.MGT_REPLAY : Reg := Spec.MGT_REPLAY.at []
/-- MGT_BUSY_DROP (R601). -/
def Spec.MGT_BUSY_DROP : RegSpec :=
  { name := "MGT_BUSY_DROP", base := 0x1400110, dims := [], reset := fun _ => 0x0
    fields := [{ hi := 31, lo := 0, acc := .rc }] }
@[inherit_doc Spec.MGT_BUSY_DROP] def Reg.MGT_BUSY_DROP : Reg := Spec.MGT_BUSY_DROP.at []
/-- DBG_EVT_STAT (R632). -/
def Spec.DBG_EVT_STAT : RegSpec :=
  { name := "DBG_EVT_STAT", base := 0x1600000, dims := [], reset := fun _ => 0x0
    fields := [{ hi := 26, lo := 16, acc := .ro }, { hi := 15, lo := 0, acc := .ro }] }
@[inherit_doc Spec.DBG_EVT_STAT] def Reg.DBG_EVT_STAT : Reg := Spec.DBG_EVT_STAT.at []
@[inherit_doc Spec.DBG_EVT_STAT] def Fld.DBG_EVT_STAT_LEVEL : Fld := ⟨Reg.DBG_EVT_STAT, 26, 16⟩
@[inherit_doc Spec.DBG_EVT_STAT] def Fld.DBG_EVT_STAT_LOST : Fld := ⟨Reg.DBG_EVT_STAT, 15, 0⟩
/-- DBG_EVT_POP (R632). -/
def Spec.DBG_EVT_POP : RegSpec :=
  { name := "DBG_EVT_POP", base := 0x1600004, dims := [], reset := fun _ => 0x0
    fields := [{ hi := 31, lo := 31, acc := .wo }] }
@[inherit_doc Spec.DBG_EVT_POP] def Reg.DBG_EVT_POP : Reg := Spec.DBG_EVT_POP.at []
@[inherit_doc Spec.DBG_EVT_POP] def Fld.DBG_EVT_POP_POP : Fld := ⟨Reg.DBG_EVT_POP, 31, 31⟩
/-- DBG_EVT_DROP (R632). -/
def Spec.DBG_EVT_DROP : RegSpec :=
  { name := "DBG_EVT_DROP", base := 0x1600008, dims := [], reset := fun _ => 0x0
    fields := [{ hi := 31, lo := 0, acc := .rc }] }
@[inherit_doc Spec.DBG_EVT_DROP] def Reg.DBG_EVT_DROP : Reg := Spec.DBG_EVT_DROP.at []
/-- DBG_EVT_DATA (R632). -/
def Spec.DBG_EVT_DATA : RegSpec :=
  { name := "DBG_EVT_DATA", base := 0x1600100, dims := [(16, 0x4, 0)], reset := fun _ => 0x0
    fields := [{ hi := 31, lo := 0, acc := .ro }] }
@[inherit_doc Spec.DBG_EVT_DATA] def Reg.DBG_EVT_DATA (p : Nat) : Reg := Spec.DBG_EVT_DATA.at [p]
/-- PRT_I2C_BUF (R89). -/
def Spec.PRT_I2C_BUF : RegSpec :=
  { name := "PRT_I2C_BUF", base := 0x481000, dims := [(4, 0x100, 0), (32, 0x4, 0)], reset := fun _ => 0x0
    fields := [{ hi := 31, lo := 0, acc := .rw }] }
@[inherit_doc Spec.PRT_I2C_BUF] def Reg.PRT_I2C_BUF (p i : Nat) : Reg := Spec.PRT_I2C_BUF.at [p, i]
/-- RUL_ACC_DATA (R131). -/
def Spec.RUL_ACC_DATA : RegSpec :=
  { name := "RUL_ACC_DATA", base := 0x63F100, dims := [(35, 0x4, 0)], reset := fun _ => 0x0
    fields := [{ hi := 31, lo := 0, acc := .rw }] }
@[inherit_doc Spec.RUL_ACC_DATA] def Reg.RUL_ACC_DATA (p : Nat) : Reg := Spec.RUL_ACC_DATA.at [p]
/-- FLE_CLOCK_LO (R180). -/
def Spec.FLE_CLOCK_LO : RegSpec :=
  { name := "FLE_CLOCK_LO", base := 0x700010, dims := [], reset := fun _ => 0x0
    fields := [{ hi := 31, lo := 0, acc := .ro }] }
@[inherit_doc Spec.FLE_CLOCK_LO] def Reg.FLE_CLOCK_LO : Reg := Spec.FLE_CLOCK_LO.at []
/-- FLE_CLOCK_HI (R180). -/
def Spec.FLE_CLOCK_HI : RegSpec :=
  { name := "FLE_CLOCK_HI", base := 0x700014, dims := [], reset := fun _ => 0x0
    fields := [{ hi := 31, lo := 0, acc := .ro }] }
@[inherit_doc Spec.FLE_CLOCK_HI] def Reg.FLE_CLOCK_HI : Reg := Spec.FLE_CLOCK_HI.at []
/-- XLB_ADDR (R255). -/
def Spec.XLB_ADDR : RegSpec :=
  { name := "XLB_ADDR", base := 0x908000, dims := [(8192, 0x4, 0)], reset := fun _ => 0x0
    fields := [{ hi := 31, lo := 0, acc := .rw }] }
@[inherit_doc Spec.XLB_ADDR] def Reg.XLB_ADDR (p : Nat) : Reg := Spec.XLB_ADDR.at [p]
/-- XLB_LB_DATA (R256). -/
def Spec.XLB_LB_DATA : RegSpec :=
  { name := "XLB_LB_DATA", base := 0x904010, dims := [(6, 0x4, 0)], reset := fun _ => 0x0
    fields := [{ hi := 31, lo := 0, acc := .rw }] }
@[inherit_doc Spec.XLB_LB_DATA] def Reg.XLB_LB_DATA (p : Nat) : Reg := Spec.XLB_LB_DATA.at [p]
/-- XLB_MAP_DATA (R257). -/
def Spec.XLB_MAP_DATA : RegSpec :=
  { name := "XLB_MAP_DATA", base := 0x905010, dims := [(4, 0x4, 0)], reset := fun _ => 0x0
    fields := [{ hi := 31, lo := 0, acc := .ro }] }
@[inherit_doc Spec.XLB_MAP_DATA] def Reg.XLB_MAP_DATA (p : Nat) : Reg := Spec.XLB_MAP_DATA.at [p]
/-- FWD_CMD_DATA (R289). -/
def Spec.FWD_CMD_DATA : RegSpec :=
  { name := "FWD_CMD_DATA", base := 0xA80100, dims := [(8, 0x4, 0)], reset := fun _ => 0x0
    fields := [{ hi := 31, lo := 0, acc := .rw }] }
@[inherit_doc Spec.FWD_CMD_DATA] def Reg.FWD_CMD_DATA (p : Nat) : Reg := Spec.FWD_CMD_DATA.at [p]
/-- FWD_ECMP_MEM (R289). -/
def Spec.FWD_ECMP_MEM : RegSpec :=
  { name := "FWD_ECMP_MEM", base := 0xA80200, dims := [(32, 0x4, 0)], reset := fun _ => 0x0
    fields := [{ hi := 31, lo := 0, acc := .rw }] }
@[inherit_doc Spec.FWD_ECMP_MEM] def Reg.FWD_ECMP_MEM (p : Nat) : Reg := Spec.FWD_ECMP_MEM.at [p]
/-- FWD_COUNT (R290). -/
def Spec.FWD_COUNT : RegSpec :=
  { name := "FWD_COUNT", base := 0xA80040, dims := [(3, 0x8, 0), (2, 0x4, 0)], reset := fun _ => 0x0
    fields := [{ hi := 20, lo := 0, acc := .ro }] }
@[inherit_doc Spec.FWD_COUNT] def Reg.FWD_COUNT (p i : Nat) : Reg := Spec.FWD_COUNT.at [p, i]
@[inherit_doc Spec.FWD_COUNT] def Fld.FWD_COUNT_COUNT (p i : Nat) : Fld := ⟨Reg.FWD_COUNT p i, 20, 0⟩
/-- BUF_POOL_STAT (R326). -/
def Spec.BUF_POOL_STAT : RegSpec :=
  { name := "BUF_POOL_STAT", base := 0xB11200, dims := [], reset := fun _ => 0x0
    fields := [{ hi := 7, lo := 4, acc := .ro }, { hi := 2, lo := 2, acc := .w1c }, { hi := 1, lo := 1, acc := .w1c }, { hi := 0, lo := 0, acc := .ro }] }
@[inherit_doc Spec.BUF_POOL_STAT] def Reg.BUF_POOL_STAT : Reg := Spec.BUF_POOL_STAT.at []
@[inherit_doc Spec.BUF_POOL_STAT] def Fld.BUF_POOL_STAT_REASON : Fld := ⟨Reg.BUF_POOL_STAT, 7, 4⟩
@[inherit_doc Spec.BUF_POOL_STAT] def Fld.BUF_POOL_STAT_REJECTED : Fld := ⟨Reg.BUF_POOL_STAT, 2, 2⟩
@[inherit_doc Spec.BUF_POOL_STAT] def Fld.BUF_POOL_STAT_DONE : Fld := ⟨Reg.BUF_POOL_STAT, 1, 1⟩
@[inherit_doc Spec.BUF_POOL_STAT] def Fld.BUF_POOL_STAT_BUSY : Fld := ⟨Reg.BUF_POOL_STAT, 0, 0⟩
/-- BUF_MIR_TPL (R327). -/
def Spec.BUF_MIR_TPL : RegSpec :=
  { name := "BUF_MIR_TPL", base := 0xB13000, dims := [(8, 0x20, 0), (5, 0x4, 0)], reset := fun _ => 0x0
    fields := [{ hi := 31, lo := 0, acc := .rw }] }
@[inherit_doc Spec.BUF_MIR_TPL] def Reg.BUF_MIR_TPL (p i : Nat) : Reg := Spec.BUF_MIR_TPL.at [p, i]
/-- SCH_N_DATA_0 (R362). -/
def Spec.SCH_N_DATA_0 : RegSpec :=
  { name := "SCH_N_DATA_0", base := 0xC80050, dims := [], reset := fun _ => 0x1
    fields := [{ hi := 31, lo := 31, acc := .rw }, { hi := 26, lo := 16, acc := .rw }, { hi := 15, lo := 13, acc := .rw }, { hi := 9, lo := 0, acc := .rw }] }
@[inherit_doc Spec.SCH_N_DATA_0] def Reg.SCH_N_DATA_0 : Reg := Spec.SCH_N_DATA_0.at []
@[inherit_doc Spec.SCH_N_DATA_0] def Fld.SCH_N_DATA_0_PNODE : Fld := ⟨Reg.SCH_N_DATA_0, 31, 31⟩
@[inherit_doc Spec.SCH_N_DATA_0] def Fld.SCH_N_DATA_0_PARENT : Fld := ⟨Reg.SCH_N_DATA_0, 26, 16⟩
@[inherit_doc Spec.SCH_N_DATA_0] def Fld.SCH_N_DATA_0_PRIO : Fld := ⟨Reg.SCH_N_DATA_0, 15, 13⟩
@[inherit_doc Spec.SCH_N_DATA_0] def Fld.SCH_N_DATA_0_WEIGHT : Fld := ⟨Reg.SCH_N_DATA_0, 9, 0⟩
/-- SCH_N_DATA_2 (R362). -/
def Spec.SCH_N_DATA_2 : RegSpec :=
  { name := "SCH_N_DATA_2", base := 0xC80058, dims := [], reset := fun _ => 0x0
    fields := [{ hi := 31, lo := 31, acc := .rw }, { hi := 21, lo := 0, acc := .rw }] }
@[inherit_doc Spec.SCH_N_DATA_2] def Reg.SCH_N_DATA_2 : Reg := Spec.SCH_N_DATA_2.at []
@[inherit_doc Spec.SCH_N_DATA_2] def Fld.SCH_N_DATA_2_SH_EN : Fld := ⟨Reg.SCH_N_DATA_2, 31, 31⟩
@[inherit_doc Spec.SCH_N_DATA_2] def Fld.SCH_N_DATA_2_INC : Fld := ⟨Reg.SCH_N_DATA_2, 21, 0⟩
/-- SCH_N_DATA_3 (R362). -/
def Spec.SCH_N_DATA_3 : RegSpec :=
  { name := "SCH_N_DATA_3", base := 0xC8005C, dims := [], reset := fun _ => 0x2800
    fields := [{ hi := 23, lo := 0, acc := .rw }] }
@[inherit_doc Spec.SCH_N_DATA_3] def Reg.SCH_N_DATA_3 : Reg := Spec.SCH_N_DATA_3.at []
@[inherit_doc Spec.SCH_N_DATA_3] def Fld.SCH_N_DATA_3_BURST : Fld := ⟨Reg.SCH_N_DATA_3, 23, 0⟩
/-- GTE_DEFERRED (R365). -/
def Spec.GTE_DEFERRED : RegSpec :=
  { name := "GTE_DEFERRED", base := 0xD00100, dims := [(64, 0x1000, 0)], reset := fun _ => 0x0
    fields := [{ hi := 31, lo := 0, acc := .rc }] }
@[inherit_doc Spec.GTE_DEFERRED] def Reg.GTE_DEFERRED (p : Nat) : Reg := Spec.GTE_DEFERRED.at [p]
/-- NVM_RUN_SEQ_HI (R512). -/
def Spec.NVM_RUN_SEQ_HI : RegSpec :=
  { name := "NVM_RUN_SEQ_HI", base := 0x300004, dims := [], reset := fun _ => 0x0
    fields := [{ hi := 31, lo := 0, acc := .ro }] }
@[inherit_doc Spec.NVM_RUN_SEQ_HI] def Reg.NVM_RUN_SEQ_HI : Reg := Spec.NVM_RUN_SEQ_HI.at []
/-- NVM_RUN_SEQ_LO (R512). -/
def Spec.NVM_RUN_SEQ_LO : RegSpec :=
  { name := "NVM_RUN_SEQ_LO", base := 0x300008, dims := [], reset := fun _ => 0x0
    fields := [{ hi := 31, lo := 0, acc := .ro }] }
@[inherit_doc Spec.NVM_RUN_SEQ_LO] def Reg.NVM_RUN_SEQ_LO : Reg := Spec.NVM_RUN_SEQ_LO.at []
/-- NVM_LANE_OFF (R512). -/
def Spec.NVM_LANE_OFF : RegSpec :=
  { name := "NVM_LANE_OFF", base := 0x30000C, dims := [(2, 0x4, 0)], reset := fun _ => 0x0
    fields := [{ hi := 31, lo := 0, acc := .ro }] }
@[inherit_doc Spec.NVM_LANE_OFF] def Reg.NVM_LANE_OFF (p : Nat) : Reg := Spec.NVM_LANE_OFF.at [p]
/-- NVM_FL_ADDR (R513). -/
def Spec.NVM_FL_ADDR : RegSpec :=
  { name := "NVM_FL_ADDR", base := 0x300024, dims := [], reset := fun _ => 0x0
    fields := [{ hi := 25, lo := 0, acc := .rw }] }
@[inherit_doc Spec.NVM_FL_ADDR] def Reg.NVM_FL_ADDR : Reg := Spec.NVM_FL_ADDR.at []
@[inherit_doc Spec.NVM_FL_ADDR] def Fld.NVM_FL_ADDR_ADDR : Fld := ⟨Reg.NVM_FL_ADDR, 25, 0⟩
/-- NVM_FL_BUF (R513). -/
def Spec.NVM_FL_BUF : RegSpec :=
  { name := "NVM_FL_BUF", base := 0x301000, dims := [(64, 0x4, 0)], reset := fun _ => 0x0
    fields := [{ hi := 31, lo := 0, acc := .rw }] }
@[inherit_doc Spec.NVM_FL_BUF] def Reg.NVM_FL_BUF (p : Nat) : Reg := Spec.NVM_FL_BUF.at [p]
/-- NVM_FL_ERR (R513). -/
def Spec.NVM_FL_ERR : RegSpec :=
  { name := "NVM_FL_ERR", base := 0x30002C, dims := [], reset := fun _ => 0x0
    fields := [{ hi := 31, lo := 0, acc := .rc }] }
@[inherit_doc Spec.NVM_FL_ERR] def Reg.NVM_FL_ERR : Reg := Spec.NVM_FL_ERR.at []
/-- GLH_CTX_MASK_HI (R551). -/
def Spec.GLH_CTX_MASK_HI : RegSpec :=
  { name := "GLH_CTX_MASK_HI", base := 0x1100400, dims := [(32, 0x8, 0)], reset := fun _ => 0x0
    fields := [{ hi := 31, lo := 0, acc := .ro }] }
@[inherit_doc Spec.GLH_CTX_MASK_HI] def Reg.GLH_CTX_MASK_HI (p : Nat) : Reg := Spec.GLH_CTX_MASK_HI.at [p]
/-- GLH_CTX_MASK_LO (R551). -/
def Spec.GLH_CTX_MASK_LO : RegSpec :=
  { name := "GLH_CTX_MASK_LO", base := 0x1100404, dims := [(32, 0x8, 0)], reset := fun _ => 0x0
    fields := [{ hi := 31, lo := 0, acc := .ro }] }
@[inherit_doc Spec.GLH_CTX_MASK_LO] def Reg.GLH_CTX_MASK_LO (p : Nat) : Reg := Spec.GLH_CTX_MASK_LO.at [p]
/-- GLH_CTX_GREG (R551). -/
def Spec.GLH_CTX_GREG : RegSpec :=
  { name := "GLH_CTX_GREG", base := 0x1101008, dims := [(32, 0x100, 0), (31, 0x8, 1), (2, 0x4, 0)], reset := fun _ => 0x0
    fields := [{ hi := 31, lo := 0, acc := .rw }] }
@[inherit_doc Spec.GLH_CTX_GREG] def Reg.GLH_CTX_GREG (p i j : Nat) : Reg := Spec.GLH_CTX_GREG.at [p, i, j]
/-- PMU_Q_DATA (R579). -/
def Spec.PMU_Q_DATA : RegSpec :=
  { name := "PMU_Q_DATA", base := 0x1203110, dims := [(6, 0x4, 0)], reset := fun _ => 0x0
    fields := [{ hi := 31, lo := 0, acc := .ro }] }
@[inherit_doc Spec.PMU_Q_DATA] def Reg.PMU_Q_DATA (p : Nat) : Reg := Spec.PMU_Q_DATA.at [p]
/-- HRV_SRC (R580). -/
def Spec.HRV_SRC : RegSpec :=
  { name := "HRV_SRC", base := 0x1300010, dims := [(4, 0x4, 0)], reset := fun _ => 0x0
    fields := [{ hi := 31, lo := 0, acc := .rw }] }
@[inherit_doc Spec.HRV_SRC] def Reg.HRV_SRC (p : Nat) : Reg := Spec.HRV_SRC.at [p]
/-- HRV_DST (R580). -/
def Spec.HRV_DST : RegSpec :=
  { name := "HRV_DST", base := 0x1300020, dims := [(4, 0x4, 0)], reset := fun _ => 0x0
    fields := [{ hi := 31, lo := 0, acc := .rw }] }
@[inherit_doc Spec.HRV_DST] def Reg.HRV_DST (p : Nat) : Reg := Spec.HRV_DST.at [p]
/-- HRV_ZPROF_EN (R580). -/
def Spec.HRV_ZPROF_EN : RegSpec :=
  { name := "HRV_ZPROF_EN", base := 0x1300040, dims := [(8, 0x4, 0)], reset := fun _ => 0x0
    fields := [{ hi := 31, lo := 0, acc := .rw }] }
@[inherit_doc Spec.HRV_ZPROF_EN] def Reg.HRV_ZPROF_EN (p : Nat) : Reg := Spec.HRV_ZPROF_EN.at [p]
/-- SEC_OWNER (R600). -/
def Spec.SEC_OWNER : RegSpec :=
  { name := "SEC_OWNER", base := 0x200100, dims := [(4, 0x20, 0), (8, 0x4, 0)], reset := fun _ => 0x0
    fields := [{ hi := 31, lo := 0, acc := .ro }] }
@[inherit_doc Spec.SEC_OWNER] def Reg.SEC_OWNER (p i : Nat) : Reg := Spec.SEC_OWNER.at [p, i]
/-- SEC_OPKEY (R600). -/
def Spec.SEC_OPKEY : RegSpec :=
  { name := "SEC_OPKEY", base := 0x200200, dims := [(16, 0x40, 0), (8, 0x4, 0)], reset := fun _ => 0x0
    fields := [{ hi := 31, lo := 0, acc := .rw }] }
@[inherit_doc Spec.SEC_OPKEY] def Reg.SEC_OPKEY (p i : Nat) : Reg := Spec.SEC_OPKEY.at [p, i]
/-- SEC_OPKEY_ROLE (R600). -/
def Spec.SEC_OPKEY_ROLE : RegSpec :=
  { name := "SEC_OPKEY_ROLE", base := 0x200220, dims := [(16, 0x40, 0)], reset := fun _ => 0x0
    fields := [{ hi := 1, lo := 0, acc := .rw }] }
@[inherit_doc Spec.SEC_OPKEY_ROLE] def Reg.SEC_OPKEY_ROLE (p : Nat) : Reg := Spec.SEC_OPKEY_ROLE.at [p]
@[inherit_doc Spec.SEC_OPKEY_ROLE] def Fld.SEC_OPKEY_ROLE_ROLE (p : Nat) : Fld := ⟨Reg.SEC_OPKEY_ROLE p, 1, 0⟩
/-- SEC_DBG_BUF (R600). -/
def Spec.SEC_DBG_BUF : RegSpec :=
  { name := "SEC_DBG_BUF", base := 0x200600, dims := [(48, 0x4, 0)], reset := fun _ => 0x0
    fields := [{ hi := 31, lo := 0, acc := .rw }] }
@[inherit_doc Spec.SEC_DBG_BUF] def Reg.SEC_DBG_BUF (p : Nat) : Reg := Spec.SEC_DBG_BUF.at [p]
/-- SEC_MEAS (R600). -/
def Spec.SEC_MEAS : RegSpec :=
  { name := "SEC_MEAS", base := 0x200800, dims := [(4, 0x20, 0), (8, 0x4, 0)], reset := fun _ => 0x0
    fields := [{ hi := 31, lo := 0, acc := .ro }] }
@[inherit_doc Spec.SEC_MEAS] def Reg.SEC_MEAS (p i : Nat) : Reg := Spec.SEC_MEAS.at [p, i]
/-- MGT_V6_ADDR (R601). -/
def Spec.MGT_V6_ADDR : RegSpec :=
  { name := "MGT_V6_ADDR", base := 0x1400010, dims := [(4, 0x4, 0)], reset := fun _ => 0x0
    fields := [{ hi := 31, lo := 0, acc := .rw }] }
@[inherit_doc Spec.MGT_V6_ADDR] def Reg.MGT_V6_ADDR (p : Nat) : Reg := Spec.MGT_V6_ADDR.at [p]
/-- BUF_MIR_TRUNC_CNT (R328). -/
def Spec.BUF_MIR_TRUNC_CNT : RegSpec :=
  { name := "BUF_MIR_TRUNC_CNT", base := 0xB10210, dims := [], reset := fun _ => 0x0
    fields := [{ hi := 31, lo := 0, acc := .rc }] }
@[inherit_doc Spec.BUF_MIR_TRUNC_CNT] def Reg.BUF_MIR_TRUNC_CNT : Reg := Spec.BUF_MIR_TRUNC_CNT.at []
/-- PRT_ST_RX_FRAMES (R565). -/
def Spec.PRT_ST_RX_FRAMES : RegSpec :=
  { name := "PRT_ST_RX_FRAMES", base := 0x400200, dims := [(67, 0x1000, 0), (2, 0x4, 0)], reset := fun _ => 0x0
    fields := [{ hi := 31, lo := 0, acc := .ro }] }
@[inherit_doc Spec.PRT_ST_RX_FRAMES] def Reg.PRT_ST_RX_FRAMES (p i : Nat) : Reg := Spec.PRT_ST_RX_FRAMES.at [p, i]
/-- PRT_ST_RX_BYTES (R565). -/
def Spec.PRT_ST_RX_BYTES : RegSpec :=
  { name := "PRT_ST_RX_BYTES", base := 0x400208, dims := [(67, 0x1000, 0), (2, 0x4, 0)], reset := fun _ => 0x0
    fields := [{ hi := 31, lo := 0, acc := .ro }] }
@[inherit_doc Spec.PRT_ST_RX_BYTES] def Reg.PRT_ST_RX_BYTES (p i : Nat) : Reg := Spec.PRT_ST_RX_BYTES.at [p, i]
/-- PRT_ST_RX_MCAST (R565). -/
def Spec.PRT_ST_RX_MCAST : RegSpec :=
  { name := "PRT_ST_RX_MCAST", base := 0x400210, dims := [(67, 0x1000, 0), (2, 0x4, 0)], reset := fun _ => 0x0
    fields := [{ hi := 31, lo := 0, acc := .ro }] }
@[inherit_doc Spec.PRT_ST_RX_MCAST] def Reg.PRT_ST_RX_MCAST (p i : Nat) : Reg := Spec.PRT_ST_RX_MCAST.at [p, i]
/-- PRT_ST_RX_BCAST (R565). -/
def Spec.PRT_ST_RX_BCAST : RegSpec :=
  { name := "PRT_ST_RX_BCAST", base := 0x400218, dims := [(67, 0x1000, 0), (2, 0x4, 0)], reset := fun _ => 0x0
    fields := [{ hi := 31, lo := 0, acc := .ro }] }
@[inherit_doc Spec.PRT_ST_RX_BCAST] def Reg.PRT_ST_RX_BCAST (p i : Nat) : Reg := Spec.PRT_ST_RX_BCAST.at [p, i]
/-- PRT_ST_TX_FRAMES (R565). -/
def Spec.PRT_ST_TX_FRAMES : RegSpec :=
  { name := "PRT_ST_TX_FRAMES", base := 0x400270, dims := [(67, 0x1000, 0), (2, 0x4, 0)], reset := fun _ => 0x0
    fields := [{ hi := 31, lo := 0, acc := .ro }] }
@[inherit_doc Spec.PRT_ST_TX_FRAMES] def Reg.PRT_ST_TX_FRAMES (p i : Nat) : Reg := Spec.PRT_ST_TX_FRAMES.at [p, i]
/-- PRT_ST_TX_BYTES (R565). -/
def Spec.PRT_ST_TX_BYTES : RegSpec :=
  { name := "PRT_ST_TX_BYTES", base := 0x400278, dims := [(67, 0x1000, 0), (2, 0x4, 0)], reset := fun _ => 0x0
    fields := [{ hi := 31, lo := 0, acc := .ro }] }
@[inherit_doc Spec.PRT_ST_TX_BYTES] def Reg.PRT_ST_TX_BYTES (p i : Nat) : Reg := Spec.PRT_ST_TX_BYTES.at [p, i]
/-- PRT_ST_TX_MCAST (R565). -/
def Spec.PRT_ST_TX_MCAST : RegSpec :=
  { name := "PRT_ST_TX_MCAST", base := 0x400280, dims := [(67, 0x1000, 0), (2, 0x4, 0)], reset := fun _ => 0x0
    fields := [{ hi := 31, lo := 0, acc := .ro }] }
@[inherit_doc Spec.PRT_ST_TX_MCAST] def Reg.PRT_ST_TX_MCAST (p i : Nat) : Reg := Spec.PRT_ST_TX_MCAST.at [p, i]
/-- PRT_ST_TX_BCAST (R565). -/
def Spec.PRT_ST_TX_BCAST : RegSpec :=
  { name := "PRT_ST_TX_BCAST", base := 0x400288, dims := [(67, 0x1000, 0), (2, 0x4, 0)], reset := fun _ => 0x0
    fields := [{ hi := 31, lo := 0, acc := .ro }] }
@[inherit_doc Spec.PRT_ST_TX_BCAST] def Reg.PRT_ST_TX_BCAST (p i : Nat) : Reg := Spec.PRT_ST_TX_BCAST.at [p, i]
/-- PRT_ST_RX_SIZE (R565). -/
def Spec.PRT_ST_RX_SIZE : RegSpec :=
  { name := "PRT_ST_RX_SIZE", base := 0x400220, dims := [(67, 0x1000, 0), (10, 0x8, 0), (2, 0x4, 0)], reset := fun _ => 0x0
    fields := [{ hi := 31, lo := 0, acc := .ro }] }
@[inherit_doc Spec.PRT_ST_RX_SIZE] def Reg.PRT_ST_RX_SIZE (p i j : Nat) : Reg := Spec.PRT_ST_RX_SIZE.at [p, i, j]
/-- PRT_ST_TX_SIZE (R565). -/
def Spec.PRT_ST_TX_SIZE : RegSpec :=
  { name := "PRT_ST_TX_SIZE", base := 0x400290, dims := [(67, 0x1000, 0), (10, 0x8, 0), (2, 0x4, 0)], reset := fun _ => 0x0
    fields := [{ hi := 31, lo := 0, acc := .ro }] }
@[inherit_doc Spec.PRT_ST_TX_SIZE] def Reg.PRT_ST_TX_SIZE (p i j : Nat) : Reg := Spec.PRT_ST_TX_SIZE.at [p, i, j]
/-- GRF_TX_SEQ_HI (R456). -/
def Spec.GRF_TX_SEQ_HI : RegSpec :=
  { name := "GRF_TX_SEQ_HI", base := 0x1000020, dims := [], reset := fun _ => 0x0
    fields := [{ hi := 15, lo := 0, acc := .ro }] }
@[inherit_doc Spec.GRF_TX_SEQ_HI] def Reg.GRF_TX_SEQ_HI : Reg := Spec.GRF_TX_SEQ_HI.at []
@[inherit_doc Spec.GRF_TX_SEQ_HI] def Fld.GRF_TX_SEQ_HI_SEQ : Fld := ⟨Reg.GRF_TX_SEQ_HI, 15, 0⟩
/-- GRF_TX_SEQ_LO (R456). -/
def Spec.GRF_TX_SEQ_LO : RegSpec :=
  { name := "GRF_TX_SEQ_LO", base := 0x1000024, dims := [], reset := fun _ => 0x0
    fields := [{ hi := 31, lo := 0, acc := .ro }] }
@[inherit_doc Spec.GRF_TX_SEQ_LO] def Reg.GRF_TX_SEQ_LO : Reg := Spec.GRF_TX_SEQ_LO.at []
/-- GRF_ACK_HI (R456). -/
def Spec.GRF_ACK_HI : RegSpec :=
  { name := "GRF_ACK_HI", base := 0x1000028, dims := [], reset := fun _ => 0x0
    fields := [{ hi := 15, lo := 0, acc := .ro }] }
@[inherit_doc Spec.GRF_ACK_HI] def Reg.GRF_ACK_HI : Reg := Spec.GRF_ACK_HI.at []
@[inherit_doc Spec.GRF_ACK_HI] def Fld.GRF_ACK_HI_SEQ : Fld := ⟨Reg.GRF_ACK_HI, 15, 0⟩
/-- GRF_ACK_LO (R456). -/
def Spec.GRF_ACK_LO : RegSpec :=
  { name := "GRF_ACK_LO", base := 0x100002C, dims := [], reset := fun _ => 0x0
    fields := [{ hi := 31, lo := 0, acc := .ro }] }
@[inherit_doc Spec.GRF_ACK_LO] def Reg.GRF_ACK_LO : Reg := Spec.GRF_ACK_LO.at []
/-- GRF_RX_SEQ_HI (R456). -/
def Spec.GRF_RX_SEQ_HI : RegSpec :=
  { name := "GRF_RX_SEQ_HI", base := 0x1000030, dims := [], reset := fun _ => 0x0
    fields := [{ hi := 15, lo := 0, acc := .ro }] }
@[inherit_doc Spec.GRF_RX_SEQ_HI] def Reg.GRF_RX_SEQ_HI : Reg := Spec.GRF_RX_SEQ_HI.at []
@[inherit_doc Spec.GRF_RX_SEQ_HI] def Fld.GRF_RX_SEQ_HI_SEQ : Fld := ⟨Reg.GRF_RX_SEQ_HI, 15, 0⟩
/-- GRF_RX_SEQ_LO (R456). -/
def Spec.GRF_RX_SEQ_LO : RegSpec :=
  { name := "GRF_RX_SEQ_LO", base := 0x1000034, dims := [], reset := fun _ => 0x0
    fields := [{ hi := 31, lo := 0, acc := .ro }] }
@[inherit_doc Spec.GRF_RX_SEQ_LO] def Reg.GRF_RX_SEQ_LO : Reg := Spec.GRF_RX_SEQ_LO.at []

/-- The registers of 00_scope.md. -/
def Spec.table00_0 : List RegSpec :=
  [Spec.KTL_DEVICE_ID]

/-- The registers of 01_packet_life.md. -/
def Spec.table01_0 : List RegSpec :=
  [Spec.PRT_INTERNAL_CTL, Spec.PRT_RECIRC_DROP]

/-- The registers of 02_front_ports.md. -/
def Spec.table02_0 : List RegSpec :=
  [Spec.PRT_CFG, Spec.PRT_STATUS, Spec.PRT_EVENT, Spec.PRT_TIMERS,
   Spec.PRT_PAUSE, Spec.PRT_PAUSE_WD, Spec.PRT_LPI, Spec.PRT_RX_OVERRUN,
   Spec.PRT_RX_RUNT, Spec.PRT_RX_OVERSIZE, Spec.PRT_RX_FCS_ERR, Spec.PRT_RX_PCS_ERR,
   Spec.PRT_RX_MAC_CTL, Spec.PRT_RX_MAC_CTL_BAD, Spec.PRT_TX_PAUSE, Spec.PRT_TX_STOMP,
   Spec.PRT_TX_ABORT, Spec.PRT_DROP_AGE, Spec.PRT_DROP_HOLD, Spec.PRT_DROP_DOWN,
   Spec.PRT_FEC_CORR, Spec.PRT_FEC_UNCORR, Spec.PRT_RX_COZY_DROP, Spec.PRT_CORR_MISSED,
   Spec.PRT_SLICE_MODE, Spec.PRT_LANE_POL_0, Spec.PRT_LANE_POL_1, Spec.PRT_BASE_MAC_HI,
   Spec.PRT_BASE_MAC_LO, Spec.PRT_I2C_CMD]
def Spec.table02_1 : List RegSpec :=
  [Spec.PRT_I2C_STAT, Spec.PRT_I2C_BUF]

/-- The registers of 03_parsing_and_rules.md. -/
def Spec.table03_0 : List RegSpec :=
  [Spec.PAR_FAULT_DROP, Spec.PAR_FAULT_PASS, Spec.PAR_TAG_EXTRA, Spec.PAR_PORT_ZONE,
   Spec.PAR_PSEL, Spec.PAR_PROF_CFG, Spec.PAR_PROF_USER, Spec.PAR_VLAN_ZONE,
   Spec.PAR_HASH_SEED_LO, Spec.PAR_HASH_SEED_HI, Spec.PAR_HASH_TEST, Spec.PAR_HASH_TEST_LO,
   Spec.PAR_HASH_TEST_HI, Spec.PAR_HASH_DATA, Spec.RUL_ACC_CMD, Spec.RUL_ACC_STAT,
   Spec.RUL_EPOCH_CTL, Spec.RUL_OLD_REFS, Spec.RUL_ACC_DATA]

/-- The registers of 04_flow_table.md. -/
def Spec.table04_0 : List RegSpec :=
  [Spec.FLE_CFG, Spec.FLE_PRUNE_CTL, Spec.FLE_STATUS, Spec.FLE_CACHE_CTL,
   Spec.FLE_BANK_HOLD, Spec.FLE_SLICE_TAGS, Spec.FLE_CREATED, Spec.FLE_CREATE_FAIL,
   Spec.FLE_EVICTED, Spec.FLE_AGED, Spec.FLE_CORRECTED, Spec.FLE_POISONED,
   Spec.FLE_REPAIRED, Spec.FLE_REPAIR_FAILED, Spec.FLE_OVL_REFUSED, Spec.FLE_ZONE_REFUSED,
   Spec.FLE_RO_DISCARD, Spec.FLE_LOST, Spec.FLE_ZONE_CMD, Spec.FLE_ZONE_DATA,
   Spec.FLE_ZONE_PROF, Spec.FLE_ZONE_COUNT, Spec.FLE_ZPROF_CFG, Spec.FLE_ZPROF_BURST,
   Spec.FLE_ZPROF_TMO, Spec.PMEM_RETIRE_CFG, Spec.PMEM_RETIRE_STAT, Spec.PMEM_WEEDER_CTL,
   Spec.FLE_CLOCK_LO, Spec.FLE_CLOCK_HI]

/-- The registers of 05_trowel.md. -/
def Spec.table05_0 : List RegSpec :=
  [Spec.TRW_ENG_STAT, Spec.TRW_ENG_CTL, Spec.TRW_EXC, Spec.TRW_NO_PROG,
   Spec.TRW_NO_DEST, Spec.TRW_QUAR_DROP, Spec.TRW_RESTART, Spec.TRW_CS_CORR,
   Spec.TRW_DROP, Spec.TRW_ROM_INFO, Spec.TRW_PROG_CMD, Spec.TRW_PROG_STAT,
   Spec.TRW_PROG_DATA_HI, Spec.TRW_PROG_DATA_LO, Spec.TRW_IMEM_ADDR, Spec.TRW_IMEM_DATA,
   Spec.TRW_MARK, Spec.TRW_PATCH_CTL, Spec.TRW_PATCH_STAT, Spec.TRW_PATCH_ADDR,
   Spec.TRW_PATCH_DATA, Spec.TRW_PATCH_MATCH]

/-- The registers of 06_translation_balancing.md. -/
def Spec.table06_0 : List RegSpec :=
  [Spec.FLE_POL_CMD, Spec.FLE_POL_STAT, Spec.FLE_POL_DATA_0, Spec.FLE_POL_DATA_1,
   Spec.FLE_POL_DATA_2, Spec.FLE_POL_DATA_3, Spec.FLE_POL_DATA_4, Spec.XLB_CFG,
   Spec.XLB_MAPS, Spec.XLB_SUBS, Spec.XLB_NAT_ST, Spec.XLB_LB_EMPTY,
   Spec.XLB_REF_UNDER, Spec.XLB_POOL_EXH, Spec.XLB_POOL_CFG, Spec.XLB_POOL_ADDR,
   Spec.XLB_POOL_PORTS, Spec.XLB_POOL_USE, Spec.XLB_LB_CMD, Spec.XLB_LB_STAT,
   Spec.XLB_MAP_CMD, Spec.XLB_ADDR, Spec.XLB_LB_DATA, Spec.XLB_MAP_DATA]

/-- The registers of 07_forwarding_tables.md. -/
def Spec.table07_0 : List RegSpec :=
  [Spec.FWD_PORT_L2, Spec.FWD_CFG, Spec.FWD_MOVE_CFG, Spec.FWD_PIN_CFG,
   Spec.FWD_EPOCH_CTL, Spec.FWD_OLD_REFS, Spec.FWD_CMD, Spec.FWD_CMD_STAT,
   Spec.FWD_CMD_RES, Spec.FWD_LEARNED, Spec.FWD_LEARN_DROP, Spec.FWD_LEARN_FULL,
   Spec.FWD_MOVES, Spec.FWD_MOVE_BLOCKED, Spec.FWD_STATIC_CONFLICT, Spec.FWD_AGED,
   Spec.FWD_FLUSHED, Spec.FWD_TBL_LOST, Spec.FWD_CMD_DATA, Spec.FWD_ECMP_MEM,
   Spec.FWD_COUNT]

/-- The registers of 08_buffers.md. -/
def Spec.table08_0 : List RegSpec :=
  [Spec.BUF_FL, Spec.BUF_CFG, Spec.BUF_RET, Spec.BUF_PORT_PRI,
   Spec.BUF_SPILL_CFG, Spec.BUF_SPILL_FETCH, Spec.BUF_SPILL_STAT, Spec.BUF_SPILL_RUNS,
   Spec.BUF_OWN_CMD, Spec.BUF_OWN_STAT, Spec.BUF_OWN_DATA_0, Spec.BUF_OWN_DATA_1,
   Spec.BUF_OWN_DATA_2, Spec.BUF_OWN_DATA_3, Spec.BUF_OWN_DATA_4, Spec.BUF_OWN_DATA_5,
   Spec.BUF_POOL_CFG, Spec.BUF_POOL_SPON, Spec.BUF_POOL_SPOFF, Spec.BUF_POOL_USE,
   Spec.BUF_POOL_FREE, Spec.BUF_POOL_PEAK, Spec.BUF_MIR_CFG, Spec.BUF_MIR_SAMPLE,
   Spec.BUF_MIR_TRUNC, Spec.BUF_MIR_SEQ, Spec.BUF_ING_DROP, Spec.BUF_EGR_DROP,
   Spec.BUF_MIR_COPIES, Spec.BUF_MIR_DROP]
def Spec.table08_1 : List RegSpec :=
  [Spec.BUF_DOUBLE_FREE, Spec.BUF_NONOWNER_FREE, Spec.BUF_LEAKED, Spec.BUF_FL_REBUILT,
   Spec.BUF_UNCORR, Spec.BUF_CELLS_RETIRED, Spec.BUF_SPILL_UNCORR, Spec.BUF_POOL_STAT,
   Spec.BUF_MIR_TPL, Spec.BUF_MIR_TRUNC_CNT]

/-- The registers of 09_scheduling_and_gates.md. -/
def Spec.table09_0 : List RegSpec :=
  [Spec.SCH_PORT_CFG, Spec.SCH_PORT_SHAPE, Spec.SCH_PORT_BURST, Spec.SCH_SDU,
   Spec.SCH_NOQ_DROP, Spec.SCH_SDU_DROP, Spec.SCH_QFULL_DROP, Spec.SCH_AGE_DROP,
   Spec.SCH_Q_CMD, Spec.SCH_N_CMD, Spec.SCH_Q_STAT, Spec.SCH_N_STAT,
   Spec.SCH_Q_DATA_0, Spec.SCH_Q_DATA_1, Spec.SCH_Q_DATA_2, Spec.SCH_Q_DATA_3,
   Spec.SCH_Q_DATA_4, Spec.SCH_Q_DATA_5, Spec.SCH_Q_DATA_6, Spec.SCH_Q_DATA_7,
   Spec.SCH_N_DATA_1, Spec.GTE_CFG, Spec.GTE_CTL, Spec.GTE_STAT,
   Spec.GTE_ADMIN_LEN, Spec.GTE_OPER_LEN, Spec.GTE_ADMIN_CYCLE, Spec.GTE_OPER_CYCLE,
   Spec.GTE_ADMIN_EXT, Spec.GTE_OPER_EXT]
def Spec.table09_1 : List RegSpec :=
  [Spec.GTE_ADMIN_BASE_SH, Spec.GTE_OPER_BASE_SH, Spec.GTE_ADMIN_BASE_SL, Spec.GTE_OPER_BASE_SL,
   Spec.GTE_ADMIN_BASE_NS, Spec.GTE_OPER_BASE_NS, Spec.GTE_CHANGE_SH, Spec.GTE_CHANGE_SL,
   Spec.GTE_CHANGE_NS, Spec.GTE_LIST_CMD, Spec.GTE_LIST_STAT, Spec.GTE_LIST_DATA_0,
   Spec.GTE_LIST_DATA_1, Spec.SCH_N_DATA_0, Spec.SCH_N_DATA_2, Spec.SCH_N_DATA_3,
   Spec.GTE_DEFERRED]

/-- The registers of 10_time.md. -/
def Spec.table10_0 : List RegSpec :=
  [Spec.TIM_NOW_SH, Spec.TIM_NOW_SL, Spec.TIM_NOW_NS, Spec.TIM_NOW_FRAC,
   Spec.TIM_ADJ, Spec.TIM_SET_SH, Spec.TIM_SET_SL, Spec.TIM_SET_NS,
   Spec.TIM_STEP_CTL, Spec.TIM_STEP_OFS, Spec.TIM_PPSOUT_CFG, Spec.TIM_PPSOUT_OFS,
   Spec.TIM_PPSIN_CTL, Spec.TIM_PPSIN_SH, Spec.TIM_PPSIN_SL, Spec.TIM_PPSIN_NS,
   Spec.TIM_PPSIN_FRAC, Spec.TIM_RX_CORR, Spec.TIM_TX_CORR, Spec.TIM_PORT_CFG,
   Spec.TIM_OS_FAIL, Spec.TIM_TSQ_W0, Spec.TIM_TSQ_W1, Spec.TIM_TSQ_W2,
   Spec.TIM_TSQ_W3, Spec.TIM_TSQ_STAT, Spec.TIM_TSQ_LOST]

/-- The registers of 11_trellis_link.md. -/
def Spec.table11_0 : List RegSpec :=
  [Spec.TRL_CFG, Spec.TRL_LANE_CFG, Spec.TRL_STATUS, Spec.TRL_EVENT,
   Spec.TRL_LANE_MAP, Spec.TRL_DEG_CFG, Spec.TRL_INTEG, Spec.TRL_OH_CRC,
   Spec.TRL_HDR_ERR, Spec.TRL_RX_ABORT, Spec.TRL_TX_ABORT, Spec.TRL_FEC_CORR,
   Spec.TRL_FEC_UNCORR, Spec.TRL_OOF, Spec.TRL_MDC_CFG, Spec.TRL_MDC_STAT,
   Spec.TRL_MDC_TX, Spec.TRL_MDC_RX, Spec.TRL_MDC_LOST]

/-- The registers of 12_graft_pairing.md. -/
def Spec.table12_0 : List RegSpec :=
  [Spec.GRF_CFG, Spec.GRF_RATE, Spec.GRF_TIMERS, Spec.GRF_TIMERS_2,
   Spec.GRF_STATUS, Spec.GRF_CTL, Spec.GRF_ZONE_CMD, Spec.GRF_ZONE_DATA,
   Spec.GRF_ZONE_STAT, Spec.GRF_WIT, Spec.GRF_PEER_MAC_HI, Spec.GRF_PEER_MAC_LO,
   Spec.GRF_WIT_STAT, Spec.GRF_ENTRIES_TX, Spec.GRF_FOLDED, Spec.GRF_RETX,
   Spec.GRF_ENTRIES_RX, Spec.GRF_DUP, Spec.GRF_GAP, Spec.GRF_MSG_CRC,
   Spec.GRF_MALFORMED, Spec.GRF_APPLY_FAIL, Spec.GRF_STBY_PKTS, Spec.GRF_REPAIR_SERVED,
   Spec.GRF_WIT_BAD, Spec.GRF_TX_SEQ_HI, Spec.GRF_TX_SEQ_LO, Spec.GRF_ACK_HI,
   Spec.GRF_ACK_LO, Spec.GRF_RX_SEQ_HI]
def Spec.table12_1 : List RegSpec :=
  [Spec.GRF_RX_SEQ_LO]

/-- The registers of 13_power_and_supply.md. -/
def Spec.table13_0 : List RegSpec :=
  [Spec.KTL_PWR_CFG, Spec.KTL_LEAD, Spec.KTL_COZY_CFG, Spec.KTL_SR_CFG,
   Spec.KTL_PWR_STAT, Spec.KTL_HOLD, Spec.KTL_WCMP_CTL, Spec.KTL_WCMP_SH,
   Spec.KTL_WCMP_SL, Spec.KTL_WCMP_NS, Spec.KTL_WARN_STAT, Spec.KTL_RESET_CAUSE,
   Spec.KTL_THERM_CFG, Spec.KTL_VMON, Spec.KTL_TEMP, Spec.KTL_WAKES,
   Spec.KTL_COZY_DROP, Spec.KTL_COZY_PEAK]

/-- The registers of 14_start_and_caddies.md. -/
def Spec.table14_0 : List RegSpec :=
  [Spec.NVM_STATUS, Spec.NVM_FL_CMD, Spec.NVM_FL_STAT, Spec.NVM_IMG_CMD,
   Spec.NVM_IMG_STAT, Spec.NVM_SLICE_CTL, Spec.NVM_RUN_SEQ_HI, Spec.NVM_RUN_SEQ_LO,
   Spec.NVM_LANE_OFF, Spec.NVM_FL_ADDR, Spec.NVM_FL_BUF, Spec.NVM_FL_ERR]

/-- The registers of 15_glasshouse.md. -/
def Spec.table15_0 : List RegSpec :=
  [Spec.GLH_CFG, Spec.GLH_CFG2, Spec.GLH_STATUS, Spec.GLH_RECOV_HI,
   Spec.GLH_RECOV_LO, Spec.GLH_CTX_CTL, Spec.GLH_CTX_IA_HI, Spec.GLH_CTX_IA_LO,
   Spec.GLH_CTX_WAIT, Spec.GLH_EVT_CFG, Spec.GLH_EVT_ENTRY_HI, Spec.GLH_EVT_ENTRY_LO,
   Spec.GLH_EVT_TAG, Spec.GLH_CHAN_CFG, Spec.GLH_CHAN_STAT, Spec.GLH_RXR_CFG,
   Spec.GLH_TXR_CFG, Spec.GLH_RXR_BASE_HI, Spec.GLH_TXR_BASE_HI, Spec.GLH_RXR_BASE_LO,
   Spec.GLH_TXR_BASE_LO, Spec.GLH_RXR_HEAD, Spec.GLH_TXR_HEAD, Spec.GLH_DBG_CMD,
   Spec.GLH_DBG_STAT, Spec.GLH_POST_FULL, Spec.GLH_FLOW_EXPIRED, Spec.GLH_RX_TRUNC,
   Spec.GLH_TX_BAD, Spec.GLH_STALLS]
def Spec.table15_1 : List RegSpec :=
  [Spec.GLH_CHAN_LOST, Spec.GLH_TASKEND_REL, Spec.GLH_EXC, Spec.GLH_CTX_MASK_HI,
   Spec.GLH_CTX_MASK_LO, Spec.GLH_CTX_GREG]

/-- The registers of 16_counters_telemetry.md. -/
def Spec.table16_0 : List RegSpec :=
  [Spec.PMU_EVC_LO, Spec.PMU_EVC_HI, Spec.PMU_EVC_WRAP, Spec.PMU_FC_CFG,
   Spec.PMU_FC_MASTER, Spec.PMU_FC_ALO_HI, Spec.PMU_FC_ALO_LO, Spec.PMU_FC_AHI_HI,
   Spec.PMU_FC_AHI_LO, Spec.PMU_FC_CNT_LO, Spec.PMU_FC_CNT_HI, Spec.PMU_FC_CTL,
   Spec.PMU_FC_WRAP, Spec.PMU_Q_CMD, Spec.HRV_CFG, Spec.HRV_NHOP,
   Spec.HRV_DOMAIN, Spec.HRV_PORTS, Spec.HRV_TIMERS, Spec.HRV_ACTIVE,
   Spec.HRV_MTU, Spec.HRV_RATE, Spec.HRV_STAT, Spec.HRV_SEQ,
   Spec.HRV_RECORDS, Spec.HRV_MSGS, Spec.HRV_LOST, Spec.HRV_DEFERRED,
   Spec.PMU_Q_DATA, Spec.HRV_SRC]
def Spec.table16_1 : List RegSpec :=
  [Spec.HRV_DST, Spec.HRV_ZPROF_EN, Spec.PRT_ST_RX_FRAMES, Spec.PRT_ST_RX_BYTES,
   Spec.PRT_ST_RX_MCAST, Spec.PRT_ST_RX_BCAST, Spec.PRT_ST_TX_FRAMES, Spec.PRT_ST_TX_BYTES,
   Spec.PRT_ST_TX_MCAST, Spec.PRT_ST_TX_BCAST, Spec.PRT_ST_RX_SIZE, Spec.PRT_ST_TX_SIZE]

/-- The registers of 17_management_security.md. -/
def Spec.table17_0 : List RegSpec :=
  [Spec.SEC_STATUS, Spec.SEC_SLOTS, Spec.SEC_DBG_CTL, Spec.MGT_CFG,
   Spec.MGT_V4_ADDR, Spec.MGT_MAC_HI, Spec.MGT_MAC_LO, Spec.MGT_IDLE,
   Spec.MGT_STATUS, Spec.MGT_RX_DROP, Spec.MGT_AUTH_FAIL, Spec.MGT_TAG_FAIL,
   Spec.MGT_REPLAY, Spec.MGT_BUSY_DROP, Spec.SEC_OWNER, Spec.SEC_OPKEY,
   Spec.SEC_OPKEY_ROLE, Spec.SEC_DBG_BUF, Spec.SEC_MEAS, Spec.MGT_V6_ADDR]

/-- The registers of 19_control_space_events.md. -/
def Spec.table19_0 : List RegSpec :=
  [Spec.DBG_EVT_STAT, Spec.DBG_EVT_POP, Spec.DBG_EVT_DROP, Spec.DBG_EVT_DATA]

/-- Every register of the control space. -/
def Spec.table : List RegSpec :=
  Spec.table00_0 ++ Spec.table01_0 ++ Spec.table02_0 ++ Spec.table02_1 ++ Spec.table03_0 ++ Spec.table04_0 ++ Spec.table05_0 ++ Spec.table06_0 ++ Spec.table07_0 ++ Spec.table08_0 ++ Spec.table08_1 ++ Spec.table09_0 ++ Spec.table09_1 ++ Spec.table10_0 ++ Spec.table11_0 ++ Spec.table12_0 ++ Spec.table12_1 ++ Spec.table13_0 ++ Spec.table14_0 ++ Spec.table15_0 ++ Spec.table15_1 ++ Spec.table16_0 ++ Spec.table16_1 ++ Spec.table17_0 ++ Spec.table19_0

/-- The register at an address, with its indices (R627). -/
def Spec.find? (addr : Nat) : Option (RegSpec × List Nat) :=
  Spec.table.findSome? fun r => (r.indices? addr).map fun ix => (r, ix)

end Sys2Proof.Machine
end

