-- ==== Sys2Proof/Machine/Types.lean ====
section
/-! DEFINITION. The data types of the state: packets, records, queues, contexts and the tables of every block. All of
them are plain data. -/

namespace Sys2Proof.Machine

/-- A network time (R367): seconds, nanoseconds, and the fraction in units of 2^-48 ns, whose top 16 bits can be read. -/
structure NetTime where
  sec : Nat := 0
  ns : Nat := 0
  frac : Nat := 0
  deriving DecidableEq, Repr, Inhabited

/-- One record of the event unit (R631): code, flags, times and detail. `cont` is the index of a continuation, 0 in a head;
`follow` is how many continuations a head has. (DEDUCED, log 6) -/
structure EventRec where
  code : Nat
  cont : Nat := 0
  follow : Nat := 0
  prior : Bool := false
  loss : Bool := false
  flowMs : Nat := 0
  sec : Nat := 0
  ns : Nat := 0
  lost : Nat := 0
  detail : List Byte := []
  deriving DecidableEq, Repr, Inhabited

/-- A limiter of an event logged at most once per second, or n times per second, with the count since the last one. -/
structure Limiter where
  last : Option Nat := none
  count : Nat := 0
  first : Nat := 0
  inSecond : Nat := 0
  deriving DecidableEq, Repr, Inhabited

/-! ## Packets (chapters 1, 3 and 8) -/

/-- The area of its owner a packet is charged to (R298). -/
inductive Area where
  | none | reserve | shared | headroom
  deriving DecidableEq, Repr, Inhabited

/-- A charge of cells against an owner (R298). -/
structure Charge where
  owner : Nat := 0
  area : Area := .none
  cells : Nat := 0
  deriving DecidableEq, Repr, Inhabited

/-- The key of a flow (R111, R142). Side A is the lower endpoint. -/
structure FlowKey where
  v6 : Bool := false
  kind : Nat := 0
  zone : Nat := 0
  proto : Nat := 0
  addrA : Nat := 0
  addrB : Nat := 0
  portA : Nat := 0
  portB : Nat := 0
  deriving DecidableEq, Repr, Inhabited

/-- What the parser found in a packet head (R91–R111). -/
structure Parsed where
  shape : Nat := 0
  profile : Nat := 0
  zone : Nat := 0
  key : List Byte := []
  hash : Nat := 0
  flowKey : FlowKey := {}
  srcIsA : Bool := true
  tracked : Bool := false
  deriving DecidableEq, Repr, Inhabited

/-- The epochs a packet is bound to (R121, R262). -/
structure Epochs where
  rule : Nat := 0
  l2 : Nat := 0
  v4 : Nat := 0
  v6 : Nat := 0
  deriving DecidableEq, Repr, Inhabited

/-- Where a packet is (R26). -/
inductive Stage where
  | cozy | fifo | parsed | inContext | endGate | issueWait | queued | recirc | txing
  deriving DecidableEq, Repr, Inhabited

/-- A packet's destination (R200). -/
inductive Dest where
  | none | drop
  | queue (port q : Nat)
  | recirc (slice : Nat)
  deriving DecidableEq, Repr, Inhabited

/-- What the flow engine has delivered for a packet. -/
inductive FlowResult where
  | notAsked | waiting | noRecord | record | refused (policy : Nat)
  deriving DecidableEq, Repr, Inhabited

/-- The mirror-copy fields of a descriptor (R321, R322). `early` says that the copy began transmission before its frame had
ended. -/
structure CopyInfo where
  session : Nat
  seq : Nat
  egress : Nat
  dropped : Bool
  hdr : Bool
  tagged : Bool
  trunc : Nat
  rxSec : Nat
  rxNs : Nat
  inPort : Nat
  toCpu : Bool := false
  early : Bool := false
  deriving DecidableEq, Repr, Inhabited

/-- What a cut-through packet has added to its record before its frame ended (R80, R144). -/
structure EarlyCount where
  bucket : Nat
  slot : Nat
  key : FlowKey
  gen : Nat
  aToB : Bool
  bytes : Nat
  deriving DecidableEq, Repr, Inhabited

/-- A step of a selection's path (R341): the element, 0 for the port scheduler and n + 1 for node n, the child it served, and
that child's priority and weight as they were charged. -/
structure PathStep where
  elem : Nat
  child : Nat
  prio : Nat
  weight : Nat
  deriving DecidableEq, Repr, Inhabited

/-- A packet, from MAC receive to MAC transmit (R7, R295). `arrival` numbers its entry into the present pass (R39). `desc` is its
descriptor while it holds cells, `received` its frame as received once a pass has rewritten it (R322), `blocks` the first block of
its image in a spilled run and how many cells the image has (R314). -/
structure Packet where
  bytes : List Byte := []
  inPort : Nat := 0
  slice : Nat := 0
  rx : NetTime := {}
  ended : Bool := false
  good : Bool := false
  len : Nat := 0
  cells : List Nat := []
  gen : Nat := 0
  tag : Nat := 0
  ing : Charge := {}
  egr : Charge := {}
  ret : Nat := 0
  stage : Stage := .fifo
  pass : Nat := 1
  prevZone : Option Nat := none
  scratch : List Byte := []
  epochs : Epochs := {}
  bound : Bool := false
  head : Parsed := {}
  flow : FlowResult := .notAsked
  op : Option Nat := none
  rule : Option Nat := none
  tc : Nat := 0
  dest : Dest := .none
  cut : Bool := false
  madeRecord : Bool := false
  edits : List (Nat × Nat) := []
  xlate : Option (Nat × Nat) := none
  named : List Nat := []
  offered : List Nat := []
  tsreq : Option (Nat × Bool) := none
  runSlice : Nat := 0
  enq : Nat := 0
  copy : Option CopyInfo := none
  early : Option EarlyCount := none
  deferred : Bool := false
  txAt : Option NetTime := none
  dead : Bool := false
  charged : Nat := 0
  path : List PathStep := []
  cozyGran : Nat := 0
  learnt : Bool := false
  target : Nat := 0
  reason : Nat := 0
  prog : Nat := 0
  hadRecord : Bool := false
  untracked : Bool := false
  arrival : Nat := 0
  desc : Nat := 0
  received : Option (List Byte) := none
  blocks : Nat × Nat := (0, 0)
  asStandby : Option Bool := none
  deriving DecidableEq, Repr, Inhabited

/-- A cell header (R293). The next-cell field of a free cell is the free list's own order. -/
structure CellHdr where
  held : Bool := false
  badMarker : Bool := false
  tag : Nat := 0
  next : Option Nat := none
  data : Nat := 0
  first : Bool := false
  mark : Bool := false
  owner : Nat := 0
  desc : Nat := 0
  stamp : Nat := 0
  gen : Nat := 0
  retired : Bool := false
  deriving DecidableEq, Repr, Inhabited

/-- A free list (R294): `fresh` home cells that have not been allocated since the self-test, in ascending order, and
then the cells appended since. -/
structure FreeList where
  fresh : Nat := 8192
  appended : List Nat := []
  deriving DecidableEq, Repr, Inhabited

/-- The use of one owner (R298, R300). -/
structure OwnerUse where
  r : Nat := 0
  s : Nat := 0
  h : Nat := 0
  paused : Bool := false
  drops : Nat := 0
  spillPages : Nat := 0
  deriving DecidableEq, Repr, Inhabited

/-- The configuration of one owner (R325). -/
structure OwnerCfg where
  mir : Bool := false
  spillEn : Bool := false
  pool : Nat := 0
  alpha : Nat := 3
  min : Nat := 43
  hdrm : Nat := 0
  xoffSpill : Nat := 0x3FFFF
  xon : Nat := 0x3FFFF
  deriving DecidableEq, Repr, Inhabited

/-- A spilled run of a queue (R314): the number of its run descriptor, and its first page; the page link table gives the others.
-/
structure Run where
  number : Nat := 0
  packets : List Nat := []
  firstPage : Nat := 0
  pages : Nat := 0
  cells : Nat := 0
  oldest : Nat := 0
  newest : Nat := 0
  deriving DecidableEq, Repr, Inhabited

/-- The buffer manager (chapter 8). `links` is the page link table, `spilling` the pools that spill. -/
structure BufState where
  links : Table Nat := []
  cells : Table CellHdr := []
  lists : Table FreeList := []
  rot : Table Nat := []
  use : Table OwnerUse := []
  cfg : Table OwnerCfg := []
  warned : List Nat := []
  peaks : Table Nat := []
  compostList : Nat := 0
  parity : Bool := false
  auditAt : Nat := 0
  spilling : List Nat := []
  spillGiB : Nat := 8
  usedPages : Nat := 0
  spillFull : Bool := false
  retUsed : Nat := 0
  offers : Table Nat := []
  retiredCells : Nat := 0
  deriving DecidableEq, Repr, Inhabited

/-! ## Queues, nodes and gates (chapter 9) -/

/-- What stands in a queue: a packet, or a spilled run. -/
inductive QItem where
  | pkt (id : Nat)
  | run (r : Run)
  deriving DecidableEq, Repr, Inhabited

/-- A shaper (R345): its settings in force, the settings written and waiting for the boundary, its tokens in 1/256
byte. -/
structure Shaper where
  en : Bool := false
  inc : Nat := 0
  burst : Nat := 0x2800
  pend : Option (Bool × Nat × Nat) := none
  tokens : Int := 0
  deriving DecidableEq, Repr, Inhabited

/-- A queue (R330, R361). -/
structure Queue where
  pnode : Bool := false
  parent : Nat := 0
  prio : Nat := 0
  tc : Nat := 0
  weight : Nat := 1
  pfcEn : Bool := true
  pfcPri : Nat := 0
  age : Nat := 50
  qmax : Nat := 0
  shaper : Shaper := {}
  items : List QItem := []
  tag : Nat := 0
  active : Bool := false
  ageDrops : Nat := 0
  qfullDrops : Nat := 0
  sentPkts : Nat := 0
  sentBytes : Nat := 0
  dropped : Nat := 0
  deriving DecidableEq, Repr, Inhabited

/-- A scheduling node (R336, R362). -/
structure Node where
  pnode : Bool := false
  parent : Nat := 0
  prio : Nat := 0
  weight : Nat := 1
  en : Bool := false
  port : Nat := 0
  shaper : Shaper := {}
  tag : Nat := 0
  active : Bool := false
  deriving DecidableEq, Repr, Inhabited

/-- A port scheduler: its shaper, and what it has selected. -/
structure PortSched where
  shaper : Shaper := {}
  tx : Option Nat := none
  deriving DecidableEq, Repr, Inhabited

/-- The scheduler (chapter 9). Virtual times are kept per (element, priority): element p is port scheduler p, element
128 + n is node n; the key is element × 8 + priority. -/
structure SchState where
  queues : Table Queue := []
  nodes : Table Node := []
  ports : Table PortSched := []
  vtime : Table Nat := []
  lastRefill : Nat := 0
  lastSweep : Nat := 0
  deriving DecidableEq, Repr, Inhabited

/-- A gate-list entry (R350). -/
structure GateEntry where
  gates : Nat := 0xFF
  interval : Nat := 1000000
  deriving DecidableEq, Repr, Inhabited

/-- The gates of one port: two banks of entries, the one that is operational, and the entry in force (R349–R353). -/
structure Gate where
  bank0 : Table GateEntry := []
  bank1 : Table GateEntry := []
  oper : Bool := false
  started : Option (Nat × Nat) := none
  deriving DecidableEq, Repr, Inhabited

/-! ## Ports (chapter 2) -/

/-- A received pause: when it ends, and since when the port or priority has been paused without a break. -/
structure Pause where
  till : Option Nat := none
  since : Option Nat := none
  wdTill : Option Nat := none
  deriving DecidableEq, Repr, Inhabited

/-- What the MAC of a front port inserts between frames: a PAUSE or PFC frame of a key and its quanta (R63), a witness frame (R447),
or an announcement (R450). -/
inductive MacOut where
  | pause (key quanta : Nat)
  | witness (frame : List Byte)
  | announce (frame : List Byte)
  deriving DecidableEq, Repr, Inhabited

/-- What a front port holds beside its registers (chapter 2). Times are in AON_CLK cycles. `control` lists what its MAC inserts once
the transmitter has left low-power idle (R67). -/
structure Port where
  rx : Option Nat := none
  condsSince : Option Nat := none
  failSince : Option Nat := none
  holdTill : Option Nat := none
  holdExpired : Bool := false
  pauses : Table Pause := []
  xoff : Table Nat := []
  control : List MacOut := []
  idleSince : Nat := 0
  twTill : Option Nat := none
  deriving DecidableEq, Repr, Inhabited

/-- An I2C master (R70, R71): when its transaction started, and the command that started it. -/
structure I2c where
  startAt : Option Nat := none
  command : Nat := 0
  deriving DecidableEq, Repr, Inhabited

/-! ## Rules (chapter 3) -/

/-- A range comparator (R115). -/
structure Comparator where
  en : Bool := false
  inv : Bool := false
  sel : Nat := 0
  low : Nat := 0
  high : Nat := 0
  deriving DecidableEq, Repr, Inhabited

/-- A rule entry (R116). A range reference is 128 + the comparator's index when it is valid. -/
structure Rule where
  value : Nat := 0
  mask : Nat := 0
  refs : List Nat := [0, 0, 0, 0]
  action : Nat := 0
  deriving DecidableEq, Repr, Inhabited

/-- A rule bank (R120). -/
structure RuleBank where
  rules : Table Rule := []
  comps : Table Comparator := []
  dflt : Nat := 0
  deriving DecidableEq, Repr, Inhabited

/-- The rule engine (R116–R132): both banks, when a copy in progress began, and the hit counters (slice × 16,385 + index;
index 16,384 is the default action). -/
structure RuleState where
  bank0 : RuleBank := {}
  bank1 : RuleBank := {}
  copying : Option Nat := none
  hits : Table Nat := []
  deriving DecidableEq, Repr, Inhabited

/-! ## The flow table (chapter 4) -/

/-- A flow record (R139–R141), its fields rather than its bytes: IPv4 and IPv6 records hold the same fields. -/
structure Record where
  key : FlowKey := {}
  pinned : Bool := false
  poisoned : Bool := false
  state : Nat := 0
  flags : Nat := 0
  prog : Nat := 0
  policer : Nat := 0
  gen : Nat := 0
  xaddr : Nat := 0
  xport : Nat := 0
  member : Nat := 0
  pktsAB : Nat := 0
  pktsBA : Nat := 0
  bytesAB : Nat := 0
  bytesBA : Nat := 0
  lastSeen : Nat := 0
  created : Nat := 0
  gseq : Nat := 0
  deriving DecidableEq, Repr, Inhabited

/-- A slot of a bucket with its tag-line fields (R136) and the record it holds; a deletion keeps the generation
(R143). A slot of kind 3 is the second slot of the IPv6 record of the slot before it. -/
structure Slot where
  kind : Nat := 0
  fp : Nat := 0
  stamp : Nat := 0
  bank : Nat := 0
  gen : Nat := 0
  record : Option Record := none
  reserved : Option Nat := none
  deriving DecidableEq, Repr, Inhabited

/-- A cache line (R147): the bank and set it lies in, and the slot it holds. -/
structure CacheLine where
  bank : Nat
  set : Nat
  bucket : Nat
  slot : Nat
  dirty : Bool
  deriving DecidableEq, Repr, Inhabited

/-- A correction of a record's counters that the MACs produced (R79, R144, R153): a decrement, or bytes that came after the
write-back, with the ingress port. -/
structure Correction where
  minus : Bool
  late : Nat
  port : Nat
  early : EarlyCount
  deriving DecidableEq, Repr, Inhabited

/-- What an operation of the flow engine is (R150, R153): a batch of packets, a delete by Prune, a Glasshouse flow request, a
correction, an entry of Graft on a record, or a repair request of the partner, by its identifier. -/
inductive OpKind where
  | batch
  | prune (bucket slot : Nat)
  | glasshouse (ctx : Nat)
  | correct (c : Correction)
  | upsert (seq : Nat) (r : Record)
  | delete (seq : Nat)
  | repair (ident : Nat)
  deriving DecidableEq, Repr, Inhabited

/-- A member of a batch (R151): its packet, and what its program left when it ended. `copy` is the record copy as it stood at
EXIT (R201). -/
structure Member where
  pid : Nat
  finished : Bool := false
  cancelled : Bool := false
  deleted : Bool := false
  made : Bool := false
  writes : Table Byte := []
  natTaken : List (Nat × Nat) := []
  natRelease : List Record := []
  copy : Option Record := none
  deriving DecidableEq, Repr, Inhabited

/-- Where an operation stands. -/
inductive OpState where
  | missing | repairing | inService
  deriving DecidableEq, Repr, Inhabited

/-- The shared creation of an operation (R151, R156): not asked, queued, or answered with a status. -/
inductive Creation where
  | none | queued | status (n : Nat)
  deriving DecidableEq, Repr, Inhabited

/-- An operation in service on a flow key (R150). `loc` is the bucket and slot of its record. A miss (R148) first reads its tag
lines; then `slots` holds the slots it has still to read, the one being read first. `retried` are the buckets whose tag line it has
read twice (R170). `tags` are the tags its reads hold (R149). `role` is the role of the key's zone when it started: owner or standby,
or none for a local zone (R422). -/
structure FlowOp where
  kind : OpKind := .batch
  key : FlowKey := {}
  hash : Nat := 0
  bank : Nat := 0
  slice : Nat := 0
  state : OpState := .inService
  loc : Option (Nat × Nat) := none
  base : Option Record := none
  members : List Member := []
  creation : Creation := .none
  reservation : Option (Nat × Nat) := none
  tags : Nat := 0
  slots : Option (List (Nat × Nat)) := none
  retried : List Nat := []
  countOnly : Bool := false
  role : Option Bool := none
  deriving DecidableEq, Repr, Inhabited

/-- A request in a bank's hold queue (R150): a packet, or an operation of another kind. -/
structure Held where
  key : FlowKey
  pid : Option Nat := none
  kind : OpKind := .batch
  hash : Nat := 0
  deriving DecidableEq, Repr, Inhabited

/-- A zone's entry (R157). -/
structure Zone where
  limit : Nat := 0
  profile : Nat := 0
  live : Nat := 0
  reserved : Nat := 0
  tokens : Option Nat := none
  deriving DecidableEq, Repr, Inhabited

/-- An entry of the page-correction table (R174). -/
structure PageCorr where
  page : Nat
  count : Nat
  last : Nat
  deriving DecidableEq, Repr, Inhabited

/-- The flow engine (chapter 4). Slots are kept by bucket × 8 + slot, held requests by bank. `creations` is the creation
queue, by operation. `profTokens` holds the tokens of the zones of a profile whose own entry holds none, at reset the
reset value of CR_BURST. `repairs` holds when a marker that operations wait on was written, by bucket × 8 + slot. `tagQueue` are the
reads that wait for a tag in issue order, each with its operation and whether it is a slot read (R149). `rebuilding` are the buckets
whose tag line is to be rebuilt (R173). `intake` are the corrections that wait for a place in a bank's queue, in the order the MACs
produced them (R153). `duePages` are the pages that are to be retired. -/
structure FlowState where
  slots : Table Slot := []
  overflow : Table Nat := []
  cache : List CacheLine := []
  ops : Table FlowOp := []
  nextOp : Nat := 0
  holds : Table (List Held) := []
  intake : List Correction := []
  tagQueue : List (Nat × Bool) := []
  rebuilding : List Nat := []
  creations : List Nat := []
  zones : Table Zone := []
  profTokens : Table Nat := []
  clockMs : Nat := 0
  clockAt : Nat := 0
  tokensAt : Nat := 0
  repairs : Table Nat := []
  corr : List PageCorr := []
  remap : Table Nat := []
  duePages : List Nat := []
  spareLogged : Bool := false
  retiring : Option Nat := none
  pruneAt : Nat := 0
  weederAt : Nat := 0
  deriving DecidableEq, Repr, Inhabited

/-! ## Trowel (chapter 5) -/

/-- What NATMAP answers (R236): its status, the address and port it returns, the address index, HAIRPIN and NEW. -/
structure NatReply where
  status : Nat := 0
  addr : Nat := 0
  port : Nat := 0
  idx : Nat := 0
  hairpin : Bool := false
  fresh : Bool := false
  deriving DecidableEq, Repr, Inhabited

/-- A tentative request of a routine to a unit (R211, R214): the unit and the code sent, the operands, whether the first of
them is m0, the core clock the unit took it in, and the unit's answer with its ERR flag. `nat` is what NATMAP answered, `meter` the
length that POLICE metered and its core clock, and `claims` is what the unit holds reserved until the confirm or the cancel
(R237, R238, R252). -/
structure UnitRequest where
  unit : Nat
  code : Nat
  a : DWord
  b : DWord
  noPolicer : Bool := false
  since : Nat := 0
  answer : Option (Nat × Bool) := none
  nat : Option NatReply := none
  meter : Option (Nat × Nat) := none
  claims : List (Nat × Nat) := []
  deriving DecidableEq, Repr, Inhabited

/-- A routine that a context runs (R210–R217): the micro-registers m1–m20, the micro-address, the staged stores, the tentative
requests, the micro-words and wait clocks left before the limit of R217, the register that takes m20, and whether it has committed.
`holds` says that it waits with YIELD = 0, so that its engine issues nothing else (R213). -/
structure Micro where
  regs : Table DWord := []
  addr : Nat := 0
  staged : List (Nat × List Byte) := []
  requests : List UnitRequest := []
  left : Nat := 2048
  rd : Nat := 0
  err : Bool := false
  committed : Bool := false
  exits : Bool := false
  holds : Bool := false
  deriving DecidableEq, Repr, Inhabited

/-- A packet context of an engine (R187–R203). `charged` are the clocks charged so far, `began` the core clock of the dispatch,
`waited` the clocks since then that package-memory reads may have kept from being charged, and `missFrom` the clock from which such a
read may be outstanding (R203). `lastFault` is the micro-address of the last micro-fault of the instruction (R218). -/
structure Ctx where
  pid : Nat
  g : Table DWord := []
  ia : Nat := 0
  prog : Nat := 0
  arg : Nat := 0
  budget : Nat := 0
  charged : Nat := 0
  began : Nat := 0
  waited : Nat := 0
  missFrom : Option Nat := none
  tc : Nat := 0
  pol : Nat := 0
  record : Option Record := none
  present : Bool := false
  countOnly : Bool := false
  created : Bool := false
  deleted : Bool := false
  writes : Table Byte := []
  scratch : Table Byte := []
  next : Table Byte := []
  dest : Dest := .none
  edits : List (Nat × Nat) := []
  mirrors : List Nat := []
  tsreq : Option (Nat × Bool) := none
  natTaken : List (Nat × Nat) := []
  natRelease : List Record := []
  wait : Option (Nat × Nat) := none
  reply : Option Nat := none
  micro : Option Micro := none
  rd : Nat := 0
  restarts : Nat := 0
  lastFault : Option Nat := none
  marked : Bool := false
  dir : Bool := false
  deriving DecidableEq, Repr, Inhabited

/-- The engines, programs and patches (chapter 5). `stagedVersion` is the version of a patch staged from a caddy. Contexts are kept by slice × 128 + engine × 8 + context. -/
structure TrwState where
  ctxs : Table Ctx := []
  progs : Table Nat := []
  imem : Table Word := []
  staged : Table Nat := []
  patchWords : Table Nat := []
  patchMatch : Table Word := []
  installing : Option (Bool × Nat) := none
  version : Nat := 0
  stagedVersion : Option Nat := none
  tsCount : Table Nat := []
  deriving DecidableEq, Repr, Inhabited

/-! ## Power, ingress and outputs (chapters 1, 13) -/

/-- A slice (R464): in service or not, when its idle time began and until when it is held in Run (R472), when it entered
Rest, what it waits for, and its heads: `fifo` those of the ingress FIFO (R24), `inner` those that have come from ports 65
and 66 (R42, R44), `asks` the parsed ones whose flow request is still to come, in parse order (R26). Its power state and its WAKING bit lie in KTL_PWR_STAT. -/
structure Slice where
  inService : Bool := false
  idleSince : Nat := 0
  holdTill : Nat := 0
  sleptAt : Nat := 0
  wantsWake : Bool := false
  lastPort : Nat := 0
  fifo : List Nat := []
  inner : List Nat := []
  asks : List Nat := []
  cozy : List Nat := []
  cozyUsed : Nat := 0
  cozyFull : Bool := false
  viaCozy : Bool := false
  learnFilter : List (Nat × Nat × Nat × Nat) := []
  restarting : Bool := false
  deriving DecidableEq, Repr, Inhabited

/-- What a command puts on a wire or returns to its requester. -/
inductive Out where
  | frame (port : Nat) (bytes : List Byte)
  | macControl (port : Nat) (bytes : List Byte)
  | mgmt (bytes : List Byte)
  | grix (session : Nat) (op : Nat) (status : Nat) (body : List Byte)
  | graft (kind : Nat) (body : List Byte)
  | readData (value : Word)
  | errorResponse
  | rejected (reason : Nat)
  | i2c (master : Nat) (value : Word)
  | i2cStop (master clocks : Nat)
  | ppsOut (level : Bool)
  | trellisFrame (lane : Nat) (bytes : List Byte)
  | mdcByte (channel : Nat) (byte : Byte)
  | flashReset
  deriving DecidableEq, Repr, Inhabited

/-- An entry of a transmit-timestamp queue (R379). `pid?` names the packet while its transmission goes on (R378). -/
structure TsEntry where
  pid? : Option Nat := none
  id : Nat
  port : Nat
  fate : Nat
  notify : Bool
  seq : Nat
  at? : Option NetTime
  deriving DecidableEq, Repr, Inhabited

/-- The time unit (chapter 10), beside its registers. `adjPending` is the rate in force until the next AON_CLK edge after a
write of ADJ; `step` is a pending step: its mode, and the seconds and nanoseconds of a set or the offset. `pps` holds
the settings of PPS_OUT in force, `ppsLast` the second whose rise is past, and no rise falls before the AON_CLK cycle
`ppsNotBefore`. -/
structure TimState where
  adjPending : Option Word := none
  step : Option (Bool × Nat × Nat) := none
  tsq : Table (List TsEntry) := []
  pps : Bool × Nat × Nat := (false, 0, 0)
  ppsHigh : Bool := false
  ppsFallAt : Nat := 0
  ppsLast : Option Nat := none
  ppsNotBefore : Nat := 0
  ppsInLast : Option Nat := none
  deriving DecidableEq, Repr, Inhabited

/-- The Kettle (chapter 13), beside its registers. `seen` lists the sensors (and the supplies, as 16 + i) that have been
read since their register was. `warnAt` is when the supply warning began, and `clearFrom` the latest moment of it at which VDD_CORE
is known to have been below 0.720 V (R476). -/
structure KtlState where
  srIdleSince : Nat := 0
  srBatchAt : Nat := 0
  warnAt : Option Nat := none
  clearFrom : Nat := 0
  thermalHeld : Bool := false
  refreshDoubled : Nat := 0
  lowSince : Option Nat := none
  hotSince : Option Nat := none
  seen : List Nat := []
  deriving DecidableEq, Repr, Inhabited

/-- A record queued for Harvest (R571, R573): its template and its bytes. -/
structure HarvestRec where
  template : Nat
  bytes : List Byte
  at' : Nat := 0
  deriving DecidableEq, Repr, Inhabited

/-- Harvest (chapter 16). -/
structure HarvestState where
  queue : List HarvestRec := []
  templatesAt : Nat := 0
  sentInSecond : Nat := 0
  secondAt : Nat := 0
  heldSince : Option Nat := none
  deriving DecidableEq, Repr, Inhabited

/-- The counters of chapter 16: event counters, filtered counters, port statistics (port × 64 + offset ÷ 8 of R565) and the
latches of the statistics' upper words; the other latches are registers. -/
structure PmuState where
  evc : Table Nat := []
  fc : Table Nat := []
  stats : Table Nat := []
  statHi : Table Nat := []
  deriving DecidableEq, Repr, Inhabited

/-! ## The Glasshouse (chapter 15) -/

/-- What holds a context in WAIT or STALL (R517). -/
inductive CoreWait where
  | none
  | timer
  | events (mask : Nat)
  | slot (channel : Nat)
  | message (channel : Nat)
  | post (descriptor : Nat) (since : Nat)
  | lookup (value : DWord)
  | flowGet (key : FlowKey) (hash : Nat) (buffer : Nat)
  | flowGot (value : DWord)
  | flowPut (buffer flags : Nat)
  | memory (value : DWord)
  deriving DecidableEq, Repr, Inhabited

/-- A flow a context holds (R538): its operation and when the hold began. -/
structure FlowHold where
  op : Nat
  since : Nat
  deriving DecidableEq, Repr, Inhabited

/-- A Glasshouse context (R516, R525): its state, its instruction address, its registers and its CCRs. `rd` is the
register a waiting instruction will write. -/
structure Core where
  state : Nat := 0
  ia : Nat := 0
  g : Table DWord := []
  kern : Bool := true
  pkern : Bool := false
  exc : Bool := false
  xia : Nat := 0
  xcause : Nat := 0
  xval : Nat := 0
  xentry : Nat := 0
  tmS : Nat := 0
  tmNs : Nat := 0
  armed : Bool := false
  nowS : Nat := 0
  evpend : Nat := 0
  hash : DWord := 0
  uwin0Base : Nat := 0
  uwin0Size : Nat := 0
  uwin1Base : Nat := 0
  uwin1Size : Nat := 0
  wait : CoreWait := .none
  rd : Nat := 0
  task : Option Nat := none
  tag : Option Nat := none
  flow : Option FlowHold := none
  expired : Bool := false
  stepping : Bool := false
  deriving DecidableEq, Repr, Inhabited

/-- A task in the dispatcher (R530, R531); `ctx` is the context it is bound to. -/
structure Task where
  num : Nat
  entry : Nat
  level : Nat
  user : Bool
  tagged : Bool
  tag : Nat
  arg : DWord
  ctx : Option Nat := none
  deriving DecidableEq, Repr, Inhabited

/-- The state of a channel slot (R535). -/
inductive SlotState where
  | free
  | reserved (ctx : Nat)
  | committed (len : Nat)
  | received (ctx : Nat) (len : Nat)
  deriving DecidableEq, Repr, Inhabited

/-- A channel (R535–R537): its slots, the commit order, and the contexts that wait, in the order the waits began. -/
structure Channel where
  slots : Table SlotState := []
  order : List Nat := []
  resWait : List Nat := []
  rcvWait : List Nat := []
  deriving DecidableEq, Repr, Inhabited

/-- The Glasshouse complex. `mem` holds its context memory, its shared SRAM and its region of package memory; `cycles` is
the core clocks since reset up to the AON_CLK cycle `cyclesAt` (R525). -/
structure GlhState where
  cores : Table Core := []
  mem : List Host.Cell := []
  tasks : List Task := []
  channels : Table Channel := []
  postWaits : List Nat := []
  stallSince : Option Nat := none
  cycles : Nat := 0
  cyclesAt : Nat := 0
  deriving DecidableEq, Repr, Inhabited

/-! ## Translation, balancing and policers (chapter 6) -/

/-- A subscriber entry (R234), kept by its number, bucket × 8 + place. -/
structure Subscriber where
  zone : Nat
  addr : Nat
  pool : Nat
  pub : Nat
  blocks : List Nat := []
  maps : Nat := 0
  deriving DecidableEq, Repr, Inhabited

/-- A granule entry (R234): the ports in use, the owner, the hold and its tick. -/
structure Granule where
  used : Nat := 0
  owner : Option Nat := none
  held : Bool := false
  tick : Nat := 0
  deriving DecidableEq, Repr, Inhabited

/-- A mapping (R234): the forward and reverse entries hold the same fields. `state` is 1 live or 2 holding; `since` is
when it became holding. -/
structure Mapping where
  pub : Nat := 0
  pport : Nat := 0
  zone : Nat := 0
  addr : Nat := 0
  port : Nat := 0
  proto : Nat := 0
  state : Nat := 0
  refs : Nat := 0
  since : Nat := 0
  deriving DecidableEq, Repr, Inhabited

/-- A load-balancing group (R245). -/
structure LbGroup where
  en : Bool := false
  v6 : Bool := false
  translate : Bool := false
  reselect : Bool := false
  deriving DecidableEq, Repr, Inhabited

/-- A load-balancing member (R245); state 0 DOWN, 1 DRAIN, 2 UP. -/
structure LbMember where
  addr : Nat := 0
  port : Nat := 0
  weight : Nat := 0
  state : Nat := 0
  nhop : Nat := 0
  deriving DecidableEq, Repr, Inhabited

/-- A load-balancing slot (R245). -/
structure LbSlot where
  valid : Bool := false
  primary : Nat := 0
  backup : Nat := 0
  deriving DecidableEq, Repr, Inhabited

/-- A policer (R250): its settings, its two buckets in units of 1/65,536 byte, and the core clock of its last use. -/
structure Policer where
  valid : Bool := false
  mode : Bool := false
  aware : Bool := false
  cir : Nat := 0
  pir : Nat := 0
  cbs : Nat := 0
  ebs : Nat := 0
  tc : Nat := 0
  te : Nat := 0
  last : Nat := 0
  deriving DecidableEq, Repr, Inhabited

/-- The XLB and policer units (chapter 6). `fwd` and `rev` hold the mappings in their forward and reverse entries, by
entry number; the state and the references of a mapping live in its reverse entry. `building` is a BUILD in progress
with its start. -/
structure XlbState where
  subs : Table Subscriber := []
  grans : Table Granule := []
  fwd : Table Mapping := []
  rev : Table Mapping := []
  cursor : Table Nat := []
  high : List Nat := []
  groups : Table LbGroup := []
  members : Table LbMember := []
  slots : Table LbSlot := []
  building : Option (Nat × Nat) := none
  pols : Table Policer := []
  deriving DecidableEq, Repr, Inhabited

/-! ## Forwarding tables (chapter 7) -/

/-- An L2 entry (R265). -/
structure L2Entry where
  vid : Nat := 0
  mac : Nat := 0
  static : Bool := false
  damped : Bool := false
  discard : Bool := false
  port : Nat := 0
  user : Nat := 0
  seen : Nat := 0
  window : Nat := 0
  moves : Nat := 0
  till : Nat := 0
  deriving DecidableEq, Repr, Inhabited

/-- A prefix entry (R274). Kinds: 0 next hop, 1 ECMP group, 2 discard, 3 Glasshouse. -/
structure LpmEntry where
  len : Nat := 0
  addr : Nat := 0
  index : Nat := 0
  kind : Nat := 0
  user : Nat := 0
  deriving DecidableEq, Repr, Inhabited

/-- A bank of a prefix table: its slots, its default route, its Strainer counters and its counts per length
(R274, R275). -/
structure LpmBank where
  slots : Table LpmEntry := []
  dflt : Option LpmEntry := none
  strain : Table Nat := []
  counts : Table Nat := []
  deriving DecidableEq, Repr, Inhabited

/-- A next-hop entry (R278). -/
structure NextHop where
  dst : Nat := 0
  src : Nat := 0
  port : Nat := 0
  valid : Bool := false
  vidEn : Bool := false
  vid : Nat := 0
  low : Nat := 0
  deriving DecidableEq, Repr, Inhabited

/-- The forwarding unit (chapter 7). L2 slots are kept by bank × 524,288 + bucket × 8 + place, prefix banks by
family × 2 + bank (family 0 IPv4, 1 IPv6). `ecmp` holds each group as its member count and its 64 members (R279).
`lines` are the addresses of the lines in the table cache (R261). `copying` is the table being copied, with the lines of the active
L2 bank that have been copied already (R281); `flushing` is the table of a flush command in progress, its filter, and whether it
spares the active bank. -/
structure FwdState where
  l2 : Table L2Entry := []
  lpm : Table LpmBank := []
  nhops : Table NextHop := []
  ecmp : Table (List Nat) := []
  learns : List (Nat × Nat × Nat) := []
  flushWait : List Nat := []
  flushing : Option (Nat × Nat × Bool) := none
  copying : Option Nat := none
  copied : List Nat := []
  lines : List Nat := []
  deriving DecidableEq, Repr, Inhabited

/-! ## The Trellis link (chapter 11) -/

/-- A watched condition of a Trellis defect (R406, R407): whether it is raw, when its integration ends, and whether the
defect is declared. -/
structure Defect where
  raw : Bool := false
  due : Nat := 0
  declared : Bool := false
  deriving DecidableEq, Repr, Inhabited

/-- A physical receive lane (R394, R403, R404): its signal, its FEC decoder's codeword lock, its frame alignment with the alignment
words it has missed in a row, the logical lane it carries as far as it is known, the frame count that its next frame shall have,
whether its last count did not advance by 8, the frames that the deskew holds (count, whether the overhead is correct, the frame), and
what its decoder has counted in the present window. -/
structure TrlLane where
  signal : Bool := false
  locked : Bool := false
  inFrame : Bool := false
  misses : Nat := 0
  logical : Option Nat := none
  next : Option Nat := none
  jump : Bool := false
  held : List (Nat × Bool × List Byte) := []
  corr : Nat := 0
  bad : Nat := 0
  deriving DecidableEq, Repr, Inhabited

/-- A port-64 frame that is being received (R45, R402): the slice that its head entered, the time of its head, and what has come. -/
structure TrlRx where
  slice : Nat
  at' : NetTime
  bytes : List Byte := []
  deriving DecidableEq, Repr, Inhabited

/-- A container that is being received (R400): its type, whether it is the last of its frame or message, and the content bytes still to
come. -/
structure TrlCont where
  type : Nat
  last : Bool
  left : Nat
  deriving DecidableEq, Repr, Inhabited

/-- A management data channel (R412–R415): its FIFOs, a break on RXD, a break received from the partner, and whether TXD
is driven low for it. -/
structure Mdc where
  inb : List Byte := []
  outb : List Byte := []
  brkIn : Bool := false
  brkRx : Bool := false
  txLow : Bool := false
  deriving DecidableEq, Repr, Inhabited

/-- The Trellis link (chapter 11). Defects are kept by number: 0–7 LOS of a lane, 8–15 LOA of a lane, 16 LOF, 17 LOM,
18 DEG, 19 RDI. `seg` is what is left of the container being sent, and `segData` says that it is a port-64 segment; `data` and `graft` are what is
left of the port-64 frame and of the Graft message being sent, `sent` the bytes of a cut-through frame sent before its end, and `debt`
Graft's container bytes of the last 10 µs, in tenths. `skewOk` says that the lanes lie within the deskew window (R404), `expect` is the
next frame count of the reassembled stream, `posExp`, `goodRun`, `missRun` and `crcRun` what superframe
alignment goes by (R405). `stream` holds received bytes that do not yet make a container header, and `cont` is the container being received. The window
in which DEG is judged ends 1 ms after `degAt`. -/
structure TrlState where
  count : Nat := 0
  seg : List Byte := []
  segData : Bool := false
  data : List Byte := []
  dataFirst : Bool := true
  sent : Nat := 0
  graft : List Byte := []
  graftFirst : Bool := true
  debt : Nat := 0
  lanes : Table TrlLane := []
  defects : Table Defect := []
  skewOk : Bool := true
  expect : Option Nat := none
  aligned : Bool := false
  posExp : Option Nat := none
  goodRun : Nat := 0
  missRun : Nat := 0
  crcRun : Nat := 0
  delin : Bool := false
  stream : List Byte := []
  cont : Option TrlCont := none
  rxData : Option TrlRx := none
  rxGraft : Option (List Byte) := none
  mdc : Table Mdc := []
  degAt : Nat := 0
  deriving DecidableEq, Repr, Inhabited

/-! ## Graft (chapter 12) -/

/-- A zone's Graft state (R457): role 1 owner; state 0 ALONE, 1 SYNC, 2 DIVERGED, 3 RESYNC. `step` is how far its resync
has come (R445): 0 none, 1 RESYNC_BEGIN sent, 2 purged, 3 in the walk, 4 RESYNC_END sent or received, with the number that
ends it in `endSeq`; `handover` is the sequence number whose acknowledgement a handover waits for. -/
structure GZone where
  paired : Bool := false
  home : Nat := 0
  group : Nat := 0
  owner : Bool := false
  state : Nat := 0
  step : Nat := 0
  endSeq : Nat := 0
  handover : Option Nat := none
  deriving DecidableEq, Repr, Inhabited

/-- What a Graft entry carries (R434). -/
inductive GBody where
  | upsert (r : Record)
  | delete (k : FlowKey)
  | mapping (m : Mapping)
  deriving DecidableEq, Repr, Inhabited

/-- An entry of the Graft log (R431). `again` marks an entry that is to be resent (R437); `at'` is its first write. -/
structure LogEntry where
  seq : Nat
  zone : Nat
  walk : Bool
  body : GBody
  sent : Bool := false
  again : Bool := false
  at' : Nat := 0
  deriving DecidableEq, Repr, Inhabited

/-- A witness group (R447, R448): present until a time, the last counter accepted, the counter of the frames sent, and
when the last one was sent. -/
structure Witness where
  till : Option Nat := none
  rx : Nat := 0
  tx : Nat := 0
  txAt : Option Nat := none
  deriving DecidableEq, Repr, Inhabited

/-- An announcement due after a takeover or a handover (R450): the entry, how many are left and when the next is due. -/
structure Announce where
  entry : Nat
  left : Nat
  due : Nat
  deriving DecidableEq, Repr, Inhabited

/-- Graft (chapter 12), beside its registers. `rxSeq` is the last sequence number accepted; `waiting` are the entries accepted and
`serving` the repair requests that wait for a place in a bank's queue (R153). `msgs` holds the messages other than DELTAS that wait to be sent. `step` is
the step of the key exchange: 0 none, 1 HELLO sent, 2 REPLY sent, 3 claims; `eph` numbers this device's ephemeral key, `ids` are the user identifiers that the caddy sets (R424) and
`claims` holds the bitmaps received. `walkPos` is where a resync walk stands, `walkLast` its last entry, and `walkDebt` its bytes of the last 10 µs, in tenths. `bad` holds
when the last malformed messages arrived. -/
structure GrfState where
  zones : Table GZone := []
  peerKey : List Byte := []
  ids : Option (List Byte × List Byte) := none
  log : List LogEntry := []
  nextSeq : Nat := 1
  acked : Nat := 0
  ackAt : Nat := 0
  rxSeq : Nat := 0
  hbAt : Option Nat := none
  hbRx : Option Nat := none
  hbTx : Nat := 0
  step : Nat := 0
  stepAt : Nat := 0
  eph : Nat := 0
  session : Option (List Byte) := none
  retryAt : Option Nat := none
  claims : Table (List Byte) := []
  msgs : List (List Byte) := []
  reqs : Table Nat := []
  nextReq : Nat := 0
  waiting : List (Nat × GBody) := []
  serving : List (Nat × FlowKey) := []
  bad : List Nat := []
  wits : Table Witness := []
  anns : List Announce := []
  annList : List AnnEntry := []
  annCount : Nat := 3
  annMs : Nat := 100
  walkPos : Option Nat := none
  walkLast : Nat := 0
  walkDebt : Nat := 0
  flushing : Bool := false
  suspAt : Nat := 0
  deriving DecidableEq, Repr, Inhabited

/-! ## Flash and start (chapter 14) -/

/-- Who asked for a flash operation: a write of NVM_FL_CMD, the device itself (the journal, the event log, an
invalidated image), or a Grix request of a session. -/
inductive FlashUser where
  | command | device
  | invalidate
  | grix (session : Nat)
  deriving DecidableEq, Repr, Inhabited

/-- A page program, or a sector erase, that waits or is in progress (R488). -/
structure FlashOp where
  erase : Bool := false
  addr : Nat := 0
  data : List Byte := []
  user : FlashUser := .device
  tried : Bool := false
  deriving DecidableEq, Repr, Inhabited

/-- An entry of the start journal (R498). `unit` and `detail` are bytes 16–19 and 20–23. -/
structure JEntry where
  kind : Nat
  stage : Nat := 0xFF
  method : Nat := 0
  fails : Nat := 0
  start : Nat := 0
  flowMs : Nat := 0
  event : Nat := 0
  copies : Nat := 0
  unit : Nat := 0
  detail : Nat := 0
  num : Nat := 0
  deriving DecidableEq, Repr, Inhabited

/-- A step of the loading of a caddy (R495, R506–R508): a section of a copy to be read again, checked and taken apart; a
register written; a wait until (register & mask) = value, with its limit in AON_CLK cycles and the time it began; the rule
sets of both banks made alike; the shadow banks of the rules cleared; a slice's restart, and its end; a step that fails. -/
inductive LoadStep where
  | body (copy ty : Nat)
  | write (addr value : Nat)
  | wait (addr mask value limit : Nat) (since : Option Nat)
  | bothBanks
  | clearShadow
  | half (n : Nat)
  | version (n : Nat)
  | restart (slice : Nat)
  | restarted (slice : Nat)
  | failed
  deriving DecidableEq, Repr, Inhabited

/-- A live apply in progress (R506, R509): its copy, the sections changed so far (0x100 + s for slice s restarted), and
whether it is rolling back. -/
structure ApplyRun where
  copy : Nat
  changed : List Nat := []
  rolling : Bool := false
  deriving DecidableEq, Repr, Inhabited

/-- The flash, the start and the caddies (chapter 14), beside their registers. An unlisted flash byte is erased. `opAt`
is when the first of `ops` began. `journal` holds the entries by position; `jpos` and `jnum` are the next ones; `held` are
the retention registers. `stage` is the stage due or running, `units` its slices or lane groups from the current one on,
`running` the method in use, `since` when it began, and `lost` how many units were left out. `boot` and `caddy` are the copies in use, with their
sequence numbers, and `runSeq` that of the running caddy. `steps` is what is left of a load. `done` holds from the completion of stage 10. -/
structure NvmState where
  flash : Table Byte := []
  ops : List FlashOp := []
  opAt : Option Nat := none
  journal : Table JEntry := []
  jpos : Nat := 0
  jnum : Nat := 0
  opened : Bool := false
  held : List JEntry := []
  startNo : Nat := 0
  stage : Nat := 0
  units : List Nat := [0]
  running : Option Nat := none
  since : Nat := 0
  lost : Nat := 0
  done : Bool := false
  haltAt : Option Nat := none
  boot : Option Nat := none
  caddy : Option Nat := none
  bootSeq : Nat := 0
  caddySeq : Nat := 0
  runSeq : Nat := 0
  verified : List Nat := []
  steps : List LoadStep := []
  apply : Option ApplyRun := none
  restarts : List Nat := []
  half : Option Nat := none
  pages : List Nat := []
  logPos : Nat := 0
  logSeq : Nat := 1
  holds : List Hold := []
  deriving DecidableEq, Repr, Inhabited

/-! ## Security and management (chapter 17) -/

/-- An owner slot in OTP (R596). -/
structure OwnerSlot where
  hash : List Byte := []
  programmed : Bool := false
  revoked : Bool := false
  deriving DecidableEq, Repr, Inhabited

/-- The SEC block beside its registers: the owner slots, the measurements, the outstanding challenge with the time it was
issued, the failed responses in a row, until when challenges are refused, PROV_N low at the last cold reset, and the body of the security section in force. -/
structure SecState where
  slots : Table OwnerSlot := []
  meas : Table (List Byte) := []
  challenge : Option (List Byte × Nat) := none
  failures : Nat := 0
  blockTill : Option Nat := none
  provLow : Bool := false
  secBody : List Byte := []
  deriving DecidableEq, Repr, Inhabited

/-- A Grix session (R587–R590): `peer` is where its last verified datagram came from, `lastAt` is the last verified request (of a half-open session its INIT), `busy` the
operation and sequence number of a request in service, `response` the stored response, `notes` the notifications sent, and
`sentIn` those of the second that began at `sentAt`. -/
structure Session where
  peer : Peer := {}
  keyHash : List Byte := []
  role : Nat := 0
  kC : List Byte := []
  kD : List Byte := []
  confirm : List Byte := []
  opened : Bool := false
  lastAt : Nat := 0
  high : Nat := 0
  response : List Byte := []
  busy : Option (Nat × Nat) := none
  sub : Bool := false
  notes : Nat := 0
  sentAt : Nat := 0
  sentIn : Nat := 0
  deriving DecidableEq, Repr, Inhabited

/-- The management port beside its registers: the sessions by identifier, and the INITs of the last second. -/
structure MgtState where
  sessions : Table (Option Session) := []
  inits : List Nat := []
  deriving DecidableEq, Repr, Inhabited

end Sys2Proof.Machine
end

