-- ==== Sys2Proof/Machine/State.lean ====
section
/-! DEFINITION. The state of the device: everything the spec gives it, as plain data, and the state right after a cold
reset. -/

namespace Sys2Proof.Machine

/-- Why the device stops. No command of the spec stops it (R17: the device never hangs). -/
inductive Fault where
  /-- Raised by nothing: kept so that a fault has a name. Safe. -/
  | none
  deriving DecidableEq, Repr

/-- Why a command has no meaning. -/
inductive Refusal where
  /-- Answered by an arm of `exec` whose command is not modelled yet. Safe. -/
  | notModelled (mnemonic : String)
  deriving DecidableEq, Repr

/-- The state. `regs` holds each register's difference (exclusive OR) from its reset value, so that a register at its
reset value has no entry. `aon` counts AON_CLK cycles since the cold reset (R368, R461). `fresh` is the model's own: the
number of the next free value. `evtMark` is the model's own: how many records the event buffer held when the command began
(R632). `rejects` holds the blocks, by their number in the address map, whose error status shows a rejected write (R18,
R627). `arrivals` counts the entries of packets into a pass (R39). `epochRefs` counts the packets bound to the current (2t) and the old (2t + 1) epoch of
table t, and `epochBank` names the active bank of table t: 0 rules, 1 L2, 2 IPv4, 3 IPv6 (R121, R262). -/
structure State where
  pending : List Instr := []
  regs : Table Word := []
  aon : Nat := 0
  net : NetTime := {}
  fresh : Nat := 0
  out : List Out := []
  events : List EventRec := []
  evtMark : Nat := 0
  rejects : List Nat := []
  limiters : Table Limiter := []
  packets : Table Packet := []
  nextPid : Nat := 0
  arrivals : Nat := 0
  epochRefs : Table Nat := []
  epochBank : Table Nat := []
  slices : Table Slice := []
  ports : Table Port := []
  i2c : Table I2c := []
  buf : BufState := {}
  sch : SchState := {}
  gates : Table Gate := []
  rul : RuleState := {}
  fle : FlowState := {}
  trw : TrwState := {}
  tim : TimState := {}
  ktl : KtlState := {}
  pmu : PmuState := {}
  hrv : HarvestState := {}
  glh : GlhState := {}
  xlb : XlbState := {}
  fwd : FwdState := {}
  trl : TrlState := {}
  grf : GrfState := {}
  nvm : NvmState := {}
  sec : SecState := {}
  mgt : MgtState := {}
  deriving DecidableEq, Repr, Inhabited

/-- The device right after a cold reset (R614): every field at its reset value, nothing in any queue. (DESIGN CHOICE, log 8,
DESIGN CHOICE, log 9) -/
def State.reset : State := {}

end Sys2Proof.Machine
end

