-- ==== Sys2Proof/Machine/Ops.lean ====
section
/-! DEFINITION. The named operations every block uses: registers and their fields, packets and slices by number, the
event unit with its limiters, the counters that measure, the clocks, and the start of a slice's wake. -/

namespace Sys2Proof.Machine

/-! ## Registers (R10–R13) -/

/-- The value of a register. (DESIGN CHOICE, log 8) -/
def State.rd (s : State) (r : Reg) : Word := s.regs.get r.addr 0 ^^^ r.reset

/-- Sets a register. -/
def State.wr (s : State) (r : Reg) (v : Word) : State :=
  { s with regs := s.regs.put r.addr 0 (v ^^^ r.reset) }

/-- The value of a field, as a number. -/
def State.fg (s : State) (f : Fld) : Nat := bitsOf (s.rd f.reg).toNat f.hi f.lo

/-- Sets a field. -/
def State.fs (s : State) (f : Fld) (n : Nat) : State :=
  s.wr f.reg (BitVec.ofNat 32 (withBits (s.rd f.reg).toNat f.hi f.lo n))

/-- Whether a field is not zero. -/
def State.fb (s : State) (f : Fld) : Bool := decide (s.fg f ≠ 0)

/-- Sets the bits of a field under a mask. -/
def State.for (s : State) (f : Fld) (m : Nat) : State := s.fs f (s.fg f ||| m)

/-- Bit `i` of a field. -/
def State.fbit (s : State) (f : Fld) (i : Nat) : Bool := bitAt (s.fg f) i

/-- Sets or clears bit `i` of a field. -/
def State.fsbit (s : State) (f : Fld) (i : Nat) (b : Bool) : State := s.fs f (setBit (s.fg f) i b)

/-- Adds to a 32-bit counter register, which saturates at 0xFFFF_FFFF. -/
def State.inc (s : State) (r : Reg) (n : Nat := 1) : State :=
  s.wr r (BitVec.ofNat 32 (min 0xFFFFFFFF ((s.rd r).toNat + n)))

/-! ## Packets, slices and ports by number -/

/-- The packet with a number; an absent one is empty. -/
def State.pkt (s : State) (pid : Nat) : Packet := s.packets.get pid {}

/-- Whether a packet is in the device. -/
def State.hasPkt (s : State) (pid : Nat) : Bool := s.packets.any fun e => e.1 == pid

/-- Sets a packet. -/
def State.setPkt (s : State) (pid : Nat) (p : Packet) : State :=
  { s with packets := s.packets.put pid {} p }

/-- Changes a packet. -/
def State.modPkt (s : State) (pid : Nat) (f : Packet → Packet) : State := s.setPkt pid (f (s.pkt pid))

/-- Forgets a packet. -/
def State.delPkt (s : State) (pid : Nat) : State := { s with packets := s.packets.erase pid }

/-- Adds a packet, the last one to arrive, and answers its number. -/
def State.addPkt (s : State) (p : Packet) : Nat × State :=
  (s.nextPid, { s with
    packets := s.packets.put s.nextPid {} { p with arrival := s.arrivals }, nextPid := s.nextPid + 1, arrivals := s.arrivals + 1 })

/-- A slice. -/
def State.slice (s : State) (n : Nat) : Slice := s.slices.get n {}

/-- Changes a slice. -/
def State.modSlice (s : State) (n : Nat) (f : Slice → Slice) : State :=
  { s with slices := s.slices.put n {} (f (s.slice n)) }

/-- A port's state. -/
def State.port (s : State) (p : Nat) : Port := s.ports.get p {}

/-- Changes a port's state. -/
def State.modPort (s : State) (p : Nat) (f : Port → Port) : State :=
  { s with ports := s.ports.put p {} (f (s.port p)) }

/-- Adds to what the command puts out. (DESIGN CHOICE, log 93) -/
def State.emit (s : State) (o : Out) : State := { s with out := s.out ++ [o] }

/-- A free value: nothing constrains it. (DEDUCED, log 13) -/
def State.free (s : State) : BitVec 64 × State := (Config.freeValue s.fresh, { s with fresh := s.fresh + 1 })

/-! ## Clocks -/

/-- AON_CLK cycles in a microsecond, a millisecond and a second (25 MHz, R461). -/
def usCycles : Nat := 25
@[inherit_doc usCycles] def msCycles : Nat := 25000
@[inherit_doc usCycles] def secCycles : Nat := 25000000

/-- The core clocks since cold reset: 50 in each AON_CLK cycle (R373). -/
def State.coreNow (s : State) : Nat := s.aon * 50

/-- A network time in nanoseconds. -/
def NetTime.toNs (t : NetTime) : Nat := t.sec * 1000000000 + t.ns

/-- The flow clock, in milliseconds (R145). -/
def State.flowMs (s : State) : Nat := s.fle.clockMs

/-- The coarse tick: flow clock bits 25:10 (R145). (DESIGN CHOICE, log 4) -/
def State.tick (s : State) : Nat := bitsOf s.flowMs 25 10

/-! ## The counters that measure (R558–R567) -/

/-- The values an event carries to the filtered counters (R563). -/
structure PmuEvent where
  kind : Nat
  priv : Option Nat := none
  masters : Nat := 0
  addr : Option Nat := none
  cls : Option Nat := none
  code : Option Nat := none

/-- Whether an event passes the enabled filters of counter m (R562). -/
def State.fcPasses (s : State) (m : Nat) (e : PmuEvent) : Bool :=
  let priv := s.fg (Fld.PMU_FC_CFG_PRIV m)
  let master := s.fg (Fld.PMU_FC_MASTER_MASTER m)
  let lo := s.fg (Fld.PMU_FC_ALO_HI_ALO_HI m) * 2 ^ 32 + (s.rd (Reg.PMU_FC_ALO_LO m)).toNat
  let hi := s.fg (Fld.PMU_FC_AHI_HI_AHI_HI m) * 2 ^ 32 + (s.rd (Reg.PMU_FC_AHI_LO m)).toNat
  let cls := s.fg (Fld.PMU_FC_CFG_CLASS m)
  s.fb (Fld.PMU_FC_CFG_EN m) && s.fg (Fld.PMU_FC_CFG_KIND m) == e.kind
    && (priv == 0 || (match e.priv with | some b => bitAt priv b | none => false))
    && (master == 0 || (master &&& e.masters) != 0)
    && (!s.fb (Fld.PMU_FC_CFG_ADDR_EN m) || (match e.addr with | some a => decide (lo ≤ a ∧ a ≤ hi) | none => false))
    && (!s.fb (Fld.PMU_FC_CFG_CLASS_EN m)
        || (match e.code with
            | some c => cls == 0 || cls == c / 256
            | none => match e.cls with | some c => bitAt cls c | none => false))

/-- Bytes of an item of an event's detail (R634). (DEDUCED, log 6) -/
def d1 (n : Nat) : List Byte := beBytes 1 n
@[inherit_doc d1] def d2 (n : Nat) : List Byte := beBytes 2 n
@[inherit_doc d1] def d4 (n : Nat) : List Byte := beBytes 4 (min n 0xFFFFFFFF)
@[inherit_doc d1] def d5 (n : Nat) : List Byte := beBytes 5 n

/-- Puts an event with its continuations into the event buffer, or drops it when there is no room (R631–R633). The events of
one command are raised in one clock: they enter in ascending code order (R632). (DESIGN CHOICE, log 5) -/
def State.putEvent (s : State) (code : Nat) (detail : List Byte) (conts : List (List Byte) := [])
    (prior : Bool := false) : State :=
  let n := 1 + conts.length
  let lost := s.fg Fld.DBG_EVT_STAT_LOST
  if s.events.length + n ≤ 1024 then
    let head : EventRec :=
      { code := code, follow := conts.length, prior := prior, loss := decide (lost ≠ 0), flowMs := s.flowMs,
        sec := s.net.sec % 2 ^ 48, ns := s.net.ns, lost := lost, detail := detail }
    let tail := (List.range conts.length).zip conts |>.map fun e =>
      { head with cont := e.1 + 1, follow := 0, lost := 0, detail := e.2 }
    let now := s.events.drop s.evtMark
    let low := now.takeWhile fun (x : EventRec) => decide (x.code ≤ code)
    { s with events := s.events.take s.evtMark ++ low ++ head :: tail ++ now.drop low.length }.fs Fld.DBG_EVT_STAT_LOST 0
  else (s.fs Fld.DBG_EVT_STAT_LOST (min 0xFFFF (lost + n))).inc Reg.DBG_EVT_DROP n

/-- A limiter, by event code and unit number. -/
def State.limiter (s : State) (code unit : Nat) : Limiter := s.limiters.get (code * 0x100000 + unit) {}

/-- Sets a limiter. -/
def State.setLimiter (s : State) (code unit : Nat) (l : Limiter) : State :=
  { s with limiters := s.limiters.put (code * 0x100000 + unit) {} l }

/-- Counts `n` occurrences of an event that is logged at most once per second, and logs it when a second has passed
since the last one. `mk` gives the detail from the first occurrence's own item and the count. -/
def State.limited (s : State) (code unit n first : Nat) (mk : Nat → Nat → List Byte) : State :=
  let l := s.limiter code unit
  let f := if l.count = 0 then first else l.first
  let c := l.count + n
  let due := match l.last with | none => true | some t => decide (t + secCycles ≤ s.aon)
  if due then (s.setLimiter code unit { last := some s.aon }).putEvent code (mk f c)
  else s.setLimiter code unit { l with count := c, first := f }

/-- Adds to filtered counter m, which wraps at 40 bits, or at 80 with its pair in the small configuration (R561). -/
def State.fcAdd (s : State) (m n : Nat) : State :=
  let full := s.fb Fld.PMU_FC_CTL_FULL
  let lo := s.pmu.fc.get m 0
  let hi := s.pmu.fc.get (m + 1) 0
  let v := (if full then lo else hi * 2 ^ 40 + lo) + n
  let top := if full then 2 ^ 40 else 2 ^ 80
  let w := v % top
  let fc := if full then s.pmu.fc.put m 0 w else (s.pmu.fc.put m 0 (w % 2 ^ 40)).put (m + 1) 0 (w / 2 ^ 40)
  let s := { s with pmu := { s.pmu with fc := fc } }
  if v < top then s
  else
    let r := Reg.PMU_FC_WRAP (m / 32)
    (s.wr r (s.rd r ||| BitVec.ofNat 32 (2 ^ (m % 32)))).limited 0x1201 (0x1000 + m) 1 m fun f _ => d1 1 ++ d2 f

/-- Counts an event in every filtered counter it passes (R562, R564). -/
def State.fcCount (s : State) (e : PmuEvent) (n : Nat := 1) : State :=
  if s.fb Fld.PMU_FC_CTL_RUN then
    (List.range 64).foldl (fun s m =>
      if (s.fb Fld.PMU_FC_CTL_FULL || m % 2 == 0) && s.fcPasses m e then s.fcAdd m n else s) s
  else s

/-- Adds to event counter n, which wraps at 48 bits (R558). (DESIGN CHOICE, log 46) -/
def State.evc (s : State) (n : Nat) (k : Nat := 1) : State :=
  let v := s.pmu.evc.get n 0 + k
  let s := { s with pmu := { s.pmu with evc := s.pmu.evc.put n 0 (v % 2 ^ 48) } }
  if v < 2 ^ 48 then s
  else
    let r := Reg.PMU_EVC_WRAP (n / 32)
    (s.wr r (s.rd r ||| BitVec.ofNat 32 (2 ^ (n % 32)))).limited 0x1201 n 1 n fun f _ => d1 0 ++ d2 f

/-- The listed master that raises an event, as a mask (R562, R563). (DESIGN CHOICE, log 91) -/
def eventMaster (code : Nat) : Nat :=
  if code / 256 = 0x10 then 2 ^ 16
  else if code = 0x0B03 ∨ code = 0x0B06 then 2 ^ 17
  else if code / 256 = 0x14 then 2 ^ 18
  else 0

/-- Logs an event (R632) and counts it (R563, kind 9). (DESIGN CHOICE, log 5) -/
def State.log (s : State) (code : Nat) (detail : List Byte := []) (conts : List (List Byte) := []) : State :=
  (s.putEvent code detail conts).fcCount { kind := 9, masters := eventMaster code, code := some code }

/-- As `limited`, counting the event for the filtered counters when it is logged. -/
def State.logLimited (s : State) (code unit n first : Nat) (mk : Nat → Nat → List Byte) : State :=
  let l := s.limiter code unit
  let due := match l.last with | none => true | some t => decide (t + secCycles ≤ s.aon)
  let s := s.limited code unit n first mk
  if due then s.fcCount { kind := 9, masters := eventMaster code, code := some code } else s

/-- Logs an event at most `k` times in a second (R307). -/
def State.logUpTo (s : State) (k code : Nat) (detail : List Byte) : State :=
  let l := s.limiter code 0
  let fresh := match l.last with | none => true | some t => decide (t + secCycles ≤ s.aon)
  if fresh then (s.setLimiter code 0 { last := some s.aon, inSecond := 1 }).log code detail
  else if l.inSecond < k then (s.setLimiter code 0 { l with inSecond := l.inSecond + 1 }).log code detail
  else s

/-- Adds to the port statistic at an offset of R565. -/
def State.stat (s : State) (port off n : Nat) : State :=
  let k := port * 64 + (off - 0x200) / 8
  { s with pmu := { s.pmu with stats := s.pmu.stats.put k 0 ((s.pmu.stats.get k 0 + n) % 2 ^ 64) } }

/-- The size bin of a frame length (R565). -/
def sizeBin (len : Nat) : Nat :=
  if len ≤ 64 then 0 else if len ≤ 127 then 1 else if len ≤ 255 then 2 else if len ≤ 511 then 3
  else if len ≤ 1023 then 4 else if len ≤ 1518 then 5 else if len ≤ 2047 then 6 else if len ≤ 4095 then 7
  else if len ≤ 9216 then 8 else 9

/-- Counts a frame in a port's statistics: received from `base` 0x200, sent from 0x270 (R565, R566). -/
def State.statFrame (s : State) (port base : Nat) (frame : List Byte) (len : Nat) : State :=
  let dst := beNat (frame.take 6)
  let s := ((s.stat port base 1).stat port (base + 8) len).stat port (base + 0x20 + 8 * sizeBin len) 1
  if dst = 2 ^ 48 - 1 then s.stat port (base + 0x18) 1
  else if bitAt dst 40 then s.stat port (base + 0x10) 1
  else s

/-! ## Measurements (R595) -/

/-- An SM3 hash as 32 bytes. -/
def sm3Of (bs : List Byte) : List Byte := sliceBytes (Config.sm3 bs) 0 32

/-- A measurement register. -/
def State.meas (s : State) (m : Nat) : List Byte := sliceBytes (s.sec.meas.get m []) 0 32

/-- Extends a measurement register: m = SM3(m ‖ v). -/
def State.measure (s : State) (m : Nat) (v : List Byte) : State :=
  { s with sec := { s.sec with meas := s.sec.meas.put m [] (sm3Of (s.meas m ++ v)) } }

/-! ## Ports and slices -/

/-- The mode in force of a slice (R50, R88). -/
def State.sliceMode (s : State) (n : Nat) : Nat := bitsOf (s.fg Fld.PRT_SLICE_MODE_ACTIVE) (4 * n + 3) (4 * n)

/-- Lanes per port of a mode; 0 when the mode has no ports (R50). -/
def modeLanes (m : Nat) : Nat := if m ≤ 2 then 1 else if m ≤ 4 then 2 else if m = 5 then 8 else 0

/-- The port speed of a mode, in Mb/s (R50). -/
def modeSpeed (m : Nat) : Nat := [10000, 25000, 50000, 100000, 100000, 400000].getD m 0

/-- Whether a port number is assigned (R51); the internal ports always are (R87). -/
def State.assigned (s : State) (p : Nat) : Bool :=
  if 64 ≤ p then decide (p ≤ 66)
  else
    let l := modeLanes (s.sliceMode (p / 16))
    (s.slice (p / 16)).inService && l != 0 && p % 16 % l == 0

/-- The nominal rate of a port, in Mb/s (R332). -/
def State.rate (s : State) (p : Nat) : Nat :=
  if p < 64 then modeSpeed (s.sliceMode (p / 16)) else [395340, 400000, 100000].getD (p - 64) 0

/-- The lowest-numbered slice in service, if any. -/
def State.lowestSlice (s : State) : Option Nat := (List.range 4).find? fun n => (s.slice n).inService

/-- The slice that takes port-64 data and serves the egress of ports 64–66 (R45, R467). -/
def State.trellisSlice (s : State) : Nat :=
  let n := s.fg Fld.PRT_INTERNAL_CTL_TRELLIS_SLICE
  if (s.slice n).inService then n else s.lowestSlice.getD n

/-- The slice that serves a port's egress (R467). -/
def State.egressSlice (s : State) (p : Nat) : Nat := if p < 64 then p / 16 else s.trellisSlice

/-- The power state of a slice: 0 Run, 1 Doze, 2 Rest, 3 Dormant or off (R481). -/
def State.power (s : State) (n : Nat) : Nat := bitsOf (s.fg Fld.KTL_PWR_STAT_STATE) (2 * n + 1) (2 * n)

/-- Sets the power state of a slice. -/
def State.setPower (s : State) (n v : Nat) : State :=
  s.fs Fld.KTL_PWR_STAT_STATE (withBits (s.fg Fld.KTL_PWR_STAT_STATE) (2 * n + 1) (2 * n) v)

/-- Whether a slice is waking. -/
def State.waking (s : State) (n : Nat) : Bool := s.fbit Fld.KTL_PWR_STAT_WAKING n

/-- Restarts a slice's idle time (R465). -/
def State.touch (s : State) (n : Nat) : State := s.modSlice n fun x => { x with idleSince := s.aon }

/-- A wake trigger of a slice (R466). Under a supply warning no wake from Rest or Dormant starts (R475): the slice then
waits for the warning to clear. -/
def State.wake (s : State) (n : Nat) : State :=
  let s := s.touch n
  if !(s.slice n).inService || s.power n == 0 || s.waking n then s
  else if s.fb Fld.KTL_PWR_STAT_WARN && decide (2 ≤ s.power n) then s.modSlice n fun x => { x with wantsWake := true }
  else s.fsbit Fld.KTL_PWR_STAT_WAKING n true

/-- A package-memory request: it ends self-refresh (R473), counts as a transaction of its share (R559: 0 flow engine, 1
spill, 2 tables, 3 Glasshouse) and as an event of kind 0 or 1 with what `e` carries (R563). -/
def State.pmTouch (s : State) (share : Nat) (write : Bool) (n : Nat := 1) (e : PmuEvent := { kind := 0 }) : State :=
  if n = 0 then s
  else
    let s := { s with ktl := { s.ktl with srIdleSince := s.aon } }
    let s := (s.evc ((if write then 36 else 32) + share) n).fcCount { e with kind := ofBool write } n
    if s.fb Fld.KTL_PWR_STAT_SR then (s.fs Fld.KTL_PWR_STAT_SR 0).evc 191 else s

/-- Whether an event that is logged at most once per second is due now. -/
def State.limitDue (s : State) (code unit : Nat) : Bool :=
  match (s.limiter code unit).last with | none => true | some t => decide (t + secCycles ≤ s.aon)

/-! ## Requests that are turned down -/

/-- Sets the DONE bit of a status register after a command, with no rejection. (DEDUCED, log 7) -/
def State.done (s : State) (f : Fld) : State := s.fs f 1

/-- Shows a rejection: its bit, and its reason where the status register has one (R18). (DEDUCED, log 7) -/
def State.reject (s : State) (bit reason : Fld) (n : Nat) : State := ((s.fs bit 1).fs reason n).emit (.rejected n)

/-- Shows a rejection whose status register gives no reason (R18). -/
def State.rejectBit (s : State) (bit : Fld) : State := (s.fs bit 1).emit (.rejected 0)

/-- A write of a register that is rejected and has no rejection bit of its own: the register keeps its value, and the error
status of its block, by the block's number in the address map (R627), shows the rejection (R18). (DESIGN CHOICE, log 99) -/
def State.denied (s : State) (r : RegSpec) : State :=
  { s with rejects := s.rejects.filter (· ≠ r.base / 2 ^ 20) ++ [r.base / 2 ^ 20] }.emit (.rejected 0)

/-! ## Contexts that ask for a creation (R156, R214) -/

/-- Whether a context waits for the status of a creation. -/
def Ctx.awaits (c : Ctx) : Bool := match c.wait with | some (w, _) => decide (w < 2) | none => false

/-- Whether a context has asked for a creation and not committed it. -/
def Ctx.creating (c : Ctx) : Bool :=
  c.awaits || match c.micro with | some m => m.requests.any fun q => Config.unitOp q.unit q.code == 0 | none => false

end Sys2Proof.Machine
end

