-- ==== Sys2Proof/Machine/Access.lean ====
section
/-! DEFINITION. What a write or a read does to a register by the access codes of its fields (R10–R13, R18), and who may
reach the control space (R599, R628). -/

namespace Sys2Proof.Machine

/-- A field's bits of a value. -/
def FieldSpec.of (f : FieldSpec) (v : Nat) : Nat := bitsOf v f.hi f.lo

/-- Whether a written value is inside the range of every field that a write sets (R18). -/
def RegSpec.inRange (r : RegSpec) (v : Nat) : Bool :=
  r.fields.all fun f =>
    match f.acc with
    | .rw | .rws => decide (f.min ≤ f.of v ∧ f.of v ≤ f.max)
    | _ => true

/-- The value of a register after a write, by its fields' access codes (R11, R12). -/
def RegSpec.merge (r : RegSpec) (old v : Nat) : Nat :=
  r.fields.foldl (fun n f =>
    match f.acc with
    | .rw | .rws => withBits n f.hi f.lo (f.of v)
    | .w1c => withBits n f.hi f.lo (f.of old ^^^ (f.of old &&& f.of v))
    | _ => n) old

/-- The bits of a register's write-only fields, whose read the spec leaves undefined (R12). -/
def RegSpec.openBits (r : RegSpec) : Nat :=
  r.fields.foldl (fun m f => match f.acc with | .wo => withBits m f.hi f.lo (2 ^ (f.hi + 1 - f.lo) - 1) | _ => m) 0

/-- What a read shows of a stored value: a write-only field reads as a free value (R12). (DEDUCED, log 15) -/
def State.readOpen (s : State) (r : RegSpec) (v : Word) : Word × State :=
  if r.openBits = 0 then (v, s)
  else
    let m := BitVec.ofNat 32 r.openBits
    let (x, s) := s.free
    (v &&& ~~~m ||| x.setWidth 32 &&& m, s)

/-- The value of a register after a read: its RC fields clear (R12). -/
def RegSpec.afterRead (r : RegSpec) (old : Nat) : Nat :=
  r.fields.foldl (fun n f => match f.acc with | .rc => withBits n f.hi f.lo 0 | _ => n) old

/-- A write of a register with no rule of its own, whose value is in range. -/
def State.store (s : State) (r : RegSpec) (ix : List Nat) (v : Nat) : State :=
  s.wr (r.at ix) (BitVec.ofNat 32 (r.merge (s.rd (r.at ix)).toNat v))

/-- A write that is rejected when a field is out of range: the register keeps its value (R18). -/
def State.checkedStore (s : State) (r : RegSpec) (ix : List Nat) (v : Nat) : State :=
  if r.inRange v then s.store r ix v else s.denied r

/-- Whether a requester may reach the register windows (R599, R628). -/
def State.mayAccess (s : State) (q : Requester) : Bool :=
  match q with
  | .kernel | .loader => true
  | .user => false
  | .jtag => s.fbit Fld.SEC_STATUS_SCOPE 1

/-- A request that gets the error response of R10. (DEDUCED, log 92) -/
def State.errorResponse (s : State) : State := s.emit .errorResponse

/-- Runs a register access for a requester that may make it; another gets the error response. (DESIGN CHOICE, log 90,
DEDUCED, log 92) -/
def State.forReq (s : State) (q : Requester) (f : State → State) : State :=
  if s.mayAccess q then f s else s.errorResponse

/-- The state in which a command begins: nothing put out, and no event raised yet. (DESIGN CHOICE, log 93) -/
def State.begin (s : State) : State := { s with out := [], evtMark := s.events.length }

/-- The outcome of every meaning. -/
abbrev Res := Host.Outcome State Fault Refusal

end Sys2Proof.Machine
end

