-- ==== Sys2Proof/Machine/Lines.lean ====
section
/-! DEFINITION. The Glasshouse as other blocks see it: contexts by number, pending bits, hardware event lines, and the
dispatcher's places (R517, R528–R534). -/

namespace Sys2Proof.Machine

/-- A context as both resets leave it (R518): context 0 in RUN at the boot-ROM entry, the others OFF. -/
def coreDefault (n : Nat) : Core := if n = 0 then { state := 2 } else {}

/-- A context of the Glasshouse. -/
def State.core (s : State) (n : Nat) : Core := s.glh.cores.get n (coreDefault n)

/-- Changes a context. One in RUN, STALL or HALT ends the stall watchdog's count (R545). -/
def State.modCore (s : State) (n : Nat) (f : Core → Core) : State :=
  let c := f (s.core n)
  { s with glh := { s.glh with
      cores := s.glh.cores.put n (coreDefault n) c,
      stallSince := if c.state = 2 ∨ c.state = 4 ∨ c.state = 5 then none else s.glh.stallSince } }

/-- A general register; g0 reads as zero (R192). -/
def Core.reg (c : Core) (r : Nat) : DWord := if r = 0 then 0 else c.g.get r 0

/-- Writes a general register; writes to g0 are discarded. -/
def Core.setReg (c : Core) (r : Nat) (v : DWord) : Core := if r = 0 then c else { c with g := c.g.put r 0 v }

/-- Ends the wait of a context, whose instruction then returns a value and completes. -/
def Core.resume (c : Core) (v : DWord) : Core :=
  { (c.setReg c.rd v) with state := if c.stepping then 5 else 2, stepping := false, wait := .none, ia := (c.ia + 4) % 2 ^ 40 }

/-- Sets pending bits of a context, and ends its WAITE when its mask takes one of them (R528). -/
def State.pend (s : State) (n bits : Nat) : State :=
  let c := s.core n
  let p := c.evpend ||| bits
  match c.wait with
  | .events m =>
    if c.state = 3 ∧ p &&& m ≠ 0 then
      (s.modCore n fun c => ({ c with evpend := p ^^^ (p &&& m) }).resume (BitVec.ofNat 64 (p &&& m))).evc (128 + n)
    else s.modCore n fun c => { c with evpend := p }
  | _ => s.modCore n fun c => { c with evpend := p }

/-- The lowest task number that is free; the dispatcher holds 4,096 (R531). -/
def freeTaskNum (ts : List Task) : Nat := ((List.range 4096).find? fun n => ts.all fun t => t.num ≠ n).getD 0

/-- Whether every place of the dispatcher is held. -/
def State.dispatcherFull (s : State) : Bool := decide (4096 ≤ s.glh.tasks.length)

/-- Puts a task in the dispatcher, and answers its number. -/
def State.addTask (s : State) (t : Task) : Nat × State :=
  let n := freeTaskNum s.glh.tasks
  (n, { s with glh := { s.glh with tasks := s.glh.tasks ++ [{ t with num := n }], stallSince := none } })

/-- The task a mode-1 event of a line posts (R534). -/
def State.lineTask (s : State) (e : Nat) : Task :=
  { num := 0, entry := s.fg (Fld.GLH_EVT_ENTRY_HI_IA_HI e) * 2 ^ 32 + (s.rd (Reg.GLH_EVT_ENTRY_LO e)).toNat,
    level := s.fg (Fld.GLH_EVT_CFG_LEVEL e), user := s.fb (Fld.GLH_EVT_CFG_USER e),
    tagged := s.fb (Fld.GLH_EVT_CFG_TAGGED e), tag := (s.rd (Reg.GLH_EVT_TAG e)).toNat, arg := BitVec.ofNat 64 e }

/-- An event on a hardware event line (R529, R534). -/
def State.raiseLine (s : State) (e : Nat) : State :=
  match s.fg (Fld.GLH_EVT_CFG_MODE e) with
  | 1 =>
    if s.fb (Fld.GLH_EVT_CFG_PEND e) then s
    else if s.dispatcherFull then
      ({ s with glh := { s.glh with stallSince := none } }.fs (Fld.GLH_EVT_CFG_PEND e) 1).logLimited 0x1102 0 1 e fun _ _ => []
    else (s.addTask (s.lineTask e)).2
  | 2 => s.pend (s.fg (Fld.GLH_EVT_CFG_CTX e)) (2 ^ e)
  | _ => s

/-- Sets a bit of PRT_EVENT, which raises line 26 (R529). -/
def State.portEvent (s : State) (f : Fld) : State := (s.fs f 1).raiseLine 26

/-- Sets a bit of TRL_EVENT, which raises line 27. -/
def State.trellisEvent (s : State) (f : Fld) : State := (s.fs f 1).raiseLine 27

/-- Sets a DONE bit that raises line 31. -/
def State.doneLine (s : State) (f : Fld) : State := (s.fs f 1).raiseLine 31

/-- The transmit-timestamp queue of a slice takes an entry (R380, R381). -/
def State.tsqOffer (s : State) (slice : Nat) (e : TsEntry) : State :=
  let q := s.tim.tsq.get slice []
  if q.length < 64 then
    let s := { s with tim := { s.tim with tsq := s.tim.tsq.put slice [] (q ++ [e]) } }
    if e.notify then s.raiseLine (16 + slice) else s
  else
    ((s.fs (Fld.TIM_TSQ_STAT_OVF slice) 1).inc (Reg.TIM_TSQ_LOST slice)).logLimited 0x0E01 slice 1 0
      fun _ c => d4 c

/-- The timestamp entry of a packet that carries a request, with its fate (R378, R379). Fate 4 goes to the slice that ran
the program, the others to the egress port's slice. -/
def State.tsFate (s : State) (p : Packet) (port fate : Nat) (t : Option NetTime) : State :=
  match p.tsreq with
  | none => s
  | some (id, notify) =>
    let slice := if fate = 4 then p.runSlice else port / 16
    s.tsqOffer slice
      { id := id, port := if fate = 4 then 0xFF else port, fate := fate, notify := notify,
        seq := s.fg Fld.TIM_STEP_CTL_STEP_SEQ % 4, at? := t }

/-- The entry of a packet whose delimiter has passed before its frame has ended: offered at once, with fate 0 until the end of the
transmission tells another (R378). (DESIGN CHOICE, log 105) -/
def State.tsOpen (s : State) (pid port : Nat) (t : NetTime) : State :=
  match (s.pkt pid).tsreq with
  | none => s
  | some (id, notify) =>
    s.tsqOffer (port / 16)
      { id := id, port := port, fate := 0, notify := notify, seq := s.fg Fld.TIM_STEP_CTL_STEP_SEQ % 4, at? := some t, pid? := some pid }

/-- The transmission of a packet whose entry was offered at its delimiter has ended: the entry takes its fate, if it is still in its
queue (R378). (DESIGN CHOICE, log 105) -/
def State.tsSettle (s : State) (pid port fate : Nat) : State :=
  let k := port / 16
  let q := (s.tim.tsq.get k []).map fun e => if e.pid? = some pid then { e with fate := fate, pid? := none } else e
  { s with tim := { s.tim with tsq := s.tim.tsq.put k [] q } }

/-! ## Glasshouse memory, byte by byte (R9, R520) -/

/-- A byte of Glasshouse memory. Memory that nothing has written reads as zero: stage 1 zeroes it (R630). (DESIGN CHOICE, log
10) -/
def State.memByte (s : State) (a : Nat) : Byte := Table.get s.glh.mem a 0

/-- Writes a byte of Glasshouse memory. (DESIGN CHOICE, log 10) -/
def State.setMemByte (s : State) (a : Nat) (b : Byte) : State :=
  { s with glh := { s.glh with mem := Table.put s.glh.mem a 0 b } }

/-- The `n` bytes at an address. -/
def State.memBytes (s : State) (a n : Nat) : List Byte := (List.range n).map fun i => s.memByte (a + i)

/-- Writes bytes from an address up. -/
def State.setMemBytes (s : State) (a : Nat) : List Byte → State
  | [] => s
  | b :: r => (s.setMemByte a b).setMemBytes (a + 1) r

end Sys2Proof.Machine
end

