-- ==== Sys2Proof/Machine/Flags.lean ====
section
/-! DEFINITION. The computed checks of the spec: the CRCs of R112 and the FCS, and the Internet checksum with its
incremental repair. The device has no condition flags (R192); a compare's result is a register value. -/

namespace Sys2Proof.Machine

/-- Eight steps of a reflected CRC on one byte (R112). -/
def crcBits (poly : Nat) : Nat → Nat → Nat
  | 0, r => r
  | n + 1, r => crcBits poly n (if r % 2 = 1 then (r / 2) ^^^ poly else r / 2)

/-- The CRC of R112. -/
def crcRun (seed poly : Nat) (k : List Byte) : Nat :=
  (k.foldl (fun r b => crcBits poly 8 (r ^^^ b.toNat)) seed) ^^^ 0xFFFFFFFF

/-- CRC-32C, reflected (R111). (PRESUMED, log 98) -/
def crc32c (seed : Nat) (k : List Byte) : Nat := crcRun seed 0x82F63B78 k

/-- CRC-32 of IEEE 802.3, reflected (R111). (PRESUMED, log 98) -/
def crc32 (seed : Nat) (k : List Byte) : Nat := crcRun seed 0xEDB88320 k

/-- Eight steps of a CRC of `w` bits whose most significant bit goes first. -/
def crcMsbBits (w poly : Nat) : Nat → Nat → Nat
  | 0, r => r
  | n + 1, r => crcMsbBits w poly n (if bitAt r (w - 1) then (r * 2 % 2 ^ w) ^^^ poly else r * 2 % 2 ^ w)

/-- A CRC of `w` bits, most significant bit first, without a final inversion. -/
def crcMsb (w poly seed : Nat) (bs : List Byte) : Nat :=
  bs.foldl (fun r b => crcMsbBits w poly 8 (r ^^^ (b.toNat * 2 ^ (w - 8)))) seed

/-- The CRC-16 of the Trellis overhead (R398). -/
def crc16 (bs : List Byte) : Nat := crcMsb 16 0x1021 0xFFFF bs

/-- The CRC-8 of a container header (R400). -/
def crc8 (bs : List Byte) : Nat := crcMsb 8 0x07 0 bs

/-- The frame check sequence over a frame's bytes, in the order it is sent: least significant byte first. -/
def fcsOf (bs : List Byte) : List Byte := (beBytes 4 (crc32 0xFFFFFFFF bs)).reverse

/-- The bitwise inverse of the FCS, which a stomped frame carries (R78). -/
def badFcsOf (bs : List Byte) : List Byte := (fcsOf bs).map fun b => ~~~b

/-- Whether the last four bytes of a frame are its FCS. -/
def fcsGood (frame : List Byte) : Bool :=
  frame.drop (frame.length - 4) == fcsOf (frame.take (frame.length - 4))

/-- Folds a sum of 16-bit words to ones' complement. -/
def foldSum (n : Nat) : Nat :=
  let a := n % 65536 + n / 65536
  let b := a % 65536 + a / 65536
  b % 65536 + b / 65536

/-- The ones' complement sum of the 16-bit words of some bytes. -/
def sum16 : List Byte → Nat
  | [] => 0
  | [a] => a.toNat * 256
  | a :: b :: r => a.toNat * 256 + b.toNat + sum16 r

/-- The Internet checksum of some bytes. -/
def inetSum (bs : List Byte) : Nat := 65535 - foldSum (sum16 bs)

/-- A checksum repaired for words that changed (RFC 1624): HC' = ~(~HC + ~m + m'). -/
def repairSum (hc old new : Nat) : Nat :=
  65535 - foldSum ((65535 - hc) + foldSum (if old % 65535 = 0 ∧ old ≠ 0 then 0 else 65535 - foldSum old) + new)

end Sys2Proof.Machine
end

