-- ==== Sys2Proof/Machine/Code.lean ====
section
/-! DEFINITION. The codes that protect memory (R167): RS(72,64) over GF(2^8) for every 64-byte block and SEC-DED for 64-bit
words, what a read of a block with errors gives (R168), the corrections of a page and the pages due for retirement (R174). -/

namespace Sys2Proof.Machine

/-! ## GF(2^8) (R167) -/

/-- A field element times α: the field polynomial is x^8+x^4+x^3+x^2+1. -/
def gfTimesAlpha (x : Nat) : Nat := if x < 128 then 2 * x else (2 * x) ^^^ 0x11D

/-- A product, over the bits of the second factor from bit 0 up. -/
def gfMulBits : Nat → Nat → Nat → Nat
  | 0, _, _ => 0
  | n + 1, x, y => (if y % 2 = 1 then x else 0) ^^^ gfMulBits n (gfTimesAlpha x) (y / 2)

/-- A product in GF(2^8). -/
def gfMul (x y : Nat) : Nat := gfMulBits 8 x y

/-- α^n. -/
def gfAlpha : Nat → Nat
  | 0 => 1
  | n + 1 => gfTimesAlpha (gfAlpha n)

/-- x^n, and the inverse of x, which is x^254. -/
def gfPow (x : Nat) : Nat → Nat
  | 0 => 1
  | n + 1 => gfMul (gfPow x n) x
@[inherit_doc gfPow] def gfInv (x : Nat) : Nat := gfPow x 254

/-! ## RS(72,64) (R167) -/

/-- The coefficients of the generator polynomial below x^8, that of x^7 first: its roots are α^0 to α^7. -/
def rsGenerator : List Nat := [255, 11, 81, 54, 239, 173, 200, 24]

/-- One step of the division by the generator polynomial: a symbol enters the remainder. -/
def rsStep (r : List Nat) (x : Nat) : List Nat :=
  let f := x ^^^ r.headD 0
  (r.tail ++ [0]).zipWith (fun a g => a ^^^ gfMul f g) rsGenerator

/-- The 8 check bytes of a block: its bytes are the coefficients of a polynomial, the first one that of the highest power.
(DESIGN CHOICE, log 107) -/
def rsCheck (bs : List Nat) : List Nat := bs.foldl rsStep (List.replicate 8 0)

/-- A syndrome: the value of a word of symbols at α^j. -/
def rsSyndrome (word : List Nat) (j : Nat) : Nat := word.foldl (fun v x => gfMul v (gfAlpha j) ^^^ x) 0

/-- The symbols of an error pattern: what differs at each of the 72 places. Entries of one place add. -/
def errorWord (e : BlockErr) : List Nat :=
  (List.range 72).map fun i => e.foldl (fun v x => if x.1 = i then v ^^^ (x.2 % 256) else v) 0

/-- The power of α at a place of the code word. -/
def rsPlace (i : Nat) : Nat := gfAlpha (71 - i)

/-- Whether a correction explains the syndromes: the sums of value × place^j. -/
def rsExplains (c : BlockErr) (syn : List Nat) : Bool :=
  (List.range 8).all fun j => syn.getD j 0 == c.foldl (fun v x => v ^^^ gfMul x.2 (gfPow (rsPlace x.1) j)) 0

/-- The one symbol that explains the syndromes, if there is one. -/
def rsOne (syn : List Nat) : Option BlockErr :=
  ((List.range 72).map fun i => ([(i, syn.headD 0)] : BlockErr)).find? fun c => rsExplains c syn

/-- The two symbols that explain the syndromes, if there are two: their places are the roots of the locator polynomial. -/
def rsTwo (syn : List Nat) : Option BlockErr :=
  let s := fun j => syn.getD j 0
  let det := gfMul (s 0) (s 2) ^^^ gfMul (s 1) (s 1)
  if det = 0 then none
  else
    let d := gfInv det
    let a := gfMul d (gfMul (s 0) (s 3) ^^^ gfMul (s 1) (s 2))
    let b := gfMul d (gfMul (s 1) (s 3) ^^^ gfMul (s 2) (s 2))
    match (List.range 72).filter fun i => gfMul (rsPlace i) (rsPlace i ^^^ a) ^^^ b == 0 with
    | [i, k] =>
      let v := gfMul (gfInv (rsPlace i ^^^ rsPlace k)) (s 1 ^^^ gfMul (s 0) (rsPlace i))
      let c := [(i, s 0 ^^^ v), (k, v)]
      if rsExplains c syn then some c else none
    | _ => none

/-- What the decoder answers for a block (R168). -/
inductive Seen where
  | clean | corrected | uncorrectable
  deriving DecidableEq, Repr

/-- A block as it was read: the decoder's answer, and where the data it gives still differ from what was written. -/
structure BlockRead where
  seen : Seen := .clean
  diff : BlockErr := []
  deriving DecidableEq, Repr

/-- An error pattern with the corrected symbols put right. -/
def leftOver (e c : BlockErr) : BlockErr :=
  let w := errorWord (e ++ c)
  ((List.range 72).map fun i => (i, w.getD i 0)).filter fun x => x.2 != 0

/-- The decoder (R168): it corrects one or two symbols, and finds every other word that is no code word uncorrectable. Up to six
symbols in error are never taken for fewer; with seven or more the answer is that for the nearest code word, if one lies within two
symbols, and the data are then wrong. (DESIGN CHOICE, log 107) -/
def rsDecode (e : BlockErr) : BlockRead :=
  let w := errorWord e
  if w.all fun v => v == 0 then {}
  else
    let syn := (List.range 8).map (rsSyndrome w)
    if syn.all fun v => v == 0 then { diff := leftOver e [] }
    else
      match rsOne syn with
      | some c => { seen := .corrected, diff := leftOver e c }
      | none =>
        match rsTwo syn with
        | some c => { seen := .corrected, diff := leftOver e c }
        | none => { seen := .uncorrectable }

/-- Data bytes as they were read: `at'` is where the block lies in them. -/
def misread (bs : List Byte) (at' : Nat) (d : BlockErr) : List Byte :=
  d.foldl (fun bs x =>
    if x.1 < 64 then bs.set (at' + x.1) (bs.getD (at' + x.1) 0 ^^^ BitVec.ofNat 8 x.2) else bs) bs

/-- A SEC-DED word of 64 bits with its check bits (R167): one flipped bit is corrected, two are uncorrectable. With more, what
the decoder answers is a free value. (DESIGN CHOICE, log 107) -/
def State.secDed (s : State) (flips : Nat) : Seen × State :=
  match flips with
  | 0 => (.clean, s)
  | 1 => (.corrected, s)
  | 2 => (.uncorrectable, s)
  | _ =>
    let (v, s) := s.free
    (match v.toNat % 3 with | 0 => .clean | 1 => .corrected | _ => .uncorrectable, s)

/-! ## Regions of package memory (R134, R259, R496) -/

/-- Where the Tables region of package memory begins (R259, R496). (DEDUCED, log 44) -/
def State.flowRegionBytes (s : State) : Nat := 512 * 2 ^ (23 + s.fg Fld.FLE_CFG_REGION)
@[inherit_doc State.flowRegionBytes] def State.tablesBase (s : State) : Nat := 0x1000000000 + s.flowRegionBytes

/-- An access of the Tables share at an address. -/
def State.pmTable (s : State) (write : Bool) (a : Nat) : State := s.pmTouch 2 write 1 { kind := 0, addr := some a }

/-- Accesses of the Tables share at blocks of the region that the spec does not name: free values (R563). (DESIGN CHOICE, log 52) -/
def State.pmTables (s : State) (write : Bool) : Nat → State
  | 0 => s
  | n + 1 =>
    let (v, s) := s.free
    (s.pmTable write (s.tablesBase + 64 * (v.toNat % 2 ^ 25))).pmTables write n

/-- The package-memory reads of a table lookup of at most `n` lines: how many lines the on-die cache lacks is a free value
(R235, R261: the caches' replacement is not given). (DESIGN CHOICE, log 52) -/
def State.tableReads (s : State) (n : Nat) : State :=
  let (v, s) := s.free
  s.pmTables false (v.toNat % (n + 1))

/-- The region of an address for the counters of corrected blocks (R559): 0 flow, 1 spill, 2 tables, 3 Glasshouse. -/
def State.regionOf (s : State) (a : Nat) : Option Nat :=
  let gib := 1073741824
  let t := s.tablesBase
  if a < t then some 0
  else if a < t + 2 * gib then some 2
  else if a < t + 3 * gib then none
  else if a < t + 4 * gib then some 3
  else some 1

/-! ## Corrections and pages (R168, R174) -/

/-- The page of a package-memory address (R174). (DESIGN CHOICE, log 47) -/
def pageOf (a : Nat) : Nat := a / 4096

/-- A page is to be retired, when retirement is enabled (R174). -/
def State.duePage (s : State) (page : Nat) : State :=
  if s.fb Fld.PMEM_RETIRE_CFG_AUTO && !s.fle.duePages.contains page then
    { s with fle := { s.fle with duePages := s.fle.duePages ++ [page] } }
  else s

/-- Notes a correction of a page (R174): the entry with the lowest count makes room in a full table. (DESIGN CHOICE, log 47)
-/
def State.noteCorrection (s : State) (page : Nat) : State :=
  let c : List PageCorr := s.fle.corr
  let n : Nat := ((c.find? fun (e : PageCorr) => e.page == page).map fun (e : PageCorr) => e.count + 1).getD 1
  let rest : List PageCorr := c.filter fun (e : PageCorr) => e.page != page
  let low : Nat := rest.foldl (fun (m : Nat) (e : PageCorr) => min m e.count) 0xFFFFFFFF
  let kept : List PageCorr := if n = 1 ∧ 1024 ≤ rest.length then
      match rest.find? fun (e : PageCorr) => e.count == low with | some e => rest.erase e | none => rest
    else rest
  let s := { s with fle := { s.fle with corr := kept ++ [{ page := page, count := n, last := s.aon }] } }
  if s.fg Fld.PMEM_RETIRE_CFG_CORR_LIMIT ≤ n then s.duePage page else s

/-- A block of the flow region or of the flow cache was corrected (R168, R182). -/
def State.flowCorrected (s : State) : State := (s.inc Reg.FLE_CORRECTED).logLimited 0x0701 0 1 0 fun _ c => d4 c

/-- A block of package memory was corrected: its owner's counter, and its page (R168, R174). -/
def State.corrected (s : State) (a : Nat) : State :=
  let s := match s.regionOf a with | some r => s.evc (44 + r) | none => s
  (if a < s.tablesBase then s.flowCorrected else s).noteCorrection (pageOf a)

/-- Reads a block of package memory whose symbols in error are `e`: a correction is counted and noted, and an uncorrectable
block makes its page due for retirement (R168, R174). What becomes of the data is the owner's. -/
def State.readBlock (s : State) (a : Nat) (e : BlockErr) : BlockRead × State :=
  let r := rsDecode e
  (r, match r.seen with
    | .clean => s
    | .corrected => s.corrected a
    | .uncorrectable => s.duePage (pageOf a))

/-- Reads a block of the flow cache (R167, R182). -/
def State.readCacheBlock (s : State) (e : BlockErr) : BlockRead × State :=
  let r := rsDecode e
  (r, if r.seen = .corrected then s.flowCorrected else s)

/-- The blocks of a list of addresses, each with its errors: what was read, in order, and whether one was uncorrectable. -/
def State.readBlocks (s : State) : List Nat → List BlockErr → List BlockRead × Bool × State
  | [], _ => ([], false, s)
  | a :: r, es =>
    let (x, s) := s.readBlock a (es.headD [])
    let (xs, bad, s) := s.readBlocks r es.tail
    (x :: xs, bad || x.seen == .uncorrectable, s)

end Sys2Proof.Machine
end

