-- ==== Sys2Proof/Machine/Buffers.lean ====
section
/-! DEFINITION. The buffer manager (chapter 8) as every other block uses it: cells and free lists, owners, pools and
charges, admission, XOFF and XON, the count of bound packets, and the release of a packet. -/

namespace Sys2Proof.Machine

/-! ## Owners and pools (R296–R302) -/

/-- The owner index of an ingress owner and of an egress owner (R296). -/
def ingOwner (port cls : Nat) : Nat := port * 8 + cls
@[inherit_doc ingOwner] def egrOwner (port cls : Nat) : Nat := 1024 + port * 8 + cls

/-- The reset configuration of an owner (R325). -/
def ownerDefault (o : Nat) : OwnerCfg := { pool := if o < 1024 then 0 else 8 }

/-- An owner's configuration. -/
def State.ownerCfg (s : State) (o : Nat) : OwnerCfg := s.buf.cfg.get o (ownerDefault o)

/-- An owner's use. -/
def State.ownerUse (s : State) (o : Nat) : OwnerUse := s.buf.use.get o {}

/-- Changes an owner's use. -/
def State.modOwner (s : State) (o : Nat) (f : OwnerUse → OwnerUse) : State :=
  { s with buf := { s.buf with use := s.buf.use.put o {} (f (s.ownerUse o)) } }

/-- ΣMIN over the owners of a pool: 536 owners of each kind at their reset values (R296, R325), corrected by the owners
that have been written. -/
def State.sumMin (s : State) (p : Nat) : Nat :=
  s.buf.cfg.foldl (fun n e =>
      let n := if (ownerDefault e.1).pool = p then n - 43 else n
      if e.2.pool = p then n + e.2.min else n)
    (if p = 0 ∨ p = 8 then 536 * 43 else 0)

/-- ΣHDRM over the owners of a pool. -/
def State.sumHdrm (s : State) (p : Nat) : Nat :=
  s.buf.cfg.foldl (fun n e => if e.2.pool = p then n + e.2.hdrm else n) 0

/-- The shared charges of a pool's owners. -/
def State.sumShared (s : State) (p : Nat) : Nat :=
  s.buf.use.foldl (fun n e => if (s.ownerCfg e.1).pool = p then n + e.2.s else n) 0

/-- The cells charged in a pool. -/
def State.poolUse (s : State) (p : Nat) : Nat :=
  s.buf.use.foldl (fun n e => if (s.ownerCfg e.1).pool = p then n + e.2.r + e.2.s + e.2.h else n) 0

/-- F: a pool's shared area less the shared charges of its owners (R298). -/
def State.poolFree (s : State) (p : Nat) : Nat :=
  s.fg (Fld.BUF_POOL_CFG_CELLS p) - s.sumMin p - s.sumHdrm p - s.sumShared p

/-- Whether α × F covers a shared charge (R298, R299). -/
def underAlpha (alpha f n : Nat) : Bool := decide (n * 8 ≤ 2 ^ alpha * f)

/-- Whether frames of a class of a port can be paused (R300, R471): with FC_MODE none nothing is sent. (DEDUCED, log 24) -/
def State.canPause (s : State) (p c : Nat) : Bool :=
  match s.fg (Fld.PRT_CFG_FC_MODE p) with
  | 1 => true
  | 2 => s.fbit (Fld.PRT_PAUSE_PFC_EN p) c
  | _ => false

/-- The area that takes a charge of `n` cells, or none: the rule of R299, without the headroom step for an egress owner
(R301). -/
def State.areaFor (s : State) (o n : Nat) : Option Area :=
  let c := s.ownerCfg o
  let u := s.ownerUse o
  let f := s.poolFree c.pool
  if u.r + n ≤ c.min then some .reserve
  else if underAlpha c.alpha f (u.s + n) && decide (n ≤ f) then some .shared
  else if decide (o < 512) && u.paused && s.canPause (o / 8) (o % 8) && decide (u.h + n ≤ c.hdrm) then some .headroom
  else none

/-- Adds cells to an area of an owner, or takes them off. -/
def OwnerUse.add (u : OwnerUse) (a : Area) (n : Nat) : OwnerUse :=
  match a with
  | .reserve => { u with r := u.r + n }
  | .shared => { u with s := u.s + n }
  | .headroom => { u with h := u.h + n }
  | .none => u
@[inherit_doc OwnerUse.add] def OwnerUse.sub (u : OwnerUse) (a : Area) (n : Nat) : OwnerUse :=
  match a with
  | .reserve => { u with r := u.r - n }
  | .shared => { u with s := u.s - n }
  | .headroom => { u with h := u.h - n }
  | .none => u

/-- A pool's peak and its warning after a change of its use (R302, R326). (DESIGN CHOICE, log 54) -/
def State.poolWatch (s : State) (p : Nat) : State :=
  let use := s.poolUse p
  let cells := s.fg (Fld.BUF_POOL_CFG_CELLS p)
  let pct := s.fg (Fld.BUF_POOL_CFG_WARN_PCT p)
  let s := s.fs (Fld.BUF_POOL_PEAK_PEAK p) (max use (s.fg (Fld.BUF_POOL_PEAK_PEAK p)))
  if s.buf.warned.contains p then
    if use * 100 < (pct - 5) * cells then { s with buf := { s.buf with warned := s.buf.warned.erase p } } else s
  else if pct * cells ≤ use * 100 ∧ cells ≠ 0 ∧ use ≠ 0 then
    { s with buf := { s.buf with warned := p :: s.buf.warned } }.log 0x0B04 (d1 p ++ beBytes 3 use)
  else s

/-- Whether an egress pool spills, decided after every change of its use: from above SPILL_ON until its use falls to SPILL_OFF
(R315). -/
def State.spillWatch (s : State) (p : Nat) : State :=
  let on := s.fg (Fld.BUF_POOL_SPON_SPILL_ON p)
  let use := s.poolUse p
  let is := s.fb Fld.BUF_SPILL_CFG_EN && s.fb (Fld.BUF_POOL_CFG_KIND p) && on != 0
    && (decide (on < use) || (s.buf.spilling.contains p && decide (s.fg (Fld.BUF_POOL_SPOFF_SPILL_OFF p) < use)))
  let l := s.buf.spilling.filter (· ≠ p)
  { s with buf := { s.buf with spilling := if is then p :: l else l } }

/-! ## PAUSE and PFC frames (R61–R63) -/

/-- The address of a front port: PRT_BASE_MAC plus its number, modulo 2^48 (R63). -/
def State.portMac (s : State) (p : Nat) : Nat :=
  (s.fg Fld.PRT_BASE_MAC_HI_MAC_HI * 2 ^ 32 + (s.rd Reg.PRT_BASE_MAC_LO).toNat + p) % 2 ^ 48

/-- A MAC control frame: the port's address, EtherType 0x8808, padded to 60 bytes, with its FCS. -/
def macControlFrame (src : Nat) (body : List Byte) : List Byte :=
  let h := beBytes 6 0x0180C2000001 ++ beBytes 6 src ++ beBytes 2 0x8808 ++ body
  let f := h ++ List.replicate (60 - h.length) 0
  f ++ fcsOf f

/-- A PAUSE frame (key 8) or a PFC frame of priority `k` with a number of quanta. -/
def State.pauseFrame (s : State) (p k quanta : Nat) : List Byte :=
  macControlFrame (s.portMac p)
    (if k = 8 then beBytes 2 1 ++ beBytes 2 quanta
     else beBytes 2 0x0101 ++ beBytes 2 (2 ^ k)
       ++ ((List.range 8).flatMap fun i => beBytes 2 (if i = k then quanta else 0)))

/-- Half of PAUSE_TIME, in AON_CLK cycles (R63): quanta of 512 bit times at the port's nominal rate (R62). -/
def State.halfPause (s : State) (p : Nat) : Nat :=
  s.fg (Fld.PRT_PAUSE_PAUSE_TIME p) * 512 * 1000 / (max 1 (s.rate p)) / 2 / 40

/-- Something is due on the port: its idle time starts again, and it leaves low-power idle (R67). -/
def State.leaveLpi (s : State) (p : Nat) : State :=
  let s := s.modPort p fun x => { x with idleSince := s.aon }
  if s.fb (Fld.PRT_STATUS_LPI_TX p) then
    (s.fs (Fld.PRT_STATUS_LPI_TX p) 0).modPort p fun x =>
      { x with twTill := some (s.aon + s.fg (Fld.PRT_LPI_TW_US p) * usCycles) }
  else s

/-- Puts a frame that the MAC inserts on the wire (R63, R447, R450). -/
def State.putMac (s : State) (p : Nat) : MacOut → State
  | .pause k quanta => (s.emit (.macControl p (s.pauseFrame p k quanta))).inc (Reg.PRT_TX_PAUSE p)
  | .witness f => s.emit (.macControl p f)
  | .announce f => (s.emit (.frame p f)).statFrame p 0x270 f f.length

/-- Whether a port waits for TW_US before it may send (R67). -/
def State.lpiWaits (s : State) (p : Nat) : Bool :=
  match (s.port p).twTill with | some t => decide (s.aon < t) | none => false

/-- A frame that the MAC inserts is due: it is sent, or waits until the transmitter has left low-power idle (R67). -/
def State.sendMac (s : State) (p : Nat) (m : MacOut) : State :=
  let s := s.leaveLpi p
  if s.lpiWaits p then s.modPort p fun x => { x with control := x.control ++ [m] } else s.putMac p m

/-- A PAUSE or PFC frame is due (R63). -/
def State.sendPause (s : State) (p k quanta : Nat) : State := s.sendMac p (.pause k quanta)

/-- TW_US is over: the frames that waited for it are sent first (R67). -/
def State.endTw (s : State) (p : Nat) : State :=
  let due := (s.port p).control
  due.foldl (fun s m => s.putMac p m) (s.modPort p fun x => { x with twTill := none, control := [] })

/-- Whether a port may send on a key: 8 under PAUSE, an enabled priority under PFC, while its link is up (R63, R85). -/
def State.paces (s : State) (p k : Nat) : Bool :=
  s.fb (Fld.PRT_STATUS_LINK p) &&
    match s.fg (Fld.PRT_CFG_FC_MODE p) with
    | 1 => k == 8
    | 2 => decide (k < 8) && s.fbit (Fld.PRT_PAUSE_PFC_EN p) k
    | _ => false

/-- Whether XOFF is due on a key of a port: 8 under PAUSE, the priority under PFC (R63, R300). -/
def State.xoffDue (s : State) (p k : Nat) : Bool :=
  let full := (s.slice (p / 16)).cozyFull
  let paused := fun c => (s.ownerUse (ingOwner p c)).paused
  s.paces p k && (full || if k = 8 then (List.range 8).any paused else paused k)

/-- Sends XOFF on the keys of a front port where it has become due, and XON where the condition has ended while the port
still sends on the key (R63, R300). (DEDUCED, log 24) -/
def State.pauseCheck (s : State) (p : Nat) : State :=
  if 64 ≤ p then s
  else
    (List.range 9).foldl (fun s k =>
      let sent := (s.port p).xoff.any fun e => e.1 == k
      if s.xoffDue p k then
        if sent then s
        else (s.sendPause p k (s.fg (Fld.PRT_PAUSE_PAUSE_TIME p))).modPort p fun x =>
          { x with xoff := x.xoff.ins k (s.aon + s.halfPause p) }
      else if sent then
        let s := s.modPort p fun x => { x with xoff := x.xoff.erase k }
        if s.paces p k then s.sendPause p k 0 else s
      else s) s

/-- The pause condition of an ingress owner, decided after every charge change (R300). -/
def State.pauseOwner (s : State) (o : Nat) : State :=
  if 1024 ≤ o then s
  else
    let c := s.ownerCfg o
    let u := s.ownerUse o
    let f := s.poolFree c.pool
    let refuseNext := !decide (u.r + 43 ≤ c.min) && !(underAlpha c.alpha f (u.s + 43) && decide (43 ≤ f))
    let paused :=
      if refuseNext || decide (c.xoffSpill ≤ u.s + u.h) then true
      else if u.paused && decide (u.s + u.h ≤ c.xon) then false else u.paused
    (s.modOwner o fun u => { u with paused := paused }).pauseCheck (o / 8)

/-- The ingress owners of a pool that are in use or have been configured: any other has room in its reserve (R300). -/
def State.poolOwners (s : State) (pool : Nat) : List Nat :=
  (s.buf.use.map (·.1) ++ s.buf.cfg.map (·.1)).filter fun o => decide (o < 1024) && (s.ownerCfg o).pool == pool

/-- What follows a change of an owner's charge: its pool's peak, warning and spilling (R302, R315), and its pause condition. A
shared charge also moves F, on which the pause conditions of the pool's other owners depend (R300). -/
def State.recharged (s : State) (o : Nat) (a : Area) : State :=
  let pool := (s.ownerCfg o).pool
  let s := ((s.poolWatch pool).spillWatch pool).pauseOwner o
  if a = .shared then (s.poolOwners pool).foldl (fun s k => s.pauseOwner k) s else s

/-- Charges cells to an area of an owner. -/
def State.charge (s : State) (o : Nat) (a : Area) (n : Nat) : State := (s.modOwner o fun u => u.add a n).recharged o a

/-- Releases cells of an area of an owner. -/
def State.discharge (s : State) (o : Nat) (a : Area) (n : Nat) : State := (s.modOwner o fun u => u.sub a n).recharged o a

/-- Counts a refusal of an owner (R299, R301). -/
def State.refuseOwner (s : State) (o : Nat) : State :=
  (s.modOwner o fun u => { u with drops := min 0xFFFFFFFF (u.drops + 1) }).inc
    (if o < 1024 then Reg.BUF_ING_DROP else Reg.BUF_EGR_DROP)

/-! ## Cells and free lists (R292–R294, R305–R308) -/

/-- Cells of a frame of `len` bytes (R292). -/
def cellsFor (len : Nat) : Nat := max 1 (ceilDiv len 240)

/-- The requester codes (R306). -/
def codeRx : Nat := 1
@[inherit_doc codeRx] def codeTx : Nat := 2
@[inherit_doc codeRx] def codeTrellis : Nat := 3
@[inherit_doc codeRx] def codeRecirc : Nat := 4
@[inherit_doc codeRx] def codeGlasshouse : Nat := 5
@[inherit_doc codeRx] def codeSpill : Nat := 6
@[inherit_doc codeRx] def codeMirror : Nat := 7
@[inherit_doc codeRx] def codeCompost : Nat := 8

/-- The owner tag of a requester: the slice field is zero for the device-wide ones (R306). -/
def tagOf (slice code : Nat) : Nat := (if code = codeRx ∨ code = codeTx then slice * 64 else 0) + code

/-- The requester that holds the packets of a port's queues (R306). -/
def State.queueTag (_ : State) (p : Nat) : Nat :=
  if p < 64 then tagOf (p / 16) codeTx else [codeTrellis, codeRecirc, codeGlasshouse].getD (p - 64) 0

/-- A free list: its key is slice × 8 + k. -/
def State.freeList (s : State) (l : Nat) : FreeList := s.buf.lists.get l {}

/-- Sets a free list, and its COUNT. -/
def State.setFreeList (s : State) (l : Nat) (f : FreeList) : State :=
  { s with buf := { s.buf with lists := s.buf.lists.put l {} f } }.fs (Fld.BUF_FL_COUNT (l / 8) (l % 8))
    (f.fresh + f.appended.length)

/-- The home list of a cell (R292). -/
def homeList (cell : Nat) : Nat := cell / 65536 * 8 + cell % 8

/-- The cells of a list in its order (R294). -/
def FreeList.cells (f : FreeList) (l : Nat) : List Nat :=
  ((List.range f.fresh).map fun i => l / 8 * 65536 + 8 * (8192 - f.fresh + i) + l % 8) ++ f.appended

/-- Takes the cell at the head of a list. -/
def FreeList.take (f : FreeList) (l : Nat) : Option (Nat × FreeList) :=
  if 0 < f.fresh then
    some (l / 8 * 65536 + 8 * (8192 - f.fresh) + l % 8, { f with fresh := f.fresh - 1 })
  else match f.appended with
    | [] => none
    | c :: r => some (c, { f with appended := r })

/-- A cell header. -/
def State.cell (s : State) (c : Nat) : CellHdr := s.buf.cells.get c {}

/-- Sets a cell header. -/
def State.setCell (s : State) (c : Nat) (h : CellHdr) : State :=
  { s with buf := { s.buf with cells := s.buf.cells.put c {} h } }

/-- The lists a requester of a slice allocates from, in order: its own in rotation, then those of the next slices
(R294). -/
def allocOrder (slice rot : Nat) : List Nat :=
  (List.range 4).flatMap fun d =>
    (List.range 8).map fun k => (slice + d) % 4 * 8 + (if d = 0 then (rot + k) % 8 else k)

/-- Allocates one cell for a requester of a slice (R294). -/
def State.allocCell (s : State) (slice tag : Nat) : Option (Nat × State) :=
  let rot := s.buf.rot.get slice 0
  match (allocOrder slice rot).findSome? fun l => ((s.freeList l).take l).map fun x => (l, x) with
  | none => none
  | some (l, c, f) =>
    let s := s.setFreeList l f
    let s := if l / 8 = slice then { s with buf := { s.buf with rot := s.buf.rot.put slice 0 ((l % 8 + 1) % 8) } } else s
    let h := s.cell c
    let s := s.setCell c { h with
      held := true, tag := tag, next := none, data := 0, first := false, mark := s.buf.parity,
      stamp := s.flowMs % 65536, gen := (h.gen + 1) % 256 }
    some (c, s.evc (180 + slice))

/-- Allocates `n` cells, or as many as there are. -/
def State.allocCells (s : State) (slice tag : Nat) : Nat → List Nat × State
  | 0 => ([], s)
  | n + 1 =>
    match s.allocCell slice tag with
    | none => ([], s)
    | some (c, s) => let (r, s) := s.allocCells slice tag n; (c :: r, s)

/-- The descriptor a packet that takes cells gets: the lowest of 0–262,143 that no other such packet holds (R295). (DESIGN
CHOICE, log 104) -/
def State.newDesc (s : State) : Nat :=
  let used := (s.packets.filter fun e => !e.2.cells.isEmpty).map (·.2.desc)
  ((List.range (used.length + 1)).find? fun k => !used.contains k).getD 0

/-- Links the cells of a packet and writes the headers of the chain (R293). -/
def State.linkCells (s : State) (pid owner len : Nat) (cs : List Nat) : State :=
  let n := cs.length
  (List.range n).foldl (fun s i =>
    let c := cs.getD i 0
    let h := s.cell c
    s.setCell c { h with
      next := if i + 1 < n then cs[i + 1]? else none, first := decide (i = 0),
      data := if i + 1 < n then 240 else min 240 (len - 240 * i),
      owner := if i = 0 then owner else 0, desc := if i = 0 then (s.pkt pid).desc else 0 }) s

/-- Marks a cell free and appends it to its home list (R294, R307). -/
def State.appendCell (s : State) (c : Nat) : State :=
  let l := homeList c
  let f := s.freeList l
  let h := s.cell c
  let s := s.setCell c { gen := h.gen }
  (s.setFreeList l { f with appended := f.appended ++ [c] }).evc (184 + c / 65536)

/-- Frees the cells of a chain, stopping at a cell already free: it counts as a double free (R307). -/
def State.freeChain (s : State) : List Nat → State
  | [] => s
  | c :: r =>
    let h := s.cell c
    if h.held then (s.appendCell c).freeChain r
    else (s.inc Reg.BUF_DOUBLE_FREE).logUpTo 64 0x0B01 (d4 c)

/-- The chain of cells from a first cell, by the headers' links. -/
def State.chain (s : State) (c : Nat) : Nat → List Nat
  | 0 => []
  | n + 1 => c :: match (s.cell c).next with | none => [] | some d => s.chain d n

/-- A free of a packet: the first cell and the generation of its descriptor, under a requester's tag, checked in the
order of R307. -/
def State.freeCells (s : State) (tag cell gen : Nat) : State :=
  let h := s.cell cell
  let s' :=
    if !h.held || h.badMarker then (s.inc Reg.BUF_DOUBLE_FREE).logUpTo 64 0x0B01 (d4 cell)
    else if 8 < tag % 64 || !h.first || (h.tag != tag && tag % 64 != codeCompost) || h.gen != gen then
      (s.inc Reg.BUF_NONOWNER_FREE).logUpTo 64 0x0B02 (d4 cell ++ d1 tag)
    else s.freeChain (s.chain cell 43)
  s'.fcCount { kind := 10, masters := if tag % 64 = codeCompost then 2 ^ 17 else 2 ^ (tag / 64) }

/-- Hands a packet's first cell to a requester: its tag passes on and its stamp is refreshed (R306). -/
def State.handOver (s : State) (pid tag : Nat) : State :=
  let p := s.pkt pid
  let s := s.setPkt pid { p with tag := tag }
  match p.cells with
  | [] => s
  | c :: _ => s.setCell c { s.cell c with tag := tag, stamp := s.flowMs % 65536 }

/-! ## Epochs (R121, R262) -/

/-- The current and the old epoch of a table: 0 rules, 1 L2, 2 IPv4, 3 IPv6. -/
def curEpochFld (t : Nat) : Fld :=
  [Fld.RUL_EPOCH_CTL_CUR_EPOCH, Fld.FWD_EPOCH_CTL_CUR_L2, Fld.FWD_EPOCH_CTL_CUR_V4, Fld.FWD_EPOCH_CTL_CUR_V6].getD t
    Fld.RUL_EPOCH_CTL_CUR_EPOCH

/-- The current epoch of a table. -/
def State.curEpoch (s : State) (t : Nat) : Nat := s.fg (curEpochFld t)

/-- Whether a table's old epoch still has bound packets. -/
def State.oldLive (s : State) (t : Nat) : Bool :=
  if t = 0 then s.fb Fld.RUL_EPOCH_CTL_OLD_LIVE else s.fbit Fld.FWD_EPOCH_CTL_OLD_LIVE (3 - t)

/-- Sets whether a table's old epoch is live. -/
def State.setOldLive (s : State) (t : Nat) (b : Bool) : State :=
  if t = 0 then s.fs Fld.RUL_EPOCH_CTL_OLD_LIVE (ofBool b) else s.fsbit Fld.FWD_EPOCH_CTL_OLD_LIVE (3 - t) b

/-- The bank of a table that holds an epoch: the active bank holds the current one (R121). -/
def State.bankOf (s : State) (t epoch : Nat) : Nat :=
  let a := s.epochBank.get t 0
  if epoch = s.curEpoch t then a else 1 - a

/-- The count of packets bound to the current (0) or the old (1) epoch of a table. -/
def State.epochRef (s : State) (t k : Nat) : Nat := s.epochRefs.get (2 * t + k) 0

/-- Sets that count. -/
def State.setEpochRef (s : State) (t k n : Nat) : State := { s with epochRefs := s.epochRefs.put (2 * t + k) 0 n }

/-- The epoch of a table in a packet. -/
def Epochs.of (e : Epochs) (t : Nat) : Nat := [e.rule, e.l2, e.v4, e.v6].getD t 0

/-- Binds a packet to the current epochs, on pass 1 (R121, R262). -/
def State.bind (s : State) (pid : Nat) : State :=
  let e : Epochs := { rule := s.curEpoch 0, l2 := s.curEpoch 1, v4 := s.curEpoch 2, v6 := s.curEpoch 3 }
  let s := s.modPkt pid fun p => { p with epochs := e, bound := true }
  (List.range 4).foldl (fun s t => s.setEpochRef t 0 (s.epochRef t 0 + 1)) s

/-- Takes a packet off the counts of bound packets; the last one of an old epoch releases it (R121, R262). -/
def State.unbind (s : State) (pid : Nat) : State :=
  let p := s.pkt pid
  if !p.bound then s
  else
    (List.range 4).foldl (fun s t =>
      let k := if p.epochs.of t = s.curEpoch t then 0 else 1
      let n := s.epochRef t k - 1
      let s := s.setEpochRef t k n
      if k = 1 ∧ n = 0 ∧ s.oldLive t then
        (s.setOldLive t false).log (if t = 0 then 0x0603 else 0x0A06)
      else s) (s.setPkt pid { p with bound := false })

/-! ## Releasing a packet -/

/-- Gives back an egress charge. -/
def State.dropEgress (s : State) (pid : Nat) : State :=
  let c := (s.pkt pid).egr
  if c.area = .none then s else (s.modPkt pid fun p => { p with egr := {} }).discharge c.owner c.area c.cells

/-- Gives back an ingress charge; the packet keeps the owner's index (R293, R297). -/
def State.dropIngress (s : State) (pid : Nat) : State :=
  let c := (s.pkt pid).ing
  if c.area = .none then s else (s.modPkt pid fun p => { p with ing := { owner := c.owner } }).discharge c.owner c.area c.cells

/-- Gives back what a packet holds of the return reserve (R316). -/
def State.dropReturn (s : State) (pid : Nat) : State :=
  let n := (s.pkt pid).ret
  if n = 0 then s
  else { s with buf := { s.buf with retUsed := s.buf.retUsed - n } }.modPkt pid fun p => { p with ret := 0 }

/-- Frees a packet: its cells, its charges, its place in its epochs. -/
def State.release (s : State) (pid : Nat) : State :=
  let p := s.pkt pid
  let s := match p.cells with | [] => s | c :: _ => s.freeCells p.tag c p.gen
  let s := (((s.dropEgress pid).dropIngress pid).dropReturn pid).unbind pid
  let s := s.touch p.slice
  if (s.port p.inPort).rx = some pid then s.setPkt pid { (s.pkt pid) with cells := [], dead := true }
  else s.delPkt pid

/-- Drops a packet that has been enqueued or was to be: its timestamp request ends with fate 3 (R378). -/
def State.dropQueued (s : State) (pid port : Nat) : State :=
  let p := s.pkt pid
  (if port < 64 ∧ p.copy = none then s.tsFate p port 3 none else s).release pid

/-- Admits a frame at an ingress owner with the bound of 43 cells (R299), or refuses and counts it. -/
def State.admitIngress (s : State) (o : Nat) : Option (Charge × State) :=
  match s.areaFor o 43 with
  | none => none
  | some a => some ({ owner := o, area := a, cells := 43 }, s.charge o a 43)

/-- The cells a packet is charged: those it holds once its frame has ended, 43 before (R299, R301). -/
def Packet.chargeCells (p : Packet) : Nat := if p.ended then p.cells.length else 43

/-- Settles a packet's charges when its frame ends: from 43 cells to those used (R299, R301). -/
def State.settle (s : State) (pid : Nat) : State :=
  let p := s.pkt pid
  let n := p.cells.length
  let s := s.setPkt pid { p with
    ing := { p.ing with cells := if p.ing.area = .none then 0 else min p.ing.cells n }
    egr := { p.egr with cells := if p.egr.area = .none then 0 else min p.egr.cells n } }
  let s := if p.ing.area = .none then s else s.discharge p.ing.owner p.ing.area (p.ing.cells - n)
  if p.egr.area = .none then s else s.discharge p.egr.owner p.egr.area (p.egr.cells - n)

end Sys2Proof.Machine
end

