-- ==== Sys2Proof/Machine/Queues.lean ====
section
/-! DEFINITION. Queues, enqueue, shapers, gates and selection (chapter 9), as every block that sends packets uses them. -/

namespace Sys2Proof.Machine

/-! ## Queues and nodes by number -/

/-- A queue as it is at reset (R334, R335, R361). -/
def queueDefault (n : Nat) : Queue :=
  { tc := n % 8, pfcPri := n % 8, qmax := if 520 ≤ n ∧ n < 536 then 4096 else 0 }

/-- A queue. -/
def State.queue (s : State) (n : Nat) : Queue := s.sch.queues.get n (queueDefault n)

/-- Changes a queue. -/
def State.modQueue (s : State) (n : Nat) (f : Queue → Queue) : State :=
  { s with sch := { s.sch with queues := s.sch.queues.put n (queueDefault n) (f (s.queue n)) } }

/-- A node. -/
def State.node (s : State) (n : Nat) : Node := s.sch.nodes.get n {}

/-- Changes a node. -/
def State.modNode (s : State) (n : Nat) (f : Node → Node) : State :=
  { s with sch := { s.sch with nodes := s.sch.nodes.put n {} (f (s.node n)) } }

/-- The nodes from a node up to the port scheduler, the node itself first; at most `n`. -/
def State.nodeChain (s : State) : Nat → Nat → List Nat
  | 0, _ => []
  | n + 1, m => m :: if (s.node m).pnode then s.nodeChain n (s.node m).parent else []

/-- How many nodes there are (R336). -/
def nodeCount : Nat := 2048

/-- The port at whose scheduler the chain of a node ends (R336). -/
def State.nodePort (s : State) (m : Nat) : Nat := (s.node ((s.nodeChain nodeCount m).getLastD m)).port

/-- A port scheduler. -/
def State.psched (s : State) (p : Nat) : PortSched := s.sch.ports.get p {}

/-- Changes a port scheduler. -/
def State.modPsched (s : State) (p : Nat) (f : PortSched → PortSched) : State :=
  { s with sch := { s.sch with ports := s.sch.ports.put p {} (f (s.psched p)) } }

/-- Whether queue n lies in a port's block (R330). -/
def State.inBlock (s : State) (p n : Nat) : Bool :=
  let b := s.fg (Fld.SCH_PORT_CFG_QBASE p)
  decide (b ≤ n ∧ n < b + s.fg (Fld.SCH_PORT_CFG_QCOUNT p))

/-- The port a queue belongs to, if any. -/
def State.portOf (s : State) (n : Nat) : Option Nat := (List.range 67).find? fun p => s.inBlock p n

/-- The queues of a port, in ascending order. -/
def State.portQueues (s : State) (p : Nat) : List Nat :=
  let b := s.fg (Fld.SCH_PORT_CFG_QBASE p)
  (List.range (s.fg (Fld.SCH_PORT_CFG_QCOUNT p))).map (b + ·)

/-- The packets a queue holds, spilled ones included. -/
def Queue.packets (q : Queue) : Nat :=
  q.items.foldl (fun n i => match i with | .pkt _ => n + 1 | .run r => n + r.packets.length) 0

/-- MAX_SDU of a class of a port (R355, R358). -/
def State.maxSdu (s : State) (p c : Nat) : Nat :=
  if c % 2 = 0 then s.fg (Fld.SCH_SDU_SDU_LO p (c / 2)) else s.fg (Fld.SCH_SDU_SDU_HI p (c / 2))

/-- Whether a port is declared up (R74); ports 65 and 66 always are (R87). -/
def State.portUp (s : State) (p : Nat) : Bool :=
  if p < 64 then s.fb (Fld.PRT_STATUS_LINK p) else if p = 64 then s.fg Fld.TRL_STATUS_STATE == 3 else true

/-! ## The length the egress will send (R322, R355) -/

/-- The tags at byte 12 of a frame, by their TPIDs; at most `n`. -/
def tagList (bs : List Byte) : Nat → Nat → List Nat
  | _, 0 => []
  | off, n + 1 =>
    let t := beNat (sliceBytes bs off 2)
    if t = 0x8100 ∨ t = 0x88A8 then t :: tagList bs (off + 4) n else []

/-- The tags after a list of edits (R201). -/
def editTags : List (Nat × Nat) → List Nat → List Nat
  | [], t => t
  | (3, _) :: r, t => editTags r (match t with | 0x88A8 :: u => 0x88A8 :: 0x8100 :: u | u => 0x8100 :: u)
  | (4, _) :: r, t => editTags r t.tail
  | _ :: r, t => editTags r t

/-- The length, from destination address through FCS, of the frame the egress will send. -/
def Packet.txLen (p : Packet) : Nat :=
  match p.copy with
  | some c =>
    let data := p.len - 4
    let data := if c.trunc ≠ 0 then min data c.trunc else data
    let hdr := if c.hdr then (if c.tagged then 18 else 14) + 16 else 0
    max 64 (min 10240 (hdr + data + 4))
  | none =>
    let t := tagList p.bytes 12 8
    max 64 (p.len + 4 * (editTags p.edits t).length - 4 * t.length)

/-! ## Enqueue (R333–R337) -/

/-- The conditions of R36 for a packet and an egress queue. -/
def State.canCut (s : State) (p : Packet) (port q : Nat) : Bool :=
  decide (p.inPort < 64) && s.fb (Fld.PRT_CFG_CT_EN p.inPort)
    && (if port < 64 then s.fb (Fld.PRT_CFG_CT_EN port) else decide (port = 64) && s.fb Fld.TRL_CFG_CT_EN)
    && decide (s.rate port ≤ s.rate p.inPort) && (s.queue (s.fg (Fld.SCH_PORT_CFG_QBASE port) + q)).items.isEmpty
    && !p.madeRecord && p.pass == 1

/-- The master of a packet's enqueue events: the slice that ran the program, or the core for port 66 (R563). -/
def enqueueMaster (p : Packet) (port : Nat) : Nat :=
  if port = 66 then 2 ^ 12 else 2 ^ p.runSlice

/-- Drops a packet at enqueue. `n` is its queue, if the queue exists. -/
def State.enqueueDrop (s : State) (pid port : Nat) (n : Option Nat) : State :=
  let p := s.pkt pid
  let cls := n.map fun n => (s.queue n).tc
  let s := match n with
    | some n => s.modQueue n fun q => { q with dropped := (q.dropped + 1) % 2 ^ 64 }
    | none => s
  (s.fcCount { kind := 7, masters := enqueueMaster p port, cls := cls }).dropQueued pid port

/-- Enqueues a packet on queue `q` of a port, through the checks of R335 in their order; then decides cut-through (R36),
hands the packet over (R306) and starts the wake of the egress slice (R40) and, on port 65, of the target slice (R466). -/
def State.enqueue (s : State) (pid port q : Nat) : State :=
  let p := s.pkt pid
  let n := s.fg (Fld.SCH_PORT_CFG_QBASE port) + q
  let inside := decide (q < s.fg (Fld.SCH_PORT_CFG_QCOUNT port))
  let qu := s.queue n
  let o := egrOwner port qu.tc
  let cells := p.chargeCells
  if !s.assigned port || (!s.portUp port && (s.port port).holdTill.isNone) then
    (s.inc (Reg.PRT_DROP_DOWN port)).enqueueDrop pid port (if inside then some n else none)
  else if !inside then (s.inc (Reg.SCH_NOQ_DROP port)).enqueueDrop pid port none
  else if p.ended && decide (s.maxSdu port qu.tc < p.txLen) then
    ((s.inc (Reg.SCH_SDU_DROP port)).logLimited 0x0D02 port 1 0 fun _ c => d4 c).enqueueDrop pid port (some n)
  else if qu.qmax ≠ 0 ∧ qu.qmax ≤ qu.packets then
    (((s.inc (Reg.SCH_QFULL_DROP port)).modQueue n fun q => { q with qfullDrops := min 0xFFFFFFFF (q.qfullDrops + 1) })
      |>.logLimited 0x0C02 port 1 0 fun _ c => d4 c).enqueueDrop pid port (some n)
  else
    match s.areaFor o cells with
    | none => (s.refuseOwner o).enqueueDrop pid port (some n)
    | some a =>
      let cut := s.canCut p port q
      let s := s.charge o a cells
      let s := s.modPkt pid fun p =>
        { p with egr := { owner := o, area := a, cells := cells }, cut := cut, stage := .queued, enq := s.coreNow,
                 dest := .queue port q }
      let s := s.modQueue n fun q => { q with items := q.items ++ [.pkt pid] }
      let s := s.handOver pid (s.queueTag port)
      let s := if port = 65 then s.wake p.target else s.unbind pid
      let s := if port < 64 then s.leaveLpi port else s
      let e : PmuEvent := { kind := 5, masters := enqueueMaster p port, cls := some qu.tc }
      let s := (s.fcCount e).fcCount { e with kind := 6 } (if p.ended then p.len else 0)
      s.wake (s.egressSlice port)

/-! ## Gates (R349–R354) -/

/-- A port's gates. -/
def State.gate (s : State) (p : Nat) : Gate := s.gates.get p {}

/-- Changes a port's gates. -/
def State.modGate (s : State) (p : Nat) (f : Gate → Gate) : State :=
  { s with gates := s.gates.put p {} (f (s.gate p)) }

/-- An entry of the operational or of the administrative list. -/
def Gate.entry (g : Gate) (oper : Bool) (i : Nat) : GateEntry :=
  (if oper == g.oper then g.bank1 else g.bank0).get i {}

/-- Network time for gates: seconds bits 47:0 (R350), in nanoseconds. -/
def State.gateNow (s : State) : Nat := s.net.sec % 2 ^ 48 * 1000000000 + s.net.ns

/-- A list's parameters: length, cycle, base, extension. -/
def State.listParams (s : State) (p : Nat) (oper : Bool) : Nat × Nat × Nat × Nat :=
  let f := fun (a o : Fld) => s.fg (if oper then o else a)
  let r := fun (a o : Reg) => (s.rd (if oper then o else a)).toNat
  (f (Fld.GTE_ADMIN_LEN_LEN p) (Fld.GTE_OPER_LEN_LEN p),
   max 1 (f (Fld.GTE_ADMIN_CYCLE_CYCLE p) (Fld.GTE_OPER_CYCLE_CYCLE p)),
   (f (Fld.GTE_ADMIN_BASE_SH_SEC_HI p) (Fld.GTE_OPER_BASE_SH_SEC_HI p) * 2 ^ 32
      + r (Reg.GTE_ADMIN_BASE_SL p) (Reg.GTE_OPER_BASE_SL p)) * 1000000000
     + f (Fld.GTE_ADMIN_BASE_NS_NS p) (Fld.GTE_OPER_BASE_NS_NS p),
   f (Fld.GTE_ADMIN_EXT_EXT p) (Fld.GTE_OPER_EXT_EXT p))

/-- The switch time T of a port, in nanoseconds (R351). -/
def State.changeTime (s : State) (p : Nat) : Nat :=
  (s.fg (Fld.GTE_CHANGE_SH_SEC_HI p) * 2 ^ 32 + (s.rd (Reg.GTE_CHANGE_SL p)).toNat) * 1000000000
    + s.fg (Fld.GTE_CHANGE_NS_NS p)

/-- The entry in force at an offset of a cycle, with when it ends: entries run in order, the last to the end of the cycle,
and the cycle ends at CYCLE (R350). -/
def Gate.entryAt (g : Gate) (oper : Bool) (len cycle off : Nat) : Nat → Nat → Nat → Nat × Nat
  | 0, i, _ => (i, cycle)
  | n + 1, i, start =>
    let stop := start + (g.entry oper i).interval
    if len ≤ i + 1 then (i, cycle)
    else if off < stop then (i, min stop cycle)
    else g.entryAt oper len cycle off n (i + 1) stop

/-- The gate states in force at a time of a list, the entry, and when that entry ends. -/
def State.listAt (s : State) (p : Nat) (oper : Bool) (t : Nat) : Nat × Nat × Nat :=
  let g := s.gate p
  let (len, cycle, base, _) := s.listParams p oper
  let start := base + (t - base) / cycle * cycle
  let (i, stop) := g.entryAt oper len cycle (t - start) 1024 0 0
  ((g.entry oper i).gates, i, start + stop)

/-- The gate states of a port at a time, the entry in force, and a time until which they stay in force (R350–R352). -/
def State.gatesAt (s : State) (p t : Nat) : Nat × Nat × Nat :=
  let far := t + 1000000000
  if 64 ≤ p ∨ !s.fb (Fld.GTE_CFG_EN p) then (0xFF, 0, far)
  else
    let pending := s.fb (Fld.GTE_CTL_PENDING p)
    let T := s.changeTime p
    if pending && decide (T ≤ t) then s.listAt p false t
    else if !s.fb (Fld.GTE_CTL_OPER_VALID p) then
      (s.fg (Fld.GTE_CFG_INIT_GATES p), 0, if pending then T else far)
    else
      let (len, cycle, base, ext) := s.listParams p true
      let start := base + (t - base) / cycle * cycle
      if pending && decide (start + ext > T ∧ start < T ∧ base < start) then
        let i := ((s.gate p).entryAt true len cycle (cycle - 1) 1024 0 0).1
        (((s.gate p).entry true i).gates, i, T)
      else
        let (g, i, e) := s.listAt p true t
        (g, i, if pending then min e T else e)

/-- Whether the gate of a class is open from `t` to `stop` (R354). -/
def State.gateOpen (s : State) (p c stop : Nat) : Nat → Nat → Bool
  | 0, _ => false
  | n + 1, t =>
    let (g, _, e) := s.gatesAt p t
    bitAt g c && (decide (stop < e) || s.gateOpen p c stop n e)

/-- The FEC latency of a port in nanoseconds (R55). -/
def State.fecNs (s : State) (p : Nat) : Nat :=
  match s.fg (Fld.PRT_CFG_FEC_MODE p) with
  | 0 => 0
  | 1 => 210
  | 2 => if s.rate p = 25000 then 210 else 100
  | _ => 100

/-- Length-aware admission of a head packet (R354). -/
def State.gateAdmits (s : State) (p c len : Nat) : Bool :=
  if 64 ≤ p ∨ !s.fb (Fld.GTE_CFG_EN p) then true
  else
    let t := s.gateNow + s.fg (Fld.GTE_CFG_TX_LEAD_NS p) + s.fecNs p
    s.gateOpen p c (t + (len + 20) * 8 * 1000 / max 1 (s.rate p)) 2048 t

/-! ## Eligibility and selection (R337–R343) -/

/-- Whether a shaper holds tokens (R345). -/
def Shaper.holds (h : Shaper) : Bool := !h.en || decide (0 ≤ h.tokens)

/-- Whether the link partner holds a port, or a priority of it, paused (R62, R64). -/
def State.pausedBy (s : State) (p k : Nat) : Bool :=
  let x := (s.port p).pauses.get k {}
  (match x.till with | some t => decide (s.aon < t) | none => false) && x.wdTill.isNone

/-- The transmitted length a head is taken to have: MAX_SDU of its class while its frame has not ended (R38, R343). -/
def State.headLen (s : State) (p : Packet) (port cls : Nat) : Nat :=
  if p.ended then p.txLen else s.maxSdu port cls

/-- Whether the receive ring of a port-66 queue has an entry to fill (R543). -/
def State.ringEntry (s : State) (q : Nat) : Nat :=
  let r := q % 16
  s.fg (Fld.GLH_RXR_BASE_HI_BASE_HI r) * 2 ^ 32 + (s.rd (Reg.GLH_RXR_BASE_LO r)).toNat + 16 * s.fg (Fld.GLH_RXR_HEAD_HEAD r)
@[inherit_doc State.ringEntry] def State.ringReady (s : State) (q : Nat) : Bool :=
  s.fb (Fld.GLH_RXR_CFG_EN (q % 16)) && bitAt (s.memByte (s.ringEntry q + 5)).toNat 7

/-- Whether the head of a queue may be sent in every respect but its shaper and its gate (R337, R466, R543). A head of port 65
waits while its target slice sleeps or holds no room for it; one whose target has left service goes, to be dropped (R43). -/
def State.headWaits (s : State) (port n : Nat) : Bool :=
  let q := s.queue n
  match q.items with
  | .pkt pid :: _ =>
    let p := s.pkt pid
    s.portUp port && ((p.ended && p.good) || p.cut)
      && !(port < 64 && s.fg (Fld.PRT_CFG_FC_MODE port) == 1 && s.pausedBy port 8)
      && !(port < 64 && s.fg (Fld.PRT_CFG_FC_MODE port) == 2 && q.pfcEn && s.pausedBy port q.pfcPri)
      && (port != 66 || s.ringReady (n - s.fg (Fld.SCH_PORT_CFG_QBASE port)))
      && (port != 65 || !(s.slice p.target).inService
        || (s.power p.target == 0 && decide ((s.slice p.target).inner.length < 2048)))
  | _ => false

/-- Whether the head of a queue may be sent in every respect but its gate (R337). -/
def State.headReady (s : State) (port n : Nat) : Bool := (s.queue n).shaper.holds && s.headWaits port n

/-- Whether a queue is eligible (R337). -/
def State.queueEligible (s : State) (port n : Nat) : Bool :=
  let q := s.queue n
  s.headReady port n &&
    match q.items with
    | .pkt pid :: _ => s.gateAdmits port q.tc (s.headLen (s.pkt pid) port q.tc)
    | _ => false

/-- The nodes whose chain ends at a port's scheduler. -/
def State.portNodes (s : State) (p : Nat) : List Nat :=
  (s.sch.nodes.filter fun e => e.2.en && s.nodePort e.1 == p).map (·.1)

/-- The children of an element of a port: the port scheduler (none), or a node. A queue's index is its number, a node's
is 16,384 + its number (R341). -/
def State.children (s : State) (port : Nat) (e : Option Nat) : List Nat :=
  let under := fun (pnode : Bool) (parent : Nat) => match e with | none => !pnode | some m => pnode && parent == m
  ((s.portQueues port).filter fun n => under (s.queue n).pnode (s.queue n).parent)
    ++ ((s.portNodes port).filter fun m => under (s.node m).pnode (s.node m).parent).map (16384 + ·)

/-- Whether a child is eligible; at most 3 nodes lie between a queue and its port scheduler (R336). -/
def State.childEligible (s : State) (port : Nat) : Nat → Nat → Bool
  | 0, _ => false
  | d + 1, k =>
    if k < 16384 then s.queueEligible port k
    else (s.node (k - 16384)).shaper.holds && (s.children port (some (k - 16384))).any (s.childEligible port d)

/-- Priority, weight and start tag of a child. -/
def State.childPrio (s : State) (k : Nat) : Nat := if k < 16384 then (s.queue k).prio else (s.node (k - 16384)).prio
@[inherit_doc State.childPrio] def State.childWeight (s : State) (k : Nat) : Nat :=
  if k < 16384 then (s.queue k).weight else (s.node (k - 16384)).weight
@[inherit_doc State.childPrio] def State.childTag (s : State) (k : Nat) : Nat :=
  if k < 16384 then (s.queue k).tag else (s.node (k - 16384)).tag
@[inherit_doc State.childPrio] def State.childActive (s : State) (k : Nat) : Bool :=
  if k < 16384 then (s.queue k).active else (s.node (k - 16384)).active

/-- Sets a child's start tag. -/
def State.setChildTag (s : State) (k t : Nat) : State :=
  if k < 16384 then s.modQueue k fun q => { q with tag := t } else s.modNode (k - 16384) fun q => { q with tag := t }
/-- Sets whether a child is active. -/
def State.setChildActive (s : State) (k : Nat) (b : Bool) : State :=
  if k < 16384 then s.modQueue k fun q => { q with active := b } else s.modNode (k - 16384) fun q => { q with active := b }

/-- The key of a group's virtual time: the element and the priority (R339). -/
def vKey (port : Nat) (e : Option Nat) (prio : Nat) : Nat := (match e with | none => port | some m => 128 + m) * 8 + prio

/-- A child that has become eligible takes the group's virtual time when its tag is stale (R342). -/
def State.activate (s : State) (port : Nat) (e : Option Nat) (k : Nat) : State :=
  let now := s.childEligible port 4 k
  if now && !s.childActive k then
    let v := s.sch.vtime.get (vKey port e (s.childPrio k)) 0
    let s := if 262144 < (s.childTag k + 2 ^ 32 - v) % 2 ^ 32 then s.setChildTag k v else s
    s.setChildActive k true
  else s.setChildActive k now

/-- Brings the activity of every child of a port up to date. -/
def State.refreshPort (s : State) (port : Nat) : State :=
  (none :: (s.portNodes port).map some).foldl (fun s e => (s.children port e).foldl (fun s k => s.activate port e k) s) s

/-- Whether tag a comes before tag b, as 32-bit signed differences (R341). -/
def tagBefore (a b : Nat) : Bool := decide (2 ^ 31 ≤ (a + 2 ^ 32 - b) % 2 ^ 32)

/-- The child an element serves: the highest priority with an eligible child, then the earliest tag, the lowest index on
ties (R341). -/
def State.bestChild (s : State) (port : Nat) (e : Option Nat) (d : Nat) : Option Nat :=
  let el := (s.children port e).filter (s.childEligible port d)
  (List.range 8).reverse.findSome? fun pr =>
    (el.filter fun k => s.childPrio k == pr).foldl (fun c k =>
      match c with
      | none => some k
      | some b => if tagBefore (s.childTag k) (s.childTag b) then some k else some b) none

/-- The path of a selection: each element with the child it serves, from the port scheduler to a queue. -/
def State.pickPath (s : State) (port : Nat) : Nat → Option Nat → List (Option Nat × Nat)
  | 0, _ => []
  | d + 1, e =>
    match s.bestChild port e (d + 1) with
    | none => []
    | some k => if k < 16384 then [(e, k)] else (e, k) :: s.pickPath port d (some (k - 16384))

/-- inc(L, w) of R340. -/
def tagInc (l w : Nat) : Nat := ceilDiv (l * 16) (max 1 w)

/-- Takes tokens for L bytes from a shaper; a negative amount gives them back (R343, R345). -/
def Shaper.charge (h : Shaper) (l : Int) : Shaper := if h.en then { h with tokens := h.tokens - l * 256 } else h

/-- Charges L to the shaper of a child. -/
def State.chargeChild (s : State) (k : Nat) (l : Int) : State :=
  if k < 16384 then s.modQueue k fun q => { q with shaper := q.shaper.charge l }
  else s.modNode (k - 16384) fun q => { q with shaper := q.shaper.charge l }

/-- Charges the tags, virtual times and shapers of a path with L (R341, R345). -/
def State.chargePath (s : State) (port l : Nat) : List (Option Nat × Nat) → State
  | [] => s.modPsched port fun x => { x with shaper := x.shaper.charge l }
  | (e, k) :: r =>
    let t := s.childTag k
    let s := { s with sch := { s.sch with vtime := s.sch.vtime.put (vKey port e (s.childPrio k)) 0 t } }
    ((s.setChildTag k ((t + tagInc l (s.childWeight k)) % 2 ^ 32)).chargeChild k l).chargePath port l r

/-- A path of a selection as a packet keeps it, with the priorities and weights it is charged by (R343). -/
def State.keepPath (s : State) (l : List (Option Nat × Nat)) : List PathStep :=
  l.map fun x => { elem := match x.1 with | none => 0 | some m => m + 1, child := x.2, prio := s.childPrio x.2, weight := s.childWeight x.2 }

/-- Gives back what a cut-through packet was charged too much (R343): at each level, never below the group's V. -/
def State.refundPath (s : State) (port l l' : Nat) : List PathStep → State
  | [] => s.modPsched port fun x => { x with shaper := x.shaper.charge ((l' : Int) - l) }
  | x :: r =>
    let k := x.child
    let v := s.sch.vtime.get (vKey port (if x.elem = 0 then none else some (x.elem - 1)) x.prio) 0
    let d := tagInc l x.weight - tagInc l' x.weight
    let ahead := (s.childTag k + 2 ^ 32 - v) % 2 ^ 32
    let t := if ahead < 2 ^ 31 ∧ d ≤ ahead then (s.childTag k + 2 ^ 32 - d) % 2 ^ 32 else v
    ((s.setChildTag k t).chargeChild k ((l' : Int) - l)).refundPath port l l' r

/-! ## Age (R348) -/

/-- Whether an enqueue time is over a queue's age limit: 0.1 ms is 125,000 core clocks. -/
def State.overAge (s : State) (q : Queue) (enq : Nat) : Bool :=
  q.age != 0 && decide (q.age * 125000 < s.coreNow - enq)

/-- Takes the head item off a queue. -/
def State.popQueue (s : State) (n : Nat) : State := s.modQueue n fun q => { q with items := q.items.tail }

/-- Counts age drops of a queue. -/
def State.countAge (s : State) (port n k : Nat) : State :=
  ((s.inc (Reg.SCH_AGE_DROP port) k).modQueue n fun q =>
      { q with ageDrops := min 0xFFFFFFFF (q.ageDrops + k), dropped := (q.dropped + k) % 2 ^ 64 })
    |>.logLimited 0x0C01 port k 0 fun _ c => d4 c

/-! ## Spilled runs (R314–R318) -/

/-- The size of the spill region in pages, and those of it that hold packets: all but its first 1/1,024, which is the page link
table (R314, R496). -/
def State.spillTotal (s : State) : Nat :=
  let gib := s.buf.spillGiB * 262144
  let rest := 2 ^ (20 + s.fg Fld.FLE_CFG_REGION) + 4 * 262144 + gib
  if s.fb Fld.BUF_SPILL_CFG_EXT then gib + (32 * 262144 - rest - 4096) else gib
@[inherit_doc State.spillTotal] def State.spillPages (s : State) : Nat := s.spillTotal - s.spillTotal / 1024

/-- Where the spill region begins (R496). -/
def State.spillBase (s : State) : Nat := 0x1000000000 + 512 * 2 ^ (23 + s.fg Fld.FLE_CFG_REGION) + 4 * 2 ^ 30

/-- The spilled runs on all queues. -/
def State.allRuns (s : State) : List Run :=
  s.sch.queues.flatMap fun e => e.2.items.filterMap fun i => match i with | .run r => some r | .pkt _ => none

/-- A number of pages from a page on, by the page link table (R314). -/
def State.pageChain (s : State) : Nat → Nat → List Nat
  | 0, _ => []
  | n + 1, p => p :: s.pageChain n (s.buf.links.get p 0)

/-- The run descriptor that a run gets: the lowest of 262,144–524,287 that no run holds (R295). (DESIGN CHOICE, log 104) -/
def State.newRun (s : State) : Nat :=
  let used := s.allRuns.map (·.number)
  262144 + ((List.range (used.length + 1)).find? fun k => !used.contains (262144 + k)).getD 0

/-- The pages that a run of `k` pages gets: the lowest free ones behind the page link table. (DESIGN CHOICE, log 104) -/
def State.freePages (s : State) (k : Nat) : List Nat :=
  let used := s.allRuns.flatMap fun r => s.pageChain r.pages r.firstPage
  (((List.range (used.length + k)).map (s.spillTotal / 1024 + ·)).filter fun p => !used.contains p).take k

/-- Links the pages of a run in the page link table; the last names page 0. -/
def State.linkPages (s : State) : List Nat → State
  | [] => s
  | p :: r => ({ s with buf := { s.buf with links := s.buf.links.put p 0 (r.headD 0) } }).linkPages r

/-- The pages of a run are free again. -/
def State.freePagesOf (s : State) (port n : Nat) (r : Run) : State :=
  { s with buf := { s.buf with usedPages := s.buf.usedPages - r.pages, spillFull := false } }.modOwner
    (egrOwner port (s.queue n).tc) fun u => { u with spillPages := u.spillPages - r.pages }

/-- Drops the packets of a run and frees its pages, unread. -/
def State.freeRun (s : State) (port n : Nat) (r : Run) : State :=
  (r.packets.foldl (fun s pid => s.dropQueued pid port) s).freePagesOf port n r

/-- The address of a block of a run's stream (R314). -/
def State.blockAddr (s : State) (r : Run) (b : Nat) : Nat :=
  s.spillBase + (s.pageChain r.pages r.firstPage).getD (b / 64) 0 * 4096 + b % 64 * 64

/-- The spill engine reads or writes the blocks of a run's stream (R314, R563). -/
def State.pmRun (s : State) (write : Bool) (r : Run) : State :=
  let blocks := (s.pageChain r.pages r.firstPage).flatMap fun p => (List.range 64).map fun i => s.spillBase + p * 4096 + i * 64
  (blocks.take (r.packets.length + 4 * r.cells)).foldl (fun s a => s.pmTouch 1 write 1 { kind := 0, addr := some a }) s

/-- A packet's bytes when block `j` of its part of the stream was misread: block 0 is its descriptor, and each cell image is four
blocks, its header of 16 bytes first (R293, R314). -/
def misreadBlock (bs : List Byte) (j : Nat) (d : BlockErr) : List Byte :=
  let o := (j - 1) % 4 * 64
  let data := d.filter fun x => decide (x.1 < 64 ∧ 16 ≤ o + x.1)
  if j = 0 then bs
  else misread bs ((j - 1) / 4 * 240 + (o - 16)) (if o = 0 then data.map fun x => (x.1 - 16, x.2) else data)

/-- Whether a packet's part of a run's stream holds a block (R314). -/
def Packet.holdsBlock (p : Packet) (i : Nat) : Bool := decide (p.blocks.1 ≤ i ∧ i < p.blocks.1 + 1 + 4 * p.blocks.2)

/-- The queue, the run and the packet whose block lies at an address. -/
def State.spilledAt (s : State) (a : Nat) : Option (Nat × Run × Nat) :=
  s.sch.queues.findSome? fun e => e.2.items.findSome? fun i =>
    match i with
    | .pkt _ => none
    | .run r => (r.packets.find? fun pid =>
        let p := s.pkt pid
        (List.range (1 + 4 * p.blocks.2)).any fun j => s.blockAddr r (p.blocks.1 + j) == a).map fun pid => (e.1, r, pid)

/-- A block of package memory that holds spilled packets is uncorrectable: the packet whose block it is is dropped (R318). -/
def State.lostSpill (s : State) (a : Nat) : State :=
  match s.spilledAt a with
  | none => s
  | some (n, r, pid) =>
    let port := (s.portOf n).getD 0
    let kept := r.packets.erase pid
    let s := ((s.inc Reg.BUF_SPILL_UNCORR).modQueue n fun q =>
      { q with items := q.items.flatMap fun i =>
          if i = .run r then (if kept = [] then [] else [.run { r with packets := kept }]) else [i] }).dropQueued pid port
    if kept = [] then s.freePagesOf port n r else s

/-- Charges read-back cells to the egress owner without admission: to its reserve while that has room, else to its shared
area (R316). -/
def State.chargeBack (s : State) (pid o n : Nat) : State :=
  let a := if (s.ownerUse o).r + n ≤ (s.ownerCfg o).min then Area.reserve else Area.shared
  (s.charge o a n).modPkt pid fun p => { p with egr := { owner := o, area := a, cells := n } }

/-- Reads the packets of a run back, in order, while the return reserve has room: those restored, what is left of the run,
and the state. `errors` are the errors of blocks of the run's stream: a packet that holds an uncorrectable one is dropped (R318).
(DEDUCED, log 96) -/
def State.readBack (s : State) (port n : Nat) (run : Run) (errors : List (Nat × BlockErr)) :
    List Nat → List QItem × List Nat × State
  | [] => ([], [], s)
  | pid :: r =>
    let p := s.pkt pid
    let k := p.blocks.2
    let mine := errors.filter fun e => p.holdsBlock e.1
    match mine.find? fun e => (rsDecode e.2).seen == .uncorrectable with
    | some (b, _) =>
      let a := s.blockAddr run b
      ((((s.inc Reg.BUF_SPILL_UNCORR).log 0x1502 (d5 a)).duePage (pageOf a)).dropQueued pid port).readBack port n run errors r
    | none =>
      if s.fg Fld.BUF_RET_RET_CELLS < s.buf.retUsed + k then ([], pid :: r, s)
      else
        let (cs, s') := s.allocCells (s.egressSlice port) codeSpill k
        if cs.length < k then ([], pid :: r, s)
        else
          let s' := mine.foldl (fun s e => (s.readBlock (s.blockAddr run e.1) e.2).2) s'
          let bytes := mine.foldl (fun bs e => misreadBlock bs (e.1 - p.blocks.1) (rsDecode e.2).diff) p.bytes
          let d := s'.newDesc
          let s := { s' with buf := { s'.buf with retUsed := s'.buf.retUsed + k } }
          let s := s.setPkt pid
            { p with cells := cs, gen := (s.cell (cs.headD 0)).gen, tag := codeSpill, ret := k, desc := d, bytes := bytes }
          let o := egrOwner port (s.queue n).tc
          let s := (((s.linkCells pid p.ing.owner p.len cs).handOver pid (s.queueTag port)).chargeBack pid o k)
          let (a, b, s) := s.readBack port n run errors r
          (.pkt pid :: a, b, s)

/-- Reads a run back as far as it gets: what takes its place in the queue. Its pages are freed when its last packet has been read
(R316). -/
def State.fetchRun (s : State) (port n : Nat) (errors : List (Nat × BlockErr)) (run : Run) : List QItem × State :=
  let (back, rest, s) := s.readBack port n run errors run.packets
  if rest = [] then (back, (s.freePagesOf port n run).evc 189 run.pages)
  else (back ++ [.run { run with packets := rest, oldest := (s.pkt (rest.headD 0)).enq }], s)

/-! ## Age drops and flushes (R75, R76, R319, R348) -/

/-- Drops the aged heads of a queue, one by one; a run whose newest packet is over the limit is freed unread (R348). -/
def State.dropAged (s : State) (port n : Nat) : Nat → State
  | 0 => s
  | f + 1 =>
    let q := s.queue n
    match q.items with
    | .pkt pid :: _ =>
      if s.overAge q (s.pkt pid).enq then (((s.popQueue n).countAge port n 1).dropQueued pid port).dropAged port n f else s
    | .run r :: _ =>
      if s.overAge q r.newest then
        (((s.popQueue n).countAge port n r.packets.length).freeRun port n r).dropAged port n f
      else s
    | [] => s

/-- Drops every queued packet of a port for whose enqueue time `gone` holds, and counts them: the number dropped, and the state. A
run goes or stays whole and unread where its newest and oldest packets agree; else it is read back and its packets are checked one by
one (R319). -/
def State.purgeQueue (s : State) (port n : Nat) (gone : Queue → Nat → Bool) : Nat × State :=
  let q := s.queue n
  q.items.foldl (fun (k, s) i =>
    match i with
    | .pkt pid =>
      if gone q (s.pkt pid).enq then
        (k + 1, ((s.modQueue n fun q =>
          { q with items := q.items.filter (· ≠ .pkt pid), dropped := (q.dropped + 1) % 2 ^ 64 }).dropQueued pid port))
      else (k, s)
    | .run r =>
      if gone q r.newest then
        (k + r.packets.length, ((s.modQueue n fun q =>
          { q with items := q.items.filter (· ≠ .run r), dropped := (q.dropped + r.packets.length) % 2 ^ 64 }).freeRun port n r))
      else if gone q r.oldest then
        let (aged, kept) := r.packets.partition fun pid => gone q (s.pkt pid).enq
        let s := aged.foldl (fun s pid => s.dropQueued pid port) s
        let (items, s) := s.fetchRun port n [] { r with packets := kept }
        (k + aged.length, s.modQueue n fun q =>
          { q with items := q.items.flatMap fun i => if i = .run r then items else [i]
                   dropped := (q.dropped + aged.length) % 2 ^ 64 })
      else (k, s)) (0, s)

/-- As `purgeQueue`, for all queues of a port. -/
def State.purgePort (s : State) (port : Nat) (gone : Queue → Nat → Bool) : Nat × State :=
  (s.portQueues port).foldl (fun (k, s) n => let (j, s) := s.purgeQueue port n gone; (k + j, s)) (0, s)

end Sys2Proof.Machine
end

