-- ==== Sys2Proof/Machine/Records.lean ====
section
/-! DEFINITION. Flow records as bytes (R139–R141), zones and their Graft roles, the Graft log (R428–R431), and the queue of
Harvest (R569–R575). -/

namespace Sys2Proof.Machine

/-! ## Records as bytes -/

/-- The key-flags byte of a record (R140). -/
def Record.keyFlags (r : Record) : Nat :=
  128 + 64 * ofBool r.key.v6 + 32 * ofBool r.pinned + 16 * ofBool r.poisoned + r.key.kind % 16

/-- The record copy that a creation shows: the key fields, key flags and generation of a record, everything else zero (R198). -/
def Record.blank (r : Record) : Record := { key := r.key, pinned := r.pinned, poisoned := r.poisoned, gen := r.gen }

/-- A poison marker of a family (R172). -/
def poisonMarker (v6 : Bool) (gen : Nat) : Record := { key := { v6 := v6 }, poisoned := true, gen := gen }

/-- The bytes of a record's key: bytes 0–15 of an IPv4 record, 0–39 of the first slot of an IPv6 record. -/
def Record.keyBytes (r : Record) : List Byte :=
  let n := if r.key.v6 then 16 else 4
  beBytes n r.key.addrA ++ beBytes n r.key.addrB ++ beBytes 2 r.key.portA ++ beBytes 2 r.key.portB
    ++ beBytes 1 r.key.proto ++ beBytes 1 r.keyFlags ++ beBytes 2 r.key.zone

/-- The bytes of a record after its key: bytes 16–61 of an IPv4 record, 0–57 of the second slot of an IPv6 record. -/
def Record.dataBytes (r : Record) : List Byte :=
  beBytes 1 r.state ++ beBytes 1 r.flags ++ beBytes 2 r.prog ++ beBytes 3 r.policer ++ beBytes 1 r.gen
    ++ beBytes (if r.key.v6 then 16 else 4) r.xaddr ++ beBytes 2 r.xport ++ beBytes 2 r.member
    ++ beBytes 5 r.pktsAB ++ beBytes 5 r.pktsBA ++ beBytes 6 r.bytesAB ++ beBytes 6 r.bytesBA
    ++ beBytes 4 r.lastSeen ++ beBytes 4 r.created

/-- The slots of a record: 64 bytes, or 128 of an IPv6 record. -/
def Record.bytes (r : Record) : List Byte :=
  if r.key.v6 then r.keyBytes ++ List.replicate 24 0 ++ r.dataBytes ++ List.replicate 6 0
  else r.keyBytes ++ r.dataBytes ++ beBytes 2 r.gseq

/-- The big-endian value of `n` bytes from an offset. -/
def beAt (bs : List Byte) (off n : Nat) : Nat := beNat (sliceBytes bs off n)

/-- The fields in the bytes of a slot or of two, reserved bits included. -/
def recordRaw (v6 : Bool) (bs : List Byte) : Record :=
  let a := if v6 then 16 else 4
  let k := 2 * a + 4
  let fl := beAt bs (k + 1) 1
  let d := if v6 then 64 else 16
  let x := d + 8 + a
  { key := { v6 := v6, kind := fl % 16, zone := beAt bs (k + 2) 2, proto := beAt bs k 1, addrA := beAt bs 0 a,
             addrB := beAt bs a a, portA := beAt bs (2 * a) 2, portB := beAt bs (2 * a + 2) 2 }
    pinned := bitAt fl 5, poisoned := bitAt fl 4, state := beAt bs d 1, flags := beAt bs (d + 1) 1,
    prog := beAt bs (d + 2) 2, policer := beAt bs (d + 4) 3, gen := beAt bs (d + 7) 1, xaddr := beAt bs (d + 8) a,
    xport := beAt bs x 2, member := beAt bs (x + 2) 2, pktsAB := beAt bs (x + 4) 5, pktsBA := beAt bs (x + 9) 5,
    bytesAB := beAt bs (x + 14) 6, bytesBA := beAt bs (x + 20) 6, lastSeen := beAt bs (x + 26) 4,
    created := beAt bs (x + 30) 4, gseq := if v6 then 0 else beAt bs 62 2 }

/-- A record with its reserved bits zero: bits 2:0 of the record flags and bits 22:17 of the policer (R11, R139–R141). -/
def Record.clean (r : Record) : Record :=
  { r with flags := r.flags / 8 * 8, policer := r.policer / 2 ^ 23 * 2 ^ 23 + r.policer % 2 ^ 17 }

/-- The record that a write of the bytes of a slot or of two leaves: reserved bits stay zero (R11). -/
def recordOf (v6 : Bool) (bs : List Byte) : Record := (recordRaw v6 bs).clean

/-- What a read of the bytes of a slot or of two gives a lookup: a record of the slot's family, or nothing that can match
(R142). -/
def recordRead (v6 : Bool) (bs : List Byte) : Option Record :=
  let fl := beAt bs (if v6 then 37 else 13) 1
  if bitAt fl 7 && bitAt fl 6 == v6 then some (recordRaw v6 bs) else none

/-- The key bytes of the flow hash (R111). -/
def FlowKey.hashBytes (k : FlowKey) : List Byte :=
  let n := if k.v6 then 16 else 4
  beBytes 2 k.zone ++ beBytes 1 k.proto ++ beBytes n k.addrA ++ beBytes n k.addrB ++ beBytes 2 k.portA ++ beBytes 2 k.portB

/-- The flow hash of a key, hash_hi in bits 63:32 (R111). -/
def State.keyHash (s : State) (k : FlowKey) : Nat :=
  crc32 (s.rd Reg.PAR_HASH_SEED_HI).toNat k.hashBytes * 2 ^ 32 + crc32c (s.rd Reg.PAR_HASH_SEED_LO).toNat k.hashBytes

/-- The canonical key of two endpoints: the lower (address, port) is side A (R111). `true` says the source is side A. -/
def canonicalKey (v6 : Bool) (kind zone proto sa da sp dp : Nat) : Bool × FlowKey :=
  if sa < da ∨ (sa = da ∧ sp ≤ dp) then
    (true, { v6 := v6, kind := kind, zone := zone, proto := proto, addrA := sa, addrB := da, portA := sp, portB := dp })
  else (false, { v6 := v6, kind := kind, zone := zone, proto := proto, addrA := da, addrB := sa, portA := dp, portB := sp })

/-- The record flags (R140). -/
def Record.flag (r : Record) (b : Nat) : Bool := bitAt r.flags b
/-- Sets or clears a record flag. -/
def Record.setFlag (r : Record) (b : Nat) (v : Bool) : Record := { r with flags := setBit r.flags b v }
/-- Record-flag bits. -/
def bMirrored : Nat := 7
@[inherit_doc bMirrored] def bExport : Nat := 6
@[inherit_doc bMirrored] def bXlated : Nat := 5
@[inherit_doc bMirrored] def bBalanced : Nat := 4
@[inherit_doc bMirrored] def bCountOnly : Nat := 3

/-! ## Zones -/

/-- A zone's entry (R157, R183). -/
def State.zone (s : State) (z : Nat) : Zone := s.fle.zones.get z {}

/-- Changes a zone's entry. -/
def State.modZone (s : State) (z : Nat) (f : Zone → Zone) : State :=
  { s with fle := { s.fle with zones := s.fle.zones.put z {} (f (s.zone z)) } }

/-- A zone's Graft state. -/
def State.gzone (s : State) (z : Nat) : GZone := s.grf.zones.get z {}

/-- Changes a zone's Graft state. -/
def State.modGzone (s : State) (z : Nat) (f : GZone → GZone) : State :=
  { s with grf := { s.grf with zones := s.grf.zones.put z {} (f (s.gzone z)) } }

/-- A zone's role on this device: owner, or standby; none for a local zone (R419). -/
def State.role (s : State) (z : Nat) : Option Bool := if (s.gzone z).paired then some (s.gzone z).owner else none

/-- Whether a zone's role on this device is standby (R419). -/
def State.standby (s : State) (z : Nat) : Bool := s.role z == some false

/-- Whether the device writes a record as its zone's owner (R420): a zone in service under an operation has the role that the
operation started with (R422). -/
def State.owns (s : State) (k : FlowKey) : Bool :=
  (match s.fle.ops.find? fun e => e.2.key == k with | some e => e.2.role | none => s.role k.zone) == some true

/-- The pairing state: 0 OFF, 1 AUTH, 2 PAIRED, 3 SUSPENDED, 4 ALONE, 5 QUARANTINE (R455). -/
def State.pairing (s : State) : Nat := s.fg Fld.GRF_STATUS_PAIR

/-- Whether a zone is in sync (R446). -/
def State.inSync (s : State) (z : Nat) : Bool := s.pairing == 2 && (s.gzone z).state == 1

/-- The profile of a zone, and one of its timeouts in seconds (R164). -/
def State.profile (s : State) (z : Nat) : Nat := (s.zone z).profile
@[inherit_doc State.profile] def State.timeoutS (s : State) (z cls : Nat) : Nat :=
  let p := s.profile z
  if cls % 2 = 0 then s.fg (Fld.FLE_ZPROF_TMO_TMO_LO p (cls / 2)) else s.fg (Fld.FLE_ZPROF_TMO_TMO_HI p (cls / 2))

/-! ## The Graft log (R428–R431) -/

/-- Whether entries of a paired zone can be logged now, if the device owns it (R431, R445). -/
def State.loggable (s : State) (z : Nat) : Bool :=
  let g := s.gzone z
  g.paired && (s.pairing == 2 || s.pairing == 3) && (g.state == 1 || (g.state == 3 && decide (2 ≤ g.step)))

/-- Whether the device logs entries for a zone now (R428, R431, R445). -/
def State.logsZone (s : State) (z : Nat) : Bool := (s.gzone z).owner && s.loggable z

/-- A zone diverges (R431). -/
def State.diverge (s : State) (z : Nat) : State :=
  (s.modGzone z fun g => { g with state := 2, step := 0 }).log 0x100A (d2 z)

/-- Whether two bodies are of the same record. -/
def GBody.sameRecord : GBody → FlowKey → Bool
  | .upsert r, k => r.key == k
  | .delete k', k => k' == k
  | .mapping _, _ => false

/-- Appends an entry; the answer is its sequence number, if it was logged (R431). -/
def State.graftAppend (s : State) (z : Nat) (walk : Bool) (b : GBody) : Option Nat × State :=
  if 8388608 ≤ s.grf.log.length then (none, s.diverge z)
  else
    let n := s.grf.nextSeq
    let e : LogEntry := { seq := n, zone := z, walk := walk, body := b, at' := s.aon }
    (some n, { s with grf := { s.grf with log := s.grf.log ++ [e], nextSeq := (n + 1) % 2 ^ 48 } }.inc Reg.GRF_ENTRIES_TX)

/-- Folds an entry into the record's unsent one, when its log position is still cached, or appends it (R429). The answer
is the entry's sequence number. -/
def State.graftEntry (s : State) (z : Nat) (k : FlowKey) (cached : Bool) (b : GBody) : Option Nat × State :=
  if !(s.owns k && s.loggable z) then (none, s)
  else
    match (s.grf.log.filter fun e => e.body.sameRecord k).getLast? with
    | some e =>
      if !e.sent && cached then
        (some e.seq, { s with grf := { s.grf with
          log := s.grf.log.map fun (x : LogEntry) => if x.seq = e.seq then { x with body := b } else x } }.inc Reg.GRF_FOLDED)
      else s.graftAppend z false b
    | none => s.graftAppend z false b

/-- Logs an upsert; the answer is the record with bytes 62–63 kept as R430 states. -/
def State.graftUpsert (s : State) (r : Record) (cached : Bool) : Record × State :=
  match s.graftEntry r.key.zone r.key cached (.upsert r) with
  | (none, s) => (r, s)
  | (some n, s) =>
    let r' := if r.key.v6 then r else { r with gseq := n % 65536 }
    (r', { s with grf := { s.grf with
      log := s.grf.log.map fun (x : LogEntry) => if x.seq = n then { x with body := .upsert r' } else x } })

/-- Logs a delete. -/
def State.graftDelete (s : State) (k : FlowKey) (cached : Bool) : State := (s.graftEntry k.zone k cached (.delete k)).2

/-- Logs a mapping entry; mapping entries are never folded (R428, R429). A freed mapping has state 0. -/
def State.graftMapping (s : State) (m : Mapping) : State :=
  if s.logsZone m.zone then (s.graftAppend m.zone false (.mapping m)).2 else s

/-! ## Harvest's queue (R569–R575) -/

/-- Network time in milliseconds (R572). -/
def State.netMs (s : State) : Nat := s.net.sec * 1000 + s.net.ns / 1000000

/-- Whether flow records of a zone are exported (R569). -/
def State.exports (s : State) (z : Nat) : Bool :=
  s.fb Fld.HRV_CFG_EN && bitAt (s.rd (Reg.HRV_ZPROF_EN (s.profile z / 32))).toNat (s.profile z % 32) && !s.standby z

/-- The bytes of a flow record for export (R571, R572). -/
def State.flowExport (s : State) (r : Record) (reason : Nat) : HarvestRec :=
  let n := if r.key.v6 then 16 else 4
  let x := r.flag bXlated
  let last := (s.netMs + 2 ^ 64 - (s.flowMs % 2 ^ 32 + 2 ^ 32 - r.lastSeen) % 2 ^ 32) % 2 ^ 64
  let start := ((s.netMs : Int) - ((s.flowMs / 1000 : Nat) - (r.created : Nat) : Int) * 1000)
  { template := if r.key.v6 then 257 else 256, at' := s.aon
    bytes := beBytes n r.key.addrA ++ beBytes n r.key.addrB ++ beBytes 2 r.key.portA ++ beBytes 2 r.key.portB
      ++ beBytes 1 r.key.proto ++ beBytes 1 reason ++ beBytes 4 r.key.zone ++ beBytes 8 r.pktsAB ++ beBytes 8 r.bytesAB
      ++ beBytes 8 r.pktsBA ++ beBytes 8 r.bytesBA ++ beBytes 8 (wrapInt start 64) ++ beBytes 8 last
      ++ beBytes n (if x then r.xaddr else 0) ++ beBytes 2 (if x then r.xport else 0) }

/-- Puts a record in Harvest's queue, or answers none when it is full (R575). -/
def State.harvestPut (s : State) (h : HarvestRec) : Option State :=
  if 65536 ≤ s.hrv.queue.length then none else some { s with hrv := { s.hrv with queue := s.hrv.queue ++ [h] } }

/-- Counts a record that found the queue full (R575). -/
def State.harvestLost (s : State) : State := (s.inc Reg.HRV_LOST).logLimited 0x1301 0 1 0 fun _ c => d4 c

/-- Exports an end record (R569). -/
def State.exportEnd (s : State) (r : Record) (reason : Nat) : State :=
  if s.exports r.key.zone then (s.harvestPut (s.flowExport r reason)).getD s.harvestLost else s

/-- The interim request of a write-back (R570): `last` is the last seen before it. -/
def State.exportInterim (s : State) (r : Record) (last : Nat) : Record × State :=
  let active := s.fg Fld.HRV_ACTIVE_ACTIVE_S
  let now := s.flowMs / 1000 % 2 ^ 32
  let due := active ≠ 0 ∧ (last / 1000 - r.created) / active ≠ (now - r.created) / active
  if s.exports r.key.zone && (r.flag bExport || decide due) then
    match s.harvestPut (s.flowExport (r.setFlag bExport false) 2) with
    | some s => (r.setFlag bExport false, s)
    | none => (r.setFlag bExport true, s.inc Reg.HRV_DEFERRED)
  else (r, s)

/-- Exports a NAT event (R573). -/
def State.natRecord (s : State) (ev zone addr pub proto sport pport lo hi pool : Nat) : State :=
  if s.fb Fld.HRV_CFG_EN && s.fb Fld.HRV_CFG_NAT_EN then
    (s.harvestPut
      { template := 258, at' := s.aon
        bytes := beBytes 1 ev ++ beBytes 8 s.netMs ++ beBytes 4 zone ++ beBytes 4 addr ++ beBytes 4 pub ++ beBytes 1 proto
          ++ beBytes 2 sport ++ beBytes 2 pport ++ beBytes 2 lo ++ beBytes 2 hi ++ beBytes 4 pool }).getD s.harvestLost
  else s

/-- Exports a NAT event of a zone, when this device owns the zone (R573). -/
def State.exportNat (s : State) (ev zone addr pub proto sport pport lo hi pool : Nat) : State :=
  if s.standby zone then s else s.natRecord ev zone addr pub proto sport pport lo hi pool

end Sys2Proof.Machine
end

