-- ==== Sys2Proof/Machine/Xlb.lean ====
section
/-! DEFINITION. The XLB unit (chapter 6): subscribers, blocks, mappings and references, NATMAP and NATREL, load-balancing
groups. -/

namespace Sys2Proof.Machine

/-! ## Tables in buckets of eight (R234, R259) -/

/-- The entry of a bucketed table in either candidate bucket for which `p` holds; the first candidate comes first. -/
def bucketFind {α : Type} (t : Table α) (b0 b1 : Nat) (p : α → Bool) : Option (Nat × α) :=
  let f := fun b => t.find? fun e => e.1 / 8 == b && p e.2
  (f b0).orElse fun _ => f b1

/-- The lowest free place of a bucket. -/
def bucketFree {α : Type} (t : Table α) (b : Nat) : List Nat :=
  ((List.range 8).map (b * 8 + ·)).filter fun k => !(t.any fun e => e.1 == k)

/-- The place of a new entry: in the bucket with more free entries, ties to the first (R234, R265). -/
def bucketPlace {α : Type} (t : Table α) (b0 b1 : Nat) : Option Nat :=
  let f0 := bucketFree t b0
  let f1 := bucketFree t b1
  if f0.length < f1.length then f1.head? else f0.head?

/-- The hash of the XLB tables (R234). -/
def State.xlbHash (s : State) (k : List Byte) : Nat := crc32c (s.rd Reg.PAR_HASH_SEED_LO).toNat k

/-- The candidate buckets of an inside address (R234). -/
def State.subBuckets (s : State) (zone addr : Nat) : Nat × Nat :=
  let h := s.xlbHash (beBytes 2 zone ++ beBytes 4 addr)
  (bitsOf h 17 0, bitsOf h 31 14)
/-- The candidate buckets of an inside endpoint. -/
def State.fwdBuckets (s : State) (zone addr port proto : Nat) : Nat × Nat :=
  let h := s.xlbHash (beBytes 2 zone ++ beBytes 4 addr ++ beBytes 2 port ++ beBytes 1 proto)
  (bitsOf h 20 0, bitsOf h 31 11)
/-- The candidate buckets of a public endpoint. -/
def State.revBuckets (s : State) (pub pport : Nat) : Nat × Nat :=
  let h := s.xlbHash (beBytes 2 pub ++ beBytes 2 pport)
  (bitsOf h 20 0, bitsOf h 31 11)

/-- The subscriber entry of an inside address. -/
def State.subFind (s : State) (zone addr : Nat) : Option (Nat × Subscriber) :=
  let (a, b) := s.subBuckets zone addr
  bucketFind s.xlb.subs a b fun e => e.zone == zone && e.addr == addr
/-- The forward entry of an inside endpoint. -/
def State.fwdFind (s : State) (zone addr port proto : Nat) : Option (Nat × Mapping) :=
  let (a, b) := s.fwdBuckets zone addr port proto
  bucketFind s.xlb.fwd a b fun e => e.zone == zone && e.addr == addr && e.port == port && e.proto == proto
/-- The reverse entry of a public endpoint. -/
def State.revFind (s : State) (pub pport : Nat) : Option (Nat × Mapping) :=
  let (a, b) := s.revBuckets pub pport
  bucketFind s.xlb.rev a b fun e => e.pub == pub && e.pport == pport

/-! ## Pools, blocks and granules -/

/-- A pool's parameters: its first address, its count, its first port, its block size and its blocks per address
(R232). -/
def State.poolFirst (s : State) (p : Nat) : Nat := s.fg (Fld.XLB_POOL_ADDR_FIRST p)
@[inherit_doc State.poolFirst] def State.poolCount (s : State) (p : Nat) : Nat := s.fg (Fld.XLB_POOL_ADDR_COUNT p)
@[inherit_doc State.poolFirst] def State.poolLo (s : State) (p : Nat) : Nat := s.fg (Fld.XLB_POOL_PORTS_PORT_LO p)
@[inherit_doc State.poolFirst] def State.poolB (s : State) (p : Nat) : Nat := 64 * 2 ^ s.fg (Fld.XLB_POOL_CFG_BLOCK p)
@[inherit_doc State.poolFirst] def State.poolBlocks (s : State) (p : Nat) : Nat :=
  (s.fg (Fld.XLB_POOL_PORTS_PORT_HI p) + 1 - s.poolLo p) / s.poolB p

/-- The public address entry i. -/
def State.pubAddr (s : State) (i : Nat) : Nat := (s.rd (Reg.XLB_ADDR i)).toNat

/-- The index of an address among a pool's, if it is one of them. -/
def State.poolIndexOf (s : State) (p addr : Nat) : Option Nat :=
  ((List.range (s.poolCount p)).map (s.poolFirst p + ·)).find? fun i => s.pubAddr i == addr

/-- The enabled pool an address entry belongs to. -/
def State.poolOfIndex (s : State) (i : Nat) : Option Nat :=
  (List.range 256).find? fun p =>
    s.fb (Fld.XLB_POOL_CFG_EN p) && decide (s.poolFirst p ≤ i ∧ i < s.poolFirst p + s.poolCount p)

/-- A granule, and its change. -/
def State.gran (s : State) (g : Nat) : Granule := s.xlb.grans.get g {}
@[inherit_doc State.gran] def State.modGran (s : State) (g : Nat) (f : Granule → Granule) : State :=
  { s with xlb := { s.xlb with grans := s.xlb.grans.put g {} (f (s.gran g)) } }

/-- The granules of block n of an address, the first one first. -/
def State.blockGrans (s : State) (p a n : Nat) : List Nat :=
  let g := a * 1024 + (s.poolLo p + n * s.poolB p) / 64
  (List.range (s.poolB p / 64)).map (g + ·)

/-- Whether block n of an address is free (R237). -/
def State.blockFree (s : State) (p a n : Nat) : Bool :=
  let gs := s.blockGrans p a n
  (gs.all fun g => (s.gran g).owner.isNone) && !(s.gran (gs.headD 0)).held

/-- How many blocks of an address are free. -/
def State.freeBlocks (s : State) (p a : Nat) : Nat := ((List.range (s.poolBlocks p)).filter (s.blockFree p a)).length

/-- The pool address with the most free blocks, the lowest index on ties, when it has one (R237). -/
def State.bestAddr (s : State) (p : Nat) : Option Nat :=
  let as := (List.range (s.poolCount p)).map fun i => (s.poolFirst p + i, s.freeBlocks p (s.poolFirst p + i))
  (as.foldl (fun (b : Option (Nat × Nat)) x =>
    match b with
    | none => if 0 < x.2 then some x else none
    | some y => if y.2 < x.2 then some x else some y) none).map (·.1)

/-- Sets a subscriber entry. -/
def State.setSub (s : State) (n : Nat) (u : Subscriber) : State :=
  { s with xlb := { s.xlb with subs := s.xlb.subs.ins n u } }

/-- The watch on a pool's use against HIGH_PCT (R244), with the event of R573. (DESIGN CHOICE, log 54) -/
def State.poolHigh (s : State) (p : Nat) : State :=
  let use := s.fg (Fld.XLB_POOL_USE_BLOCKS p) * 100
  let all := s.poolBlocks p * s.poolCount p
  let pct := s.fg (Fld.XLB_POOL_CFG_HIGH_PCT p)
  if s.xlb.high.contains p then
    if use < (pct - 5) * all then { s with xlb := { s.xlb with high := s.xlb.high.erase p } } else s
  else if pct * all ≤ use ∧ use ≠ 0 then
    ({ s with xlb := { s.xlb with high := p :: s.xlb.high } }.log 0x0903).natRecord 16 0 0 0 0 0 0 0 0 p
  else s

/-- Block k of an address becomes the subscriber's (R237). -/
def State.takeBlockAt (s : State) (n : Nat) (u : Subscriber) (a k : Nat) : Subscriber × State :=
  let p := u.pool
  let lo := s.poolLo p + k * s.poolB p
  let u' := { u with pub := a, blocks := u.blocks ++ [k] }
  let s := { s with xlb := { s.xlb with cursor := s.xlb.cursor.put a 0 (k + 1) } }
  let s := s.modGran ((s.blockGrans p a k).headD 0) fun g => { g with owner := some n }
  let s := s.setSub n u'
  let s := if u.blocks = [] then s.fs Fld.XLB_SUBS_COUNT (s.fg Fld.XLB_SUBS_COUNT + 1) else s
  let s := s.fs (Fld.XLB_POOL_USE_BLOCKS p) (s.fg (Fld.XLB_POOL_USE_BLOCKS p) + 1)
  let s := s.exportNat 14 u.zone u.addr (s.pubAddr a) 0 0 0 lo (lo + s.poolB p - 1) p
  (u', s.poolHigh p)

/-- take_block (R237): the first free block of an address at or after its cursor, wrapping, becomes the subscriber's. -/
def State.takeBlock (s : State) (n : Nat) (u : Subscriber) (a : Nat) : Option (Nat × Subscriber × State) :=
  let nb := s.poolBlocks u.pool
  let c := s.xlb.cursor.get a 0
  (((List.range nb).map fun i => (c + i) % max 1 nb).find? (s.blockFree u.pool a)).map fun k => (k, s.takeBlockAt n u a k)

/-- Whether a public port of an address is in use. -/
def State.portUsed (s : State) (a port : Nat) : Bool := bitAt (s.gran (a * 1024 + port / 64)).used (port % 64)

/-- A block's free port from the preferred one upward, wrapping in the block (R237). -/
def State.freePort (s : State) (p a k sport : Nat) : Option Nat :=
  let b := s.poolB p
  let base := s.poolLo p + k * b
  ((List.range b).map fun i => base + (sport % b + i) % b).find? fun q => !s.portUsed a q

/-! ## Mappings and references (R237–R241) -/

/-- Sets the reverse entry of a mapping. -/
def State.setRev (s : State) (k : Nat) (m : Mapping) : State :=
  { s with xlb := { s.xlb with rev := s.xlb.rev.ins k m } }

/-- allocate() (R237): none when the forward or the reverse table has no room. -/
def State.allocate (s : State) (n : Nat) (u : Subscriber) (port sport proto : Nat) : Option (Mapping × State) :=
  let (f0, f1) := s.fwdBuckets u.zone u.addr sport proto
  let (r0, r1) := s.revBuckets u.pub port
  match bucketPlace s.xlb.fwd f0 f1, bucketPlace s.xlb.rev r0 r1 with
  | some f, some r =>
    let m : Mapping :=
      { pub := u.pub, pport := port, zone := u.zone, addr := u.addr, port := sport, proto := proto, state := 1 }
    let s := s.modGran (u.pub * 1024 + port / 64) fun g => { g with used := setBit g.used (port % 64) true }
    let s := { s with xlb := { s.xlb with fwd := s.xlb.fwd.ins f { m with state := 0 }, rev := s.xlb.rev.ins r m } }
    let s := (s.setSub n { u with maps := u.maps + 1 }).fs Fld.XLB_MAPS_COUNT (s.fg Fld.XLB_MAPS_COUNT + 1)
    some (m, ((s.graftMapping m).pmTables true 3).exportNat 6 u.zone u.addr (s.pubAddr u.pub) proto sport port 0 0 u.pool)
  | _, _ => none

/-- Takes a reference on a mapping. (DEDUCED, log 37) -/
def State.takeRef (s : State) (pub pport : Nat) : State :=
  match s.revFind pub pport with
  | some (k, m) =>
    let m := { m with refs := min 0xFFFFFF (m.refs + 1) }
    (s.setRev k m).graftMapping m
  | none => s

/-- Counts a release that finds no reference (R239). (DEDUCED, log 37) -/
def State.refUnder (s : State) : State := (s.inc Reg.XLB_REF_UNDER).log 0x0905

/-- Releases a reference of the mapping at a public endpoint when `inside` holds of it (R239, R241). -/
def State.releaseRef (s : State) (pub pport : Nat) (inside : Mapping → Bool) : State :=
  match s.revFind pub pport with
  | some (k, m) =>
    if !inside m || m.refs == 0 then s.refUnder
    else
      let m := if m.refs = 1 then { m with refs := 0, state := 2, since := s.aon } else { m with refs := m.refs - 1 }
      (s.setRev k m).graftMapping m
  | none => s.refUnder

/-- Whether a record's translation link holds a mapping reference (R231). -/
def Record.hasRef (r : Record) : Bool := r.flag bXlated && !r.flag bBalanced && bitAt r.member 14

/-- The public endpoint of the mapping a record refers to, with a test of the inside endpoint it names (R239). -/
def State.recordRef (s : State) (r : Record) : Option (Nat × Nat × (Mapping → Bool)) :=
  if !r.hasRef then none
  else
    let i := r.member % 8192
    if bitAt r.member 15 then
      let ok := fun m : Mapping => m.addr == r.xaddr && m.port == r.xport
      let at' := fun port => match s.revFind i port with | some (_, m) => ok m | none => false
      let pub := s.pubAddr i
      if r.key.addrA == pub && (at' r.key.portA || r.key.addrB != pub) then some (i, r.key.portA, ok)
      else some (i, r.key.portB, ok)
    else
      some (i, r.xport, fun m => m.zone == r.key.zone && m.proto == r.key.proto
        && ((m.addr == r.key.addrA && m.port == r.key.portA) || (m.addr == r.key.addrB && m.port == r.key.portB)))

/-- Releases the reference a record holds, if it holds one (R239). -/
def State.releaseRecordRef (s : State) (r : Record) : State :=
  match s.recordRef r with
  | some (i, q, ok) => s.releaseRef i q ok
  | none => s

/-- What becomes of an operation's provisional references at its write-back (R239): `before` and `after` are the record
then and now. -/
def State.settleRefs (s : State) (taken : List (Nat × Nat)) (before after : Option Record) : State :=
  let ref := fun (r : Option Record) => r.bind fun r => (s.recordRef r).map fun x => (x.1, x.2.1)
  let keep := match ref after with
    | some m => if ref before ≠ some m ∧ taken.contains m then some m else none
    | none => none
  let rest := match keep with | some m => taken.erase m | none => taken
  rest.foldl (fun s m => s.releaseRef m.1 m.2 fun _ => true) s

/-- Returns a block whose last port was freed to its address (R241). -/
def State.returnBlock (s : State) (n : Nat) (u : Subscriber) (k : Nat) : State :=
  let g := (s.blockGrans u.pool u.pub k).headD 0
  let hold := s.fb Fld.XLB_CFG_BLOCK_HOLD_S
  let lo := s.poolLo u.pool + k * s.poolB u.pool
  let s := s.modGran g fun g => { g with owner := none, held := hold, tick := if hold then s.tick else 0 }
  let u' := { u with blocks := u.blocks.erase k }
  let s := s.setSub n u'
  let s := s.fs (Fld.XLB_POOL_USE_BLOCKS u.pool) (s.fg (Fld.XLB_POOL_USE_BLOCKS u.pool) - 1)
  let s := (s.exportNat 15 u.zone u.addr (s.pubAddr u.pub) 0 0 0 lo (lo + s.poolB u.pool - 1) u.pool).poolHigh u.pool
  if u'.blocks = [] then
    { s with xlb := { s.xlb with subs := s.xlb.subs.erase n } }.fs Fld.XLB_SUBS_COUNT (s.fg Fld.XLB_SUBS_COUNT - 1)
  else s

/-- Frees a mapping (R241): the granule bit, the forward and the reverse entry, and its block when that was the last
port of it. -/
def State.freeMapping (s : State) (k : Nat) (m : Mapping) (logged : Bool := true) : State :=
  let s := s.modGran (m.pub * 1024 + m.pport / 64) fun g => { g with used := setBit g.used (m.pport % 64) false }
  let fw := s.xlb.fwd.filter fun e => !(e.2.pub == m.pub && e.2.pport == m.pport)
  let s := { s with xlb := { s.xlb with fwd := fw, rev := s.xlb.rev.erase k } }
  let s := s.fs Fld.XLB_MAPS_COUNT (s.fg Fld.XLB_MAPS_COUNT - 1)
  let s := if logged then s.graftMapping { m with state := 0, refs := 0 } else s
  match s.subFind m.zone m.addr with
  | none => s
  | some (n, u) =>
    let u := { u with maps := u.maps - 1 }
    let s := (s.setSub n u).exportNat 7 m.zone m.addr (s.pubAddr m.pub) m.proto m.port m.pport 0 0 u.pool
    let b := (m.pport - s.poolLo u.pool) / s.poolB u.pool
    if (s.blockGrans u.pool u.pub b).all fun g => (s.gran g).used == 0 then s.returnBlock n u b else s

/-! ## NATMAP (R236–R244) -/

/-- The result of NATMAP in rd (R236). -/
def NatReply.word (r : NatReply) : Nat :=
  if r.status = 0 then r.addr * 2 ^ 32 + r.port * 2 ^ 16 + 2048 * ofBool r.hairpin + 1024 * ofBool r.fresh
  else r.status * 4096

/-- Counts and reports a status other than 0 (R244, R573). -/
def State.natStatus (s : State) (st pool zone src : Nat) : State :=
  let s := s.inc (Reg.XLB_NAT_ST st)
  if st = 1 then
    let due := s.limitDue 0x0901 pool
    let s := (s.inc (Reg.XLB_POOL_EXH pool)).logLimited 0x0901 pool 1 0 fun _ c => d4 c
    if due then s.exportNat 3 zone src 0 0 0 0 0 0 pool else s
  else if st = 2 then
    let due := s.limitDue 0x0904 (1 + pool)
    let s := s.logLimited 0x0904 0 1 (zone * 2 ^ 32 + src) fun f _ => d2 (f / 2 ^ 32) ++ beBytes 4 f
    if due then (s.setLimiter 0x0904 (1 + pool) { last := some s.aon }).exportNat 11 zone src 0 0 0 0 0 0 pool else s
  else s

/-- The subscriber of an inside address, found or inserted (R237). -/
def State.subEnsure (s : State) (zone src pool : Nat) : Option (Nat × Subscriber × State) :=
  match s.subFind zone src with
  | some (n, u) => some (n, u, s)
  | none =>
    let (b0, b1) := s.subBuckets zone src
    (bucketPlace s.xlb.subs b0 b1).map fun n =>
      let u : Subscriber := { zone := zone, addr := src, pool := pool, pub := 0 }
      (n, u, s.setSub n u)

/-- A new mapping for an inside endpoint, or the status that refuses it. -/
def State.natNew (s : State) (zone src sport proto pool : Nat) : Nat ⊕ (Mapping × State) :=
  match s.subEnsure zone src pool with
  | none => .inl 3
  | some (n, u, s) =>
    let first := if u.blocks = [] then (s.bestAddr u.pool).bind fun a => s.takeBlock n u a else some (0, u, s)
    match first with
    | none => .inl 1
    | some (_, u, s) =>
      match u.blocks.findSome? fun k => s.freePort u.pool u.pub k sport with
      | some q => match s.allocate n u q sport proto with | some x => .inr x | none => .inl 3
      | none =>
        if s.fg (Fld.XLB_POOL_CFG_BLOCKS_MAX u.pool) ≤ u.blocks.length then .inl 2
        else
          match s.takeBlock n u u.pub with
          | none => .inl 1
          | some (k, u, s) =>
            let b := s.poolB u.pool
            match s.allocate n u (s.poolLo u.pool + k * b + sport % b) sport proto with
            | some x => .inr x
            | none => .inl 3

/-- The mapping that a unit has held reserved since its tentative answer, at a public endpoint, is made (R237). -/
def State.natPin (s : State) (zone src sport proto pool pub port : Nat) : Option (Mapping × State) :=
  (s.subEnsure zone src pool).bind fun x =>
    let (n, u, s) := x
    let k := (port - s.poolLo u.pool) / s.poolB u.pool
    let (u, s) := if u.blocks.contains k then (u, s) else s.takeBlockAt n u pub k
    s.allocate n u port sport proto

/-- Whether an address is one of an enabled pool's (HAIRPIN, R236). -/
def State.isPublic (s : State) (addr : Nat) : Bool :=
  (List.range 256).any fun p => s.fb (Fld.XLB_POOL_CFG_EN p) && (s.poolIndexOf p addr).isSome

/-- The pool that serves an inside address: its subscriber's own, or for a new subscriber the one that NATMAP names (R237). -/
def State.servingPool (s : State) (zone src pool : Nat) : Nat :=
  match s.subFind zone src with | some (_, u) => u.pool | none => pool

/-- NATMAP outbound (R237): `ok` says that the packet can be translated, `fixed` is the tentative answer that a confirm makes
permanent. A failure leaves the tables as they were, and counts under the pool that serves the address (R244). -/
def State.natOut (s : State) (ok : Bool) (zone src sport dst proto pool : Nat) (fixed : Option NatReply := none) : NatReply × State :=
  let fail := fun st => (({ status := st } : NatReply), s.natStatus st (s.servingPool zone src pool) zone src)
  let hit := fun (fresh : Bool) (m : Mapping) (s : State) =>
    (({ addr := s.pubAddr m.pub, port := m.pport, idx := m.pub, hairpin := s.isPublic dst, fresh := fresh } : NatReply),
     s.takeRef m.pub m.pport)
  let refused := match fixed with | some v => if v.status = 0 then none else some v.status | none => none
  match refused with
  | some st => fail st
  | none =>
    if !ok then fail 4
    else
      match s.fwdFind zone src sport proto with
      | some (_, f) =>
        match (s.tableReads 2).revFind f.pub f.pport with
        | some (k, m) =>
          let s := s.tableReads 2
          let s := if m.state = 2 then (s.setRev k { m with state := 1 }).graftMapping { m with state := 1 } else s
          hit false m s
        | none => fail 3
      | none =>
        let s := s.tableReads 4
        let made : Nat ⊕ (Mapping × State) := match fixed with
          | some v => match s.natPin zone src sport proto pool v.idx v.port with | some x => .inr x | none => .inl 3
          | none => s.natNew zone src sport proto pool
        match made with
        | .inl st => fail st
        | .inr (m, s) => hit true m s

/-- NATMAP inbound (R242). -/
def State.natIn (s : State) (ok : Bool) (zone src dst dport proto pool : Nat) (fixed : Option NatReply := none) : NatReply × State :=
  let fail := fun st => (({ status := st } : NatReply), s.natStatus st pool zone src)
  let refused := match fixed with | some v => if v.status = 0 then none else some v.status | none => none
  match refused with
  | some st => fail st
  | none =>
    if !ok then fail 4
    else
      match s.poolIndexOf pool dst with
      | none => fail 5
      | some i =>
        match s.revFind i dport with
        | some (_, m) =>
          if m.state = 1 ∧ m.proto = proto then
            ({ addr := m.addr, port := m.port, idx := i }, (s.tableReads 2).takeRef i dport)
          else fail 5
        | none => fail 5

/-! ## What tentative requests hold (R215, R237, R238, R252) -/

/-- A thing that a unit holds reserved for a tentative request: a subscriber, a public endpoint, a bucket of the subscriber, the forward
or the reverse table, the blocks of a pool, a policer. -/
def claimSub (zone addr : Nat) : Nat × Nat := (0, zone * 2 ^ 32 + addr)
@[inherit_doc claimSub] def claimEnd (pub pport : Nat) : Nat × Nat := (1, pub * 65536 + pport)
@[inherit_doc claimSub] def claimBucket (table b : Nat) : Nat × Nat := (2 + table, b)
@[inherit_doc claimSub] def claimPool (p : Nat) : Nat × Nat := (5, p)
@[inherit_doc claimSub] def claimPolicer (i : Nat) : Nat × Nat := (6, i)

/-- Whether a tentative request of a context other than `k` holds one of these; a unit holds it for 256 core clocks (R215). -/
def State.claimed (s : State) (k : Option Nat) (cs : List (Nat × Nat)) : Bool :=
  s.trw.ctxs.any fun e => some e.1 != k && match e.2.micro with
    | some m => m.requests.any fun q => decide (s.coreNow < q.since + 256) && q.claims.any cs.contains
    | none => false

/-- What an outbound NATMAP that answers `v` and leaves `t` holds (R237, R238): its subscriber, its endpoint, and for a new mapping the
buckets it can lie in and the pool whose block it takes. -/
def State.outClaims (s t : State) (zone src sport proto pool : Nat) (v : NatReply) : List (Nat × Nat) :=
  let p := s.servingPool zone src pool
  let two := fun n (b : Nat × Nat) => [claimBucket n b.1, claimBucket n b.2]
  [claimSub zone src] ++ (if v.status = 0 then [claimEnd v.idx v.port] else [])
    ++ (if v.fresh then two 1 (s.fwdBuckets zone src sport proto) ++ two 2 (s.revBuckets v.idx v.port) else [])
    ++ (if v.fresh && (s.subFind zone src).isNone then two 0 (s.subBuckets zone src) else [])
    ++ (if s.fg (Fld.XLB_POOL_USE_BLOCKS p) = t.fg (Fld.XLB_POOL_USE_BLOCKS p) then [] else [claimPool p])

/-- What an inbound NATMAP holds: the public endpoint it looks up. -/
def State.inClaims (s : State) (dst dport pool : Nat) : List (Nat × Nat) :=
  match s.poolIndexOf pool dst with | some i => [claimEnd i dport] | none => []

/-! ## Load balancing (R245–R248) -/

/-- A group, a member and a slot. -/
def State.lbGroup (s : State) (g : Nat) : LbGroup := s.xlb.groups.get g {}
@[inherit_doc State.lbGroup] def State.lbMember (s : State) (g m : Nat) : LbMember := s.xlb.members.get (g * 256 + m) {}
@[inherit_doc State.lbGroup] def State.lbSlot (s : State) (g i : Nat) : LbSlot := s.xlb.slots.get (g * 4096 + i) {}
/-- How many members of a group are UP. -/
def State.upCount (s : State) (g : Nat) : Nat := ((List.range 256).filter fun m => (s.lbMember g m).state == 2).length

/-- What LBSEL answers. -/
structure LbReply where
  status : Nat := 0
  member : Nat := 0
  fallback : Bool := false
  keptDown : Bool := false
  reselected : Bool := false
  deriving DecidableEq, Repr

/-- The choice of LBSEL (R246): `pinned` is the record's member, when the record is balanced. -/
def State.lbSelect (s : State) (g hash : Nat) (pinned : Option Nat) : LbReply :=
  let fresh := fun (re : Bool) =>
    if s.upCount g = 0 then ({ status := 1 } : LbReply)
    else
      let i := bitsOf hash 63 52 ^^^ bitsOf hash 31 20
      let t := s.lbSlot g i
      let up := fun m => (s.lbMember g m).state == 2
      if t.valid && up t.primary then { member := t.primary, reselected := re }
      else if t.valid && up t.backup then { member := t.backup, fallback := true, reselected := re }
      else
        match ((List.range 4096).map fun j => (i + 1 + j) % 4096).find? fun j =>
            (s.lbSlot g j).valid && up (s.lbSlot g j).primary with
        | some j => { member := (s.lbSlot g j).primary, reselected := re }
        | none => { status := 1 }
  match pinned with
  | none => fresh false
  | some m =>
    if (s.lbMember g m).state ≠ 0 then { member := m }
    else if !(s.lbGroup g).reselect then { member := m, keptDown := true }
    else fresh true

/-- The result of LBSEL in rd (R246). -/
def State.lbWord (s : State) (g : Nat) (r : LbReply) : Nat :=
  let m := s.lbMember g r.member
  if r.status = 1 then 4096
  else
    (if (s.lbGroup g).v6 then 0 else m.addr % 2 ^ 32 * 2 ^ 32) + m.nhop * 65536 + 2048 * ofBool r.fallback
      + 1024 * ofBool r.keptDown + 512 * ofBool r.reselected + r.member

/-- One step of BUILD's first loop: each UP member gains its weight and the greatest loses W (R248). -/
def buildStep (ws : List (Nat × Nat)) (w : Nat) (cur : List Int) : Nat × List Int :=
  let cur := (cur.zip ws).map fun x => x.1 + (x.2.2 : Int)
  let best := ((List.range cur.length).foldl (fun (b : Nat) i => if cur.getD b 0 < cur.getD i 0 then i else b) 0)
  ((ws.getD best (0, 0)).1, (List.range cur.length).map fun i => if i = best then cur.getD i 0 - (w : Int) else cur.getD i 0)

/-- The primaries of `n` slots. -/
def buildPrimaries (ws : List (Nat × Nat)) (w : Nat) : Nat → List Int → List Nat
  | 0, _ => []
  | n + 1, cur => let (p, cur) := buildStep ws w cur; p :: buildPrimaries ws w n cur

/-- The slot table a BUILD leaves (R248). -/
def State.buildSlots (s : State) (g : Nat) : State :=
  let ws := ((List.range 256).filter fun m => (s.lbMember g m).state == 2).map fun m => (m, (s.lbMember g m).weight)
  let w := ws.foldl (fun n x => n + x.2) 0
  let put := fun (s : State) i (t : LbSlot) => { s with xlb := { s.xlb with slots := s.xlb.slots.put (g * 4096 + i) {} t } }
  if w = 0 then (List.range 4096).foldl (fun s i => put s i { s.lbSlot g i with valid := false }) s
  else
    let ps := buildPrimaries ws w 4096 (ws.map fun _ => 0)
    (List.range 4096).foldl (fun s i =>
      let p := ps.getD i 0
      let b := ((ps.drop (i + 1)) ++ ps.take i).find? (· ≠ p)
      put s i { valid := true, primary := p, backup := b.getD p }) s

/-! ## Policers (R250–R253) -/

/-- A policer. -/
def State.policer (s : State) (i : Nat) : Policer := s.xlb.pols.get i {}
/-- Sets a policer. -/
def State.setPolicer (s : State) (i : Nat) (p : Policer) : State := { s with xlb := { s.xlb with pols := s.xlb.pols.put i {} p } }

/-- Tokens gained in some core clocks at a rate in kb/s, in units of 1/65,536 byte (R251). -/
def policerGain (clocks kbps : Nat) : Nat := clocks * kbps * 1000 * 65536 / 10000000000

/-- The buckets of a policer after their gain at a core clock (R251). -/
def Policer.gain (p : Policer) (now : Nat) : Policer :=
  let dt := now - p.last
  let c := p.cbs * 65536
  let e := p.ebs * 65536
  if 2 ^ 32 ≤ dt then { p with tc := c, te := e, last := now }
  else
    let g := policerGain dt p.cir
    let tc := min c (p.tc + g)
    let te := if p.mode then min e (p.te + policerGain dt p.pir) else min e (p.te + (p.tc + g - c))
    { p with tc := tc, te := te, last := now }

/-- The use of a policer for B bytes with an input colour: 0 green, 1 yellow, 2 red (R251). -/
def Policer.use (p : Policer) (b colour : Nat) : Nat × Policer :=
  let n := b * 65536
  let c := if p.aware then colour else 0
  if p.mode then
    if c = 2 ∨ p.te < n then (2, p)
    else if c = 1 ∨ p.tc < n then (1, { p with te := p.te - n })
    else (0, { p with te := p.te - n, tc := p.tc - n })
  else
    let yellow := if n ≤ p.te then (1, { p with te := p.te - n }) else (2, p)
    if c = 2 then (2, p)
    else if c = 1 then yellow
    else if n ≤ p.tc then (0, { p with tc := p.tc - n }) else yellow

/-- POLICE on a policer at a core clock (R250): an entry that is not valid returns green and meters nothing. -/
def State.policeAt (s : State) (i b colour now : Nat) : Nat × State :=
  let p := s.policer i
  if !p.valid then (0, s)
  else
    let (c, p) := (p.gain now).use b colour
    (c, s.setPolicer i p)

/-- POLICE on a policer now. -/
def State.police (s : State) (i b colour : Nat) : Nat × State := s.policeAt i b colour s.coreNow

end Sys2Proof.Machine
end

