-- ==== Sys2Proof/Machine/Fwd.lean ====
section
/-! DEFINITION. The forwarding unit (chapter 7): the L2 table with learning, moves, ageing and flushes, the prefix tables
behind their Strainer, next hops and ECMP groups, and the meanings of its commands. Tables are numbered 0 L2, 1 IPv4,
2 IPv6, 3 next hops, 4 ECMP groups (R288, R289). -/

namespace Sys2Proof.Machine

/-! ## Banks and hashes (R262, R265, R274) -/

/-- The epoch number of a banked table: 1 L2, 2 IPv4, 3 IPv6. -/
def epochTable (t : Nat) : Nat := t + 1

/-- The bank that is active in a table. -/
def State.activeBank (s : State) (t : Nat) : Nat := s.epochBank.get (epochTable t) 0

/-- The two hashes of a key. -/
def State.fwdHash (s : State) (k : List Byte) : Nat × Nat :=
  (crc32c (s.rd Reg.PAR_HASH_SEED_LO).toNat k, crc32 (s.rd Reg.PAR_HASH_SEED_HI).toNat k)

/-- The candidate buckets of an L2 key, numbered with their bank: bank × 65,536 + bucket (R265). -/
def State.l2Buckets (s : State) (bank vid mac : Nat) : Nat × Nat :=
  let (h, g) := s.fwdHash (beBytes 2 vid ++ beBytes 6 mac)
  (bank * 65536 + h % 65536, bank * 65536 + g % 65536)

/-- The entry of an L2 key in a bank, with its slot. -/
def State.l2Find (s : State) (bank vid mac : Nat) : Option (Nat × L2Entry) :=
  let (a, b) := s.l2Buckets bank vid mac
  bucketFind s.fwd.l2 a b fun e => e.vid == vid && e.mac == mac

/-- The entries of an L2 bank. -/
def State.l2Count (s : State) (bank : Nat) : Nat := (s.fwd.l2.filter fun e => e.1 / 524288 == bank).length

/-- Copies a line of the active L2 bank, by its number in the bank, into the shadow: two entries (R281). -/
def State.copyLine (s : State) (n : Nat) : State :=
  let a := s.activeBank 0
  let sh := (1 - a) * 524288
  let kept := s.fwd.l2.filter fun e => !(decide (sh ≤ e.1 ∧ e.1 < sh + 524288) && e.1 % 524288 / 2 == n)
  let new := (s.fwd.l2.filter fun e => e.1 / 524288 == a && e.1 % 524288 / 2 == n).map fun e => (e.1 % 524288 + sh, e.2)
  { s with fwd := { s.fwd with l2 := new.foldl (fun t e => t.ins e.1 e.2) kept, copied := s.fwd.copied ++ [n] } }

/-- A line of an L2 bank is about to change. While an L2 copy runs, a line of the active bank may have been copied by now or not:
which is a free value (R281). (DESIGN CHOICE, log 50) -/
def State.touchLine (s : State) (k : Nat) : State :=
  let n := k % 524288 / 2
  if s.fwd.copying ≠ some 0 ∨ k / 524288 ≠ s.activeBank 0 ∨ s.fwd.copied.contains n then s
  else
    let (v, s) := s.free
    if v.toNat % 2 = 1 then s.copyLine n else s

/-- Sets an L2 slot. -/
def State.setL2 (s : State) (k : Nat) (e : L2Entry) : State :=
  let s := s.touchLine k
  { s with fwd := { s.fwd with l2 := s.fwd.l2.ins k e } }

/-- Clears an L2 slot. -/
def State.eraseL2 (s : State) (k : Nat) : State :=
  let s := s.touchLine k
  { s with fwd := { s.fwd with l2 := s.fwd.l2.erase k } }

/-- The place of a new L2 entry, or the status that refuses it: 3 at capacity, 4 with both buckets full (R260, R284). -/
def State.l2Place (s : State) (bank vid mac : Nat) : Nat ⊕ Nat :=
  let (a, b) := s.l2Buckets bank vid mac
  if 262144 ≤ s.l2Count bank then .inl 3
  else match bucketPlace s.fwd.l2 a b with | some k => .inr k | none => .inl 4

/-- The most prefixes of a family and its buckets, filter counters and address bits: 0 IPv4, 1 IPv6 (R259, R274). -/
def lpmCap (f : Nat) : Nat := if f = 0 then 1048576 else 262144
@[inherit_doc lpmCap] def lpmBuckets (f : Nat) : Nat := if f = 0 then 262144 else 65536
@[inherit_doc lpmCap] def lpmFilter (f : Nat) : Nat := if f = 0 then 8388608 else 2097152
@[inherit_doc lpmCap] def lpmBits (f : Nat) : Nat := if f = 0 then 32 else 128

/-- An address with the bits below a length cleared. -/
def maskTo (f len a : Nat) : Nat := a / 2 ^ (lpmBits f - len) * 2 ^ (lpmBits f - len)

/-- The two hashes of a prefix. -/
def State.lpmHash (s : State) (f len addr : Nat) : Nat × Nat :=
  s.fwdHash (beBytes 1 len ++ beBytes (lpmBits f / 8) addr)

/-- The candidate buckets of a prefix, and its three filter positions. -/
def State.lpmBucketsOf (s : State) (f len addr : Nat) : Nat × Nat :=
  let (h, g) := s.lpmHash f len addr
  (h % lpmBuckets f, g % lpmBuckets f)
@[inherit_doc State.lpmBucketsOf] def State.lpmPos (s : State) (f len addr : Nat) : List Nat :=
  let (h, g) := s.lpmHash f len addr
  [h % lpmFilter f, (h + g) % lpmFilter f, (h + 2 * g) % lpmFilter f]

/-- A bank of a prefix table, and its change. -/
def State.lpmBank (s : State) (f bank : Nat) : LpmBank := s.fwd.lpm.get (f * 2 + bank) {}
@[inherit_doc State.lpmBank] def State.modLpm (s : State) (f bank : Nat) (g : LpmBank → LpmBank) : State :=
  { s with fwd := { s.fwd with lpm := s.fwd.lpm.put (f * 2 + bank) {} (g (s.lpmBank f bank)) } }

/-- The entry of a prefix in a bank, with its slot. -/
def State.lpmFind (s : State) (f bank len addr : Nat) : Option (Nat × LpmEntry) :=
  let (a, b) := s.lpmBucketsOf f len addr
  bucketFind (s.lpmBank f bank).slots a b fun e => e.len == len && e.addr == addr

/-- Counts a prefix into its filter and its length (R275): a counter at 15 stays there. -/
def LpmBank.countIn (b : LpmBank) (pos : List Nat) (len : Nat) : LpmBank :=
  { b with strain := pos.foldl (fun t p => t.put p 0 (min 15 (t.get p 0 + 1))) b.strain
           counts := b.counts.put len 0 (b.counts.get len 0 + 1) }

/-- Counts a prefix out of its filter and its length (R275): a counter that has reached 15 is never decremented. -/
def LpmBank.countOut (b : LpmBank) (pos : List Nat) (len : Nat) : LpmBank :=
  { b with strain := pos.foldl (fun t p => if t.get p 0 = 15 then t else t.put p 0 (t.get p 0 - 1)) b.strain
           counts := b.counts.put len 0 (b.counts.get len 0 - 1) }

/-! ## Lost buckets (R285) -/

/-- The package-memory address of a bucket: the forwarding tables follow the XLB tables in the order of R259. -/
def State.fwdBucketAddr (s : State) (t bank bucket : Nat) : Nat :=
  let mib := 1048576
  s.tablesBase + 768 * mib
    + match t with
      | 0 => bank * (16 * mib) + bucket * 256
      | 1 => 32 * mib + bank * (32 * mib) + bucket * 128
      | _ => 96 * mib + bank * (16 * mib) + bucket * 256

/-- Clears a bucket whose block at an address read uncorrectable, rebuilds what is derived from it and counts the entries lost
(R285); the block's page is due for retirement (R174, R175). -/
def State.loseBucket (s : State) (t bank bucket addr : Nat) : State :=
  let (n, s) :=
    if t = 0 then
      let gone := s.fwd.l2.filter fun e => e.1 / 8 == bank * 65536 + bucket
      (gone.length, gone.foldl (fun s e => s.eraseL2 e.1) s)
    else
      let f := t - 1
      let b := s.lpmBank f bank
      let keep := b.slots.filter fun e => e.1 / 8 != bucket
      let b' := keep.foldl (fun b e => b.countIn (s.lpmPos f e.2.len e.2.addr) e.2.len)
        { b with slots := keep, strain := [], counts := [] }
      (b.slots.length - keep.length, s.modLpm f bank fun _ => b')
  (((s.inc Reg.FWD_TBL_LOST n).log 0x0A07 (d1 t ++ d1 bank ++ beBytes 3 bucket)).log 0x1502 (d5 addr)).duePage (pageOf addr)

/-! ## Lookups (R266, R276–R279) -/

/-- The bank a lookup of a table reads: the one of the packet's epoch, or the active one for the Glasshouse (R262). -/
def State.lookupBank (s : State) (t : Nat) (e : Option Epochs) : Nat :=
  match e with
  | some e => s.bankOf (epochTable t) (e.of (epochTable t))
  | none => s.activeBank t

/-- The result word of L2 (R266). -/
def L2Entry.word (e : L2Entry) : Nat :=
  2 ^ 63 + 2 ^ 62 * ofBool e.static + 2 ^ 61 * ofBool e.damped + 2 ^ 60 * ofBool e.discard + e.port * 2 ^ 48
    + e.user * 2 ^ 32

/-- The lines of a bucket of a table: the bucket with the address of each line (R259, R261). -/
def State.bucketLines (s : State) (t bank bucket : Nat) : List (Nat × Nat) :=
  (List.range (if t = 1 then 2 else 4)).map fun i => (bucket, s.fwdBucketAddr t bank bucket + 64 * i)

/-- The entries of a line. -/
def lineEntries (t : Nat) : Nat := if t = 1 then 4 else 2

/-- The lines that a search of two candidate buckets reads: the first candidate's first, up to the line of the slot where the
entry is (R261). -/
def State.searchLines (s : State) (t bank a b : Nat) (hit : Option Nat) : List (Nat × Nat) :=
  let xs := s.bucketLines t bank a ++ if a = b then [] else s.bucketLines t bank b
  match hit with
  | none => xs
  | some k =>
    let per := if t = 1 then 2 else 4
    xs.take ((if k / 8 = a then 0 else per) + k % 8 / lineEntries t + 1)

/-- A line comes into the table cache of 131,072 lines, 16 ways to a set. The set of a line and the replacement are not given: which
line goes, once there are 16, is a free value (R261). (DESIGN CHOICE, log 52) -/
def State.cacheTableLine (s : State) (a : Nat) : State :=
  let ls := s.fwd.lines
  if ls.length < 16 then { s with fwd := { s.fwd with lines := ls ++ [a] } }
  else
    let (v, s) := s.free
    let i := v.toNat % (if ls.length < 131072 then ls.length + 1 else ls.length)
    { s with fwd := { s.fwd with lines := ls.eraseIdx i ++ [a] } }

/-- Reads lines through the table cache: those it lacks are read from package memory (R261). -/
def State.readLines (s : State) (xs : List (Nat × Nat)) : State :=
  xs.foldl (fun s x => if s.fwd.lines.contains x.2 then s else (s.pmTable false x.2).cacheTableLine x.2) s

/-- A lookup's line that reads uncorrectable, if it reads that far: the lines up to it are read, and its bucket is lost (R285). -/
def State.badLine (s : State) (t bank : Nat) (xs : List (Nat × Nat)) (bad : Option Nat) : Option State :=
  (bad.bind fun n => xs[n]?.map fun x => (n, x)).map fun (n, x) =>
    (s.readLines (xs.take (n + 1))).loseBucket t bank x.1 x.2

/-- L2 (R266): none when a line the lookup reads is uncorrectable (R285). -/
def State.l2Lookup (s : State) (e : Option Epochs) (vid mac : Nat) (bad : Option Nat) : Option Nat × State :=
  let bank := s.lookupBank 0 e
  let (a, b) := s.l2Buckets bank vid mac
  let hit := s.l2Find bank vid mac
  let xs := s.searchLines 0 bank (a % 65536) (b % 65536) (hit.map fun x => x.1 % 524288)
  match s.badLine 0 bank xs bad with
  | some s => (none, s)
  | none => (some ((hit.map fun x => x.2.word).getD 0), s.readLines xs)

/-- What a probe sequence found: the entry, if any, with the number of probes. -/
inductive LpmHit where
  | found (e : LpmEntry) (probes : Nat)
  | none (probes : Nat)

/-- Whether a length is a candidate for an address: it is present, and its filter passes (R275, R276). -/
def State.lpmCandidate (s : State) (f bank addr len : Nat) : Bool :=
  let b := s.lpmBank f bank
  b.counts.get len 0 != 0 && (s.lpmPos f len (maskTo f len addr)).all fun p => b.strain.get p 0 != 0

/-- The probes of R276 over the lengths from the longest down; `n` is how many there have been. -/
def State.lpmProbe (s : State) (f bank addr : Nat) : Nat → Nat → LpmHit
  | 0, n => .none n
  | len + 1, n =>
    if !s.lpmCandidate f bank addr (len + 1) then s.lpmProbe f bank addr len n
    else
      match s.lpmFind f bank (len + 1) (maskTo f (len + 1) addr) with
      | some (_, e) => .found e (n + 1)
      | none => s.lpmProbe f bank addr len (n + 1)

/-- The lines that the probes read, in order (R261). -/
def State.lpmLines (s : State) (f bank addr : Nat) : Nat → List (Nat × Nat)
  | 0 => []
  | len + 1 =>
    if !s.lpmCandidate f bank addr (len + 1) then s.lpmLines f bank addr len
    else
      let a := maskTo f (len + 1) addr
      let (b0, b1) := s.lpmBucketsOf f (len + 1) a
      let hit := s.lpmFind f bank (len + 1) a
      s.searchLines (f + 1) bank b0 b1 (hit.map (·.1)) ++ if hit.isSome then [] else s.lpmLines f bank addr len

/-- The result word of LPM4 and LPM6 (R277). -/
def LpmEntry.word (e : LpmEntry) (probes : Nat) : Nat :=
  2 ^ 63 + e.kind % 4 * 2 ^ 58 + e.len * 2 ^ 48 + probes * 2 ^ 40 + e.user * 2 ^ 16
    + (if 2 ≤ e.kind % 4 then 0 else e.index)

/-- LPM4 and LPM6 (R276, R277): none when a line the lookup reads is uncorrectable (R285). -/
def State.lpmLookup (s : State) (e : Option Epochs) (f addr : Nat) (bad : Option Nat) : Option Nat × State :=
  let bank := s.lookupBank (f + 1) e
  let xs := s.lpmLines f bank addr (lpmBits f)
  match s.badLine (f + 1) bank xs bad with
  | some s => (none, s)
  | none =>
    (some (match s.lpmProbe f bank addr (lpmBits f) 0 with
      | .found e n => e.word n
      | .none n => match (s.lpmBank f bank).dflt with | some e => e.word n | none => 0), s.readLines xs)

/-- A next hop, and the result word of NHOP (R278). -/
def State.nextHop (s : State) (i : Nat) : NextHop := s.fwd.nhops.get i {}
@[inherit_doc State.nextHop] def NextHop.word (n : NextHop) : Nat :=
  if n.valid then 2 ^ 63 + 2 ^ 62 * ofBool n.vidEn + n.port * 2 ^ 48 + n.vid * 2 ^ 32 else 0

/-- The result word of ECMP for a group and the flow hash of R111 (R279). -/
def State.ecmpWord (s : State) (g hashHi hashLo : Nat) : Nat :=
  let e := s.fwd.ecmp.get g []
  let n := e.headD 0
  if n = 0 then 0 else 2 ^ 63 + e.tail.getD ((hashHi % 65536 ^^^ bitsOf hashLo 31 16) * n / 65536) 0

/-! ## Learning (R267–R270) -/

/-- The flow clock in seconds, low 32 bits. -/
def State.nowS (s : State) : Nat := s.flowMs / 1000 % 2 ^ 32

/-- Passes a triple to the learn unit, or drops the offer when the queue is full (R268). -/
def State.offer (s : State) (slice vid mac port : Nat) : State :=
  let flt := (s.slice slice).learnFilter
  if flt.any fun x => x.1 == vid && x.2.1 == mac && x.2.2.1 == port && decide (s.aon < x.2.2.2 + secCycles) then s
  else if 4096 ≤ s.fwd.learns.length then
    (s.inc Reg.FWD_LEARN_DROP).logLimited 0x0A08 0 1 0 fun _ c => d4 c
  else
    let keep := flt.filter fun x => !(x.1 == vid && x.2.1 == mac && x.2.2.1 == port)
    { s with fwd := { s.fwd with learns := s.fwd.learns ++ [(vid, mac, port)] } }.modSlice slice fun x =>
      { x with learnFilter := (keep ++ [(vid, mac, port, s.aon)]).drop (keep.length + 1 - 4096) }

/-- Offers a packet for learning once its frame has ended and its rule's verdict is known (R267). -/
def State.learnOffer (s : State) (pid verdict : Nat) : State :=
  let p := s.pkt pid
  let mac := beNat (sliceBytes p.bytes 6 6)
  let vid := if (tagList p.bytes 12 1).isEmpty then s.fg (Fld.FWD_PORT_L2_PVID p.inPort)
    else beNat (sliceBytes p.bytes 14 2) % 4096
  if p.pass = 1 ∧ p.inPort ≤ 64 ∧ s.fb (Fld.FWD_PORT_L2_LEARN_EN p.inPort) ∧ p.ended ∧ p.good ∧ !p.learnt
      ∧ !bitAt mac 40 ∧ mac ≠ 0 ∧ (verdict ≠ 0 ∨ s.fb Fld.FWD_CFG_LEARN_ON_DROP) then
    (s.setPkt pid { p with learnt := true }).offer p.slice vid mac p.inPort
  else s

/-- The outcome of a learn in one bank (R269). -/
inductive LearnOutcome where
  | learned | full | quiet | conflict | blocked | damped | moved
  deriving DecidableEq

/-- A station move (R270): `nowS` and `nowMs` are the flow clock. -/
def L2Entry.move (e : L2Entry) (port nowS nowMs limit window pin : Nat) : LearnOutcome × L2Entry :=
  let e := if e.damped then { e with damped := false, moves := 0 } else e
  let e := if e.moves = 0 ∨ window ≤ (nowMs + 2 ^ 32 - e.window) % 2 ^ 32 then { e with window := nowMs, moves := 0 } else e
  if e.moves = limit then (.damped, { e with damped := true, till := (nowS + pin) % 2 ^ 32 })
  else (.moved, { e with port := port, moves := (e.moves + 1) % 256, seen := nowS })

/-- The package-memory address of the line that holds an L2 slot (R259). -/
def State.l2Addr (s : State) (k : Nat) : Nat := s.fwdBucketAddr 0 (k / 524288) (k / 8 % 65536) + 64 * (k % 8 / 2)

/-- Writes an L2 entry in its slot. -/
def State.writeL2 (s : State) (k : Nat) (e : L2Entry) : State := (s.setL2 k e).pmTable true (s.l2Addr k)

/-- Serves a learn in one bank (R269). -/
def State.learnIn (s : State) (bank vid mac port : Nat) : LearnOutcome × State :=
  let now := s.nowS
  match s.l2Find bank vid mac with
  | none =>
    match s.l2Place bank vid mac with
    | .inl _ => (.full, s)
    | .inr k => (.learned, s.writeL2 k { vid := vid, mac := mac, port := port, seen := now })
  | some (k, e) =>
    if e.port = port then (.quiet, if e.seen + 1 ≤ now then s.writeL2 k { e with seen := now } else s)
    else if e.static then (.conflict, s)
    else if e.damped ∧ now < e.till then (.blocked, s)
    else
      let (o, e) := e.move port now (s.flowMs % 2 ^ 32) (s.fg Fld.FWD_MOVE_CFG_LIMIT) (s.fg Fld.FWD_MOVE_CFG_WINDOW_MS)
        (s.fg Fld.FWD_PIN_CFG_PIN_S)
      (o, s.writeL2 k e)

/-- Counts and reports a learn by its outcome in the active bank (R269, R270). -/
def State.learnCount (s : State) : LearnOutcome → State
  | .learned => s.inc Reg.FWD_LEARNED
  | .full => s.inc Reg.FWD_LEARN_FULL
  | .quiet => s
  | .conflict => s.inc Reg.FWD_STATIC_CONFLICT
  | .blocked => s.inc Reg.FWD_MOVE_BLOCKED
  | .damped => s.log 0x0A02
  | .moved => (s.inc Reg.FWD_MOVES).logLimited 0x0A01 0 1 0 fun _ c => d4 c

/-- A block of a table that reads uncorrectable while a walk or a command reads it: the bank, the bucket and the line (R285). -/
def State.loseLine (s : State) (t : Nat) (x : Nat × Nat × Nat) : State :=
  s.loseBucket t x.1 x.2.1 (s.fwdBucketAddr t x.1 x.2.1 + 64 * x.2.2)

/-- Loses the buckets of a table that read uncorrectable, where they lie in one of the banks read. -/
def State.loseLines (s : State) (t : Nat) (banks : List Nat) (bad : List (Nat × Nat × Nat)) : State :=
  (bad.filter fun x => banks.contains x.1
    && decide (x.2.1 < (if t = 1 then 262144 else 65536) ∧ x.2.2 < (if t = 1 then 2 else 4))).foldl (fun s x => s.loseLine t x) s

/-- LEARN_REQUEST: serves the oldest request, in both banks but for a shadow that is being copied into (R269). A bucket
whose line is named in `bad` reads uncorrectable and is lost first (R285). -/
def execLearnRequest (bad : List (Nat × Nat × Nat)) (s : State) : Res :=
  let s := s.begin
  match s.fwd.learns with
  | [] => .next s
  | (vid, mac, port) :: r =>
    let s := { s with fwd := { s.fwd with learns := r } }
    let act := s.activeBank 0
    let needs := fun (b : Nat × Nat × Nat) =>
      let (x, y) := s.l2Buckets b.1 vid mac
      x == b.1 * 65536 + b.2.1 || y == b.1 * 65536 + b.2.1
    let s := (s.tableReads 8).loseLines 0 (if s.fwd.copying = some 0 then [act] else [act, 1 - act]) (bad.filter needs)
    let (o, s) := s.learnIn act vid mac port
    let s := if s.fwd.copying = some 0 then s else (s.learnIn (1 - act) vid mac port).2
    .next (s.learnCount o)

/-! ## Ageing and flushes (R271–R273) -/

/-- Whether the ager deletes an entry (R271). (DESIGN CHOICE, log 49) -/
def State.l2Aged (s : State) (e : L2Entry) : Bool :=
  let age := s.fg Fld.FWD_CFG_AGE_S
  age != 0 && !e.damped && !e.static && decide (age ≤ (s.nowS + 2 ^ 32 - e.seen) % 2 ^ 32)

/-- L2_AGE_VISIT: the ager visits a bucket of both banks, or of the active bank only while an L2 copy runs (R271, R281). An aged
entry counts once: with its copy in the active bank, or with that in the shadow where the active bank holds none (DESIGN CHOICE,
log 49). `bad` names the bank and the line of blocks that read uncorrectable (R285). -/
def execL2AgeVisit (bucket : Nat) (bad : List (Nat × Nat)) (s : State) : Res :=
  let s := s.begin
  let act := s.activeBank 0
  let bucket := bucket % 65536
  let banks := if s.fwd.copying = some 0 then [act] else [act, 1 - act]
  let s := s.loseLines 0 banks (bad.map fun x => (x.1, bucket, x.2))
  let gone := s.fwd.l2.filter fun e => banks.any (fun b => e.1 / 8 == b * 65536 + bucket) && s.l2Aged e.2
  let counted := gone.filter fun e => e.1 / 524288 == act || (s.l2Find act e.2.vid e.2.mac).isNone
  let read := banks.flatMap fun b => s.bucketLines 0 b bucket
  let s := read.foldl (fun s x => s.pmTable false x.2) s
  let s := gone.foldl (fun s e => (s.eraseL2 e.1).pmTable true (s.l2Addr e.1)) s
  .next (s.inc Reg.FWD_AGED counted.length)

/-- Whether an entry matches the filter of a flush (R272, R289). -/
def flushMatch (w : Nat) (e : L2Entry) : Bool :=
  (bitAt w 29 || !e.static) && (!bitAt w 31 || e.port == bitsOf w 22 16) && (!bitAt w 30 || e.vid == w % 4096)

/-- How many entries a list of slots holds: the two banks' copies of one entry count once. -/
def entryCount (es : Table L2Entry) : Nat := (es.map fun e => (e.2.vid, e.2.mac)).eraseDups.length

/-- Deletes the L2 entries that match, and answers how many. Each line may change in a copy that runs before or after it is copied.
(DESIGN CHOICE, log 49) -/
def State.flushL2 (s : State) (p : Nat → L2Entry → Bool) : Nat × State :=
  let gone := s.fwd.l2.filter fun e => p e.1 e.2
  let n := entryCount gone
  let s := gone.foldl (fun s e => s.touchLine e.1) s
  (n, { s with fwd := { s.fwd with l2 := s.fwd.l2.filter fun e => !p e.1 e.2 } }.inc Reg.FWD_FLUSHED n)

/-- Ends the command in progress with a status (R284). -/
def State.fwdDone (s : State) (n : Nat) : State :=
  ((s.fs Fld.FWD_CMD_STAT_BUSY 0).fs Fld.FWD_CMD_STAT_STATUS n).fs Fld.FWD_CMD_STAT_DONE 1

/-- Flushes one port's learned entries from both banks and reports it (R272). -/
def State.flushPort (s : State) (p : Nat) : State :=
  let (n, s) := s.flushL2 fun _ e => !e.static && e.port == p
  s.log 0x0A04 (d4 n)

/-- FLUSH_WALK: one whole walk, with every port flush pending at its start (R272), and the flush command in progress
(R283). `bad` names the blocks that read uncorrectable in it (R285). -/
def execFlushWalk (bad : List (Nat × Nat × Nat)) (s : State) : Res :=
  let s := s.begin
  let ports := s.fwd.flushWait
  let l2 := ports != [] || (match s.fwd.flushing with | some (t, _, _) => t == 0 | none => false)
  let s := if l2 then s.loseLines 0 [0, 1] bad else s
  let s := { s with fwd := { s.fwd with flushWait := [] } }
  let s := ports.foldl State.flushPort s
  match s.fwd.flushing with
  | none => .next s
  | some (t, w, shadow) =>
    let s := { s with fwd := { s.fwd with flushing := none } }
    let sh := 1 - s.activeBank t
    if t = 0 then
      let (_, s) := s.flushL2 fun k e => (!shadow || k / 524288 == sh) && flushMatch w e
      .next (s.fwdDone 0)
    else
      let n := (s.lpmBank (t - 1) sh).slots.length
      .next (((s.modLpm (t - 1) sh fun _ => {}).inc Reg.FWD_FLUSHED n).fwdDone 0)

/-! ## Commands (R283, R284, R289) -/

/-- The bytes of FWD_CMD_DATA. -/
def State.fwdData (s : State) : List Byte :=
  (List.range 8).flatMap fun w => beBytes 4 (s.rd (Reg.FWD_CMD_DATA w)).toNat

/-- Sets FWD_CMD_DATA to the bytes of an entry, zeros after them. -/
def State.setFwdData (s : State) (bs : List Byte) : State :=
  (List.range 8).foldl (fun s w => s.wr (Reg.FWD_CMD_DATA w) (BitVec.ofNat 32 (beAt bs (4 * w) 4))) s

/-- Sets FWD_CMD_RES. -/
def State.setFwdRes (s : State) (slot : Option Nat) : State :=
  (s.fs Fld.FWD_CMD_RES_FOUND (ofBool slot.isSome)).fs Fld.FWD_CMD_RES_SLOT (slot.getD 0)

/-- An L2 entry as bytes, and back (R265). -/
def L2Entry.bytes (e : L2Entry) : List Byte :=
  beBytes 2 e.vid ++ beBytes 6 e.mac
    ++ beBytes 1 (128 + 64 * ofBool e.static + 32 * ofBool e.damped + 16 * ofBool e.discard) ++ beBytes 1 e.port
    ++ beBytes 2 e.user ++ beBytes 4 e.seen ++ beBytes 4 e.window ++ beBytes 1 e.moves ++ beBytes 3 0 ++ beBytes 4 e.till
    ++ beBytes 4 0
@[inherit_doc L2Entry.bytes] def l2Of (bs : List Byte) : L2Entry :=
  let fl := beAt bs 8 1
  { vid := beAt bs 0 2, mac := beAt bs 2 6, static := bitAt fl 6, damped := bitAt fl 5, discard := bitAt fl 4,
    port := beAt bs 9 1, user := beAt bs 10 2, seen := beAt bs 12 4, window := beAt bs 16 4, moves := beAt bs 20 1,
    till := beAt bs 24 4 }

/-- A prefix entry as bytes, and back (R274). -/
def LpmEntry.bytes (f : Nat) (e : LpmEntry) : List Byte :=
  beBytes 1 128 ++ beBytes 1 e.len ++ beBytes 2 0 ++ beBytes (lpmBits f / 8) e.addr ++ beBytes 2 e.index
    ++ beBytes 1 e.kind ++ beBytes 1 0 ++ beBytes 2 e.user
@[inherit_doc LpmEntry.bytes] def lpmOf (f : Nat) (bs : List Byte) : LpmEntry :=
  let n := lpmBits f / 8
  { len := beAt bs 1 1, addr := beAt bs 4 n, index := beAt bs (4 + n) 2, kind := beAt bs (6 + n) 1,
    user := beAt bs (8 + n) 2 }

/-- A next hop as bytes, and back (R278). -/
def NextHop.bytes (n : NextHop) : List Byte :=
  beBytes 6 n.dst ++ beBytes 6 n.src ++ beBytes 1 n.port ++ beBytes 1 (128 * ofBool n.valid + 64 * ofBool n.vidEn + n.low % 64)
    ++ beBytes 2 n.vid
@[inherit_doc NextHop.bytes] def nextHopOf (bs : List Byte) : NextHop :=
  { dst := beAt bs 0 6, src := beAt bs 6 6, port := beAt bs 12 1, valid := bitAt (beAt bs 13 1) 7,
    vidEn := bitAt (beAt bs 13 1) 6, vid := beAt bs 14 2, low := beAt bs 13 1 % 64 }

/-- The banks a BANK value names: 0 active, 1 shadow, 2 both (R283). -/
def State.banksOf (s : State) (t bank : Nat) : List Nat :=
  let a := s.activeBank t
  match bank with | 0 => [a] | 1 => [1 - a] | _ => [a, 1 - a]

/-- Whether a command's write includes a shadow whose old epoch is live (R283). -/
def State.shadowBusy (s : State) (t bank : Nat) : Bool := bank != 0 && s.oldLive (epochTable t)

/-- The entry after a slot in a bank, with its slot: the first valid one at or after it (R283). (DESIGN CHOICE, log 48) -/
def firstFrom {α : Type} (t : Table α) (lo hi : Nat) : Option (Nat × α) := t.find? fun e => decide (lo ≤ e.1 ∧ e.1 < hi)

/-- Search and Next answer an entry, or status 1. -/
def State.fwdAnswer (s : State) (r : Option (Nat × List Byte)) : State :=
  match r with
  | some (k, bs) => ((s.setFwdData bs).setFwdRes (some k)).fwdDone 0
  | none => (s.setFwdRes none).fwdDone 1

/-- Whether the key and the entry in DATA are well formed for a table: VID, port, length and host bits (R284). -/
def State.fwdArgOk (s : State) (t : Nat) (insert : Bool) : Bool :=
  let bs := s.fwdData
  if t = 0 then decide (beAt bs 0 2 < 4096) && (!insert || decide (beAt bs 9 1 ≤ 66))
  else
    let e := lpmOf (t - 1) bs
    decide (e.len ≤ lpmBits (t - 1)) && e.addr == maskTo (t - 1) e.len e.addr

/-- OP 0: finds the entry with the key in DATA. A default route answers slot 0. -/
def State.fwdSearch (s : State) (t bank : Nat) : State :=
  let b := (s.banksOf t bank).headD 0
  if 2 < t ∨ !s.fwdArgOk t false then s.fwdDone 6
  else if t = 0 then
    let k := l2Of s.fwdData
    (s.tableReads 8).fwdAnswer ((s.l2Find b k.vid k.mac).map fun x => (x.1 % 524288, x.2.bytes))
  else
    let k := lpmOf (t - 1) s.fwdData
    let hit := if k.len = 0 then (s.lpmBank (t - 1) b).dflt.map fun e => (0, e) else s.lpmFind (t - 1) b k.len k.addr
    (s.tableReads 8).fwdAnswer (hit.map fun x => (x.1, x.2.bytes (t - 1)))

/-- OP 1: the first valid entry at or after slot INDEX. (DESIGN CHOICE, log 48) -/
def State.fwdNext (s : State) (t bank index : Nat) : State :=
  let b := (s.banksOf t bank).headD 0
  if 2 < t then s.fwdDone 6
  else if t = 0 then
    if 524288 ≤ index then s.fwdDone 6
    else
      s.fwdAnswer ((firstFrom s.fwd.l2 (b * 524288 + index) (b * 524288 + 524288)).map fun x =>
        (x.1 % 524288, x.2.bytes))
  else if lpmBuckets (t - 1) * 8 ≤ index then s.fwdDone 6
  else
    s.fwdAnswer ((firstFrom (s.lpmBank (t - 1) b).slots index (lpmBuckets (t - 1) * 8)).map fun x =>
      (x.1, x.2.bytes (t - 1)))

/-- Inserts an entry in one L2 bank: a status, and the state (R260, R283). -/
def State.l2Insert (s : State) (bank : Nat) (e : L2Entry) : Nat × State :=
  match s.l2Find bank e.vid e.mac with
  | some (k, _) => (2, s.setL2 k e)
  | none => match s.l2Place bank e.vid e.mac with | .inl n => (n, s) | .inr k => (0, s.setL2 k e)

/-- Inserts a prefix in one bank: a status, and the state (R260, R275). -/
def State.lpmInsert (s : State) (f bank : Nat) (e : LpmEntry) : Nat × State :=
  let b := s.lpmBank f bank
  if e.len = 0 then (if b.dflt.isSome then 2 else 0, s.modLpm f bank fun b => { b with dflt := some e })
  else
    match s.lpmFind f bank e.len e.addr with
    | some (k, _) => (2, s.modLpm f bank fun b => { b with slots := b.slots.ins k e })
    | none =>
      let (x, y) := s.lpmBucketsOf f e.len e.addr
      if lpmCap f ≤ b.slots.length then (3, s)
      else match bucketPlace b.slots x y with
        | none => (4, s)
        | some k =>
          (0, s.modLpm f bank fun b => { b with slots := b.slots.ins k e }.countIn (s.lpmPos f e.len e.addr) e.len)

/-- Deletes an entry in one bank: status 1 when it is not there (R275, R283). -/
def State.l2Delete (s : State) (bank : Nat) (e : L2Entry) : Nat × State :=
  match s.l2Find bank e.vid e.mac with | some (k, _) => (0, s.eraseL2 k) | none => (1, s)
@[inherit_doc State.l2Delete] def State.lpmDelete (s : State) (f bank : Nat) (e : LpmEntry) : Nat × State :=
  if e.len = 0 then
    if (s.lpmBank f bank).dflt.isSome then (0, s.modLpm f bank fun b => { b with dflt := none }) else (1, s)
  else
    match s.lpmFind f bank e.len e.addr with
    | some (k, _) =>
      (0, s.modLpm f bank fun b => { b with slots := b.slots.erase k }.countOut (s.lpmPos f e.len e.addr) e.len)
    | none => (1, s)

/-- Runs an insert in the banks named: a failure in one of them leaves all of them (R284). -/
def State.inBanks (s : State) (banks : List Nat) (f : State → Nat → Nat × State) : State :=
  let r := banks.foldl (fun (r : List Nat × State) b => let (n, s) := f r.2 b; (r.1 ++ [n], s)) ([], s)
  match r.1.find? fun n => n == 3 || n == 4 with
  | some n => s.fwdDone n
  | none => (r.2.pmTables true banks.length).fwdDone (if r.1.contains 2 then 2 else 0)

/-- Runs a delete in the banks named: status 1 when none of them holds the entry. -/
def State.outBanks (s : State) (banks : List Nat) (f : State → Nat → Nat × State) : State :=
  let r := banks.foldl (fun (r : Bool × State) b => let (n, s) := f r.2 b; (r.1 || n == 0, s)) (false, s)
  if r.1 then (r.2.pmTables true banks.length).fwdDone 0 else s.fwdDone 1

/-- The 64 members of an ECMP group in FWD_ECMP_MEM. -/
def State.ecmpData (s : State) : List Nat :=
  (List.range 64).map fun m => bitsOf (s.rd (Reg.FWD_ECMP_MEM (m / 2))).toNat (if m % 2 = 0 then 31 else 15)
    (if m % 2 = 0 then 16 else 0)

/-- OP 2: writes an entry (R278, R279, R283). -/
def State.fwdInsert (s : State) (t bank index : Nat) : State :=
  let bs := s.fwdData
  if t = 3 then
    let n := nextHopOf bs
    if 65536 ≤ index ∨ 66 < n.port ∨ 4096 ≤ n.vid then s.fwdDone 6
    else { s with fwd := { s.fwd with nhops := s.fwd.nhops.put index {} n } }.fwdDone 0
  else if t = 4 then
    let n := bitsOf (s.rd (Reg.FWD_CMD_DATA 0)).toNat 6 0
    if 4096 ≤ index ∨ 64 < n then s.fwdDone 6
    else { s with fwd := { s.fwd with ecmp := s.fwd.ecmp.put index [] (n :: s.ecmpData) } }.fwdDone 0
  else if !s.fwdArgOk t true then s.fwdDone 6
  else if s.shadowBusy t bank then s.fwdDone 5
  else if t = 0 then s.inBanks (s.banksOf t bank) fun s b => s.l2Insert b (l2Of bs)
  else s.inBanks (s.banksOf t bank) fun s b => s.lpmInsert (t - 1) b (lpmOf (t - 1) bs)

/-- OP 3: removes the entry with the key in DATA. -/
def State.fwdDelete (s : State) (t bank : Nat) : State :=
  let bs := s.fwdData
  if 2 < t ∨ !s.fwdArgOk t false then s.fwdDone 6
  else if s.shadowBusy t bank then s.fwdDone 5
  else if t = 0 then s.outBanks (s.banksOf t bank) fun s b => s.l2Delete b (l2Of bs)
  else s.outBanks (s.banksOf t bank) fun s b => s.lpmDelete (t - 1) b (lpmOf (t - 1) bs)

/-- OP 4: starts a flush. An L2 flush takes both banks, or the shadow with BANK 1; a prefix flush takes the shadow. -/
def State.fwdStartFlush (s : State) (t bank : Nat) : State :=
  let w := (s.rd (Reg.FWD_CMD_DATA 0)).toNat
  if 2 < t ∨ (t = 0 ∧ bitAt w 31 ∧ 66 < bitsOf w 22 16) then s.fwdDone 6
  else if s.oldLive (epochTable t) then s.fwdDone 5
  else
    { s with fwd := { s.fwd with flushing := some (t, w, bank == 1) } }.fs Fld.FWD_CMD_STAT_BUSY 1

/-- OP 5: starts a copy of the active bank into the shadow (R281). -/
def State.fwdStartCopy (s : State) (t : Nat) : State :=
  if 2 < t then s.fwdDone 6
  else if s.oldLive (epochTable t) then s.fwdDone 5
  else { s with fwd := { s.fwd with copying := some t, copied := [] } }.fs Fld.FWD_CMD_STAT_BUSY 1

/-- OP 6: reads a next hop or an ECMP group. -/
def State.fwdRead (s : State) (t index : Nat) : State :=
  if t = 3 ∧ index < 65536 then (s.setFwdData (s.nextHop index).bytes).fwdDone 0
  else if t = 4 ∧ index < 4096 then
    let e := s.fwd.ecmp.get index []
    let ms := e.tail
    let s := s.wr (Reg.FWD_CMD_DATA 0) (BitVec.ofNat 32 (e.headD 0))
    ((List.range 32).foldl (fun s j =>
      s.wr (Reg.FWD_ECMP_MEM j) (BitVec.ofNat 32 (ms.getD (2 * j) 0 * 65536 + ms.getD (2 * j + 1) 0))) s).fwdDone 0
  else s.fwdDone 6

/-- A write of FWD_CMD with GO: the fields are stored unless one is out of range, and the command runs unless another is
in progress (R283, R289). A block that the command reads uncorrectable, of those named in `bad`, is lost first (R285). -/
def State.fwdCommand (s : State) (op : Nat) (table : BitVec 3) (bank : BitVec 2) (index : BitVec 21)
    (bad : List (Nat × Nat × Nat)) : State :=
  let t := table.toNat
  if op = 7 ∨ 4 < t ∨ bank = 3 then s.denied Spec.FWD_CMD
  else
    if s.fb Fld.FWD_CMD_STAT_BUSY then s.fs Fld.FWD_CMD_STAT_STATUS 7
    else
      let s := s.store Spec.FWD_CMD [] (op * 2 ^ 28 + t * 2 ^ 25 + bank.toNat * 2 ^ 23 + index.toNat)
      let s := if t < 3 ∧ op < 4 ∧ !(1 < op && s.shadowBusy t bank.toNat) then s.loseLines t (s.banksOf t bank.toNat) bad else s
      match op with
      | 0 => s.fwdSearch t bank.toNat
      | 1 => s.fwdNext t bank.toNat index.toNat
      | 2 => s.fwdInsert t bank.toNat index.toNat
      | 3 => s.fwdDelete t bank.toNat
      | 4 => s.fwdStartFlush t bank.toNat
      | 5 => s.fwdStartCopy t
      | _ => s.fwdRead t index.toNat

/-- SEARCH (R283). -/
def execSearch (table : BitVec 3) (bank : BitVec 2) (index : BitVec 21) (bad : List (Nat × Nat × Nat)) (s : State) : Res :=
  .next (s.begin.fwdCommand 0 table bank index bad)

/-- NEXT (R283). -/
def execNext (table : BitVec 3) (bank : BitVec 2) (index : BitVec 21) (bad : List (Nat × Nat × Nat)) (s : State) : Res :=
  .next (s.begin.fwdCommand 1 table bank index bad)

/-- INSERT (R283). -/
def execInsert (table : BitVec 3) (bank : BitVec 2) (index : BitVec 21) (bad : List (Nat × Nat × Nat)) (s : State) : Res :=
  .next (s.begin.fwdCommand 2 table bank index bad)

/-- DELETE (R283). -/
def execDelete (table : BitVec 3) (bank : BitVec 2) (index : BitVec 21) (bad : List (Nat × Nat × Nat)) (s : State) : Res :=
  .next (s.begin.fwdCommand 3 table bank index bad)

/-- FWD_FLUSH (R283). -/
def execFwdFlush (table : BitVec 3) (bank : BitVec 2) (index : BitVec 21) (s : State) : Res :=
  .next (s.begin.fwdCommand 4 table bank index [])

/-- FWD_COPY (R281, R283). -/
def execFwdCopy (table : BitVec 3) (bank : BitVec 2) (index : BitVec 21) (s : State) : Res :=
  .next (s.begin.fwdCommand 5 table bank index [])

/-- FWD_READ (R283). -/
def execFwdRead (table : BitVec 3) (bank : BitVec 2) (index : BitVec 21) (s : State) : Res :=
  .next (s.begin.fwdCommand 6 table bank index [])

/-- FWD_COPY_COMPLETE: the shadow holds what the active bank held, line by line as it was copied, and BUSY clears (R281). The lines
not yet copied are copied as they stand; those named in `bad` read uncorrectable (R285). -/
def execFwdCopyComplete (bad : List (Nat × Nat)) (s : State) : Res :=
  let s := s.begin
  match s.fwd.copying with
  | none => .next s
  | some t =>
    let a := s.activeBank t
    let s := s.loseLines t [a] (bad.map fun x => (a, x.1, x.2))
    let s := if t = 0 then
        let sh := 1 - a
        let live := s.fwd.l2.filter fun e => e.1 / 524288 == a || s.fwd.copied.contains (e.1 % 524288 / 2)
        let new := (s.fwd.l2.filter fun e => e.1 / 524288 == a && !s.fwd.copied.contains (e.1 % 524288 / 2)).map fun e =>
          (e.1 % 524288 + sh * 524288, e.2)
        { s with fwd := { s.fwd with l2 := new.foldl (fun t e => t.ins e.1 e.2) live } }
      else s.modLpm (t - 1) (1 - a) fun _ => s.lpmBank (t - 1) a
    .next ({ s with fwd := { s.fwd with copying := none, copied := [] } }.fwdDone 0)

/-! ## Flip (R263, R264) -/

/-- Makes the shadow of one table active. -/
def State.flipOne (s : State) (t : Nat) : State :=
  let e := epochTable t
  let refs := s.epochRef e 0
  let s := s.fs (curEpochFld e) ((s.curEpoch e + 1) % 16)
  let s := { s with epochBank := s.epochBank.put e 0 (1 - s.epochBank.get e 0) }
  let s := (s.setEpochRef e 1 refs).setEpochRef e 0 0
  if refs = 0 then s.log 0x0A06 else s.setOldLive e true

/-- Whether a table cannot be flipped now (R264). (DESIGN CHOICE, log 50) -/
def State.flipBlocked (s : State) (t : Nat) : Bool :=
  s.oldLive (epochTable t) || s.fwd.copying == some t
    || (match s.fwd.flushing with | some (u, _, _) => u == t | none => false) || (t == 0 && s.fwd.flushWait != [])

/-- A write of FWD_EPOCH_CTL with FLIP (R263, R264): bit 2 of TABLES is L2, bit 1 IPv4, bit 0 IPv6. (DESIGN CHOICE, log 50)
-/
def State.fwdFlip (s : State) (tables : Nat) : State :=
  let s := s.fs Fld.FWD_EPOCH_CTL_TABLES tables
  let ts := [0, 1, 2].filter fun t => bitAt tables (2 - t)
  if ts.any s.flipBlocked then (s.fs Fld.FWD_EPOCH_CTL_FLIP_REFUSED 1).log 0x0A05
  else ts.foldl State.flipOne (s.log 0x0A03 (d1 tables))

/-- FLIP (R263, R264). -/
def execFlip (tables : BitVec 3) (s : State) : Res := .next (s.begin.fwdFlip tables.toNat)

end Sys2Proof.Machine
end

