-- ==== Sys2Proof/Machine/Issue.lean ====
section
/-! DEFINITION. What happens to a packet when its descriptor is issued: mirror offers and copies (R320–R322), the copy to
port 66 (R118), and the destination (R42–R44, R200, R333). -/

namespace Sys2Proof.Machine

/-! ## Copies (R320–R322) -/

/-- Adds a copy of a packet under the replicator's tag, charged to nothing yet, with its cells; none when cells run out. It carries the
frame as received, whatever passes have rewritten (R322). -/
def State.addCopy (s : State) (p : Packet) (c : CopyInfo) : Option (Nat × State) :=
  let tag := tagOf p.slice codeMirror
  let len := match p.received with | some f => f.length | none => p.len
  let n := if p.ended then cellsFor len else 1
  let (cs, s) := s.allocCells p.slice tag n
  if cs.length < n then none
  else
    let q : Packet :=
      { bytes := p.received.getD p.bytes, inPort := p.inPort, slice := p.slice, rx := p.rx, ended := p.ended, good := p.good,
        len := len, cells := cs, desc := s.newDesc, tag := tag, gen := (s.cell (cs.headD 0)).gen, pass := p.pass, head := p.head, epochs := p.epochs,
        tc := p.tc, runSlice := p.runSlice, madeRecord := p.madeRecord, copy := some c, prog := p.prog,
        hadRecord := p.hadRecord, scratch := p.scratch }
    let (pid, s) := s.addPkt q
    some (pid, s.linkCells pid p.ing.owner len cs)

/-- The template and header bytes a session adds in front (R322). -/
def CopyInfo.extra (c : CopyInfo) : Nat := if c.hdr then (if c.tagged then 18 else 14) + 16 else 0

/-- Whether a copy's bytes are cut, once its length is known (R322). -/
def CopyInfo.cuts (c : CopyInfo) (len : Nat) : Bool :=
  (c.trunc != 0 && decide (c.trunc < len - 4)) || decide (10236 < c.extra + min (len - 4) (if c.trunc = 0 then len else c.trunc))

/-- Makes one copy for a session and enqueues it, or drops it into BUF_MIR_DROP (R321). Its ingress admission is that of R299: a
bound of 43 cells, settled at once when the frame has ended. -/
def State.makeCopy (s : State) (pid m egress : Nat) (dropped : Bool) : State :=
  let p := s.pkt pid
  let o := p.ing.owner
  let lost := s.inc Reg.BUF_MIR_DROP
  if !(s.ownerCfg o).mir then lost
  else
    match s.areaFor o 43 with
    | none => lost
    | some a =>
      let info : CopyInfo :=
        { session := m, seq := s.fg (Fld.BUF_MIR_SEQ_SEQ m), egress := egress, dropped := dropped,
          hdr := s.fb (Fld.BUF_MIR_CFG_HDR m), tagged := s.fb (Fld.BUF_MIR_CFG_TAG_EN m),
          trunc := s.fg (Fld.BUF_MIR_TRUNC_TRUNC m), rxSec := p.rx.sec, rxNs := p.rx.ns, inPort := p.inPort }
      match s.addCopy p info with
      | none => lost
      | some (cid, s) =>
        let s := (s.charge o a 43).modPkt cid fun q => { q with ing := { owner := o, area := a, cells := 43 }, reason := 5 }
        let s := if p.ended then s.settle cid else s
        let s := (s.fs (Fld.BUF_MIR_SEQ_SEQ m) ((s.fg (Fld.BUF_MIR_SEQ_SEQ m) + 1) % 65536)).inc Reg.BUF_MIR_COPIES
        let s := s.enqueue cid (s.fg (Fld.BUF_MIR_CFG_PORT m)) (s.fg (Fld.BUF_MIR_CFG_QUEUE m))
        if !s.hasPkt cid then s.inc Reg.BUF_MIR_DROP
        else if p.ended && info.cuts (s.pkt cid).len then s.inc Reg.BUF_MIR_TRUNC_CNT else s

/-- Offers a packet to a session, which copies every Nth offer (R320). (DEDUCED, log 33) -/
def State.offerMirror (s : State) (pid m egress : Nat) (dropped : Bool) : State :=
  if !s.fb (Fld.BUF_MIR_CFG_EN m) then s
  else
    let n := s.buf.offers.get m 0 + 1
    let due := decide (s.fg (Fld.BUF_MIR_SAMPLE_N m) ≤ n)
    let s := { s with buf := { s.buf with offers := s.buf.offers.put m 0 (if due then 0 else n) } }
    if due then s.makeCopy pid m egress dropped else s

/-- Offers a packet to its rule's session and to the sessions its program named, once each over all its passes, and never a copy
(R320). -/
def State.offerAll (s : State) (pid egress : Nat) (dropped : Bool) : State :=
  let p := s.pkt pid
  if p.copy.isSome then s
  else
    let w := p.rule.getD 0
    let byRule := if bitAt w 58 then [bitsOf w 57 55] else []
    let due := (byRule ++ p.named.filter fun m => !byRule.contains m).filter fun m => !p.offered.contains m
    due.foldl (fun s m => s.offerMirror pid m egress dropped) (s.setPkt pid { p with named := [], offered := p.offered ++ due })

/-- The copy of VERDICT 3 (R118): the frame as received, on queue pc_tc mod QCOUNT of port 66 (R333). (DEDUCED, log 33) -/
def State.cpuCopy (s : State) (pid : Nat) : State :=
  let p := s.pkt pid
  match s.addCopy p { session := 0, seq := 0, egress := 0, dropped := false, hdr := false, tagged := false, trunc := 0,
                      rxSec := p.rx.sec, rxNs := p.rx.ns, inPort := p.inPort, toCpu := true } with
  | none => s
  | some (cid, s) =>
    let s := s.modPkt cid fun q => { q with reason := 2 }
    s.enqueue cid 66 (p.tc % max 1 (s.fg (Fld.SCH_PORT_CFG_QCOUNT 66)))

/-! ## Issuing a descriptor (R42–R44, R200, R335) -/

/-- Drops a packet whose program ended without sending it, or that no program took. (DEDUCED, log 32) -/
def State.dropPkt (s : State) (pid : Nat) : State := s.release pid

/-- Issues a packet's descriptor: its mirror offers, a timestamp entry of fate 4 where the destination is no front port
(R378), and its destination. (DEDUCED, log 32) A SETQ to port 65 names no target slice (R42): the packet's own slice is
taken. (DESIGN CHOICE, log 103) -/
def State.issue (s : State) (pid : Nat) : State :=
  let p := s.pkt pid
  let egress := match p.dest with | .queue port _ => port | .recirc _ => 65 | _ => 0xFF
  let s := s.offerAll pid egress (decide (p.dest = .drop ∨ p.dest = .none))
  let s := if 64 ≤ egress then (s.tsFate p egress 4 none).modPkt pid fun p => { p with tsreq := none } else s
  let recirc := fun (s : State) slice q =>
    if s.fg Fld.PRT_INTERNAL_CTL_MAX_PASS ≤ p.pass ∨ !(s.slice slice).inService then
      (s.inc Reg.PRT_RECIRC_DROP).dropPkt pid
    else (s.modPkt pid fun p => { p with target := slice }).enqueue pid 65 q
  match p.dest with
  | .none => (s.inc (Reg.TRW_NO_DEST p.runSlice)).dropPkt pid
  | .drop => (s.inc (Reg.TRW_DROP p.runSlice)).dropPkt pid
  | .recirc slice => recirc s slice (p.tc % max 1 (s.fg (Fld.SCH_PORT_CFG_QCOUNT 65)))
  | .queue 65 q => recirc s p.slice q
  | .queue port q => s.enqueue pid port q

/-- The packets of one ingress port and one pass that no flow orders, or that have not asked for a flow yet: a recirculated
packet keeps no order with one that is not (R39). (DESIGN CHOICE, log 30) -/
def State.untrackedOf (s : State) (port pass : Nat) : List (Nat × Packet) :=
  s.packets.filter fun e => (e.2.untracked || e.2.flow == .notAsked) && e.2.pass == pass && e.2.inPort == port
    && e.2.copy.isNone && !e.2.dead && e.2.stage != .queued && e.2.stage != .txing

/-- The first of them to have arrived. -/
def State.firstUntracked (s : State) (port pass : Nat) : Option (Nat × Packet) :=
  (s.untrackedOf port pass).foldl (fun (b : Option (Nat × Packet)) e =>
    match b with
    | none => some e
    | some x => if e.2.arrival < x.2.arrival then some e else b) none

/-- Issues the untracked packets of a port and a pass whose programs have ended, up to the first one that has not (R39).
(DESIGN CHOICE, log 30) -/
def State.issueInOrder (s : State) (port pass : Nat) : Nat → State
  | 0 => s
  | n + 1 =>
    match s.firstUntracked port pass with
    | some (pid, p) => if p.stage = .issueWait then (s.issue pid).issueInOrder port pass n else s
    | none => s

/-- As `issueInOrder`, for every port and pass. -/
def State.issueWaiting (s : State) : State :=
  (List.range 67).foldl (fun s p =>
    [1, 2, 3, 4].foldl (fun (s : State) pass => s.issueInOrder p pass s.packets.length) s) s

end Sys2Proof.Machine
end

