-- ==== Sys2Proof/Machine/Flow.lean ====
section
/-! DEFINITION. The flow table (chapter 4): buckets, slots and cache lines, creation and eviction, write-back with its
stamps, log entries and exports, and poison markers. -/

namespace Sys2Proof.Machine

/-! ## Buckets, slots and the cache (R134–R147) -/

/-- The two halves of a flow hash. -/
def hashHi (h : Nat) : Nat := h / 2 ^ 32 % 2 ^ 32
@[inherit_doc hashHi] def hashLo (h : Nat) : Nat := h % 2 ^ 32

/-- b of R134. -/
def State.flowBits (s : State) : Nat := 23 + s.fg Fld.FLE_CFG_REGION

/-- The candidate buckets of a hash: one when the two are equal (R135). -/
def State.flowBuckets (s : State) (h : Nat) : List Nat :=
  let b := s.flowBits
  let x := bitsOf (hashLo h) (b + 2) 3
  let y := (bitsOf (hashHi h) 24 0 ^^^ bitsOf (hashLo h) 31 7) % 2 ^ b
  if x = y then [x] else [x, y]

/-- The bank that serves a hash: retired banks are passed over in ascending order, modulo 8 (R147, R177). -/
def State.flowBank (s : State) (h : Nat) : Nat :=
  let b := hashLo h % 8
  (((List.range 8).map fun i => (b + i) % 8).find? fun i => !s.fbit Fld.FLE_STATUS_BANK_RETIRED i).getD b

/-- The cache set of a hash (R147). -/
def cacheSet (h : Nat) : Nat := bitsOf (hashLo h) 14 3

/-- A slot of a bucket, and its change. -/
def State.fslot (s : State) (b k : Nat) : Slot := s.fle.slots.get (b * 8 + k) {}
@[inherit_doc State.fslot] def State.setFslot (s : State) (b k : Nat) (x : Slot) : State :=
  { s with fle := { s.fle with slots := s.fle.slots.put (b * 8 + k) {} x } }

/-- The package-memory address of a tag line and of a slot (R135). -/
def tagLineAddr (b : Nat) : Nat := 0x1000000000 + b * 512
@[inherit_doc tagLineAddr] def slotAddr (b k : Nat) : Nat := tagLineAddr b + 64 * (k + 1)

/-- A package-memory access of the flow engine for a bank. -/
def State.pmFlow (s : State) (write : Bool) (bank addr : Nat) : State :=
  s.pmTouch 0 write 1 { kind := 0, masters := 2 ^ (4 + bank), addr := some addr }

/-- The slots that a lookup reads, in order: those of the key's family with its fingerprint (R148). -/
def State.fpSlots (s : State) (v6 : Bool) (h : Nat) : List (Nat × Nat) :=
  ((s.flowBuckets h).flatMap fun b => (List.range 7).map fun k => (b, k)).filter fun x =>
    let t := s.fslot x.1 x.2
    t.kind == (if v6 then 2 else 1) && t.fp == hashHi h

/-- The bytes of a bucket's tag line (R136). -/
def State.tagLine (s : State) (b : Nat) : List Byte :=
  let xs := (List.range 7).map (s.fslot b)
  let packed := fun (w : Nat) (f : Slot → Nat) => (List.range 7).foldl (fun n k => n + f (s.fslot b k) * 2 ^ (w * k)) 0
  xs.flatMap (fun x => beBytes 4 x.fp) ++ xs.flatMap (fun x => beBytes 2 x.stamp) ++ beBytes 2 (packed 2 Slot.kind)
    ++ beBytes 1 (s.fle.overflow.get b 0) ++ beBytes 3 (packed 3 Slot.bank) ++ List.replicate 16 0

/-- The slots that the bytes of a tag line show for a key's family and fingerprint (R148). -/
def tagMatches (v6 : Bool) (h : Nat) (t : List Byte) : List Nat :=
  (List.range 7).filter fun k =>
    bitsOf (beAt t 42 2) (2 * k + 1) (2 * k) == (if v6 then 2 else 1) && beAt t (4 * k) 4 == hashHi h

/-- The package-memory addresses of the block or the two blocks of a slot. -/
def slotBlocks (v6 : Bool) (b k : Nat) : List Nat := if v6 then [slotAddr b k, slotAddr b (k + 1)] else [slotAddr b k]

/-- A record as its blocks were read. -/
def Record.misread (r : Record) (xs : List BlockRead) : Option Record :=
  if xs.all fun x => x.diff == [] then some r
  else recordRead r.key.v6 (Machine.misread (Machine.misread r.bytes 0 (xs.headD {}).diff) 64 (xs.tail.headD {}).diff)

/-- What a slot holds for a key (R142, R172). -/
inductive SlotHit where
  | record (b k : Nat) (r : Record)
  | marker (b k : Nat)
  | none

/-- The first slot of a list that matches a key: its record, or a poison marker. -/
def State.matchSlots (s : State) (key : FlowKey) : List (Nat × Nat) → SlotHit
  | [] => .none
  | (b, k) :: r =>
    match (s.fslot b k).record with
    | some x => if x.poisoned then .marker b k else if x.key = key then .record b k x else s.matchSlots key r
    | none => s.matchSlots key r

/-- What a lookup of a key finds. -/
def State.lookupKey (s : State) (key : FlowKey) (h : Nat) : SlotHit := s.matchSlots key (s.fpSlots key.v6 h)

/-- The cache line that holds a slot. -/
def State.line (s : State) (b k : Nat) : Option CacheLine := s.fle.cache.find? fun l => l.bucket == b && l.slot == k

/-- Drops the cache line of a slot. (DEDUCED, log 40) -/
def State.dropLine (s : State) (b k : Nat) : State :=
  { s with fle := { s.fle with cache := s.fle.cache.filter fun l => !(l.bucket == b && l.slot == k) } }

/-- An operation in service, and its change. -/
def State.op (s : State) (id : Nat) : FlowOp := s.fle.ops.get id {}
@[inherit_doc State.op] def State.hasOp (s : State) (id : Nat) : Bool := s.fle.ops.any fun e => e.1 == id
@[inherit_doc State.op] def State.modOp (s : State) (id : Nat) (f : FlowOp → FlowOp) : State :=
  { s with fle := { s.fle with ops := s.fle.ops.ins id (f (s.op id)) } }

/-- The requests held in a bank's queues. -/
def State.held (s : State) (bank : Nat) : List Held := s.fle.holds.get bank []
@[inherit_doc State.held] def State.setHeld (s : State) (bank : Nat) (hs : List Held) : State :=
  { s with fle := { s.fle with holds := s.fle.holds.put bank [] hs } }

/-- How many packets, or operations of other kinds, a bank's hold queues hold, and how many they can (R153). -/
def State.heldOf (s : State) (bank : Nat) (packet : Bool) : Nat := ((s.held bank).filter fun x => x.pid.isSome == packet).length
@[inherit_doc State.heldOf] def holdRoom (packet : Bool) : Nat := if packet then 1024 else 64

/-- Whether a key has an operation in service or held (R150). -/
def State.keyBusy (s : State) (key : FlowKey) : Bool :=
  s.fle.ops.any (fun e => e.2.key == key) || s.fle.holds.any fun e => e.2.any fun h => h.key == key

/-- The ways a line takes. -/
def State.lineWays (s : State) (l : CacheLine) : Nat := if (s.fslot l.bucket l.slot).kind = 2 then 2 else 1

/-- Whether a line may be replaced: its flow has no operation in service or held (R147). -/
def State.lineFree (s : State) (l : CacheLine) : Bool :=
  match (s.fslot l.bucket l.slot).record with | some r => !s.keyBusy r.key | none => true

/-- Takes a line out of the cache, writing it out when it is dirty. -/
def State.writeOut (s : State) (l : CacheLine) : State :=
  let s := s.dropLine l.bucket l.slot
  if l.dirty then (s.evc (24 + l.bank)).pmFlow true l.bank (slotAddr l.bucket l.slot) else s

/-- Makes room for `need` ways in a set; the line replaced is a free value among those that may be (R147). None when there is
no such line. (DESIGN CHOICE, log 36) -/
def State.makeWays (s : State) (bank set need : Nat) : Nat → Option State
  | 0 => none
  | f + 1 =>
    let ls := s.fle.cache.filter fun l => l.bank == bank && l.set == set
    if ls.foldl (fun n l => n + s.lineWays l) 0 + need ≤ 16 then some s
    else
      let cand := ls.filter s.lineFree
      let (v, s) := s.free
      match cand[v.toNat % max 1 cand.length]? with
      | some l => (s.writeOut l).makeWays bank set need f
      | none => none

/-- Fills a line with a slot. -/
def State.fill (s : State) (bank h b k : Nat) : Option State :=
  if (s.line b k).isSome then some s
  else
    (s.makeWays bank (cacheSet h) (if (s.fslot b k).kind = 2 then 2 else 1) 3).map fun s =>
      { s with fle := { s.fle with cache := s.fle.cache ++ [{ bank := bank, set := cacheSet h, bucket := b, slot := k, dirty := false }] } }

/-- Changes the record of a slot: in its cache line, which becomes dirty, or in package memory. (DESIGN CHOICE, log 45) -/
def State.putRecord (s : State) (b k : Nat) (r : Record) : State :=
  let s := s.setFslot b k { s.fslot b k with record := some r }
  match s.line b k with
  | some _ =>
    { s with fle := { s.fle with cache := s.fle.cache.map fun (l : CacheLine) =>
      if l.bucket = b ∧ l.slot = k then { l with dirty := true } else l } }
  | none => s.pmFlow true ((s.fslot b k).bank) (slotAddr b k)

/-! ## Timeouts and stamps (R146, R164, R165) -/

/-- The timeout class of a connection state code (R146). -/
def timeoutClass (c : Nat) : Nat :=
  match c with
  | 0x00 => 6
  | 0x01 | 0x02 | 0x03 => 0
  | 0x04 => 1
  | 0x05 | 0x06 | 0x07 => 2
  | 0x08 => 3
  | 0x10 | 0x11 => 4
  | 0x12 => 5
  | _ => 7

/-- T of a record, in coarse ticks (R164). -/
def State.ticksOf (s : State) (r : Record) : Nat :=
  let t := s.timeoutS r.key.zone (timeoutClass r.state)
  if t = 0 ∨ r.pinned then 32767 else ceilDiv (t * 1000) 1024

/-- (int16)(stamp − now_tick). -/
def State.stampLeft (s : State) (stamp : Nat) : Int := signedOf (stamp + 65536 - s.tick) 16

/-- Sets the stamp of a record's slots. -/
def State.setStamp (s : State) (b k stamp : Nat) : State :=
  let x := s.fslot b k
  let s := s.setFslot b k { x with stamp := stamp }
  if x.kind = 2 then s.setFslot b (k + 1) { s.fslot b (k + 1) with stamp := stamp } else s

/-- Refreshes the stamp at a write-back where R165 asks for it. -/
def State.refreshStamp (s : State) (b k : Nat) (old : Option Record) (r : Record) : State :=
  let t := s.ticksOf r
  let due := match old with
    | none => true
    | some o => timeoutClass o.state != timeoutClass r.state || decide (s.stampLeft (s.fslot b k).stamp * 2 < (t : Int))
  if due then (s.setStamp b k ((s.tick + t) % 65536)).pmFlow true (s.fslot b k).bank (tagLineAddr b) else s

/-! ## Counters of a record (R144) -/

/-- Adds packets and bytes in a direction; a wrap sets EXPORT. -/
def Record.count (r : Record) (aToB : Bool) (pkts bytes : Nat) : Record :=
  let w := fun (p b : Nat) => decide (2 ^ 40 ≤ p + pkts ∨ 2 ^ 48 ≤ b + bytes)
  if aToB then
    { r with pktsAB := (r.pktsAB + pkts) % 2 ^ 40, bytesAB := (r.bytesAB + bytes) % 2 ^ 48,
             flags := setBit r.flags bExport (r.flag bExport || w r.pktsAB r.bytesAB) }
  else
    { r with pktsBA := (r.pktsBA + pkts) % 2 ^ 40, bytesBA := (r.bytesBA + bytes) % 2 ^ 48,
             flags := setBit r.flags bExport (r.flag bExport || w r.pktsBA r.bytesBA) }

/-- Takes one packet and some bytes off a direction (R79). -/
def Record.uncount (r : Record) (aToB : Bool) (bytes : Nat) : Record :=
  if aToB then
    { r with pktsAB := (r.pktsAB + 2 ^ 40 - 1) % 2 ^ 40, bytesAB := (r.bytesAB + 2 ^ 48 - bytes % 2 ^ 48) % 2 ^ 48 }
  else
    { r with pktsBA := (r.pktsBA + 2 ^ 40 - 1) % 2 ^ 40, bytesBA := (r.bytesBA + 2 ^ 48 - bytes % 2 ^ 48) % 2 ^ 48 }

/-! ## Write-back of a record (R165, R420, R428, R570) -/

/-- Whether bytes other than counters and last seen differ (R428). -/
def Record.changed (a b : Record) : Bool :=
  a.pinned != b.pinned || a.state != b.state || a.flags != b.flags || a.prog != b.prog || a.policer != b.policer
    || a.gen != b.gen || a.xaddr != b.xaddr || a.xport != b.xport || a.member != b.member

/-- A record with MIRRORED as a write-back sets it (R420). -/
def State.mirrored (s : State) (r : Record) : Record :=
  r.setFlag bMirrored (s.owns r.key)

/-- Writes a record back to its slot: MIRRORED, an interim request, a log entry, the stamp (R165, R420, R428, R570). -/
def State.commit (s : State) (b k : Nat) (old : Option Record) (r : Record) : State :=
  let r := s.mirrored r
  let (r, s) := s.exportInterim r ((old.getD r).lastSeen)
  let logged := match old with
    | none => true
    | some o => o.changed r || o.lastSeen / 1024 != r.lastSeen / 1024
  let (r, s) := if logged then s.graftUpsert r (s.line b k).isSome else (r, s)
  (s.putRecord b k r).refreshStamp b k old r

/-! ## Deletion (R143, R157, R163, R166, R202) -/

/-- Empties the slots of a record or a marker; the generations stay (R143). -/
def State.clearSlot (s : State) (b k : Nat) : State :=
  let s := { s with fle := { s.fle with repairs := s.fle.repairs.erase (b * 8 + k) } }
  let x := s.fslot b k
  let s := (s.dropLine b k).setFslot b k { gen := x.gen }
  let s := if x.kind = 2 then s.setFslot b (k + 1) { gen := (s.fslot b (k + 1)).gen } else s
  s.pmFlow true x.bank (tagLineAddr b)

/-- Deletes a record but for its mapping reference: its export with a reason, its Graft delete and its place in the zone's
count (R157, R202). -/
def State.removeRecord (s : State) (b k : Nat) (reason : Option Nat) : State :=
  match (s.fslot b k).record with
  | none => s
  | some r =>
    let cached := (s.line b k).isSome
    let s := match reason with | some n => s.exportEnd r n | none => s
    let s := if r.flag bMirrored then s.graftDelete r.key cached else s
    (s.modZone r.key.zone fun z => { z with live := z.live - 1 }).clearSlot b k

/-- Deletes a record and releases its mapping reference (R239). -/
def State.deleteRecord (s : State) (b k : Nat) (reason : Option Nat) : State :=
  match (s.fslot b k).record with
  | none => s
  | some r => (s.releaseRecordRef r).removeRecord b k reason

/-! ## Corrections (R79, R80, R144) -/

/-- Applies a correction to the record it was counted on, if the slot still holds it (R80). -/
def State.correct (s : State) (c : Correction) : State :=
  let e := c.early
  match (s.fslot e.bucket e.slot).record with
  | some r =>
    if r.key = e.key ∧ r.gen = e.gen ∧ !r.poisoned then
      if c.minus then
        let (r, s) := s.graftUpsert (r.uncount e.aToB e.bytes) (s.line e.bucket e.slot).isSome
        s.putRecord e.bucket e.slot r
      else s.putRecord e.bucket e.slot (r.count e.aToB 0 c.late)
    else if c.minus then s.inc (Reg.PRT_CORR_MISSED c.port) else s
  | none => if c.minus then s.inc (Reg.PRT_CORR_MISSED c.port) else s

/-! ## Poison markers (R171, R172) -/

/-- A Graft message (R432). -/
def graftMessage (type seq ident : Nat) (body : List Byte) : List Byte :=
  let h := beBytes 1 type ++ beBytes 1 1 ++ beBytes 2 (16 + body.length) ++ beBytes 6 seq ++ beBytes 2 ident ++ body
  h ++ beBytes 4 (crc32c 0xFFFFFFFF h)

/-- Pads bytes with zeros to a length. -/
def padTo (n : Nat) (bs : List Byte) : List Byte := bs ++ List.replicate (n - bs.length) 0

/-- The generation of the next record or marker of a slot: the generation byte lies in the second slot of an IPv6 record
(R141, R143). -/
def State.nextGen (s : State) (b k : Nat) (v6 : Bool) : Nat := ((s.fslot b (if v6 then k + 1 else k)).gen + 1) % 256

/-- Writes a poison marker over a slot, or over both slots of an IPv6 record (R171, R172). An empty slot is rewritten too: it stays
of kind 00, so nothing is found in it (DEDUCED, log 40). -/
def State.poison (s : State) (b k : Nat) : State :=
  let x := s.fslot b k
  let v6 := x.kind == 2
  let m := if x.kind = 0 then none else some (poisonMarker v6 (s.nextGen b k v6))
  let s := (s.dropLine b k).setFslot b k { x with gen := (x.gen + 1) % 256, record := m }
  let s := if v6 then
      let y := s.fslot b (k + 1)
      s.setFslot b (k + 1) { y with gen := (y.gen + 1) % 256 }
    else s
  ((s.inc Reg.FLE_POISONED).pmFlow true x.bank (slotAddr b k)).log 0x0702

/-! ## Creation and eviction (R156–R163) -/

/-- The free slots of a bucket: kind 00 and not reserved (R159). -/
def State.freeSlots (s : State) (b : Nat) : List Nat :=
  (List.range 7).filter fun k => let x := s.fslot b k; x.kind == 0 && x.reserved.isNone

/-- The lowest place for a record in a bucket: a free slot, or two adjacent ones (R159). -/
def State.placeIn (s : State) (b need : Nat) : Option Nat :=
  let fs := s.freeSlots b
  if need = 2 then fs.find? fun k => fs.contains (k + 1) else fs.head?

/-- Whether the record of a slot may be evicted (R162): a poison marker stands for the record of the operation held behind
it. -/
def State.victim (s : State) (b k : Nat) : Bool :=
  let x := s.fslot b k
  (x.kind == 1 || x.kind == 2) && x.reserved.isNone
    && match x.record with
      | some r => !r.pinned && !(if r.poisoned then s.fle.ops.any fun e => e.2.loc == some (b, k) else s.keyBusy r.key)
      | none => false

/-- The choices of a bucket (R162): for each, the slots whose records it evicts. -/
def State.choices (s : State) (b need : Nat) : List (List Nat) :=
  let free := s.freeSlots b
  if need = 1 then ((List.range 7).filter (s.victim b)).map fun k => [k]
  else
    let v4 := fun k => decide (k < 7) && (s.fslot b k).kind == 1 && s.victim b k
    let one := (List.range 6).filterMap fun k =>
      if (s.fslot b k).kind = 2 ∧ s.victim b k then some [k]
      else if free.contains k && v4 (k + 1) then some [k + 1]
      else if v4 k && free.contains (k + 1) then some [k]
      else none
    if one ≠ [] then one else (List.range 6).filterMap fun k => if v4 k && v4 (k + 1) then some [k, k + 1] else none

/-- The expiry of a choice: the later one of its records. -/
def State.choiceLeft (s : State) (b : Nat) (c : List Nat) : Int :=
  c.foldl (fun m k => max m (s.stampLeft (s.fslot b k).stamp)) (-32768)

/-- The choice with the nearest expiry, the first on ties. -/
def State.oldestChoice (s : State) (b need : Nat) : Option (List Nat) :=
  (s.choices b need).foldl (fun (x : Option (List Nat)) c =>
    match x with
    | none => some c
    | some y => if s.choiceLeft b c < s.choiceLeft b y then some c else some y) none

/-- The bucket and the choice that EVICT picks (R161, R162); the LFSR's value is free. (DESIGN CHOICE, log 36) -/
def State.pickVictims (s : State) (evict need : Nat) (bs : List Nat) : Option (Nat × List Nat) × State :=
  let b0 := bs.headD 0
  let b1 := bs.getD 1 b0
  let (v, s) := s.free
  let r := v.toNat % 65536
  let f0 := (s.freeSlots b0).length
  let f1 := (s.freeSlots b1).length
  let older := match s.oldestChoice b0 need, s.oldestChoice b1 need with
    | some x, some y => decide (s.choiceLeft b1 y < s.choiceLeft b0 x)
    | none, some _ => true
    | _, _ => false
  let second := if f0 ≠ f1 then decide (f0 < f1) else if evict = 1 then decide (r % 2 = 1) else older
  let order := if second then [b1, b0] else [b0, b1]
  (order.findSome? fun b =>
    let cs := s.choices b need
    if evict = 1 then (cs[r % max 1 cs.length]?).map fun c => (b, c) else (s.oldestChoice b need).map fun c => (b, c), s)

/-- Counts into a bucket's overflow counter, which saturates at 255 (R137). -/
def State.overflow (s : State) (b : Nat) : State :=
  { s with fle := { s.fle with overflow := s.fle.overflow.put b 0 (min 255 (s.fle.overflow.get b 0 + 1)) } }

/-- Evicts a record (R163). A marker evicted is a marker deleted (R182). -/
def State.evict (s : State) (b k : Nat) : State :=
  let marker := match (s.fslot b k).record with | some r => r.poisoned | none => false
  let s := match s.line b k with | some l => s.writeOut l | none => s
  let s := if marker then (s.clearSlot b k).inc Reg.FLE_REPAIR_FAILED else s.deleteRecord b k (some 5)
  ((s.overflow b).inc Reg.FLE_EVICTED).logLimited 0x0704 0 1 0 fun _ c => d4 c

/-- Finds a place for a record, evicting where neither bucket has room (R159, R161, R162). -/
def State.findPlace (s : State) (zone h need : Nat) : Option (Nat × Nat) × State :=
  let bs := s.flowBuckets h
  let b0 := bs.headD 0
  let b1 := bs.getD 1 b0
  let fit := fun b => if (s.placeIn b need).isSome then (s.freeSlots b).length else 0
  let f0 := fit b0
  let f1 := if bs.length = 1 then 0 else fit b1
  if f0 = 0 ∧ f1 = 0 then
    let ev := s.fg (Fld.FLE_ZPROF_CFG_EVICT (s.profile zone))
    let (pick, s) := if ev = 0 then (none, s) else s.pickVictims ev need bs
    match pick with
    | none => (none, bs.foldl State.overflow s)
    | some (b, c) =>
      let s := c.foldl (fun s k => s.evict b k) s
      ((s.placeIn b need).map fun k => (b, k), s)
  else
    let b := if f0 < f1 then b1 else b0
    ((s.placeIn b need).map fun k => (b, k), s)

/-- The tokens of a zone (R157). -/
def State.zoneTokens (s : State) (z : Nat) : Nat :=
  (s.zone z).tokens.getD (s.fle.profTokens.get (s.profile z) 0x4000)

/-- Serves a creation: its status, with a slot reserved for status 0 (R156–R159). With CR_RATE = 0 the rate check is disabled
whole: it takes no token either (DESIGN CHOICE, log 38). -/
def State.serveCreation (s : State) (id : Nat) : Nat × State :=
  let o := s.op id
  let z := o.key.zone
  let e := s.zone z
  let refuse := fun (s : State) =>
    (s.inc Reg.FLE_ZONE_REFUSED).logLimited 0x0706 0 1 z fun f c => d2 f ++ d4 c
  let rate := s.fg (Fld.FLE_ZPROF_CFG_CR_RATE (s.profile z))
  if e.limit ≠ 0 ∧ e.limit ≤ e.live + e.reserved then (2, refuse s)
  else if rate ≠ 0 ∧ s.zoneTokens z = 0 then (3, refuse s)
  else
    let s := if rate = 0 then s else s.modZone z fun x => { x with tokens := some (s.zoneTokens z - 1) }
    match s.findPlace z o.hash (if o.key.v6 then 2 else 1) with
    | (none, s) => (4, s.inc Reg.FLE_CREATE_FAIL)
    | (some (b, k), s) =>
      let take := fun (s : State) j => s.setFslot b j { s.fslot b j with reserved := some id }
      let s := take s k
      let s := if o.key.v6 then take s (k + 1) else s
      (0, (s.modZone z fun x => { x with reserved := x.reserved + 1 }).modOp id fun o => { o with reservation := some (b, k) })

/-- A new record, before its packets are counted (R143, R160). -/
def State.newRecord (s : State) (o : FlowOp) : Record :=
  let gen := match o.reservation with | some (b, k) => s.nextGen b k o.key.v6 | none => 0
  { key := o.key, gen := gen, created := s.flowMs / 1000 % 2 ^ 32, lastSeen := s.flowMs % 2 ^ 32 }

/-- Puts a new record into a place, with its tag-line fields, and counts it in its zone (R157, R159). -/
def State.placeRecord (s : State) (h b k : Nat) (r : Record) : State :=
  let t : Slot := { kind := if r.key.v6 then 2 else 1, fp := hashHi h, bank := hashLo h % 8,
                    gen := ((s.fslot b k).gen + 1) % 256, record := some r }
  let s := s.setFslot b k t
  let s := if r.key.v6 then
      s.setFslot b (k + 1) { t with kind := 3, gen := ((s.fslot b (k + 1)).gen + 1) % 256, record := none }
    else s
  s.modZone r.key.zone fun z => { z with live := z.live + 1 }

/-- Writes the record an operation reserved a slot for (R156, R159, R160). -/
def State.createRecord (s : State) (id : Nat) (r : Record) : State :=
  let o := s.op id
  match o.reservation with
  | none => s
  | some (b, k) =>
    let s := (s.placeRecord o.hash b k r).modZone o.key.zone fun z => { z with reserved := z.reserved - 1 }
    let s := s.modOp id fun o => { o with reservation := none, loc := some (b, k) }
    (s.inc Reg.FLE_CREATED).commit b k none r

end Sys2Proof.Machine
end

