-- ==== Sys2Proof/Machine/Apply.lean ====
section
/-! DEFINITION. The operations of the flow engine that end as they run (R150, R153): corrections, the entries of Graft on
records (R442) and the partner's repair requests (R446); and the mapping entries of Graft (R443). -/

namespace Sys2Proof.Machine

/-- Puts a message in the queue of those that wait to be sent. -/
def State.graftSend (s : State) (m : List Byte) : State := { s with grf := { s.grf with msgs := s.grf.msgs ++ [m] } }

/-- Where a key's record lies. -/
def State.recordAt (s : State) (key : FlowKey) : Option (Nat × Nat × Record) :=
  match s.lookupKey key (s.keyHash key) with
  | .record b k r => some (b, k, r)
  | _ => none

/-- Applies an upsert (R442). The bytes replaced are all but the generation and the MIRRORED bit of R420. -/
def State.applyUpsert (s : State) (seq : Nat) (r : Record) : State :=
  let r := (if r.key.v6 then r else { r with gseq := seq % 65536 }).setFlag bMirrored false
  match s.recordAt r.key with
  | some (b, k, o) =>
    let r := { r with gen := o.gen }
    (s.putRecord b k r).refreshStamp b k (some o) r
  | none =>
    let h := s.keyHash r.key
    match s.findPlace r.key.zone h (if r.key.v6 then 2 else 1) with
    | (none, s) => (s.inc Reg.GRF_APPLY_FAIL).logLimited 0x100D 0 1 0 fun _ _ => []
    | (some (b, k), s) =>
      let r := { r with gen := s.nextGen b k r.key.v6 }
      ((s.placeRecord h b k r).pmFlow true (hashLo h % 8) (slotAddr b k)).refreshStamp b k none r

/-- Applies a delete (R442). -/
def State.applyDelete (s : State) (key : FlowKey) : State :=
  match s.recordAt key with
  | some (b, k, _) => (s.modZone key.zone fun z => { z with live := z.live - 1 }).clearSlot b k
  | none => s

/-- Answers a repair request: this device's record, or "not found"; a device that is not PAIRED answers nothing (R446). -/
def State.answerRepair (s : State) (ident : Nat) (key : FlowKey) : State :=
  if s.fg Fld.GRF_STATUS_PAIR ≠ 2 then s
  else
  let body := match s.recordAt key with
    | some (_, _, r) =>
      beBytes 8 0 ++ (if key.v6 then r.keyBytes ++ r.dataBytes ++ List.replicate 6 0 else r.bytes)
    | none => beBytes 1 1 ++ beBytes 7 0
  (s.graftSend (graftMessage 3 0 ident body)).inc Reg.GRF_REPAIR_SERVED

/-- Whether an operation ends as it runs. -/
def OpKind.atOnce : OpKind → Bool
  | .correct _ | .upsert _ _ | .delete _ | .repair _ => true
  | _ => false

/-- The sequence number of a Graft entry that an operation applies. -/
def OpKind.seq? : OpKind → Option Nat
  | .upsert n _ | .delete n => some n
  | _ => none

/-- Runs an operation that ends at once. -/
def State.runAtOnce (s : State) (key : FlowKey) : OpKind → State
  | .correct c => s.correct c
  | .upsert seq r => (s.applyUpsert seq r).inc Reg.GRF_ENTRIES_RX
  | .delete _ => (s.applyDelete key).inc Reg.GRF_ENTRIES_RX
  | .repair ident => s.answerRepair ident key
  | _ => s

/-- The entries of Graft that have arrived and are not applied yet: those that wait, and those held behind an operation of their
key (R153). -/
def State.unapplied (s : State) : List Nat :=
  s.grf.waiting.map (·.1) ++ s.fle.holds.flatMap fun e => e.2.filterMap fun h => h.kind.seq?

/-- The last sequence number applied: every entry up to it has been. -/
def State.appliedSeq (s : State) : Nat := s.unapplied.foldl (fun m n => min m (n - 1)) s.grf.rxSeq

/-- The paired zones (R419). -/
def State.pairedZones (s : State) : List Nat := (s.grf.zones.filter fun e => e.2.paired).map (·.1)

/-- The standby's zone is SYNC once it has applied the walk's last entry (R445, step 6). -/
def State.settleStandby (s : State) (z : Nat) : State :=
  let g := s.gzone z
  if !g.owner && g.state == 3 && g.step == 4 && decide (g.endSeq ≤ s.appliedSeq) then
    s.modGzone z fun g => { g with state := 1, step := 0 }
  else s

/-! ## Mapping entries (R443) -/

/-- Gives a block to a subscriber (R443). -/
def State.assignBlock (s : State) (n : Nat) (u : Subscriber) (a k : Nat) : State :=
  let s := s.modGran ((s.blockGrans u.pool a k).headD 0) fun g => { g with owner := some n, held := false, tick := 0 }
  let s := s.setSub n { u with pub := a, blocks := u.blocks ++ [k] }
  let s := if u.blocks = [] then s.fs Fld.XLB_SUBS_COUNT (s.fg Fld.XLB_SUBS_COUNT + 1) else s
  (s.fs (Fld.XLB_POOL_USE_BLOCKS u.pool) (s.fg (Fld.XLB_POOL_USE_BLOCKS u.pool) + 1)).poolHigh u.pool

/-- Inserts a mapping that a mapping entry carries; none when there is no table space (R443). -/
def State.insertMapping (s : State) (m : Mapping) : Option State :=
  match s.poolOfIndex m.pub with
  | none => none
  | some p =>
    let lo := s.poolLo p
    let k := (m.pport - lo) / s.poolB p
    if m.pport < lo ∨ s.poolBlocks p ≤ k then none
    else
      let (f0, f1) := s.fwdBuckets m.zone m.addr m.port m.proto
      let (r0, r1) := s.revBuckets m.pub m.pport
      match s.subEnsure m.zone m.addr p, bucketPlace s.xlb.fwd f0 f1, bucketPlace s.xlb.rev r0 r1 with
      | some (n, u, s), some f, some r =>
        let owned := (s.blockGrans p m.pub k).any fun g => (s.gran g).owner.isSome
        let s := if owned then s else s.assignBlock n { u with pool := p } m.pub k
        let u := s.xlb.subs.get n u
        let s := s.modGran (m.pub * 1024 + m.pport / 64) fun g => { g with used := setBit g.used (m.pport % 64) true }
        let s := { s with xlb := { s.xlb with
          fwd := s.xlb.fwd.ins f { m with state := 0, refs := 0 }, rev := s.xlb.rev.ins r m } }
        some (((s.setSub n { u with maps := u.maps + 1 }).fs Fld.XLB_MAPS_COUNT (s.fg Fld.XLB_MAPS_COUNT + 1)).pmTables true 3)
      | _, _, _ => none

/-- Applies a mapping entry: the XLB entries get exactly the state and the references it carries (R443). -/
def State.applyMapping (s : State) (m : Mapping) : State :=
  let same := fun (x : Mapping) => x.zone == m.zone && x.addr == m.addr && x.port == m.port && x.proto == m.proto
  match s.revFind m.pub m.pport with
  | some (k, x) =>
    if m.state = 0 then s.freeMapping k x false
    else if same x then (s.setRev k { m with since := s.aon }).pmTables true 1
    else
      let s := s.freeMapping k x false
      (s.insertMapping { m with since := s.aon }).getD (s.inc Reg.GRF_APPLY_FAIL)
  | none =>
    if m.state = 0 then s else (s.insertMapping { m with since := s.aon }).getD (s.inc Reg.GRF_APPLY_FAIL)

end Sys2Proof.Machine
end

