-- ==== Sys2Proof/Machine/Service.lean ====
section
/-! DEFINITION. The service of the flow engine (chapter 4): operations in service and held, misses with their tags and reads,
poison markers and their repair, the write-back of a batch, contexts by number, and push-back. -/

namespace Sys2Proof.Machine

/-! ## Tags (R149) -/

/-- The package-memory tags in use. -/
def State.tagsUsed (s : State) : Nat := s.fle.ops.foldl (fun n e => n + e.2.tags) 0

/-- Gives free tags of the 8,192 to the reads that wait: slot reads before tag-line reads, each kind in issue order (R149). -/
def State.grantTags (s : State) : Nat → State
  | 0 => s
  | f + 1 =>
    if 8192 ≤ s.tagsUsed then s
    else
      match (s.fle.tagQueue.find? fun e => e.2).or s.fle.tagQueue.head? with
      | none => s
      | some e =>
        ({ s with fle := { s.fle with tagQueue := s.fle.tagQueue.erase e } }.modOp e.1 fun o => { o with tags := o.tags + 1 }).grantTags f

/-- Gives free tags to every read that waits and can have one. -/
def State.giveTags (s : State) : State := s.grantTags s.fle.tagQueue.length

/-- An operation issues reads, each of which takes a tag or waits for one. -/
def State.askTags (s : State) (id n : Nat) (slot : Bool) : State :=
  { s with fle := { s.fle with tagQueue := s.fle.tagQueue ++ List.replicate n (id, slot) } }.giveTags

/-- Whether a read of an operation waits for a tag. -/
def State.waitsForTag (s : State) (id : Nat) : Bool := s.fle.tagQueue.any fun e => e.1 == id

/-- The reads of an operation are over: its tags are free. (DESIGN CHOICE, log 117) -/
def State.dropTags (s : State) (id : Nat) : State :=
  (({ s with fle := { s.fle with tagQueue := s.fle.tagQueue.filter fun e => e.1 != id } }).modOp id fun o => { o with tags := 0 }).giveTags

/-! ## Delivery and repair (R148, R172) -/

/-- Asks the partner for an operation's record (R171, R446). The 100 µs of R172 run from the marking; for a marker that Weeder wrote
they run from the first operation held behind it (DEDUCED, log 39). -/
def State.requestRepair (s : State) (id : Nat) : State :=
  let o := s.op id
  let n := s.grf.nextReq
  let body := padTo 40 (Record.keyBytes { key := o.key })
  { s with
    grf := { s.grf with nextReq := (n + 1) % 65536, reqs := s.grf.reqs.ins n id, msgs := s.grf.msgs ++ [graftMessage 2 0 n body] }
    fle := { s.fle with repairs := match o.loc with
      | some (b, k) => if s.fle.repairs.any fun e => e.1 == b * 8 + k then s.fle.repairs else s.fle.repairs.ins (b * 8 + k) s.aon
      | none => s.fle.repairs } }

/-- What an operation finds in service: its record, or none. The packets of a batch learn it; a Glasshouse request
has its result (R539). -/
def State.deliver (s : State) (id : Nat) (hit : Option (Nat × Nat × Record)) : State :=
  let s := (s.dropTags id).modOp id fun o =>
    { o with state := .inService, loc := hit.map fun h => (h.1, h.2.1), base := hit.map fun h => h.2.2,
             countOnly := match hit with | some h => h.2.2.flag bCountOnly | none => false }
  let o := s.op id
  match o.kind with
  | .batch =>
    o.members.foldl (fun s m =>
      if m.cancelled then s
      else s.modPkt m.pid fun p => { p with flow := if hit.isSome then .record else .noRecord, op := some id }) s
  | .prune _ _ | .correct _ | .upsert _ _ | .delete _ | .repair _ => s
  | .glasshouse c =>
    match (s.core c).wait with
    | .flowGet _ _ buf =>
      let s := match hit with | some h => s.setMemBytes buf h.2.2.bytes | none => s
      s.modCore c fun x =>
        { x with wait := .flowGot (if hit.isSome then 0 else 1), flow := some { op := id, since := s.aon }, expired := false }
    | _ => s

/-- Whether an operation still waits behind a marker: its slot holds one. -/
def State.behindMarker (s : State) (id : Nat) : Option (Nat × Nat) :=
  (s.op id).loc.bind fun x => ((s.fslot x.1 x.2).record.bind fun r => if r.poisoned then some x else none)

/-- Forgets the repair request of an operation. -/
def State.forgetRequest (s : State) (id : Nat) : State :=
  { s with grf := { s.grf with reqs := s.grf.reqs.filter fun e => e.2 != id } }

/-- Deletes the marker an operation is held behind, and delivers "no record" (R172). Where another operation's repair has
replaced or deleted the marker already, nothing is deleted: the operation gets what its lookup finds now (DEDUCED, log 39). -/
def State.deleteMarker (s : State) (id : Nat) : State :=
  let o := s.op id
  let s := s.forgetRequest id
  match s.behindMarker id with
  | some (b, k) =>
    let s := ((s.graftDelete o.key false).modZone o.key.zone fun z => { z with live := z.live - 1 }).clearSlot b k
    ((s.inc Reg.FLE_REPAIR_FAILED).log 0x0708).deliver id none
  | none => s.deliver id (s.recordAt o.key)

/-- Holds an operation behind a marker: repair is asked for when the zone is in sync, or the marker is deleted at once. -/
def State.holdRepair (s : State) (id b k : Nat) : State :=
  let s := (s.dropTags id).modOp id fun o => { o with state := .repairing, loc := some (b, k) }
  if s.inSync (s.op id).key.zone then s.requestRepair id else s.deleteMarker id

/-- The partner's record takes a marker's place, under the marker's generation (R172). Where the marker has gone already, the
operation gets what its lookup finds now (DEDUCED, log 39). -/
def State.repair (s : State) (id : Nat) (r : Record) : State :=
  let s := s.forgetRequest id
  match s.behindMarker id with
  | some (b, k) =>
    let gen := ((s.fslot b k).record.getD {}).gen
    let r := { r with gen := gen, poisoned := false }
    let s := s.putRecord b k r
    let s := { s with fle := { s.fle with repairs := s.fle.repairs.erase (b * 8 + k) } }
    ((s.inc Reg.FLE_REPAIRED).log 0x0703).deliver id (some (b, k, r))
  | none => s.deliver id (s.recordAt (s.op id).key)

/-! ## Operations (R150–R153) -/

/-- Starts an operation. -/
def State.addOp (s : State) (o : FlowOp) : Nat × State :=
  let o := { o with role := s.role o.key.zone }
  (s.fle.nextOp, { s with fle := { s.fle with ops := s.fle.ops.ins s.fle.nextOp o, nextOp := s.fle.nextOp + 1 } })

/-- The most packets of a batch (R151, R154). -/
def State.mergeMax (s : State) (key : FlowKey) (r : Option Record) : Nat :=
  match r with
  | some r => if r.flag bCountOnly then 64 else s.fg (Fld.FLE_ZPROF_CFG_MERGE_MAX (s.profile key.zone))
  | none => s.fg (Fld.FLE_ZPROF_CFG_MERGE_MAX (s.profile key.zone))

/-- The held requests of a key that are released together: a batch of packets, or one operation of another kind. Packets go
before a delete of Prune that was held earlier (R166). -/
def nextHeld (key : FlowKey) (max : Nat) (hs : List Held) : List Held :=
  let all := hs.filter fun h => h.key == key
  let prune := fun (h : Held) => match h.kind with | .prune _ _ => true | _ => false
  let mine := if all.any fun h => h.pid.isSome then all.filter fun h => !prune h else all
  match mine with
  | [] => []
  | h :: _ => if h.pid.isSome then (mine.takeWhile fun h => h.pid.isSome).take max else [h]

/-- Releases the next held requests of a key from a bank's queue (R151): operations that end at once run, and what stands
behind them follows. -/
def State.releaseHeld (s : State) (bank h : Nat) (key : FlowKey) (slice : Nat) : Nat → State
  | 0 => s
  | f + 1 =>
    let hit := s.lookupKey key h
    let found := match hit with | .record _ _ r => some r | _ => none
    match nextHeld key (s.mergeMax key found) (s.held bank) with
    | [] => s
    | x :: xs =>
      let out := x :: xs
      let s := s.setHeld bank ((s.held bank).filter fun y => !out.contains y)
      if x.kind.atOnce then (s.runAtOnce key x.kind).releaseHeld bank h key slice f
      else
        let ms := out.filterMap fun y => y.pid.map fun p => ({ pid := p } : Member)
        let slice := match x.pid with | some p => (s.pkt p).slice | none => slice
        let (id, s) := s.addOp { kind := x.kind, key := key, hash := h, bank := bank, slice := slice, members := ms }
        match hit with
        | .record b k r => s.deliver id (some (b, k, r))
        | .marker b k => s.holdRepair id b k
        | .none => s.deliver id none

/-- Releases a creation's reservation (R156). -/
def State.releaseReservation (s : State) (id : Nat) : State :=
  let o := s.op id
  match o.reservation with
  | none => s
  | some (b, k) =>
    let free := fun (s : State) j => s.setFslot b j { s.fslot b j with reserved := none }
    let s := free s k
    let s := if o.key.v6 then free s (k + 1) else s
    (s.modZone o.key.zone fun z => { z with reserved := z.reserved - 1 }).modOp id fun o => { o with reservation := none }

/-- The cache line a request hits (R147): its record or marker. -/
def State.cacheHit (s : State) (bank h : Nat) (key : FlowKey) : SlotHit :=
  s.matchSlots key ((s.fpSlots key.v6 h).filter fun x =>
    match s.line x.1 x.2 with | some l => l.bank == bank && l.set == cacheSet h | none => false)

/-- The event of a flow request for the filtered counters (R563). -/
def State.flowEvent (s : State) (o : FlowOp) (tc : Option Nat) (addr : Nat) : PmuEvent :=
  let (priv, master) := match o.kind with
    | .glasshouse c => (ofBool (s.core c).kern, 12 + c / 8)
    | _ => (2, o.slice)
  { kind := 2, priv := some priv, masters := 2 ^ master + 2 ^ (4 + o.bank), addr := some addr, cls := tc }

/-- An operation misses: its tag-line reads are issued (R148, R149). -/
def State.miss (s : State) (id : Nat) : State :=
  let n := (s.flowBuckets (s.op id).hash).length
  (s.modOp id fun o => { o with state := .missing, slots := none }).askTags id n false

/-- What a hit of the cache gives: the line's blocks are read with the errors `errors` (R170). A clean line that reads
uncorrectable is dropped and the operation misses; a dirty one becomes a poison marker. -/
def State.cacheRead (s : State) (id b k : Nat) (r : Record) (errors : List BlockErr) : State :=
  let (x, s) := s.readCacheBlock (errors.headD [])
  let (y, s) := if r.key.v6 then s.readCacheBlock (errors.tail.headD []) else ({}, s)
  if x.seen = .uncorrectable ∨ y.seen = .uncorrectable then
    if (match s.line b k with | some l => l.dirty | none => false) then (s.poison b k).holdRepair id b k else (s.dropLine b k).miss id
  else
    match r.misread [x, y] with
    | some r' => if r'.key = r.key then s.deliver id (some (b, k, r')) else (s.dropLine b k).miss id
    | none => (s.dropLine b k).miss id

/-- Puts an operation in service: it hits the cache, or misses and takes tags (R147–R149). `errors` are the errors of the blocks of
the line it hits. -/
def State.startOp (s : State) (o : FlowOp) (tc : Option Nat) (errors : List BlockErr) : State :=
  let (id, s) := s.addOp o
  match s.cacheHit o.bank o.hash o.key with
  | .record b k r => ((s.evc o.bank).fcCount (s.flowEvent o tc (slotAddr b k))).cacheRead id b k r errors
  | .marker b k => ((s.evc o.bank).fcCount (s.flowEvent o tc (slotAddr b k))).holdRepair id b k
  | .none =>
    let e := s.flowEvent o tc (tagLineAddr ((s.flowBuckets o.hash).headD 0))
    (((s.evc (8 + o.bank)).fcCount e).fcCount { e with kind := 3 }).miss id

/-- Puts a request into its bank's hold queue, when it has room (R153). -/
def State.hold (s : State) (bank : Nat) (h : Held) : Option State :=
  let used := s.heldOf bank h.pid.isSome
  if holdRoom h.pid.isSome ≤ used then none
  else
    let s := s.setHeld bank (s.held bank ++ [h])
    if h.pid.isSome then
      some ((s.fs (Fld.FLE_BANK_HOLD_PEAK bank) (max (used + 1) (s.fg (Fld.FLE_BANK_HOLD_PEAK bank)))).evc (16 + bank))
    else some s

/-- A request of a key: in service at once, or at the tail of the hold queue behind an operation of the same key. None when it
must wait: the hold queue is full, or the bank is being retired (R150, R153, R177). -/
def State.requestFlow (s : State) (key : FlowKey) (h slice : Nat) (kind : OpKind) (pid : Option Nat) (tc : Option Nat)
    (errors : List BlockErr) : Option State :=
  let bank := s.flowBank h
  if s.fle.retiring = some bank then none
  else if s.keyBusy key then s.hold bank { key := key, pid := pid, kind := kind, hash := h }
  else if kind.atOnce then some (s.runAtOnce key kind)
  else
    some (s.startOp { kind := kind, key := key, hash := h, bank := bank, slice := slice,
                      members := (pid.map fun p => ({ pid := p } : Member)).toList } tc errors)

/-- The slice number of a request that no slice makes. -/
def noSlice : Nat := 4

/-- A request of an operation that ends at once, when nothing makes it wait. -/
def State.requestAtOnce (s : State) (key : FlowKey) (kind : OpKind) : Option State :=
  s.requestFlow key (s.keyHash key) noSlice kind none none []

/-! ## Requesters that wait (R153) -/

/-- The corrections of the intake go to their banks, in the order the MACs produced them, until one must wait. -/
def State.drainIntake (s : State) : List Correction → State
  | [] => { s with fle := { s.fle with intake := [] } }
  | c :: r =>
    match s.requestAtOnce c.early.key (.correct c) with
    | some s => s.drainIntake r
    | none => { s with fle := { s.fle with intake := c :: r } }

/-- A correction of the MACs goes to its bank, or waits behind the others (R153). -/
def State.offerCorrection (s : State) (c : Correction) : State := s.drainIntake (s.fle.intake ++ [c])

/-- Graft applies the entries that wait, in order, until one must wait (R153, R442). -/
def State.drainGraft (s : State) : List (Nat × GBody) → State
  | [] => { s with grf := { s.grf with waiting := [] } }
  | (seq, b) :: r =>
    let go := match b with
      | .upsert x => s.requestAtOnce x.key (.upsert seq x)
      | .delete k => s.requestAtOnce k (.delete seq)
      | .mapping m => some ((s.applyMapping m).inc Reg.GRF_ENTRIES_RX)
    match go with
    | some s => s.drainGraft r
    | none => { s with grf := { s.grf with waiting := (seq, b) :: r } }

/-- The partner's repair requests that wait go to their banks (R153, R446). -/
def State.drainRepairs (s : State) : List (Nat × FlowKey) → State
  | [] => { s with grf := { s.grf with serving := [] } }
  | (ident, key) :: r =>
    match s.requestAtOnce key (.repair ident) with
    | some s => s.drainRepairs r
    | none => { s with grf := { s.grf with serving := (ident, key) :: r } }

/-- Every requester that waits tries again, when a queue may have room. -/
def State.drain (s : State) : State :=
  let s := s.drainIntake s.fle.intake
  let s := s.drainGraft s.grf.waiting
  let s := s.drainRepairs s.grf.serving
  s.pairedZones.foldl State.settleStandby s

/-! ## Ways (R147) -/

/-- Whether `need` ways of a set are free, or can be freed. -/
def State.waysFree (s : State) (bank set need : Nat) : Bool :=
  let ls := s.fle.cache.filter fun l => l.bank == bank && l.set == set
  decide ((ls.filter fun l => !s.lineFree l).foldl (fun n l => n + s.lineWays l) 0 + need ≤ 16)

/-- A miss whose set has no way to take goes to the bank's hold queue, ahead of the requests held behind it (R147). None when
the queue has no room: its read is issued again. -/
def State.holdForWay (s : State) (id : Nat) : Option State :=
  let o := s.op id
  let hs : List Held := match o.kind with
    | .batch => (o.members.filter fun m => !m.cancelled).map fun m => { key := o.key, pid := some m.pid, hash := o.hash }
    | k => [{ key := o.key, kind := k, hash := o.hash }]
  let packet := o.kind == .batch
  let used := s.heldOf o.bank packet + hs.length
  if holdRoom packet < used then none
  else
    let s := (s.dropTags id).setHeld o.bank (hs ++ s.held o.bank)
    let s := { s with fle := { s.fle with ops := s.fle.ops.erase id } }
    if packet then some (s.fs (Fld.FLE_BANK_HOLD_PEAK o.bank) (max used (s.fg (Fld.FLE_BANK_HOLD_PEAK o.bank)))) else some s

/-- The requests of a bank that wait for a way, not for an operation of their key: the first for which a way is free now is
served again, as a new request (R147). -/
def State.wakeWays (s : State) (bank : Nat) : State :=
  match (s.held bank).find? fun h => !(s.fle.ops.any fun e => e.2.key == h.key)
      && s.waysFree bank (cacheSet h.hash) (if h.key.v6 then 2 else 1) with
  | none => s
  | some h =>
    let out := nextHeld h.key (s.mergeMax h.key none) (s.held bank)
    let x := out.headD h
    let s := s.setHeld bank ((s.held bank).filter fun y => !out.contains y)
    let slice := match x.pid with | some p => (s.pkt p).slice | none => noSlice
    s.startOp { kind := x.kind, key := h.key, hash := h.hash, bank := bank, slice := slice,
                members := out.filterMap fun y => y.pid.map fun p => ({ pid := p } : Member) } none []

/-- Ends an operation: its reservation is released if it still holds one, the next held requests of the key are released, and
whatever waited for a way or for a place in a queue tries again (R147, R151, R153). -/
def State.endOp (s : State) (id : Nat) : State :=
  if !s.hasOp id then s
  else
    let s := (s.releaseReservation id).dropTags id
    let o := s.op id
    let s := { s with fle := { s.fle with ops := s.fle.ops.erase id, creations := s.fle.creations.erase id } }
    (((s.releaseHeld o.bank o.hash o.key o.slice ((s.held o.bank).length + 1)).wakeWays o.bank).drain)

/-! ## Misses (R147, R148, R155, R170) -/

/-- The tags a slice holds for its misses, and whether it is in overload (R155, R181). -/
def State.sliceTags (s : State) (n : Nat) : Nat := s.fle.ops.foldl (fun k e => if e.2.slice = n then k + e.2.tags else k) 0
@[inherit_doc State.sliceTags] def State.overloaded (s : State) (n : Nat) : Bool :=
  decide (s.fg Fld.FLE_CFG_OVL_THRESH < s.sliceTags n)

/-- Refuses a miss under the zone's MISS_POLICY (R155). Policies 0 and 2 release the slot without writing. -/
def State.refuseMiss (s : State) (id : Nat) : State :=
  let o := s.op id
  let pol := s.fg (Fld.FLE_ZPROF_CFG_MISS_POLICY (s.profile o.key.zone))
  let s := (s.inc Reg.FLE_OVL_REFUSED).logLimited 0x0705 o.slice 1 0 fun _ c => d4 c
  let s := s.deliver id none
  let s := o.members.foldl (fun s m => s.modPkt m.pid fun p =>
    { p with flow := .refused pol, op := if pol = 1 then some id else none }) s
  if pol = 1 then s else s.endOp id

/-- A miss goes on with the slots it has still to read: the next slot read is issued, or "no record" is delivered (R148). In overload
the "no record" of a packet is refused (R155). -/
def State.missNext (s : State) (id : Nat) (slots : List (Nat × Nat)) : State :=
  let s := (s.dropTags id).modOp id fun o => { o with slots := some slots }
  let o := s.op id
  if slots ≠ [] then s.askTags id (if o.key.v6 then 2 else 1) true
  else if o.kind == .batch && s.overloaded o.slice then s.refuseMiss id
  else
    let s := s.deliver id none
    if o.kind == .batch && o.members.all fun m => m.cancelled then s.endOp id else s

/-- The tag lines of a miss have been read (R148). One that reads uncorrectable is read again once; read uncorrectable again, it is
to be rebuilt, and the lookup waits for it (R170, R173). -/
def State.missTags (s : State) (id : Nat) (errors : List BlockErr) : State :=
  let o := s.op id
  let bs := s.flowBuckets o.hash
  if bs.any fun b => s.fle.rebuilding.contains b then s
  else
    let s := bs.foldl (fun s b => s.pmFlow false o.bank (tagLineAddr b)) s
    let (xs, bad, s) := s.readBlocks (bs.map tagLineAddr) errors
    if bad then
      let lost := ((bs.zip xs).filter fun x => x.2.seen == .uncorrectable).map (·.1)
      let s := { s with fle := { s.fle with
        rebuilding := s.fle.rebuilding ++ lost.filter fun b => o.retried.contains b } }
      s.modOp id fun o => { o with retried := o.retried ++ lost.filter fun b => !o.retried.contains b }
    else
      s.missNext id ((bs.zip xs).flatMap fun x =>
        (tagMatches o.key.v6 o.hash (misread (s.tagLine x.1) 0 x.2.diff)).map fun k => (x.1, k))

/-- A slot of a miss has been read (R148): its record is delivered from a new cache line, a marker holds the operation, and an
uncorrectable slot becomes a marker (R171). -/
def State.missSlot (s : State) (id b k : Nat) (rest : List (Nat × Nat)) (errors : List BlockErr) : State :=
  let o := s.op id
  let s := (slotBlocks o.key.v6 b k).foldl (fun s a => s.pmFlow false o.bank a) s
  let (xs, bad, s) := s.readBlocks (slotBlocks o.key.v6 b k) errors
  match (s.fslot b k).record with
  | none => s.missNext id rest
  | some r =>
    if bad then (s.poison b k).holdRepair id b k
    else if r.poisoned then s.holdRepair id b k
    else
      match r.misread xs with
      | none => s.missNext id rest
      | some x =>
        if x.key ≠ o.key then s.missNext id rest
        else
          match s.fill o.bank o.hash b k with
          | some s => (s.setFslot b k { s.fslot b k with record := some x }).deliver id (some (b, k, x))
          | none => (s.holdForWay id).getD ((s.dropTags id).askTags id (if o.key.v6 then 2 else 1) true)

/-- The read of a miss that is under way completes with the errors of its blocks (R148). -/
def State.serveMiss (s : State) (id : Nat) (errors : List BlockErr) : State :=
  match (s.op id).slots with
  | none => s.missTags id errors
  | some [] => s.missNext id []
  | some ((b, k) :: r) =>
    let s := s.missSlot id b k r errors
    let o := s.op id
    if s.hasOp id && o.state == .inService && o.kind == .batch && o.members.all fun m => m.cancelled then s.endOp id else s

/-! ## The write-back of a batch (R151) -/

/-- The record's bytes with the bytes a program wrote over them: offset 0x40 of the window is byte 0 (R197). -/
def Record.overlay (r : Record) (ws : Table Byte) : Record :=
  let bs := r.bytes
  let r' := recordOf r.key.v6 ((List.range bs.length).map fun i => ws.get (0x40 + i) (bs.getD i 0))
  { r' with key := r.key, poisoned := r.poisoned, gen := r.gen }

/-- Whether a member contributes at a write-back now: finished, not cancelled, and its frame has not ended bad. -/
def State.counts (s : State) (m : Member) : Bool :=
  let p := s.pkt m.pid
  m.finished && !m.cancelled && !(p.ended && !p.good)

/-- The bytes a member's packet has: its length, or what has arrived of a frame that has not ended, which is a free value
up to the frame's length (R144). -/
def State.arrived (s : State) (pid : Nat) : Nat × State :=
  let p := s.pkt pid
  if p.ended then (p.len, s)
  else
    let (v, s) := s.free
    (v.toNat % (p.bytes.length + 1), s)

/-- What the members of a batch leave in a record: fields in arrival order, and counters (R144, R151). `loc` is the
record's slot. -/
def State.mergeMembers (s : State) (loc : Nat × Nat) : List Member → Record → Record × State
  | [], r => (r, s)
  | m :: ms, r =>
    let p := s.pkt m.pid
    let (n, s) := s.arrived m.pid
    let r' := (r.overlay m.writes).count p.head.srcIsA 1 n
    let e : EarlyCount := { bucket := loc.1, slot := loc.2, key := r.key, gen := r.gen, aToB := p.head.srcIsA, bytes := n }
    let s := if p.ended then s else s.setPkt m.pid { p with early := some e }
    s.mergeMembers loc ms r'

/-- The translation fields an edit of a member's packet uses: those of the record as the write-back leaves it, or those of the
member's own copy at EXIT when the write-back deletes the record (R201); a member without a copy reads zeros (R198). -/
def State.setXlate (s : State) (after : Option Record) (ms : List Member) : State :=
  ms.foldl (fun s m =>
    let r := (after.orElse fun _ => m.copy).getD {}
    s.modPkt m.pid fun p => { p with xlate := some (r.xaddr, r.xport) }) s

/-- Issues the descriptors of the members that contribute, in arrival order, and drops those whose frames ended bad. -/
def State.issueMembers (s : State) : List Member → State
  | [] => s
  | m :: ms =>
    let p := s.pkt m.pid
    if m.cancelled then s.issueMembers ms
    else if p.ended && !p.good then (s.release m.pid).issueMembers ms
    else ((s.modPkt m.pid fun p => { p with op := none, madeRecord := m.made }).issue m.pid).issueMembers ms

/-- Writes a batch back and ends its operation (R151, R156, R202, R239). The reference that the record held before the operation is
released once when the operation deletes the record or a NATREL gives it back; one taken in the operation is still provisional, and
`settleRefs` releases it unless the written record holds it. -/
def State.writeBack (s : State) (id : Nat) : State :=
  let o := s.op id
  let ms := o.members.filter s.counts
  let del := ms.any fun m => m.deleted
  let now := s.flowMs % 2 ^ 32
  let (after, s) : Option Record × State :=
    match o.base, o.loc with
    | some r, some (b, k) =>
      if ms = [] then (some r, s)
      else
        let (r', s) := s.mergeMembers (b, k) ms r
        let r' := { r' with lastSeen := now }
        let s := s.setXlate (if del then none else some r') ms
        if del then (none, (s.putRecord b k (s.mirrored r')).removeRecord b k (some 3)) else (some r', s.commit b k (some r) r')
    | _, _ =>
      match o.reservation with
      | some loc =>
        if (ms.any fun m => m.made) && !del then
          let (r', s) := s.mergeMembers loc ms (s.newRecord o)
          let r' := { r' with lastSeen := now }
          (some r', (s.setXlate (some r') ms).createRecord id r')
        else (none, (s.mergeMembers loc ms (s.newRecord o)).2.setXlate none ms)
      | none => (none, s)
  let held := fun (r : Record) => o.base.any fun b => b.hasRef && b.xaddr == r.xaddr && b.xport == r.xport
  let given := (del && o.base.isSome) || ms.any fun m => m.natRelease.any held
  let s := match o.base with | some r => if given then s.releaseRecordRef r else s | none => s
  let s := s.settleRefs (o.members.flatMap fun m => m.natTaken) o.base after
  (s.issueMembers o.members).endOp id

/-- Whether an operation can be written back now: every member has finished or been dropped, and each frame has ended or can
be cut through (R32, R151). (DEDUCED, log 97) -/
def State.writable (s : State) (id : Nat) : Bool :=
  let o := s.op id
  s.hasOp id && o.state == .inService && o.kind == .batch && o.members.all fun m =>
    m.cancelled || (m.finished && ((s.pkt m.pid).ended || match (s.pkt m.pid).dest with
      | .queue port q => !m.made && s.canCut (s.pkt m.pid) port q
      | _ => false))

/-- The write-back of an operation of one packet, when it can be made; that of a batch is its own step. (DEDUCED, log 97) -/
def State.settleOp (s : State) (id : Nat) : State :=
  let o := s.op id
  if s.writable id && (decide (o.members.length ≤ 1) || o.members.all fun m => m.cancelled) then s.writeBack id else s

/-- A packet leaves the flow engine without writing (R31, R34): its hold entry, or its place in a batch. -/
def State.leaveFlow (s : State) (pid : Nat) : State :=
  let p := s.pkt pid
  match p.op with
  | some id =>
    let s := (s.modOp id fun o =>
        { o with members := o.members.map fun (m : Member) => if m.pid = pid then { m with cancelled := true } else m }).setPkt pid
      { p with op := none }
    s.settleOp id
  | none =>
    let hs := s.fle.holds.foldl (fun (t : Table (List Held)) (e : Nat × List Held) =>
      t.put e.1 [] (e.2.filter fun h => h.pid != some pid)) s.fle.holds
    let s := { s with fle := { s.fle with holds := hs } }.wakeWays (s.flowBank p.head.hash)
    match s.fle.ops.find? fun e => e.2.members.any fun m => m.pid == pid && !m.cancelled with
    | some (id, _) =>
      let s := s.modOp id fun o =>
        { o with members := o.members.map fun (m : Member) => if m.pid = pid then { m with cancelled := true } else m }
      s.settleOp id
    | none => s

/-! ## Contexts of the engines, by number -/

/-- The key of a context. -/
def ctxKey (slice eng c : Nat) : Nat := slice * 128 + eng * 8 + c

/-- A context that is held. -/
def State.ctx? (s : State) (k : Nat) : Option Ctx := (s.trw.ctxs.find? fun e => e.1 == k).map (·.2)

/-- Sets a context. -/
def State.setCtx (s : State) (k : Nat) (c : Ctx) : State := { s with trw := { s.trw with ctxs := s.trw.ctxs.ins k c } }

/-- Frees a context. -/
def State.freeCtx (s : State) (k : Nat) : State :=
  { s with trw := { s.trw with ctxs := s.trw.ctxs.erase k } }.touch (k / 128)

/-- Whether an engine is quarantined. -/
def State.quarantined (s : State) (slice eng : Nat) : Bool := s.fbit (Fld.TRW_ENG_STAT_QUAR slice) eng

/-- The free contexts of an engine, in order. (DESIGN CHOICE, log 31) -/
def State.freeCtxs (s : State) (slice eng : Nat) : List Nat :=
  (List.range 8).filter fun c => (s.ctx? (ctxKey slice eng c)).isNone

/-- The context a packet is dispatched to: the lowest free one of the engine in service with the most free contexts, the
lowest engine among equals (R188). (DESIGN CHOICE, log 31) -/
def State.dispatchPlace (s : State) (slice : Nat) : Option (Nat × Nat) :=
  let best := (List.range 16).foldl (fun (b : Option (Nat × Nat)) e =>
    let n := if s.quarantined slice e then 0 else (s.freeCtxs slice e).length
    match b with
    | some (_, m) => if m < n then some (e, n) else b
    | none => if 0 < n then some (e, n) else none) none
  best.bind fun x => ((s.freeCtxs slice x.1).head?).map fun c => (x.1, c)

/-! ## Push-back (R28, R48, R177) -/

/-- Whether a packet needs a flow request: it is tracked, and no rule has said otherwise (R118). -/
def Packet.needsFlow (p : Packet) : Bool :=
  p.head.tracked && match p.rule with | some w => bitAt w 60 | none => true

/-- Whether the bank of a packet's flow takes no request now: its hold queue is full, or it is being retired. -/
def State.flowBlocked (s : State) (pid : Nat) : Bool :=
  let p := s.pkt pid
  let bank := s.flowBank p.head.hash
  p.needsFlow && (s.fle.retiring == some bank || (s.keyBusy p.head.flowKey && decide (holdRoom true ≤ s.heldOf bank true)))

/-- The packet whose flow request is next in a slice: requests are made in parse order (R26, R39). -/
def State.nextAsk (s : State) (slice : Nat) : Option Nat :=
  (s.slice slice).asks.find? fun pid => (s.pkt pid).stage == .parsed && (s.pkt pid).flow == .notAsked

/-- Whether a packet waits in the record-delivery stage for a context. -/
def Packet.waitsForContext (p : Packet) (slice : Nat) : Bool :=
  p.slice == slice && p.stage == .parsed && p.rule.isSome
    && match p.flow with | .noRecord | .record | .refused 1 => true | _ => false

/-- Whether a slice's earlier stages are stalled (R48): its flow-request stage waits for a bank, or its record-delivery stage
for a context. (DEDUCED, log 100) -/
def State.sliceStalled (s : State) (slice : Nat) : Bool :=
  (match s.nextAsk slice with | some pid => s.flowBlocked pid | none => false)
    || ((s.dispatchPlace slice).isNone && s.packets.any fun e => e.2.waitsForContext slice)

/-- A packet's flow request has been made, or is not needed. -/
def State.asked (s : State) (pid : Nat) : State :=
  s.modSlice (s.pkt pid).slice fun x => { x with asks := x.asks.erase pid }

end Sys2Proof.Machine
end

