-- ==== Sys2Proof/Machine/FlowCommands.lean ====
section
/-! DEFINITION. The meanings of the commands of chapter 4: flow requests and misses, repair, creation, the flow clock, Prune,
Weeder, page and bank retirement, and the zone entries. -/

namespace Sys2Proof.Machine

/-! ## Requests (R30, R150) -/

/-- Gives a packet the "no record" result without a request: it is not flow-tracked. -/
def State.noFlow (s : State) (pid : Nat) : State :=
  (s.asked pid).modPkt pid fun p => { p with flow := .noRecord, op := none, untracked := true }

/-- FLOW_REQUEST: the flow request of the slice's next parsed packet goes to its bank; it hits, misses or is held (R30,
R150). While the slice is stalled it makes none (R48). A rule result that has already marked the packet as not flow-tracked
makes the request needless (R118). `errors` are the errors of the cache line's blocks when it hits (R170). -/
def execFlowRequest (pid : Nat) (errors : List BlockErr) (s : State) : Res :=
  let s := s.begin
  let p := s.pkt pid
  if s.nextAsk p.slice ≠ some pid ∨ s.sliceStalled p.slice then .next s
  else if !p.needsFlow then .next (s.noFlow pid).issueWaiting
  else
    match ((s.setPkt pid { p with flow := .waiting, asStandby := some (s.standby p.head.zone) }).asked pid).requestFlow p.head.flowKey p.head.hash p.slice .batch (some pid)
        none errors with
    | some s => .next s.issueWaiting
    | none => .next s

/-! ## Misses, markers and repair (R148, R171–R173) -/

/-- CACHE_MISS_SERVICE: the read of a miss that is under way completes: that of its tag lines, or of the next slot (R148). `errors`
are the symbols in error of the blocks it reads, in order. Nothing happens while a read waits for a tag (R149). -/
def execCacheMissService (op : Nat) (errors : List BlockErr) (s : State) : Res :=
  let s := s.begin
  if s.hasOp op ∧ (s.op op).state = .missing ∧ !s.waitsForTag op then .next (s.serveMiss op errors) else .next s

/-- REPAIR_TIMEOUT: no answer came within 100 µs of the marking (R172). -/
def execRepairTimeout (op : Nat) (s : State) : Res :=
  let s := s.begin
  let due : Bool := match (s.op op).loc with
    | some (b, k) => decide (s.fle.repairs.get (b * 8 + k) s.aon + 100 * usCycles ≤ s.aon)
        || !s.fle.repairs.any fun e => e.1 == b * 8 + k
    | none => false
  if s.hasOp op ∧ (s.op op).state = .repairing ∧ due then .next ((s.deleteMarker op).settleOp op) else .next s

/-- A slot that reads uncorrectable while its tag line is rebuilt is cleared (R173): the slots of an IPv6 record together. -/
def State.loseSlots (s : State) (b k n : Nat) : State :=
  (List.range n).foldl (fun s i =>
    ((s.dropLine b (k + i)).setFslot b (k + i) { gen := (s.fslot b (k + i)).gen }).inc Reg.FLE_LOST) s

/-- The rebuild of one slot (R173): of a valid record or marker, the fingerprint and the bank are recomputed from the key, the kind
from the key flags, and the stamp from last seen. -/
def State.rebuildSlot (s : State) (b : Nat) (bad : List Nat) (k : Nat) : State :=
  let x := s.fslot b k
  let n := if x.kind = 2 then 2 else 1
  if x.kind = 3 then s
  else if (List.range n).any fun i => bad.contains (k + i) then s.loseSlots b k n
  else
    match x.record with
    | none => s
    | some r =>
      let h := s.keyHash r.key
      let fix := fun (y : Slot) => { y with fp := hashHi h, bank := hashLo h % 8 }
      let s := s.setFslot b k { fix x with kind := if r.key.v6 then 2 else 1 }
      let s := if n = 2 then s.setFslot b (k + 1) (fix (s.fslot b (k + 1))) else s
      s.setStamp b k ((bitsOf r.lastSeen 25 10 + s.ticksOf r) % 65536)

/-- Rebuilds a tag line (R173); `errors` are the errors of the seven slots, which it reads. -/
def State.rebuildTagLine (s : State) (b : Nat) (errors : List BlockErr) : State :=
  let (xs, _, s) := s.readBlocks ((List.range 7).map (slotAddr b)) errors
  let bad := (List.range 7).filter fun k => (xs.getD k {}).seen == .uncorrectable
  let s := (List.range 7).foldl (fun s k => s.rebuildSlot b bad k) (s.pmFlow false (b % 8) (tagLineAddr b))
  ({ s with fle := { s.fle with overflow := s.fle.overflow.erase b, rebuilding := s.fle.rebuilding.filter fun x => x != b } }.pmFlow
    true (b % 8) (tagLineAddr b)).log 0x0709 (beBytes 4 b)

/-- TAG_LINE_REBUILD: the bucket unit rebuilds an uncorrectable tag line (R173). -/
def execTagLineRebuild (bucket : Nat) (errors : List BlockErr) (s : State) : Res :=
  let s := s.begin
  if 2 ^ s.flowBits ≤ bucket then .next s
  else .next ((s.rebuildTagLine bucket errors).duePage (pageOf (tagLineAddr bucket)))

/-- A tag line is to be rebuilt: lookups of its bucket wait until it is (R173). -/
def State.wantRebuild (s : State) (b : Nat) : State :=
  if s.fle.rebuilding.contains b then s else { s with fle := { s.fle with rebuilding := s.fle.rebuilding ++ [b] } }

/-! ## Creation (R156–R158) -/

/-- What FPUT leaves in a record (R540): the buffer's fields and PINNED; the key, POISONED and the generation are the flow
engine's. -/
def Record.fput (r : Record) (bs : List Byte) : Record :=
  let x := recordOf r.key.v6 bs
  { x with key := r.key, poisoned := r.poisoned, gen := r.gen }

/-- Ends an FPUT of a context: it releases the flow and returns its status (R540). -/
def State.endFput (s : State) (c id status : Nat) : State :=
  ((s.modCore c fun x => { (x.resume (BitVec.ofNat 64 status)) with flow := none }).evc (128 + c)).endOp id

/-- Answers a creation to everyone that waits for it: the contexts of a batch, or an FPUT, which then writes its record. -/
def State.answerCreation (s : State) (id n : Nat) : State :=
  let s := s.modOp id fun o => { o with creation := .status n }
  match (s.op id).kind with
  | .glasshouse c =>
    match (s.core c).wait with
    | .flowPut buf _ =>
      let r := s.newRecord (s.op id)
      let s := if n = 0 then s.createRecord id (r.fput (s.memBytes buf (if r.key.v6 then 128 else 64))) else s
      s.endFput c id n
    | _ => s
  | _ =>
    let hit := fun (c : Ctx) => c.awaits && (s.pkt c.pid).op == some id
    { s with trw := { s.trw with
      ctxs := s.trw.ctxs.map fun e => if hit e.2 then (e.1, { e.2 with reply := some n }) else e } }

/-- CREATION_SERVICE: the bucket unit serves the oldest request of the creation queue (R158). -/
def execCreationService (s : State) : Res :=
  let s := s.begin
  match s.fle.creations with
  | [] => .next s
  | id :: r =>
    let s := { s with fle := { s.fle with creations := r } }
    if !s.hasOp id then .next s
    else
      let (n, s) := s.serveCreation id
      .next (s.answerCreation id n)

/-- BATCH_WRITE_BACK: a batch whose members have all finished or been dropped writes back once (R151). -/
def execBatchWriteBack (op : Nat) (s : State) : Res :=
  let s := s.begin
  .next (if s.writable op then (s.writeBack op).issueWaiting else s)

/-! ## Clocks (R145, R157, R180) -/

/-- FLOW_CLOCK_TICK: the flow clock advances, once per 25,000 AON_CLK cycles (R145). -/
def execFlowClockTick (s : State) : Res :=
  let s := s.begin
  if s.fle.clockAt + msCycles ≤ s.aon then
    .next { s with fle := { s.fle with clockMs := (s.fle.clockMs + 1) % 2 ^ 64, clockAt := s.fle.clockAt + msCycles } }
  else .next s

/-- Tokens after a gain, cut to CR_BURST (R157). -/
def refill (rate burst n : Nat) : Nat := if rate = 0 then n else min (max n burst) (n + rate)

/-- After a write of CR_BURST, tokens above it are cut to it (R157). (DESIGN CHOICE, log 38) -/
def State.cutTokens (s : State) (p : Nat) : State :=
  let b := s.fg (Fld.FLE_ZPROF_BURST_CR_BURST p)
  { s with fle :=
    { s.fle with
      profTokens := s.fle.profTokens.put p 0x4000 (min b (s.fle.profTokens.get p 0x4000)),
      zones := s.fle.zones.map fun e =>
        if e.2.profile = p then (e.1, { e.2 with tokens := e.2.tokens.map (min b) }) else e } }

/-- CREATION_TOKEN_REFILL: every millisecond, each zone's bucket gains CR_RATE tokens, up to CR_BURST (R157). -/
def execCreationTokenRefill (s : State) : Res :=
  let s := s.begin
  if s.fle.tokensAt + msCycles ≤ s.aon then
    let rate := fun p => s.fg (Fld.FLE_ZPROF_CFG_CR_RATE p)
    let burst := fun p => s.fg (Fld.FLE_ZPROF_BURST_CR_BURST p)
    let profs := (List.range 256).foldl (fun (t : Table Nat) p =>
      t.put p 0x4000 (refill (rate p) (burst p) (t.get p 0x4000))) s.fle.profTokens
    let zones := s.fle.zones.map fun e =>
      (e.1, { e.2 with tokens := e.2.tokens.map (refill (rate e.2.profile) (burst e.2.profile)) })
    .next { s with fle := { s.fle with profTokens := profs, zones := zones, tokensAt := s.fle.tokensAt + msCycles } }
  else .next s

/-- A read of FLE_CLOCK_LO latches the upper word (R180). -/
def State.readClockLo (s : State) : Word × State :=
  (BitVec.ofNat 32 s.fle.clockMs, s.wr Reg.FLE_CLOCK_HI (BitVec.ofNat 32 (s.fle.clockMs / 2 ^ 32)))

/-- FLE_CLOCK_LO_READ (R180). -/
def execFleClockLoRead (s : State) : Res :=
  let (v, s) := s.begin.readClockLo
  .next (s.emit (.readData v))

/-! ## Prune (R166, R172) -/

/-- Prune's work on one slot of a bucket: an expired record gets a delete operation, an expired marker is deleted. None when
the delete operation finds the queue full or its bank being retired: Prune then pauses (R153, R177). (DEDUCED, log 39) -/
def State.pruneSlot (s : State) (b k : Nat) : Option State :=
  let x := s.fslot b k
  match x.record with
  | none => some s
  | some r =>
    if 0 < s.stampLeft x.stamp then some s
    else if r.poisoned then
      if s.fle.ops.any fun e => e.2.loc == some (b, k) then some s
      else some (((s.clearSlot b k).inc Reg.FLE_AGED).inc Reg.FLE_REPAIR_FAILED)
    else if s.standby r.key.zone then some s
    else
      let h := s.keyHash r.key
      let bank := s.flowBank h
      if s.fle.retiring = some bank then none
      else if s.keyBusy r.key then
        if (s.held bank).any fun y => y.kind == .prune b k then some s
        else s.hold bank { key := r.key, kind := .prune b k, hash := h }
      else some (s.addOp { kind := .prune b k, key := r.key, hash := h, bank := bank, slice := noSlice,
                           loc := some (b, k), base := some r }).2

/-- PRUNE_VISIT: Prune visits the next bucket, and clears its overflow counter when it finds two or more empty slots
(R137, R166). -/
def execPruneVisit (s : State) : Res :=
  let s := s.begin
  if !s.fb Fld.FLE_PRUNE_CTL_EN then .next s
  else
    let b := s.fle.pruneAt % 2 ^ s.flowBits
    let s := s.pmFlow false (b % 8) (tagLineAddr b)
    match (List.range 7).foldl (fun (r : Option State) k => r.bind fun s => s.pruneSlot b k) (some s) with
    | none => .next s
    | some s =>
      let empty := ((List.range 7).filter fun k => (s.fslot b k).kind == 0).length
      let kept := if 2 ≤ empty then s.fle.overflow.erase b else s.fle.overflow
      .next { s with fle := { s.fle with overflow := kept, pruneAt := (b + 1) % 2 ^ s.flowBits } }

/-- PRUNE_DELETE: a delete operation of Prune rechecks its record, and deletes it or refreshes its stamp (R166). -/
def execPruneDelete (op : Nat) (s : State) : Res :=
  let s := s.begin
  let o := s.op op
  match s.hasOp op, o.kind, o.state with
  | true, .prune b k, .inService =>
    match (s.fslot b k).record with
    | none => .next (s.endOp op)
    | some r =>
      if r.poisoned ∨ r.key ≠ o.key then .next (s.endOp op)
      else
        let t := s.timeoutS r.key.zone (timeoutClass r.state)
        let age := (s.flowMs % 2 ^ 32 + 2 ^ 32 - r.lastSeen) % 2 ^ 32
        if r.pinned ∨ t = 0 ∨ age < t * 1000 then
          .next ((s.setStamp b k ((bitsOf r.lastSeen 25 10 + s.ticksOf r) % 65536)).endOp op)
        else .next (((s.deleteRecord b k (some 1)).inc Reg.FLE_AGED).endOp op)
  | _, _, _ => .next s

/-! ## Weeder and retirement (R168–R177) -/

/-- A block of package memory is uncorrectable outside the flow region (R175): the event, and what its owner's chapter states. The
chapters of the XLB tables, the Graft log and the Glasshouse region state nothing of a block that is read by no access of theirs. -/
def State.lostBlock (s : State) (a : Nat) : State :=
  let t := s.tablesBase + 768 * 1048576
  let mib := 1048576
  let off := a - t
  if a < t then s.log 0x1502 (d5 a)
  else if s.spillBase ≤ a then (s.log 0x1502 (d5 a)).lostSpill a
  else if 128 * mib ≤ off then s.log 0x1502 (d5 a)
  else if off < 32 * mib then s.loseBucket 0 (off / (16 * mib)) (off % (16 * mib) / 256) a
  else if off < 96 * mib then s.loseBucket 1 ((off - 32 * mib) / (32 * mib)) (off % (32 * mib) / 128) a
  else s.loseBucket 2 ((off - 96 * mib) / (16 * mib)) (off % (16 * mib) / 256) a

/-- The slot that holds a record's data, from the slot a block lies in: the first one of an IPv6 record. -/
def State.headSlot (s : State) (b k : Nat) : Nat := if (s.fslot b k).kind = 3 then k - 1 else k

/-- Weeder writes a block of the flow region back as it was read, unless the flow cache holds the slot (R168, R169): where the read
was wrong, the record is what the wrong bytes say. (DEDUCED, log 40) -/
def State.weederWrite (s : State) (b k : Nat) (x : BlockRead) : State :=
  let k' := s.headSlot b k
  match (s.fslot b k').record with
  | none => s
  | some r =>
    if (s.line b k').isSome ∨ x.diff = [] then s
    else s.setFslot b k' { s.fslot b k' with record := r.misread (if k' = k then [x] else [{}, x]) }

/-- WEEDER_VISIT: Weeder reads a block whose symbols in error are `errors` (R167–R169): it writes a corrected block back, makes
an uncorrectable slot a poison marker, has an uncorrectable tag line rebuilt and hands any other uncorrectable block to its owner.
(DEDUCED, log 40) -/
def execWeederVisit (block : WeederBlock) (errors : BlockErr) (s : State) : Res :=
  let s := s.begin
  if !s.fb Fld.PMEM_WEEDER_CTL_EN then .next s
  else
    match block with
    | .slot b k =>
      if 2 ^ s.flowBits ≤ b ∨ 7 ≤ k then .next s
      else
        let (x, s) := s.readBlock (slotAddr b k) errors
        .next (match x.seen with
          | .clean => s
          | .corrected => s.weederWrite b k x
          | .uncorrectable => s.poison b (s.headSlot b k))
    | .tagLine b =>
      if 2 ^ s.flowBits ≤ b then .next s
      else
        let (x, s) := s.readBlock (tagLineAddr b) errors
        .next (if x.seen = .uncorrectable then s.wantRebuild b else s)
    | .other a =>
      if a < s.tablesBase then .next s
      else
        let (x, s) := s.readBlock a errors
        .next (if x.seen = .uncorrectable then s.lostBlock a else s)
    | .cacheLine b k =>
      match s.line b k with
      | none => .next s
      | some l =>
        let (x, s) := s.readCacheBlock errors
        .next (if x.seen ≠ .uncorrectable then s else if l.dirty then s.poison b k else s.dropLine b k)
    | .cell _ => .next s
    | .control _ _ => .next (s.secDed errors.length).2

/-- CORRECTION_ENTRY_EXPIRY: an entry of the correction table is removed 24 h after its last correction (R174). -/
def execCorrectionEntryExpiry (page : Nat) (s : State) : Res :=
  let s := s.begin
  .next { s with fle := { s.fle with
    corr := s.fle.corr.filter fun e => !(e.page == page && decide (e.last + 86400 * secCycles ≤ s.aon)) } }

/-- A block of a page is copied, corrected, to the spare page (R176). One that is uncorrectable is then handled by R171 or R175. -/
def State.copyBlock (s : State) (a : Nat) (e : BlockErr) : State :=
  let r := rsDecode e
  match r.seen with
  | .clean => s
  | .corrected => match s.regionOf a with
    | some n => let s := s.evc (44 + n); if a < s.tablesBase then s.flowCorrected else s
    | none => s
  | .uncorrectable =>
    if s.tablesBase ≤ a then s.lostBlock a
    else
      let off := a - 0x1000000000
      let b := off / 512
      let w := off % 512 / 64
      if w = 0 then s.wantRebuild b else s.poison b (s.headSlot b (w - 1))

/-- PAGE_RETIREMENT: while retirement is enabled, the next page due is copied to a spare page, its remap switches (R174, R176),
and the retirement list in flash takes it (R489, R511). `errors` are the errors of the page's 64 blocks. The page that comes due
once all 4,096 spares are used is the one at which event 0x1503 is logged (DESIGN CHOICE, log 47). -/
def execPageRetirement (errors : List BlockErr) (s : State) : Res :=
  let s := s.begin
  match s.fle.duePages with
  | [] => .next s
  | page :: r =>
    let used := s.fg Fld.PMEM_RETIRE_STAT_USED
    if !s.fb Fld.PMEM_RETIRE_CFG_AUTO then .next s
    else if 4096 ≤ used then
      let s := { s with fle := { s.fle with duePages := r } }
      .next (if s.fle.spareLogged then s else { s with fle := { s.fle with spareLogged := true } }.log 0x1503)
    else
      let s := { s with fle := { s.fle with
        duePages := r, remap := s.fle.remap.ins page used, corr := s.fle.corr.filter fun e => e.page != page } }
      let s := { s with nvm := { s.nvm with pages := s.nvm.pages ++ [page] } }
      let s := (s.fs Fld.PMEM_RETIRE_STAT_USED (used + 1)).log 0x1501 (d5 (page * 4096))
      .next (((List.range 64).zip errors).foldl (fun s x => s.copyBlock (page * 4096 + x.1 * 64) x.2) s)

/-- A write of FLE_CACHE_CTL with RETIRE (R177). A bank that is retired already may be named again: its retirement is repeated, with
its event (DESIGN CHOICE, log 116). -/
def State.retireBank (s : State) (bank : Nat) : State :=
  let left := (List.range 8).any fun b => b != bank && !s.fbit Fld.FLE_STATUS_BANK_RETIRED b
  if s.fb Fld.FLE_CACHE_CTL_RETIRING || !left then s.denied Spec.FLE_CACHE_CTL
  else
    { (s.fs Fld.FLE_CACHE_CTL_BANK bank).fs Fld.FLE_CACHE_CTL_RETIRING 1 with
      fle := { s.fle with retiring := some bank } }

/-- RETIRE (R177). -/
def execRetire (bank : BitVec 3) (s : State) : Res := .next (s.begin.retireBank bank.toNat)

/-- BANK_RETIREMENT_COMPLETE: once the bank's operations have run, its dirty lines are written out, those that read
uncorrectable as poison markers, and the bank is retired (R177). `errors` are the errors of the lines' blocks, by bucket and slot. -/
def execBankRetirementComplete (errors : List ((Nat × Nat) × List BlockErr)) (s : State) : Res :=
  let s := s.begin
  match s.fle.retiring with
  | none => .next s
  | some bank =>
    if (s.fle.ops.any fun e => e.2.bank == bank) || s.held bank != [] then .next s
    else
      let ls := s.fle.cache.filter fun l => l.bank == bank
      let s := ls.foldl (fun (s : State) (l : CacheLine) =>
        let e := ((errors.find? fun x => x.1 == (l.bucket, l.slot)).map (·.2)).getD []
        let (x, s) := s.readCacheBlock (e.headD [])
        let (y, s) := s.readCacheBlock (e.tail.headD [])
        let s := s.writeOut l
        if l.dirty && (x.seen == .uncorrectable || y.seen == .uncorrectable) then s.poison l.bucket l.slot else s) s
      let s := { s with fle := { s.fle with retiring := none } }
      .next (((s.fs Fld.FLE_CACHE_CTL_RETIRING 0).fsbit Fld.FLE_STATUS_BANK_RETIRED bank true).log 0x0707).drain

/-! ## Zone entries (R183) -/

/-- FLE_ZONE_CMD without WRITE: the entry of a zone goes to the data registers. -/
def State.zoneRead (s : State) (zone : Nat) : State :=
  let s := s.store Spec.FLE_ZONE_CMD [] zone
  let z := s.zone zone
  ((s.fs Fld.FLE_ZONE_DATA_LIMIT z.limit).fs Fld.FLE_ZONE_PROF_PROFILE z.profile).fs Fld.FLE_ZONE_COUNT_COUNT
    (min 0xFFFFFFF z.live)

/-- FLE_ZONE_CMD with WRITE: sets LIMIT and PROFILE. A change of PROFILE leaves the tokens, but for a cut to the new CR_BURST
(R157). (DESIGN CHOICE, log 45) -/
def State.zoneWrite (s : State) (zone : Nat) : State :=
  let s := s.store Spec.FLE_ZONE_CMD [] (2 ^ 30 + zone)
  let p := s.fg Fld.FLE_ZONE_PROF_PROFILE
  let n := s.zoneTokens zone
  let s := s.modZone zone fun z =>
    { z with limit := s.fg Fld.FLE_ZONE_DATA_LIMIT, profile := p,
             tokens := if z.profile = p then z.tokens else some (min n (s.fg (Fld.FLE_ZPROF_BURST_CR_BURST p))) }
  s.fs Fld.FLE_ZONE_COUNT_COUNT (min 0xFFFFFFF (s.zone zone).live)

/-- ZONE_ENTRY_READ (R183). -/
def execZoneEntryRead (zone : BitVec 16) (s : State) : Res := .next (s.begin.zoneRead zone.toNat)

/-- ZONE_ENTRY_WRITE (R183). -/
def execZoneEntryWrite (zone : BitVec 16) (s : State) : Res := .next (s.begin.zoneWrite zone.toNat)

end Sys2Proof.Machine
end

