-- ==== Sys2Proof/Machine/Parse.lean ====
section
/-! DEFINITION. The parser (chapter 3): pre-decode, shapes, length faults, profiles, the key vector and the hash, and the
meanings of PARSE_HEAD and HASH_TEST. -/

namespace Sys2Proof.Machine

/-! ## Headers (R91–R98) -/

/-- What the pre-decode finds in one IP header and what follows it. `l4` is the L4 start. -/
structure IpInfo where
  v6 : Bool := false
  l3ok : Bool := false
  fault : Bool := false
  frag : Bool := false
  opt : Bool := false
  ext : Bool := false
  proto : Nat := 0
  src : Nat := 0
  dst : Nat := 0
  tos : Nat := 0
  ttl : Nat := 0
  sport : Nat := 0
  dport : Nat := 0
  b44 : Nat := 0
  b45 : Nat := 0
  l4ok : Bool := false
  l4 : Option Nat := none
  payload : Nat := 0
  deriving DecidableEq, Repr

/-- Whether a protocol bears ports (R97). -/
def portBearing (p : Nat) : Bool := p == 6 || p == 17 || p == 132

/-- The next-header values taken as extension headers (R95). -/
def extHeaders : List Nat := [0, 43, 44, 51, 60, 135, 139, 140]

/-- The layer-4 fields of an IP header whose own checks have passed (R97, R98). `win` is what can be read. -/
def decodeL4 (win : List Byte) (o : Nat) (i : IpInfo) : IpInfo :=
  let need := fun n => decide (o + n ≤ win.length)
  let bad := { i with fault := true }
  let ports := { i with sport := beAt win o 2, dport := beAt win (o + 2) 2, l4ok := true }
  if i.proto = 6 then
    let d := beAt win (o + 12) 1 / 16
    if d < 5 ∨ i.payload < d * 4 ∨ !need 14 then bad else { ports with b44 := beAt win (o + 13) 1 }
  else if i.proto = 17 then
    let l := beAt win (o + 4) 2
    if l < 8 ∨ i.payload < l ∨ !need 8 then bad else ports
  else if i.proto = 132 then if i.payload < 12 ∨ !need 4 then bad else ports
  else if i.proto = (if i.v6 then 58 else 1) then
    if need 2 then { i with b44 := beAt win o 1, b45 := beAt win (o + 1) 1 } else bad
  else i

/-- An IPv4 header at an offset (R94, R98). `whole` says that the frame ended within the window. -/
def decodeV4 (win : List Byte) (o : Nat) (whole : Bool) : IpInfo :=
  let avail := win.length - o
  let ihl := beAt win o 1 % 16
  let total := beAt win (o + 2) 2
  if beAt win o 1 / 16 ≠ 4 ∨ ihl < 5 ∨ avail < ihl * 4 ∨ total < ihl * 4 ∨ (whole ∧ avail < total) then { fault := true }
  else
    let fr := beAt win (o + 6) 2
    let i : IpInfo :=
      { l3ok := true, frag := bitAt fr 13 || fr % 8192 != 0, opt := decide (5 < ihl), proto := beAt win (o + 9) 1,
        src := beAt win (o + 12) 4, dst := beAt win (o + 16) 4, tos := beAt win (o + 1) 1, ttl := beAt win (o + 8) 1,
        l4 := some (o + ihl * 4), payload := total - ihl * 4 }
    if i.frag then i else decodeL4 win (o + ihl * 4) i

/-- An IPv6 header at an offset (R95, R98). -/
def decodeV6 (win : List Byte) (o : Nat) (whole : Bool) : IpInfo :=
  let avail := win.length - o
  let plen := beAt win (o + 4) 2
  if beAt win o 1 / 16 ≠ 6 ∨ avail < 40 ∨ plen = 0 ∨ (whole ∧ avail < plen + 40) then { v6 := true, fault := true }
  else
    let nh := beAt win (o + 6) 1
    let ext := extHeaders.contains nh
    let i : IpInfo :=
      { v6 := true, l3ok := true, ext := ext, proto := nh, src := beAt win (o + 8) 16, dst := beAt win (o + 24) 16,
        tos := beAt win o 2 / 16 % 256, ttl := beAt win (o + 7) 1, l4 := if ext then none else some (o + 40),
        payload := plen }
    if ext then i else decodeL4 win (o + 40) i

/-- What the pre-decode finds in a frame (R91, R92). `vxFault` says that a fault lies in a header only VXLAN decoding
reaches. -/
structure PreDecode where
  shape : Nat := 0
  tags : Nat := 0
  tci : Nat := 0
  ctci : Nat := 0
  etype : Nat := 0
  extra : Bool := false
  l3 : Option Nat := none
  outer : Option IpInfo := none
  arp : Option (Nat × Nat) := none
  vxlan : Bool := false
  vni : Nat := 0
  innerTag : Bool := false
  innerL3 : Option Nat := none
  inner : Option IpInfo := none
  fault : Bool := false
  vxFault : Bool := false
  deriving DecidableEq, Repr

/-- Whether a value is a tag's TPID. -/
def isTpid (t : Nat) : Bool := t == 0x8100 || t == 0x88A8

/-- The shape of an IP header without VXLAN (R92). -/
def IpInfo.shape (i : IpInfo) : Nat :=
  if i.v6 then if i.ext then 9 else if i.proto = 6 then 6 else if i.proto = 17 then 7 else 8
  else if i.frag then 5 else if i.proto = 6 then 2 else if i.proto = 17 then 3 else 4

/-- The VXLAN encapsulation of a frame whose outer headers have passed their checks (R96). (DEDUCED, log 28) -/
def decodeVxlan (win : List Byte) (whole : Bool) (d : PreDecode) (i : IpInfo) : PreDecode :=
  match i.l4 with
  | none => d
  | some l4 =>
    let fits := i.l4ok && i.proto == 17 && !i.opt && !i.frag && !i.ext && i.dport == 4789
      && bitAt (beAt win (l4 + 8) 1) 3
    if !fits then d
    else
      let e := l4 + 16
      let tag := isTpid (beAt win (e + 12) 2)
      let d := { d with vxlan := true, vni := beAt win (l4 + 12) 3 }
      if win.length < e + 14 ∨ (tag ∧ win.length < e + 18) then { d with shape := 15, fault := true, vxFault := true }
      else
        let o := e + if tag then 18 else 14
        let et := beAt win (o - 2) 2
        let d := { d with innerTag := tag, innerL3 := some o }
        let inner := if et = 0x0800 then some (decodeV4 win o whole) else if et = 0x86DD then some (decodeV6 win o whole) else none
        let d := { d with inner := inner }
        match inner with
        | none => { d with shape := 14 }
        | some j =>
          if j.fault then { d with shape := 15, fault := true, vxFault := true }
          else { d with shape := (if i.v6 then 12 else 10) + if j.v6 then 1 else 0 }

/-- The pre-decode of a window, with or without VXLAN (R91–R98). (DEDUCED, log 28) -/
def preDecode (win : List Byte) (whole vx : Bool) : PreDecode :=
  let t0 := beAt win 12 2
  let t1 := beAt win 16 2
  let tags := if !isTpid t0 then 0 else if t0 = 0x88A8 ∧ t1 = 0x8100 then 2 else 1
  let o := 14 + 4 * tags
  let et := beAt win (o - 2) 2
  let d : PreDecode :=
    { tags := tags, tci := if tags = 0 then 0 else beAt win 14 2, ctci := if tags = 2 then beAt win 18 2 else 0, etype := et }
  if win.length < o then { d with shape := 15, fault := true, etype := 0 }
  else if isTpid et then { d with extra := true }
  else
    let d := { d with l3 := some o }
    if et = 0x0800 ∨ et = 0x86DD then
      let i := if et = 0x0800 then decodeV4 win o whole else decodeV6 win o whole
      let d := { d with outer := some i }
      if i.fault then { d with shape := 15, fault := true }
      else
        let d := { d with shape := i.shape }
        if vx then decodeVxlan win whole d i else d
    else if et = 0x0806 then
      let ip := beAt win o 8 / 2 ^ 16 == 0x000108000604
      if win.length < o + 8 ∨ (ip ∧ win.length < o + 28) then { d with shape := 15, fault := true }
      else if ip then
        { d with shape := 1, arp := some (beAt win (o + 14) 4, beAt win (o + 24) 4) }
      else { d with shape := 1, arp := some (0, 0) }
    else d

/-! ## Profiles and the key vector (R102–R109) -/

/-- The local port index of R102. -/
def localPort (p : Packet) : Nat :=
  if 1 < p.pass then 17 else if p.inPort < 64 then p.inPort % 16 else p.inPort - 48

/-- The profile of a local port and a shape (R102, R126). -/
def State.profileOf (s : State) (slice lp shape : Nat) : Nat :=
  bitsOf (s.rd (Reg.PAR_PSEL slice lp (shape / 4))).toNat (8 * (shape % 4) + 5) (8 * (shape % 4))

/-- The pre-decode of a packet under the profiles of its port, with the profile chosen (R92, R102). -/
def State.classify (s : State) (slice lp : Nat) (win : List Byte) (whole : Bool) : PreDecode × Nat :=
  let d := preDecode win whole true
  let prof := s.profileOf slice lp d.shape
  let vx := s.fb (Fld.PAR_PROF_CFG_VXLAN_EN slice prof)
  if !vx && (d.vxFault || decide (10 ≤ d.shape ∧ d.shape ≤ 14)) then
    let d := preDecode win whole false
    (d, s.profileOf slice lp d.shape)
  else (d, prof)

/-- The user field of a profile, and whether the window cut it (R101, R103). (DEDUCED, log 27) -/
def State.userField (s : State) (slice prof : Nat) (d : PreDecode) (win : List Byte) (long : Bool) : Nat × Bool :=
  if !s.fb (Fld.PAR_PROF_USER_USER_EN slice prof) then (0, false)
  else
    let anchor := match s.fg (Fld.PAR_PROF_USER_ANCHOR slice prof) with
      | 0 => some 0
      | 1 => d.l3
      | 2 => d.outer.bind fun i => i.l4
      | _ => d.innerL3
    match anchor with
    | none => (0, false)
    | some a =>
      let o := a + s.fg (Fld.PAR_PROF_USER_OFFSET slice prof)
      (beAt win o 4, long && decide (192 < o + 4))

/-- The zone of a packet (R104). -/
def State.zoneOf (s : State) (slice lp prof : Nat) (d : PreDecode) (prev : Option Nat) : Nat :=
  let port := s.fg (Fld.PAR_PORT_ZONE_ZONE slice lp)
  match s.fg (Fld.PAR_PROF_CFG_ZONE_SRC slice prof) with
  | 1 =>
    let vid := (if s.fb (Fld.PAR_PROF_CFG_VLAN_INNER slice prof) && d.tags == 2 then d.ctci else d.tci) % 4096
    if d.tags ≠ 0 ∧ s.fb (Fld.PAR_VLAN_ZONE_VALID slice vid) then s.fg (Fld.PAR_VLAN_ZONE_ZONE slice vid) else port
  | 2 => if d.vxlan then d.vni % 65536 else port
  | 3 => prev.getD port
  | _ => port

/-- The key vector and what comes from it (R106–R111). A fault in the inner headers with TUNNEL_OUTER = 1 clears L4_OK and leaves
L3_OK as the outer header, which the key comes from, has set it (R99, R108). (DESIGN CHOICE, log 106) -/
def State.keyOf (s : State) (p : Packet) (prof : Nat) (d : PreDecode) (win user : List Byte) : Parsed :=
  let slice := p.slice
  let outerKey := !d.vxlan || s.fb (Fld.PAR_PROF_CFG_TUNNEL_OUTER slice prof)
  let ip := if outerKey then d.outer else d.inner
  let i := ip.getD {}
  let l3 := if i.l3ok then (if i.v6 then 2 else 1) else if d.arp.isSome then 3 else 0
  let kind0 := if portBearing i.proto && i.l3ok then s.fg (Fld.PAR_PROF_CFG_KIND_PORT slice prof)
    else s.fg (Fld.PAR_PROF_CFG_KIND_OTHER slice prof)
  let kind := if i.frag || i.ext then 1 else kind0
  let proto := if kind = 2 then 0 else i.proto
  let sp := if kind = 0 then i.sport else 0
  let dp := if kind = 0 then i.dport else 0
  let (sa, da) := match d.arp with | some x => x | none => (i.src, i.dst)
  let zone := s.zoneOf slice (localPort p) prof d p.prevZone
  let (uf, cut) := s.userField slice prof d user (decide (192 < p.bytes.length))
  let flags := 32768 * ofBool i.l3ok + 16384 * ofBool (i.l4ok && !d.fault) + 8192 * ofBool i.frag + 4096 * ofBool i.opt
    + 2048 * ofBool i.ext + 1024 * ofBool d.vxlan + 512 * ofBool d.innerTag + 256 * ofBool d.extra + 64 * d.tags
    + 32 * ofBool d.fault + 8 * ofBool cut + 4 * ofBool (bitAt (beAt win 0 1) 0)
  let (srcA, fk) := canonicalKey (l3 == 2) kind zone proto sa da sp dp
  let key := beBytes 1 p.inPort ++ beBytes 1 (prof * 4 + (p.pass - 1)) ++ beBytes 2 flags ++ beBytes 2 zone
    ++ beBytes 1 proto ++ beBytes 1 (l3 * 16 + kind) ++ beBytes 16 sa ++ beBytes 16 da ++ beBytes 2 sp ++ beBytes 2 dp
    ++ beBytes 1 i.b44 ++ beBytes 1 i.b45 ++ beBytes 1 i.tos ++ beBytes 1 i.ttl ++ sliceBytes win 0 6 ++ beBytes 2 d.tci
    ++ beBytes 2 d.ctci ++ beBytes 2 d.etype ++ beBytes 4 (if d.vxlan then d.vni else uf)
  { shape := d.shape, profile := prof, zone := zone, key := key, hash := s.keyHash fk, flowKey := fk, srcIsA := srcA,
    tracked := true }

/-! ## PARSE_HEAD (R25, R99, R121) -/

/-- Whether a head comes from an internal port: port 64, a recirculated pass, or port 66. (DESIGN CHOICE, log 18) -/
def Packet.isInternal (p : Packet) : Bool := decide (64 ≤ p.inPort ∨ 1 < p.pass)

/-- The head a slice takes: round robin over its front ports, or an internal one in the reserved clock (R25): the first one
of port 64 in the FIFO, else the first that has come from port 65 or 66. (DESIGN CHOICE, log 18) -/
def State.nextHead (s : State) (slice : Nat) (reserved : Bool) : Option Nat :=
  let x := s.slice slice
  let f := if x.restarting then [] else x.fifo ++ x.inner
  let front := f.filter fun pid => !(s.pkt pid).isInternal
  let pick := ((List.range 16).map fun i => ((s.slice slice).lastPort + 1 + i) % 16).findSome? fun q =>
    front.find? fun pid => (s.pkt pid).inPort % 16 == q
  if reserved then (f.find? fun pid => (s.pkt pid).isInternal).orElse fun _ => pick else pick

/-- What the parse window offers of a frame: without its FCS where the frame ended within it (R29, R98). -/
def window (bs : List Byte) : List Byte := if bs.length ≤ 192 then bs.take (bs.length - 4) else bs.take 192

/-- A parsed packet takes its place in the order of the slice's flow requests. -/
def State.willAsk (s : State) (pid : Nat) : State :=
  s.modSlice (s.pkt pid).slice fun x => { x with asks := x.asks.erase pid ++ [pid] }

/-- Parses a packet's head; a length fault is dropped or passed on (R99). -/
def State.parse (s : State) (pid : Nat) : State :=
  let p := s.pkt pid
  let win := window p.bytes
  let whole := decide (p.bytes.length ≤ 192)
  let (d, prof) := s.classify p.slice (localPort p) win whole
  let s := if p.pass = 1 then s.bind pid else s
  let s := if d.extra then s.inc (Reg.PAR_TAG_EXTRA p.slice) else s
  let s := s.modPkt pid fun x =>
    { x with head := s.keyOf p prof d win (p.bytes.take 192), stage := .parsed, flow := .notAsked, asStandby := none, rule := none }
  if d.fault then
    let s := s.logLimited 0x0501 p.slice 1 0 fun _ c => d4 c
    if s.fb (Fld.PAR_PROF_CFG_FAULT_PASS p.slice prof) then (s.inc (Reg.PAR_FAULT_PASS p.slice)).willAsk pid
    else (s.inc (Reg.PAR_FAULT_DROP p.slice)).release pid
  else s.willAsk pid

/-- PARSE_HEAD: a slice in Run takes one head into its parser, unless its later stages stall it (R25, R48, R121). -/
def execParseHead (slice : Nat) (reserved : Bool) (s : State) : Res :=
  let s := s.begin
  if !(s.slice slice).inService ∨ s.power slice ≠ 0 ∨ s.sliceStalled slice then .next s
  else
    match s.nextHead slice reserved with
    | none => .next s
    | some pid =>
      let front := !(s.pkt pid).isInternal
      let s := s.modSlice slice fun x =>
        { x with fifo := x.fifo.erase pid, inner := x.inner.erase pid, lastPort := if front then (s.pkt pid).inPort % 16 else x.lastPort }
      .next ((((s.touch slice).evc (48 + 4 * slice)).parse pid).issueWaiting)

/-! ## HASH_TEST (R112, R130) -/

/-- A write of PAR_HASH_TEST (R130): with GO, the test bytes are hashed with the seeds in force. -/
def State.writeHashTest (s : State) (v : Word) : State :=
  let len := v.toNat % 64
  if len < 1 ∨ 39 < len then s.denied Spec.PAR_HASH_TEST
  else
    let s := s.store Spec.PAR_HASH_TEST [] v.toNat
    if !bitAt v.toNat 31 then s
    else
      let bs := ((List.range 10).flatMap fun w => beBytes 4 (s.rd (Reg.PAR_HASH_DATA w)).toNat).take len
      (s.wr Reg.PAR_HASH_TEST_LO (BitVec.ofNat 32 (crc32c (s.rd Reg.PAR_HASH_SEED_LO).toNat bs))).wr Reg.PAR_HASH_TEST_HI
        (BitVec.ofNat 32 (crc32 (s.rd Reg.PAR_HASH_SEED_HI).toNat bs))

/-- HASH_TEST (R112). -/
def execHashTest (req : Requester) (value : Word) (s : State) : Res :=
  .next (s.begin.forReq req fun s => s.writeHashTest value)

end Sys2Proof.Machine
end

