-- ==== Sys2Proof/Machine/Rules.lean ====
section
/-! DEFINITION. Range comparators and the rule engine (chapter 3), what a rule's verdict does, the commands on the rule banks,
and the swap. -/

namespace Sys2Proof.Machine

/-! ## Matching (R115, R116) -/

/-- Whether a comparator matches a key vector (R115). -/
def Comparator.hits (c : Comparator) (key : List Byte) : Bool :=
  let inr := fun v => decide (c.low ≤ v ∧ v ≤ c.high)
  let raw := match c.sel with
    | 0 => inr (beAt key 40 2)
    | 1 => inr (beAt key 42 2)
    | 2 => inr (beAt key 40 2) || inr (beAt key 42 2)
    | 3 => inr (beAt key 46 1)
    | 4 => inr (beAt key 47 1)
    | 5 => inr (beAt key 54 2 % 4096)
    | 6 => inr (beAt key 62 2)
    | _ => inr (beAt key 58 2)
  c.en && (raw != c.inv)

/-- Whether a rule matches a key vector under a bank's comparators (R116). -/
def Rule.hits (r : Rule) (b : RuleBank) (key : List Byte) : Bool :=
  bitAt r.action 63 && ((beNat key ^^^ r.value) &&& r.mask) == 0
    && r.refs.all fun x => decide (x < 128) || (b.comps.get (x - 128) {}).hits key

/-- The match of a key vector: the lowest matching index, or 16,384 for the default action, with the action word. -/
def RuleBank.lookup (b : RuleBank) (key : List Byte) : Nat × Nat :=
  match b.rules.find? fun e => e.2.hits b key with
  | some (i, r) => (i, r.action)
  | none => (16384, b.dflt)

/-- A bank of the rule engine, and its change. -/
def State.ruleBank (s : State) (b : Nat) : RuleBank := if b = 0 then s.rul.bank0 else s.rul.bank1
@[inherit_doc State.ruleBank] def State.setRuleBank (s : State) (b : Nat) (x : RuleBank) : State :=
  { s with rul := if b = 0 then { s.rul with bank0 := x } else { s.rul with bank1 := x } }

/-- A hit counter: index 16,384 is the default action's (R119). -/
def State.hitCount (s : State) (slice i : Nat) : Nat := s.rul.hits.get (slice * 16385 + i) 0
@[inherit_doc State.hitCount] def State.setHit (s : State) (slice i n : Nat) : State :=
  { s with rul := { s.rul with hits := s.rul.hits.put (slice * 16385 + i) 0 n } }

/-! ## Verdicts (R118) -/

/-- What a verdict does to a packet at once: 0 drops it, 2 sends it to port 66, 3 copies it there; FLOW = 0 and verdict 2
release its flow (R31, R118). -/
def State.verdict (s : State) (pid w : Nat) : State :=
  let v := bitsOf w 62 61
  let s := if v = 3 then s.cpuCopy pid else s
  if v = 0 then
    ((((s.offerAll pid 0xFF true).asked pid).leaveFlow pid).release pid)
  else if v = 2 then
    ((s.asked pid).leaveFlow pid).modPkt pid fun p =>
      { p with flow := .noRecord, op := none, untracked := true, reason := 1, stage := .issueWait,
               dest := .queue 66 (p.tc % max 1 (s.fg (Fld.SCH_PORT_CFG_QCOUNT 66))) }
  else if !bitAt w 60 ∧ (s.pkt pid).flow ≠ .notAsked then (s.leaveFlow pid).noFlow pid
  else s

/-- RULE_LOOKUP: a parsed packet's key vector is matched in the bank of its epoch (R116–R119), and the traffic class is set
(R333). -/
def execRuleLookup (pid : Nat) (s : State) : Res :=
  let s := s.begin
  let p := s.pkt pid
  if p.stage ≠ .parsed ∨ p.rule.isSome then .next s
  else
    let (i, w) := (s.ruleBank (s.bankOf 0 p.epochs.rule)).lookup p.head.key
    let s := s.setHit p.slice i (min 0xFFFFFFFF (s.hitCount p.slice i + 1))
    let tc := if bitAt w 54 then bitsOf w 53 51 else p.ing.owner % 8
    let s := s.setPkt pid { p with rule := some w, tc := tc, runSlice := p.slice }
    .next (((s.learnOffer pid (bitsOf w 62 61)).verdict pid w).issueWaiting)

/-! ## Commands on the banks (R120, R122, R131) -/

/-- A data word of the rule commands, and its setting. -/
def State.rulData (s : State) (w : Nat) : Nat := (s.rd (Reg.RUL_ACC_DATA w)).toNat
@[inherit_doc State.rulData] def State.setRulData (s : State) (w v : Nat) : State :=
  s.wr (Reg.RUL_ACC_DATA w) (BitVec.ofNat 32 v)

/-- The number in 16 data words from a first one, byte 0 in the top bits, and its setting. -/
def State.rulWide (s : State) (w : Nat) : Nat := (List.range 16).foldl (fun n i => n * 2 ^ 32 + s.rulData (w + i)) 0
@[inherit_doc State.rulWide] def State.setRulWide (s : State) (w v : Nat) : State :=
  (List.range 16).foldl (fun s i => s.setRulData (w + i) (v / 2 ^ (32 * (15 - i)) % 2 ^ 32)) s

/-- Turns a rule command down with a reason. -/
def State.rulReject (s : State) (n : Nat) : State := s.reject Fld.RUL_ACC_STAT_REJECTED Fld.RUL_ACC_STAT_REASON n

/-- The shadow bank of the rule engine. (DESIGN CHOICE, log 29) -/
def State.ruleShadow (s : State) : Nat := 1 - s.epochBank.get 0 0

/-- Why a command is turned down, 0 when it is not (R131): 4 while another one runs, then for OP 0 a comparator that does
not exist (2) before a slice out of service (3), for OP 1 the old epoch (1) before the index (2). (DESIGN CHOICE, log 29) -/
def State.rulReason (s : State) (op target slice index : Nat) : Nat :=
  let beyond := decide (target = 1 ∧ 128 ≤ index)
  let away := !(s.slice slice).inService
  if s.fb Fld.RUL_ACC_STAT_BUSY then 4
  else
    match op with
    | 0 => if beyond then 2 else if away then 3 else 0
    | 1 => if s.oldLive 0 then 1 else if beyond then 2 else 0
    | 2 => if s.oldLive 0 then 1 else 0
    | _ => if away then 3 else 0

/-- OP 0: reads an entry, a comparator or the default action. -/
def State.rulRead (s : State) (target : Nat) (shadow : Bool) (index : Nat) : State :=
  let b := s.ruleBank (if shadow then s.ruleShadow else 1 - s.ruleShadow)
  let act := fun (s : State) a => (s.setRulData 33 (a / 2 ^ 32)).setRulData 34 (a % 2 ^ 32)
  let s :=
    if target = 0 then
      let r := b.rules.get index {}
      let refs := r.refs.foldl (fun n x => n * 256 + x) 0
      act (((s.setRulWide 0 r.value).setRulWide 16 r.mask).setRulData 32 refs) r.action
    else if target = 1 then
      let c := b.comps.get index {}
      (s.setRulData 0 (2 ^ 31 * ofBool c.en + 2 ^ 30 * ofBool c.inv + c.sel)).setRulData 1 (c.low * 65536 + c.high)
    else act s b.dflt
  s.done Fld.RUL_ACC_STAT_DONE

/-- OP 1: writes an entry, a comparator or the default action of the shadow. -/
def State.rulWrite (s : State) (target index : Nat) : State :=
  let b := s.ruleBank s.ruleShadow
  let a := s.rulData 33 * 2 ^ 32 + s.rulData 34
  let b :=
    if target = 0 then
      let w := s.rulData 32
      let r : Rule := { value := s.rulWide 0, mask := s.rulWide 16, action := a,
                        refs := [bitsOf w 31 24, bitsOf w 23 16, bitsOf w 15 8, w % 256] }
      { b with rules := b.rules.put index {} r }
    else if target = 1 then
      let w := s.rulData 0
      let x := s.rulData 1
      let c : Comparator := { en := bitAt w 31, inv := bitAt w 30, sel := w % 8, low := x / 65536, high := x % 65536 }
      { b with comps := b.comps.put index {} c }
    else { b with dflt := a }
  (s.setRuleBank s.ruleShadow b).done Fld.RUL_ACC_STAT_DONE

/-- OP 2: starts the copy of the active bank into the shadow. -/
def State.rulCopy (s : State) : State :=
  { s with rul := { s.rul with copying := some s.aon } }.fs Fld.RUL_ACC_STAT_BUSY 1

/-- OP 3: reads and clears a hit counter. -/
def State.rulHit (s : State) (target slice index : Nat) : State :=
  let i := if target = 2 then 16384 else index
  ((s.setRulData 0 (s.hitCount slice i)).setHit slice i 0).done Fld.RUL_ACC_STAT_DONE

/-- A write of RUL_ACC_CMD (R131): an operation or a target that is not defined is turned down before anything else, and a
write that is turned down leaves the register's fields as they were (R18). (DESIGN CHOICE, log 29) -/
def State.rulCommand (s : State) (v : Word) : State :=
  let w := v.toNat
  let op := bitsOf w 30 28
  let target := bitsOf w 27 26
  if 4 ≤ op ∨ target = 3 ∨ (bitAt w 31 ∧ op = 3 ∧ target = 1) then s.rulReject 5
  else
    let t := s.store Spec.RUL_ACC_CMD [] w
    let index := bitsOf w 13 0
    let slice := bitsOf w 25 24
    let why := s.rulReason op target slice index
    if !bitAt w 31 then t
    else if why ≠ 0 then s.rulReject why
    else
      match op with
      | 0 => t.rulRead target (bitAt w 23) index
      | 1 => t.rulWrite target index
      | 2 => t.rulCopy
      | _ => t.rulHit target slice index

/-- The word of a rule command with GO. -/
def rulWord (op : Nat) (target slice : BitVec 2) (shadow : Bool) (index : BitVec 14) : Word :=
  BitVec.ofNat 32 (2 ^ 31 + op * 2 ^ 28 + target.toNat * 2 ^ 26 + slice.toNat * 2 ^ 24 + 2 ^ 23 * ofBool shadow + index.toNat)

/-- RULE_READ (R131). -/
def execRuleRead (target slice : BitVec 2) (shadow : Bool) (index : BitVec 14) (s : State) : Res :=
  .next (s.begin.rulCommand (rulWord 0 target slice shadow index))

/-- WRITE_SHADOW (R131). -/
def execWriteShadow (target : BitVec 2) (index : BitVec 14) (s : State) : Res :=
  .next (s.begin.rulCommand (rulWord 1 target 0 false index))

/-- COPY_ACTIVE_TO_SHADOW (R131). -/
def execCopyActiveToShadow (s : State) : Res := .next (s.begin.rulCommand (rulWord 2 0 0 false 0))

/-- RULE_COPY_COMPLETE: after 16,512 core clocks the shadow holds the active bank (R131). -/
def execRuleCopyComplete (s : State) : Res :=
  let s := s.begin
  match s.rul.copying with
  | some t =>
    if t * 50 + 16512 ≤ s.coreNow then
      let s := s.setRuleBank s.ruleShadow (s.ruleBank (1 - s.ruleShadow))
      .next (({ s with rul := { s.rul with copying := none } }.fs Fld.RUL_ACC_STAT_BUSY 0).done Fld.RUL_ACC_STAT_DONE)
    else .next s
  | none => .next s

/-- READ_AND_CLEAR_HIT_COUNTER (R119, R131). -/
def execReadAndClearHitCounter (target slice : BitVec 2) (index : BitVec 14) (s : State) : Res :=
  .next (s.begin.rulCommand (rulWord 3 target slice false index))

/-! ## The swap (R121, R122) -/

/-- A write of RUL_EPOCH_CTL with SWAP. (DESIGN CHOICE, log 29) -/
def State.ruleSwap (s : State) : State :=
  if s.oldLive 0 || s.fb Fld.RUL_ACC_STAT_BUSY then (s.fs Fld.RUL_EPOCH_CTL_SWAP_REFUSED 1).log 0x0602
  else
    let cur := s.curEpoch 0
    let refs := s.epochRef 0 0
    let s := (s.fs Fld.RUL_EPOCH_CTL_OLD_EPOCH cur).fs Fld.RUL_EPOCH_CTL_CUR_EPOCH ((cur + 1) % 16)
    let s := { s with epochBank := s.epochBank.put 0 0 (1 - s.epochBank.get 0 0) }
    let s := ((s.setEpochRef 0 1 refs).setEpochRef 0 0 0).log 0x0601
    if refs = 0 then s.log 0x0603 else s.setOldLive 0 true

/-- SWAP (R121, R122). -/
def execSwap (s : State) : Res := .next s.begin.ruleSwap

end Sys2Proof.Machine
end

