-- ==== Sys2Proof/Machine/Rewrite.lean ====
section
/-! DEFINITION. The egress rewrite (R41, R201): header edits in list order, checksum repair, one-step timestamps (R382–R384),
the frame of a mirror copy (R322), padding, FCS and stomping (R58, R78). A body is a frame without its FCS. -/

namespace Sys2Proof.Machine

/-- Replaces bytes from an offset. -/
def putBytes (bs : List Byte) (o : Nat) (v : List Byte) : List Byte := bs.take o ++ v ++ bs.drop (o + v.length)

/-- Whether a body has an outer tag (R201). -/
def outerTagged (b : List Byte) : Bool := decide (18 ≤ b.length) && isTpid (beAt b 12 2)

/-- The outer IP header of a body: its offset and what the pre-decode finds in it (R91, R98, R383). -/
def outerIp (b : List Byte) : Option (Nat × IpInfo) :=
  let d := preDecode (b.take 192) (decide (b.length ≤ 188)) false
  match d.l3, d.outer with
  | some o, some i => if i.fault || !i.l3ok then none else some (o, i)
  | _, _ => none

/-- The offset of the TCP or UDP checksum, when the body holds one that is in use. -/
def sumAt (b : List Byte) (i : IpInfo) : Option Nat :=
  match i.l4 with
  | some l =>
    let c := if i.proto = 6 then l + 16 else l + 6
    if !i.l4ok ∨ (i.proto ≠ 6 ∧ i.proto ≠ 17) ∨ b.length < c + 2 then none
    else if i.proto = 17 ∧ !i.v6 ∧ beAt b c 2 = 0 then none
    else some c
  | none => none

/-- Repairs the checksum at an offset for bytes that changed. A UDP result of zero is sent as 0xFFFF. -/
def repairAt (b : List Byte) (c : Nat) (udp : Bool) (old new : List Byte) : List Byte :=
  let r := repairSum (beAt b c 2) (sum16 old) (sum16 new)
  putBytes b c (beBytes 2 (if udp ∧ r = 0 then 0xFFFF else r))

/-- Replaces bytes at an even distance from the IP header, and repairs the IPv4 header checksum (`ip`) and the TCP or UDP
checksum (`l4`) that cover them. -/
def putCovered (b : List Byte) (o : Nat) (i : IpInfo) (off : Nat) (new : List Byte) (ip l4 : Bool) : List Byte :=
  let old := sliceBytes b off new.length
  let b' := putBytes b off new
  let b' := if ip && !i.v6 then repairAt b' (o + 10) false old new else b'
  if l4 then match sumAt b i with | some c => repairAt b' c (i.proto == 17) old new | none => b' else b'

/-- Edits 0x5 and 0x6: sets the TTL or hop limit. -/
def setTtl (b : List Byte) (o : Nat) (i : IpInfo) (v : Nat) : List Byte :=
  if i.v6 then putBytes b (o + 7) (beBytes 1 v) else putCovered b o i (o + 8) (beBytes 1 v ++ sliceBytes b (o + 9) 1) true false

/-- Edit 0x7: sets the traffic-class byte. -/
def setTos (b : List Byte) (o : Nat) (i : IpInfo) (v : Nat) : List Byte :=
  if i.v6 then putBytes b o (beBytes 2 (withBits (beAt b o 2) 11 4 v))
  else putCovered b o i o (sliceBytes b o 1 ++ beBytes 1 v) true false

/-- Edits 0x8 and 0x9: the source or the destination address and port from translation fields. -/
def setEndpoint (b : List Byte) (o : Nat) (i : IpInfo) (dst : Bool) (addr port : Nat) : List Byte :=
  let n := if i.v6 then 16 else 4
  let a := o + (if i.v6 then 8 else 12) + if dst then n else 0
  let b := putCovered b o i a (beBytes n addr) true true
  match i.l4 with
  | some l => if i.l4ok && portBearing i.proto then putCovered b o i (if dst then l + 2 else l) (beBytes 2 port) false true else b
  | none => b

/-- One edit of a body (R201). -/
def editBody (xl : Nat × Nat) (nhop : Nat → NextHop) (b : List Byte) (e : Nat × Nat) : List Byte :=
  let v := e.2
  let ip := fun (f : Nat → IpInfo → List Byte) => match outerIp b with | some (o, i) => f o i | none => b
  match e.1 with
  | 1 => if outerTagged b then putBytes b 14 (beBytes 2 (withBits (beAt b 14 2) 11 0 v)) else b
  | 2 => if outerTagged b then putBytes b 14 (beBytes 2 (withBits (beAt b 14 2) 15 13 v)) else b
  | 3 =>
    let at' := if outerTagged b && beAt b 12 2 == 0x88A8 then 16 else 12
    b.take at' ++ beBytes 2 0x8100 ++ beBytes 2 v ++ b.drop at'
  | 4 => if outerTagged b then b.take 12 ++ b.drop 16 else b
  | 5 => ip fun o i => setTtl b o i (v % 256)
  | 6 => ip fun o i => if i.ttl = 0 then b else setTtl b o i (i.ttl - 1)
  | 7 => ip fun o i => setTos b o i (v % 256)
  | 8 => ip fun o i => setEndpoint b o i false xl.1 xl.2
  | 9 => ip fun o i => setEndpoint b o i true xl.1 xl.2
  | 0xB => let n := nhop v; putBytes b 0 (beBytes 6 n.dst ++ beBytes 6 n.src)
  | _ => b

/-- The bytes of header growth and change an edit makes (R201): those it writes, inserts or removes. (DEDUCED, log 35) -/
def editCost (v6 : Bool) (code : Nat) : Nat :=
  match code with
  | 1 => 2
  | 2 | 5 | 6 | 7 => 1
  | 3 | 4 => 4
  | 8 | 9 => if v6 then 18 else 6
  | 0xA => 10
  | 0xB => 12
  | _ => 0

/-- Pads a body to 60 bytes and appends its FCS (R58). -/
def finishFrame (b : List Byte) : List Byte := let b := padTo 60 b; b ++ fcsOf b

/-- A stomped frame (R78): the bytes sent, padded to 60, and the inverse of their FCS. (DEDUCED, log 20) -/
def stompFrame (b : List Byte) : List Byte := let b := padTo 60 b; b ++ badFcsOf b

/-! ## One-step timestamps (R382–R384) -/

/-- Writes a timestamp of 10 bytes into a padded body at an offset, or answers none where R384 forbids it. -/
def oneStep (b : List Byte) (o : Nat) (ts : List Byte) : Option (List Byte) :=
  if b.length < o + 10 then none
  else
    match outerIp b with
    | some (_, i) =>
      match i.l4 with
      | some l =>
        if i.proto = 17 ∧ i.l4ok then
          if o < l + 8 ∨ l + beAt b (l + 4) 2 < o + 10 then none
          else
            let b' := putBytes b o ts
            let s := l + (o - l) / 2 * 2
            match sumAt b i with
            | some c => some (repairAt b' c true (sliceBytes b s 12) (sliceBytes b' s 12))
            | none => some b'
        else some (putBytes b o ts)
      | none => some (putBytes b o ts)
    | none => some (putBytes b o ts)

/-- The offset of the last edit 0xA of a list. -/
def oneStepAt (es : List (Nat × Nat)) : Option Nat := ((es.filter fun e => e.1 == 0xA).getLast?).map (·.2 % 256)

/-! ## The body a packet leaves with -/

/-- The template of a mirror session (R327): 14 bytes, or 18. -/
def State.mirrorTemplate (s : State) (m : Nat) (tagged : Bool) : List Byte :=
  ((List.range 5).flatMap fun i => beBytes 4 (s.rd (Reg.BUF_MIR_TPL m i)).toNat).take (if tagged then 18 else 14)

/-- The body of a mirror copy, or of the copy of VERDICT 3 (R322). `len` is the original length; the header gives 0 when the frame
had not ended as the copy began transmission. -/
def State.copyBody (s : State) (p : Packet) (c : CopyInfo) (len : Nat) : List Byte :=
  let data := p.bytes.take (p.bytes.length - 4)
  if c.toCpu then data
  else
    let cut := c.cuts p.bytes.length
    let data := if c.trunc = 0 then data else data.take c.trunc
    if c.hdr then
      let h := beBytes 1 (16 + c.session) ++ beBytes 1 (128 * ofBool cut + 64 * ofBool c.dropped) ++ beBytes 1 c.inPort
        ++ beBytes 1 c.egress ++ beBytes 2 (if c.early then 0 else len) ++ beBytes 2 c.seq ++ beBytes 4 c.rxSec ++ beBytes 4 c.rxNs
      (s.mirrorTemplate c.session c.tagged ++ h ++ data).take 10236
    else data.take 10236

/-- The body a packet leaves with, after its edits (R41, R201). -/
def State.egressBody (s : State) (p : Packet) (len : Nat) : List Byte :=
  match p.copy with
  | some c => s.copyBody p c len
  | none => p.edits.foldl (editBody (p.xlate.getD (0, 0)) s.nextHop) (p.bytes.take (p.bytes.length - 4))

/-! ## Times (R367, R373, R374) -/

/-- A network time in units of 2^-48 ns. (DESIGN CHOICE, log 59) -/
def NetTime.units (t : NetTime) : Nat := (t.sec * 1000000000 + t.ns) * 2 ^ 48 + t.frac

/-- The network time of a count of units; the seconds wrap at 2^64. -/
def netOf (u : Nat) : NetTime :=
  { sec := u / 2 ^ 48 / 1000000000 % 2 ^ 64, ns := u / 2 ^ 48 % 1000000000, frac := u % 2 ^ 48 }

/-- A network time moved by a signed number of units; the seconds wrap at 2^64. -/
def NetTime.move (t : NetTime) (d : Int) : NetTime :=
  netOf (((t.units : Int) + d) % ((2 ^ 64 * 1000000000 * 2 ^ 48 : Nat) : Int)).toNat

/-- The increment of one AON_CLK edge at a rate, in units of 2^-48 ns (R368). -/
def incrementOf (adj : Word) : Nat := (40 * ((2 ^ 48 : Int) + signedOf adj.toNat 32 * 2 ^ 16)).toNat

/-- The increment in force: a written rate takes effect at the next edge. -/
def State.increment (s : State) : Nat := incrementOf (s.tim.adjPending.getD (s.rd Reg.TIM_ADJ))

/-- A copy of the counter in the k-th core clock after an AON_CLK edge: the loaded value plus k × increment / 50, truncated to
2^-16 ns (R373). -/
def NetTime.copyAt (t : NetTime) (inc k : Nat) : NetTime := netOf ((t.units + k * inc / 50) / 2 ^ 32 * 2 ^ 32 % (2 ^ 64 * 1000000000 * 2 ^ 48))

/-- The time that a copy of the counter holds in the present AON_CLK period (R373): which core clock of the period it is, is a free
value. (DESIGN CHOICE, log 59) -/
def State.sampleTime (s : State) : NetTime × State :=
  let (v, s) := s.free
  (s.net.copyAt s.increment (v.toNat % 50), s)

/-- The bytes of a one-step field: seconds 47:0 and nanoseconds (R382). -/
def NetTime.stepBytes (t : NetTime) : List Byte := beBytes 6 t.sec ++ beBytes 4 t.ns

/-- The receive and the transmit timestamp of a port (R374). -/
def State.rxStamp (s : State) (port : Nat) : NetTime × State :=
  let (t, s) := s.sampleTime
  (if port < 64 then t.move (-(signedOf (s.rd (Reg.TIM_RX_CORR port)).toNat 32 * 2 ^ 32)) else t, s)
@[inherit_doc State.rxStamp] def State.txStamp (s : State) (port : Nat) : NetTime × State :=
  let (t, s) := s.sampleTime
  (if port < 64 then t.move (signedOf (s.rd (Reg.TIM_TX_CORR port)).toNat 32 * 2 ^ 32) else t, s)

end Sys2Proof.Machine
end

