-- ==== Sys2Proof/Machine/Transmit.lean ====
section
/-! DEFINITION. From a selection to the wire: SCHEDULER_SELECTION, delivery to the receive rings and to the next pass,
FRAME_TRANSMIT, the stomp, and the retirement of a cell (chapters 1, 2, 8, 9, 10 and 15). -/

namespace Sys2Proof.Machine

/-! ## Cells that cannot be read (R311–R313) -/

/-- Retires a cell whose header reads uncorrectable; once 1,024 are retired it returns to its list instead. -/
def State.retireCell (s : State) (c : Nat) : State :=
  if s.buf.retiredCells < 1024 then
    let s := s.setCell c { gen := (s.cell c).gen, retired := true }
    ({ s with buf := { s.buf with retiredCells := s.buf.retiredCells + 1 } }.inc Reg.BUF_CELLS_RETIRED).log 0x0B07 (d4 c)
  else s.appendCell c

/-- Frees a packet whose nth cell header reads uncorrectable: the cells before it are freed, the rest of the chain is left
to Compost. -/
def State.releaseCut (s : State) (pid n : Nat) : State :=
  let p := s.pkt pid
  let s := s.freeChain (p.cells.take n)
  let s := match p.cells[n]? with | some c => s.retireCell c | none => s
  (s.modPkt pid fun p => { p with cells := [] }).release pid

/-! ## A packet's place in a port -/

/-- The queue a packet is on or was selected from. -/
def State.queueOf (s : State) (p : Packet) (port : Nat) : Nat :=
  match p.dest with | .queue _ q => s.fg (Fld.SCH_PORT_CFG_QBASE port) + q | _ => s.fg (Fld.SCH_PORT_CFG_QBASE port)

/-- MAX_SDU of a packet's class. -/
def State.sduOf (s : State) (p : Packet) (port : Nat) : Nat := s.maxSdu port (s.queue (s.queueOf p port)).tc

/-- A port has nothing in transmission. -/
def State.portIdle (s : State) (port : Nat) : State :=
  ((s.modPsched port fun x => { x with tx := none }).modPort port fun x => { x with idleSince := s.aon }).refreshPort port

/-- Counts a frame over MAX_SDU (R355). -/
def State.sduDrop (s : State) (port : Nat) : State :=
  (s.inc (Reg.SCH_SDU_DROP port)).logLimited 0x0D02 port 1 0 fun _ c => d4 c

/-- Gives back what a packet was charged too much as it was selected before its frame ended (R343): no more than MAX_SDU bytes
of it are sent (R355). -/
def State.refund (s : State) (pid port : Nat) : State :=
  let p := s.pkt pid
  if p.charged = 0 then s
  else
    let sent := min p.txLen (s.sduOf p port)
    (s.refundPath port p.charged (sent + s.fg (Fld.SCH_PORT_CFG_OVH port)) p.path).setPkt pid
      { p with charged := 0, path := [] }

/-- Whether a port-64 frame whose end is known is still being sent: at most one is in progress (R401). -/
def TrlState.sending (t : TrlState) : Bool := !t.data.isEmpty || (t.segData && !t.seg.isEmpty)

/-- Puts a frame on a front port's wire, or what is left of it into the Trellis transmitter (R400, R401). -/
def State.putFrame (s : State) (port : Nat) (f : List Byte) : State :=
  if port = 64 then { s with trl := { s.trl with data := f.drop s.trl.sent, dataFirst := s.trl.sent == 0, sent := 0 } }
  else s.emit (.frame port f)

/-- Counts a frame sent whole: the port's statistics and the queue's counts (R361, R565). -/
def State.countSent (s : State) (pid port : Nat) (f : List Byte) : State :=
  (s.statFrame port 0x270 f f.length).modQueue (s.queueOf (s.pkt pid) port) fun q =>
    { q with sentPkts := (q.sentPkts + 1) % 2 ^ 64, sentBytes := (q.sentBytes + f.length) % 2 ^ 64 }

/-- Ends a packet's transmission. -/
def State.endTx (s : State) (pid port : Nat) : State := (s.release pid).portIdle port

/-- Drops a packet that was selected, before its first byte. -/
def State.dropTx (s : State) (pid port : Nat) : State := (s.dropQueued pid port).portIdle port

/-! ## Sending and stomping (R58, R78, R79, R355, R382–R384) -/

/-- Writes the timestamp of the last edit 0xA, or counts that it was not written. Whether byte O + 9 of a frame that was
being cut through was there in time is a free value (R384). -/
def State.insertStamp (s : State) (p : Packet) (port : Nat) (body : List Byte) (t : NetTime) : List Byte × State :=
  match oneStepAt p.edits with
  | none => (body, s)
  | some o =>
    let (v, s) := if p.txAt.isSome then s.free else (0, s)
    let b := padTo 60 body
    match if 64 ≤ port ∨ v.toNat % 2 = 1 then none else oneStep b o t.stepBytes with
    | some b' => (b', s)
    | none =>
      (body, (if port < 64 then s.inc (Reg.TIM_OS_FAIL port) else s).logLimited 0x0E03 port 1 0 fun _ _ => [])

/-- A packet that leaves for port 65 or 66 takes no one-step timestamp: event 0x0E03 says so (R384). -/
def State.noStamp (s : State) (p : Packet) (port : Nat) : State :=
  if p.copy.isNone && (oneStepAt p.edits).isSome then s.logLimited 0x0E03 port 1 0 fun _ _ => [] else s

/-- Stomps the frame in transmission: the inverse of the FCS over the body sent, with the counters of the egress port (R78,
R79). (DEDUCED, log 20) -/
def State.stompTx (s : State) (pid port : Nat) (body : List Byte) : State :=
  let p := s.pkt pid
  let (t, s) := match p.txAt with | some t => (t, s) | none => s.txStamp port
  let (body, s) := s.insertStamp p port body t
  let s := s.putFrame port (stompFrame body)
  let s := if port < 64 then
      let s := (s.inc (Reg.PRT_TX_STOMP port)).portEvent (Fld.PRT_EVENT_STOMP port)
      if p.txAt.isSome then s.tsSettle pid port 1 else s.tsFate p port 1 (some t)
    else s
  (s.logLimited 0x0404 port 1 port fun _ c => d4 c).endTx pid port

/-- Sends the frame of a packet that ended good. -/
def State.sendTx (s : State) (pid port : Nat) : State :=
  let p := s.pkt pid
  let max := s.sduOf p port
  let body := s.egressBody p p.len
  match p.txAt with
  | none =>
    let (t, s) := s.txStamp port
    let (body, s) := s.insertStamp p port body t
    let f := finishFrame body
    let s := if port < 64 then s.tsFate p port 0 (some t) else s
    (((s.countSent pid port f).putFrame port f).endTx pid port)
  | some t =>
    let (body, s) := s.insertStamp p port body t
    let f := finishFrame body
    if max < f.length then
      let s := s.tsSettle pid port 1
      (((s.sduDrop port).putFrame port (stompFrame (body.take (max - 4)))).endTx pid port)
    else (((s.tsSettle pid port 0).countSent pid port f).putFrame port f).endTx pid port

/-- What the end of its frame does to a packet in transmission (R37, R78, R343, R355). `whole` says that the frame's last
four bytes are its FCS. -/
def State.txFrameEnd (s : State) (pid port : Nat) (whole : Bool) : State :=
  let s := s.refund pid port
  let p := s.pkt pid
  if p.good then
    if p.txAt.isSome then s.sendTx pid port
    else if s.sduOf p port < p.txLen then (s.sduDrop port).dropTx pid port
    else s
  else if p.txAt.isSome then
    let q := if whole then p else { p with bytes := p.bytes ++ [0, 0, 0, 0] }
    s.stompTx pid port (s.egressBody q p.len)
  else (if p.copy.isSome then s.inc Reg.BUF_MIR_DROP else s).dropTx pid port

/-- FRAME_TRANSMIT: the MAC sends the frame its scheduler selected (R41, R58). A frame that has not ended starts, its timestamp
entry is offered (R378), and its bytes are put out when its end is known; a cell of it that cannot be read later stomps it (R311).
-/
def execFrameTransmit (port : Nat) (fault : CellFault) (s : State) : Res :=
  let s := s.begin
  match (s.psched port).tx with
  | none => .next s
  | some pid =>
    let p := s.pkt pid
    if 64 < port ∨ !s.portUp port ∨ s.lpiWaits port ∨ (port = 64 ∧ s.trl.sending) then .next s
    else if p.txAt.isSome then
      match fault with
      | .none => .next s
      | .data n | .header n => .next ((s.inc Reg.BUF_UNCORR).stompTx pid port ((s.egressBody p p.len).take (240 * n)))
    else
      let s := s.endTw port
      match fault with
      | .header n =>
        let s := if port < 64 ∧ p.copy = none then s.tsFate p port 3 none else s
        .next ((s.releaseCut pid n).portIdle port)
      | .data 0 => .next ((s.inc Reg.BUF_UNCORR).dropTx pid port)
      | .data n => .next ((s.inc Reg.BUF_UNCORR).stompTx pid port ((s.egressBody p p.len).take (240 * n)))
      | .none =>
        if p.ended then .next (s.sendTx pid port)
        else
          let (t, s) := s.txStamp port
          let s := if port < 64 then s.tsOpen pid port t else s
          .next (s.setPkt pid { p with txAt := some t, copy := p.copy.map fun c => { c with early := true } })

/-! ## Ports 65 and 66 (R41–R44, R543) -/

/-- A packet leaves port 65 for its target slice, rewritten (R41, R42, R301, R306). (DEDUCED, log 96) -/
def State.recircIn (s : State) (pid : Nat) : State :=
  let p := s.pkt pid
  let f := finishFrame (s.egressBody p p.len)
  let s := ((s.noStamp p 65).countSent pid 65 f).dropEgress pid
  let p := s.pkt pid
  if !(s.slice p.target).inService then (s.inc Reg.PRT_RECIRC_DROP).release pid
  else
    let s := s.setPkt pid
      { p with bytes := f, len := f.length, pass := p.pass + 1, prevZone := some p.head.zone, slice := p.target,
               stage := .fifo, head := {}, flow := .notAsked, op := none, rule := none, dest := .none, cut := false,
               madeRecord := false, edits := [], xlate := none, received := some (p.received.getD p.bytes), tsreq := none, deferred := false,
               charged := 0, path := [], prog := 0, hadRecord := false, untracked := false, reason := 0,
               arrival := s.arrivals }
    let s := (({ s with arrivals := s.arrivals + 1 }).statFrame 65 0x200 f f.length).handOver pid (tagOf p.target codeRx)
    (s.modSlice p.target fun x => { x with inner := x.inner ++ [pid] }).wake p.target

/-- The 64 bytes of metadata of a packet for the Glasshouse (R543). (DEDUCED, log 34) -/
def cpuMeta (p : Packet) (q : Nat) : List Byte :=
  beBytes 1 p.inPort ++ beBytes 1 p.reason ++ beBytes 1 ((p.pass - 1) % 4 * 16 + p.tc % 8)
    ++ beBytes 1 q ++ beBytes 2 p.head.zone ++ beBytes 2 p.len ++ beBytes 8 p.head.hash
    ++ beBytes 6 p.rx.sec ++ beBytes 4 p.rx.ns ++ beBytes 2 (p.rx.frac / 2 ^ 32) ++ beBytes 2 p.prog
    ++ beBytes 1 p.epochs.rule ++ beBytes 1 (ofBool p.hadRecord) ++ padTo 16 (p.scratch.take 16)
    ++ List.replicate 16 0

/-- A packet is written into the receive ring of its queue (R543). (DEDUCED, log 34) -/
def State.ringIn (s : State) (pid : Nat) : State :=
  let p := s.pkt pid
  let q := s.queueOf p 66 - s.fg (Fld.SCH_PORT_CFG_QBASE 66)
  let r := q % 16
  let e := s.ringEntry q
  let f := finishFrame (s.egressBody p p.len)
  let all := cpuMeta p q ++ f
  let room := beNat (s.memBytes (e + 6) 2)
  let cut := decide (room < all.length)
  let s := (s.noStamp p 66).countSent pid 66 f
  let s := s.setMemBytes (beNat (s.memBytes e 5)) (all.take room)
  let s := s.setMemBytes (e + 8) (beBytes 2 (min room all.length) ++ beBytes 1 (128 * ofBool cut))
  let s := s.setMemByte (e + 5) (s.memByte (e + 5) &&& 0x7F)
  let s := s.fs (Fld.GLH_RXR_HEAD_HEAD r) ((s.fg (Fld.GLH_RXR_HEAD_HEAD r) + 1) % 2 ^ s.fg (Fld.GLH_RXR_CFG_LOG2 r))
  let s := if cut then s.inc Reg.GLH_RX_TRUNC else s
  (s.raiseLine r).release pid

/-! ## SCHEDULER_SELECTION (R337–R348) -/

/-- Counts once the heads that only their gate keeps from being selected (R354). -/
def State.countDeferred (s : State) (port : Nat) : State :=
  if 64 ≤ port then s
  else
    (s.portQueues port).foldl (fun s n =>
      match (s.queue n).items with
      | .pkt pid :: _ =>
        if s.headReady port n && !(s.pkt pid).deferred
            && !s.gateAdmits port (s.queue n).tc (s.headLen (s.pkt pid) port (s.queue n).tc) then
          (s.modPkt pid fun p => { p with deferred := true }).inc (Reg.GTE_DEFERRED port)
        else s
      | _ => s) s

/-- The packet a port's tree selects, with its path; aged heads are dropped on the way, and nothing is charged for them
(R341, R348). (DESIGN CHOICE, log 91) -/
def State.choose (s : State) (port : Nat) : Nat → Option (List (Option Nat × Nat) × Nat × Nat) × State
  | 0 => (none, s)
  | f + 1 =>
    let s := s.refreshPort port
    let path := s.pickPath port 4 none
    match path.getLast? with
    | some (_, n) =>
      match (s.queue n).items with
      | .pkt pid :: _ =>
        if s.overAge (s.queue n) (s.pkt pid).enq then
          (((s.popQueue n).countAge port n 1).dropQueued pid port).choose port f
        else (some (path, n, pid), s)
      | _ => (none, s)
    | none => (none, s)

/-- Takes the chosen packet: charges its path (R341, R345) and hands it to the port. A packet for port 65 or 66 is read at once, and
is dropped when a cell of it cannot be read (R311, R312). -/
def State.take (s : State) (port : Nat) (path : List (Option Nat × Nat)) (n pid : Nat) (fault : CellFault) : State :=
  let p := s.pkt pid
  let l := s.headLen p port (s.queue n).tc + s.fg (Fld.SCH_PORT_CFG_OVH port)
  let kept := s.keepPath path
  let s := ((s.chargePath port l path).popQueue n).setPkt pid
    { p with stage := .txing, charged := if p.ended then 0 else l, path := if p.ended then [] else kept }
  match port, fault with
  | 65, .none => (s.recircIn pid).refreshPort 65
  | 66, .none => (s.ringIn pid).refreshPort 66
  | 65, .data _ | 66, .data _ => ((s.inc Reg.BUF_UNCORR).dropQueued pid port).refreshPort port
  | 65, .header k | 66, .header k => (s.releaseCut pid k).refreshPort port
  | _, _ => (s.modPsched port fun x => { x with tx := some pid }).refreshPort port

/-- SCHEDULER_SELECTION: one selection of a port scheduler (R337, R341). `fault` is what the reading of a packet for port 65 or 66
meets. -/
def execSchedulerSelection (port : Nat) (fault : CellFault) (s : State) : Res :=
  let s := s.begin
  if 66 < port ∨ !s.assigned port ∨ !s.portUp port ∨ (s.psched port).tx.isSome ∨ !(s.psched port).shaper.holds then .next s
  else if s.power (s.egressSlice port) ≠ 0 then
    .next (if (s.portQueues port).any fun n => (s.queue n).items ≠ [] then s.wake (s.egressSlice port) else s)
  else
    let s := (s.touch (s.egressSlice port)).countDeferred port
    match s.choose port (s.packets.length + 1) with
    | (some (path, n, pid), s) => .next (s.take port path n pid fault)
    | (none, s) => .next s

/-! ## AGE_SWEEP (R348) -/

/-- AGE_SWEEP: every millisecond, the aged heads of the queues of every port that is up are dropped. -/
def execAgeSweep (s : State) : Res :=
  let s := s.begin
  if s.aon < s.sch.lastSweep + msCycles then .next s
  else
    let s := { s with sch := { s.sch with lastSweep := s.aon } }
    .next ((List.range 67).foldl (fun s p =>
      if s.portUp p && s.assigned p then
        ((s.portQueues p).foldl (fun s n => s.dropAged p n (s.queue n).items.length) s).refreshPort p
      else s) s)

end Sys2Proof.Machine
end

