-- ==== Sys2Proof/Machine/Ingress.lean ====
section
/-! DEFINITION. Frames in: reception, the Cozy buffer, ingress admission and the end of a frame (chapters 1, 2, 8 and 13). -/

namespace Sys2Proof.Machine

/-! ## What the MAC keeps for itself (R61, R448) -/

/-- Whether a front port is the witness port of an enabled group (R447). -/
def State.witnessPort (s : State) (p : Nat) : Bool :=
  (List.range 8).any fun g => s.fb (Fld.GRF_WIT_EN g) && s.fg (Fld.GRF_WIT_PORT g) == p

/-- The counter of the first cause, in the order of R57, by which a frame is bad. -/
def badCause (frame : List Byte) (pcs : Bool) : Option (Nat → Reg) :=
  if frame.length < 64 then some Reg.PRT_RX_RUNT
  else if 10240 < frame.length then some Reg.PRT_RX_OVERSIZE
  else if !fcsGood frame then some Reg.PRT_RX_FCS_ERR
  else if pcs then some Reg.PRT_RX_PCS_ERR
  else none

/-- Whether a frame is a witness frame of its port, which the MAC consumes unless it is bad (R448). -/
def State.takesWitness (s : State) (p : Nat) (f : List Byte) : Bool :=
  decide (p < 64) && beAt f 12 2 == 0x88B5 && s.witnessPort p && beAt f 0 6 == s.portMac p && (badCause f false).isNone

/-- Whether a frame is a MAC control frame, or a witness frame of its port: neither enters a slice. (DESIGN CHOICE, log 25)
-/
def State.macConsumes (s : State) (p : Nat) (f : List Byte) : Bool :=
  (decide (p < 64) && beAt f 12 2 == 0x8808) || s.takesWitness p f

/-- A frame's ingress class (R297). (DEDUCED, log 17) -/
def State.ingressClass (s : State) (p : Nat) (f : List Byte) : Nat :=
  if isTpid (beAt f 12 2) then beAt f 14 2 / 8192 else s.fg (Fld.BUF_PORT_PRI_DEF_PRI p)

/-! ## Into the slice (R24, R292–R299) -/

/-- Nothing is kept of a frame; while it is still being received, its end is awaited (R566). -/
def State.discard (s : State) (pid : Nat) : State :=
  let p := s.pkt pid
  if (s.port p.inPort).rx = some pid then s.setPkt pid { p with dead := true, cells := [], ing := {} } else s.delPkt pid

/-- A frame enters its slice: a place in the ingress FIFO, admission, its cells (R24, R299). (DEDUCED, log 21) -/
def State.enterSlice (s : State) (pid : Nat) : State :=
  let p := s.pkt pid
  let o := ingOwner p.inPort (s.ingressClass p.inPort p.bytes)
  if 2048 ≤ (s.slice p.slice).fifo.length then
    (if p.inPort < 64 then s.inc (Reg.PRT_RX_OVERRUN p.inPort) else s).discard pid
  else
    match s.admitIngress o with
    | none => (s.refuseOwner o).discard pid
    | some (ch, s) =>
      let tag := tagOf p.slice codeRx
      match s.allocCells p.slice tag (if p.ended then cellsFor p.len else 1) with
      | ([], s) => (s.discharge o ch.area 43).discard pid
      | (c :: cs, s) =>
        let s := s.setPkt pid { p with cells := c :: cs, ing := ch, tag := tag, gen := (s.cell c).gen, desc := s.newDesc, stage := .fifo }
        let s := s.linkCells pid o (if p.ended then p.len else min p.bytes.length 240) (c :: cs)
        let s := s.modSlice p.slice fun x => { x with fifo := x.fifo ++ [pid] }
        if p.ended then s.settle pid else s

/-! ## The Cozy buffer (R22, R23, R469–R471) -/

/-- The granules of a frame. -/
def granulesFor (len : Nat) : Nat := ceilDiv (len + 16) 16

/-- Whether the buffer counts as full, decided after every change of its use, with the XOFF and XON that follow. -/
def State.cozyCheck (s : State) (n : Nat) : State :=
  let x := s.slice n
  let free := (65536 - x.cozyUsed) * 16
  let rsv := s.fg Fld.KTL_COZY_CFG_COZY_RSV
  let full := if x.cozyFull then decide (free < 2 * rsv) else decide (free < rsv)
  let peak := Fld.KTL_COZY_PEAK_COUNT n
  let s := (s.fs peak (max (s.fg peak) (x.cozyUsed * 16))).modSlice n fun x => { x with cozyFull := full }
  (List.range 16).foldl (fun s i => if s.assigned (16 * n + i) then s.pauseCheck (16 * n + i) else s) s

/-- Takes a frame's granules off its slice's buffer. -/
def State.cozyFree (s : State) (pid : Nat) : State :=
  let p := s.pkt pid
  let s := s.modSlice p.slice fun x => { x with cozy := x.cozy.erase pid, cozyUsed := x.cozyUsed - p.cozyGran }
  let s := s.modSlice p.slice fun x => { x with viaCozy := x.viaCozy && !x.cozy.isEmpty }
  (s.setPkt pid { p with cozyGran := 0 }).cozyCheck p.slice

/-- A frame starts into the Cozy buffer of its slice (R471). (DEDUCED, log 21) -/
def State.enterCozy (s : State) (pid : Nat) : State :=
  let p := s.pkt pid
  let n := p.slice
  let g := granulesFor (min p.bytes.length 10240)
  if (s.slice n).cozyFull ∧ p.inPort < 64 ∧ !s.canPause p.inPort (s.ingressClass p.inPort p.bytes) then
    (s.inc (Reg.PRT_RX_COZY_DROP p.inPort)).discard pid
  else if 65536 < (s.slice n).cozyUsed + g then
    ((s.inc (Reg.KTL_COZY_DROP n)).logLimited 0x0104 n 1 0 fun _ c => d1 n ++ d4 c).discard pid
  else
    (((s.setPkt pid { p with stage := .cozy, cozyGran := g }).modSlice n fun x =>
      { x with cozy := x.cozy ++ [pid], cozyUsed := x.cozyUsed + g, viaCozy := true })).cozyCheck n

/-- COZY_DRAIN: a slice in Run takes the next frame head from its Cozy buffer, in arrival order, and admits it (R470). -/
def execCozyDrain (slice : Nat) (s : State) : Res :=
  let s := s.begin
  match (s.slice slice).cozy with
  | [] => .next s
  | pid :: _ =>
    if s.power slice ≠ 0 ∨ 2048 ≤ (s.slice slice).fifo.length then .next s
    else .next (((s.cozyFree pid).touch slice).enterSlice pid)

/-! ## FRAME_START_RECEIVED (R21, R22, R24) -/

/-- A frame that came at a time enters a slice, or its Cozy buffer while the slice sleeps (R21, R22, R45). -/
def State.startIn (s : State) (port slice : Nat) (t : NetTime) (frame : List Byte) : State :=
  let (pid, s) := s.addPkt { bytes := frame, inPort := port, slice := slice, rx := t }
  let s := s.modPort port fun x => { x with rx := some pid }
  if !(s.slice slice).inService && port == 64 then s.discard pid
  else
    let asleep := s.power slice != 0 || (s.slice slice).viaCozy
    let s := s.wake slice
    if asleep then s.enterCozy pid else s.enterSlice pid

/-- A frame starts on a front port. (DESIGN CHOICE, log 16) -/
def State.startRx (s : State) (port : Nat) (frame : List Byte) : State :=
  let (t, s) := s.rxStamp port
  s.startIn port (port / 16) t frame

/-- FRAME_START_RECEIVED: `frame` is all that will arrive, with its FCS. -/
def execFrameStartReceived (port : Nat) (frame : List Byte) (s : State) : Res :=
  let s := s.begin
  if 64 ≤ port ∨ frame = [] ∨ !s.assigned port ∨ !s.fb (Fld.PRT_STATUS_LINK port) ∨ (s.port port).rx.isSome
      ∨ s.macConsumes port frame then .next s
  else .next (s.startRx port frame)

/-! ## FRAME_END (R32, R57, R78–R80, R144, R299) -/

/-- Takes a packet out of its queue. -/
def State.unqueue (s : State) (pid port : Nat) : State :=
  s.modQueue (s.queueOf (s.pkt pid) port) fun q => { q with items := q.items.filter (· ≠ .pkt pid) }

/-- The rest of a frame's cells are taken, and its charges settle, as it ends. -/
def State.fillCells (s : State) (pid : Nat) : State :=
  let p := s.pkt pid
  if p.cells = [] then s
  else
    let tag := tagOf p.slice (if p.copy.isSome then codeMirror else codeRx)
    let (cs, s) := s.allocCells p.slice tag (cellsFor p.len - p.cells.length)
    let s := s.modPkt pid fun p => { p with cells := p.cells ++ cs }
    (s.linkCells pid p.ing.owner p.len (p.cells ++ cs)).settle pid

/-- The end of its frame reaches a packet, or a copy of it, where it stands. -/
def State.endPkt (s : State) (pid : Nat) (good whole : Bool) (len : Nat) : State :=
  let s := s.modPkt pid fun p => { p with ended := true, good := good, len := len, bytes := p.bytes.take len }
  let s := s.fillCells pid
  let p := s.pkt pid
  match p.stage with
  | .cozy => if good then s else (s.cozyFree pid).discard pid
  | .fifo =>
    if good then s else (s.modSlice p.slice fun x => { x with fifo := x.fifo.erase pid }).release pid
  | .parsed => if good then s else ((s.asked pid).leaveFlow pid).release pid
  | .issueWait => if good then s else s.release pid
  | .endGate => match p.op with | some id => s.settleOp id | none => s
  | .queued =>
    match p.dest with
    | .queue port _ =>
      if !good then
        let s := if p.copy.isSome then s.inc Reg.BUF_MIR_DROP else s
        (s.unqueue pid port).dropQueued pid port
      else if s.sduOf p port < p.txLen then ((s.unqueue pid port).sduDrop port).dropQueued pid port
      else s.fcCount { kind := 6, masters := enqueueMaster p port, cls := some (s.queue (s.queueOf p port)).tc } len
    | _ => s
  | .txing => match p.dest with | .queue port _ => s.txFrameEnd pid port whole | _ => s
  | _ => s

/-- The copies that were made of a frame while it was being received. -/
def State.openCopies (s : State) (port : Nat) : List Nat :=
  (s.packets.filter fun e => e.2.copy.isSome && e.2.inPort == port && !e.2.ended).map (·.1)

/-- A frame that was being received has ended: its copies, its late bytes or its correcting decrement, its learning. -/
def State.finishRx (s : State) (port pid len : Nat) (good whole : Bool) : State :=
  let early := (s.pkt pid).early
  let dead := (s.pkt pid).dead
  let copies := s.openCopies port
  let s := s.modPort port fun x => { x with rx := none }
  let s := copies.foldl (fun s c =>
    let s := match (s.pkt c).copy with
      | some i => if good && !i.toCpu && i.cuts len then s.inc Reg.BUF_MIR_TRUNC_CNT else s
      | none => s
    s.endPkt c good whole len) s
  let s := s.modPkt pid fun p => { p with ended := true, good := good, len := len, bytes := p.bytes.take len }
  let s := if good then
      match (s.pkt pid).rule with | some w => s.learnOffer pid (bitsOf w 62 61) | none => s
    else s
  let s := if dead then s.delPkt pid else s.endPkt pid good whole len
  let s := match early with
    | some e =>
      if good then s.offerCorrection { minus := false, late := len - e.bytes, port := port, early := e }
      else s.offerCorrection { minus := true, late := 0, port := port, early := e }
    | none => s
  s.issueWaiting

/-- The end of the frame a port is receiving (R57, R566). (DESIGN CHOICE, log 16) -/
def State.endRx (s : State) (port : Nat) (pcs : Bool) : State :=
  match (s.port port).rx with
  | none => s
  | some pid =>
    let f := (s.pkt pid).bytes
    let len := min f.length 10240
    match badCause f pcs with
    | none => (s.statFrame port 0x200 f len).finishRx port pid len true true
    | some r => (if port < 64 then s.inc (r port) else s).finishRx port pid len false (decide (f.length ≤ 10240))

/-- FRAME_END: `fecCorr` and `fecUncorr` count the codewords of the frame that were corrected, or could not be (R56). (DESIGN CHOICE, log 3) -/
def execFrameEnd (port : Nat) (pcsErr : Bool) (fecCorr fecUncorr : Nat) (s : State) : Res :=
  let s := s.begin
  if 64 ≤ port ∨ (s.port port).rx = none then .next s
  else
    let s := (s.inc (Reg.PRT_FEC_CORR port) fecCorr).inc (Reg.PRT_FEC_UNCORR port) fecUncorr
    .next (s.endRx port (pcsErr || decide (fecUncorr ≠ 0)))

/-- A down declaration cuts a frame in reception short: what has arrived of it is a free value (R73). -/
def State.cutRx (s : State) (port : Nat) : State :=
  match (s.port port).rx with
  | none => s
  | some pid =>
    let (n, s) := s.arrived pid
    (if port < 64 then s.inc (Reg.PRT_RX_PCS_ERR port) else s).finishRx port pid n false false

end Sys2Proof.Machine
end

