-- ==== Sys2Proof/Machine/Ports.lean ====
section
/-! DEFINITION. The front ports (chapter 2): link declarations and the hold time, module pins, PAUSE, PFC and their watchdog,
low-power idle, PRT_CFG, and the I2C masters. -/

namespace Sys2Proof.Machine

/-! ## Declarations (R72–R77) -/

/-- HOLD_MS of a port, in AON_CLK cycles (R74, R411). -/
def State.holdCycles (s : State) (p : Nat) : Nat :=
  (if p < 64 then s.fg (Fld.PRT_TIMERS_HOLD_MS p) else s.fg Fld.TRL_CFG_HOLD_MS) * msCycles

/-- The hold timer of a port expires: everything queued for it is flushed (R76). (DEDUCED, log 23) -/
def State.expireHold (s : State) (p : Nat) : State :=
  let (n, s) := s.purgePort p fun _ _ => true
  let s := if p < 64 then (s.inc (Reg.PRT_DROP_HOLD p) n).portEvent (Fld.PRT_EVENT_HOLD_EXP p) else s
  let s := if p < 64 then s.fs (Fld.PRT_STATUS_HOLD p) 0 else s
  let s := (s.modPort p fun x => { x with holdTill := none, holdExpired := true }).log 0x0403
  { s with fwd := { s.fwd with flushWait := s.fwd.flushWait.filter (· ≠ p) ++ [p] } }

/-- A frame in transmission is cut short by the link: how much of it has left is a free value (R73, R402). A packet that
was selected and has not started is freed. -/
def State.cutTx (s : State) (p : Nat) : State :=
  let s := if p = 64 ∧ s.trl.sending then s.inc Reg.TRL_TX_ABORT else s
  let s := if p = 64 then
      { s with trl := { s.trl with data := [], dataFirst := true, sent := 0, seg := if s.trl.segData then [] else s.trl.seg } }
    else s
  match (s.psched p).tx with
  | none => s
  | some pid =>
    let q := s.pkt pid
    match q.txAt with
    | none => s.dropTx pid p
    | some t =>
      if p = 64 then (s.inc Reg.TRL_TX_ABORT).endTx pid p
      else
        let (body, s) := s.insertStamp q p (s.egressBody q q.bytes.length) t
        let (v, s) := s.free
        let s := s.emit (.frame p (body.take (v.toNat % (q.bytes.length + 1))))
        ((s.inc (Reg.PRT_TX_ABORT p)).tsSettle pid p 2).endTx pid p

/-- Clears the pause state of a port, received and sent (R65). -/
def State.clearPause (s : State) (p : Nat) : State :=
  let s := s.modPort p fun x => { x with pauses := [], xoff := [], control := [], twTill := none }
  if p < 64 then
    ((((s.fs (Fld.PRT_STATUS_RX_PAUSED p) 0).fs (Fld.PRT_STATUS_RX_PFC_PAUSED p) 0).fs (Fld.PRT_STATUS_WD_ACTIVE p) 0).fs
      (Fld.PRT_STATUS_LPI_TX p) 0).fs (Fld.PRT_STATUS_LPI_RX p) 0
  else s

/-- A port is declared down (R73, R74): the frames on it are cut short and its hold timer starts. (DEDUCED, log 23) -/
def State.declareDown (s : State) (p : Nat) : State :=
  let s := if p < 64 then (s.fs (Fld.PRT_STATUS_LINK p) 0).portEvent (Fld.PRT_EVENT_LINK_DOWN p) else s
  let s := (((s.log 0x0401 (d1 p)).cutRx p).cutTx p).clearPause p
  let hold := s.holdCycles p
  if hold = 0 then s.expireHold p
  else
    let s := s.modPort p fun x => { x with holdTill := some (s.aon + hold), holdExpired := false }
    if p < 64 then s.fs (Fld.PRT_STATUS_HOLD p) 1 else s

/-- A port is declared up (R65, R75, R77): an expiry of the hold timer that is due comes first; aged packets are discarded
when the timer still runs. -/
def State.declareUp (s : State) (p : Nat) : State :=
  let due : Bool := match (s.port p).holdTill with | some h => decide (h ≤ s.aon) | none => false
  let s := if due then s.expireHold p else s
  let s := if (s.port p).holdTill.isSome then
      let (n, s) := s.purgePort p fun q enq => s.overAge q enq
      let s := if p < 64 then (s.inc (Reg.PRT_DROP_AGE p) n).fs (Fld.PRT_STATUS_HOLD p) 0 else s
      s.log 0x0405 (d4 n)
    else s
  let s := s.modPort p fun x => { x with holdTill := none, holdExpired := false, idleSince := s.aon }
  let s := if p < 64 then (s.fs (Fld.PRT_STATUS_LINK p) 1).portEvent (Fld.PRT_EVENT_LINK_UP p) else s
  ((s.log 0x0402 (d1 p)).refreshPort p).pauseCheck p

/-- Whether a port's module site lets its link be up (R68, R69, R72). (DEDUCED, log 22) -/
def State.siteAllows (s : State) (p : Nat) : Bool :=
  s.fb (Fld.PRT_CFG_MOD_IGN p)
    || (s.fb (Fld.PRT_STATUS_MOD_PRS p) && !s.fb (Fld.PRT_STATUS_MOD_LOS p) && !s.fb (Fld.PRT_STATUS_MOD_FLT p))

/-- Whether a port's lane group was left out at stage 8 (R501, R512). -/
def State.laneOff (s : State) (p : Nat) : Bool := bitAt (s.rd (Reg.NVM_LANE_OFF (p / 32))).toNat (p % 32)

/-- Whether every condition of R72 holds for a port. -/
def State.linkConds (s : State) (p : Nat) : Bool :=
  s.assigned p && !(s.slice (p / 16)).restarting && !s.laneOff p && s.fb (Fld.PRT_CFG_ENABLE p) && s.siteAllows p && s.fb (Fld.PRT_STATUS_PCS_LOCK p)
    && (!s.fb (Fld.PRT_CFG_FEC_MODE p) || s.fb (Fld.PRT_STATUS_FEC_LOCK p))

/-- Whether a down declaration waits for no DN_DELAY_MS (R69, R72). -/
def State.downAtOnce (s : State) (p : Nat) : Bool :=
  !s.assigned p || !s.fb (Fld.PRT_CFG_ENABLE p)
    || (!s.fb (Fld.PRT_CFG_MOD_IGN p) && (!s.fb (Fld.PRT_STATUS_MOD_PRS p) || s.fb (Fld.PRT_STATUS_MOD_FLT p)))
    || s.fg (Fld.PRT_TIMERS_DN_DELAY_MS p) == 0

/-- Follows a change of a condition of R72: the delays start, and a declaration with no delay is made. -/
def State.updateConds (s : State) (p : Nat) : State :=
  let ok := s.linkConds p
  let s := s.modPort p fun x =>
    { x with condsSince := if ok then x.condsSince.orElse fun _ => some s.aon else none,
             failSince := if ok then none else x.failSince.orElse fun _ => some s.aon }
  let up := s.fb (Fld.PRT_STATUS_LINK p)
  if up && !ok && s.downAtOnce p then s.declareDown p
  else if !up && ok && s.fg (Fld.PRT_TIMERS_UP_DELAY_MS p) == 0 then s.declareUp p
  else s

/-- Declares a port down now, if it is up: its slice restarts or leaves service (R72). -/
def State.forceDown (s : State) (p : Nat) : State :=
  let s := (s.fs (Fld.PRT_STATUS_PCS_LOCK p) 0).fs (Fld.PRT_STATUS_FEC_LOCK p) 0
  let s := s.modPort p fun x => { x with condsSince := none, failSince := x.failSince.orElse fun _ => some s.aon }
  if s.fb (Fld.PRT_STATUS_LINK p) then s.declareDown p else s

/-- The PCS of a port whose site does not let its link be up holds no lock (R69). (DEDUCED, log 22) -/
def State.siteUnlock (s : State) (p : Nat) : State :=
  if s.siteAllows p then s else (s.fs (Fld.PRT_STATUS_PCS_LOCK p) 0).fs (Fld.PRT_STATUS_FEC_LOCK p) 0

/-- PCS_LOCK_CHANGE: the PCS or the FEC of a port gains or loses lock (R69, R72, R466). -/
def execPcsLockChange (port : Nat) (pcs fec : Bool) (s : State) : Res :=
  let s := s.begin
  if 64 ≤ port ∨ !s.assigned port then .next s
  else
    let s := if pcs && s.power (port / 16) == 3 then s.wake (port / 16) else s
    .next ((((s.fs (Fld.PRT_STATUS_PCS_LOCK port) (ofBool pcs)).fs (Fld.PRT_STATUS_FEC_LOCK port)
      (ofBool (fec && s.fb (Fld.PRT_CFG_FEC_MODE port)))).siteUnlock port).updateConds port)

/-- LINK_DOWN_DECLARED: a condition has failed for DN_DELAY_MS (R72). -/
def execLinkDownDeclared (port : Nat) (s : State) : Res :=
  let s := s.begin
  if 64 ≤ port ∨ !s.fb (Fld.PRT_STATUS_LINK port) then .next s
  else
    match (s.port port).failSince with
    | some t =>
      if s.downAtOnce port || decide (t + s.fg (Fld.PRT_TIMERS_DN_DELAY_MS port) * msCycles ≤ s.aon) then
        .next (s.declareDown port)
      else .next s
    | none => .next s

/-- LINK_UP_DECLARED: every condition has held for UP_DELAY_MS (R72). -/
def execLinkUpDeclared (port : Nat) (s : State) : Res :=
  let s := s.begin
  if 64 ≤ port ∨ s.fb (Fld.PRT_STATUS_LINK port) then .next s
  else
    match (s.port port).condsSince with
    | some t =>
      if s.linkConds port && decide (t + s.fg (Fld.PRT_TIMERS_UP_DELAY_MS port) * msCycles ≤ s.aon) then
        .next (s.declareUp port)
      else .next s
    | none => .next s

/-- HOLD_EXPIRY (R76). -/
def execHoldExpiry (port : Nat) (s : State) : Res :=
  let s := s.begin
  match (s.port port).holdTill with
  | some t => .next (if t ≤ s.aon ∧ !s.portUp port then s.expireHold port else s)
  | none => .next s

/-! ## Module pins (R68, R69) -/

/-- A filtered module pin of a front site changes. A port with MOD_IGN ignores its site. Presence returning, LOS clearing and
fault clearing only let the PCS reach lock again. (DEDUCED, log 22) -/
def State.modulePin (s : State) (site : Nat) (pin : ModulePin) (level : Bool) : State :=
  let (f, v) := match pin with
    | .prs => (Fld.PRT_STATUS_MOD_PRS site, !level)
    | .los => (Fld.PRT_STATUS_MOD_LOS site, level)
    | .flt => (Fld.PRT_STATUS_MOD_FLT site, level)
  if s.fb f = v then s
  else
    let s := s.fs f (ofBool v)
    if s.fb (Fld.PRT_CFG_MOD_IGN site) || !s.assigned site then s
    else
      let s := s.portEvent (Fld.PRT_EVENT_MOD_CHG site)
      let s := match pin with
        | .prs => if level then s.log 0x0407 else s
        | .flt => if level then s.log 0x0408 else s
        | .los => s
      (s.siteUnlock site).updateConds site

/-! ## PRT_CFG (R54, R66, R81, R375) -/

/-- Whether a FEC mode is allowed in a port mode (R54). -/
def fecAllowed (mode fec : Nat) : Bool :=
  match mode with
  | 0 => decide (fec ≤ 1)
  | 1 | 3 => fec == 2
  | 2 | 4 | 5 => fec == 3
  | _ => false

/-- The default corrections of a mode and FEC (R375), in units of 2^-16 ns. -/
def defaultCorr (mode fec : Nat) : Nat × Nat :=
  match mode, fec with
  | 0, 0 => (3145728, 4194304)
  | 0, _ => (16908288, 17956864)
  | 1, _ => (16121856, 17694720)
  | 2, _ => (8650752, 10380902)
  | 5, _ => (8441037, 10223616)
  | _, _ => (8556380, 10328474)

/-- Loads the default corrections of a port, unless CORR_OVR keeps them (R375). -/
def State.loadCorr (s : State) (p : Nat) : State :=
  if s.fb (Fld.TIM_PORT_CFG_CORR_OVR p) then s
  else
    let c := defaultCorr (s.sliceMode (p / 16)) (s.fg (Fld.PRT_CFG_FEC_MODE p))
    (s.wr (Reg.TIM_RX_CORR p) (BitVec.ofNat 32 c.1)).wr (Reg.TIM_TX_CORR p) (BitVec.ofNat 32 c.2)

/-- Whether a value of PRT_CFG may be written to a port (R54, R66, R81). -/
def State.cfgLegal (s : State) (p v : Nat) : Bool :=
  let mode := s.sliceMode (p / 16)
  decide (bitsOf v 5 4 ≤ 2)
    && (!s.assigned p || ((!bitAt v 0 || fecAllowed mode (bitsOf v 9 8)) && (!bitAt v 2 || decide (mode ≤ 1))))

/-- A write of PRT_CFG. -/
def State.writePrtCfg (s : State) (p v : Nat) : State :=
  if !s.cfgLegal p v then s.denied Spec.PRT_CFG
  else
    let was := s.fb (Fld.PRT_CFG_ENABLE p)
    let s := s.store Spec.PRT_CFG [p] v
    let on := s.fb (Fld.PRT_CFG_ENABLE p)
    let s := if on then
        let s := s.loadCorr p
        if !was && s.assigned p && s.power (p / 16) == 3 then s.wake (p / 16) else s
      else s
    let s := if s.fb (Fld.PRT_CFG_LPI_EN p) then s else s.leaveLpi p
    let s := if s.fb (Fld.PRT_CFG_FEC_MODE p) then s else s.fs (Fld.PRT_STATUS_FEC_LOCK p) 0
    ((s.siteUnlock p).updateConds p).pauseCheck p

/-- PRT_CFG_WRITE (R54). -/
def execPrtCfgWrite (req : Requester) (port : Nat) (value : Word) (s : State) : Res :=
  .next (s.begin.forReq req fun s => if port < 64 then s.writePrtCfg port value.toNat else s.errorResponse)

/-- After a slice restart has put a new mode in force, a port whose settings it does not allow is disabled (R54, R66). -/
def State.recheckPort (s : State) (p : Nat) : State :=
  let v := (s.rd (Reg.PRT_CFG p)).toNat
  let s := if s.assigned p && !s.cfgLegal p v then s.fs (Fld.PRT_CFG_ENABLE p) 0 else s
  s.updateConds p

/-! ## MAC control frames, PAUSE and PFC (R60–R65) -/

/-- The key of a pause: 8 for the port, else a priority. -/
def pauseKey (pri : Option Nat) : Nat := pri.getD 8

/-- Shows in PRT_STATUS whether a key is paused, and whether any watchdog is active. -/
def State.showPause (s : State) (p k : Nat) : State :=
  let x := (s.port p).pauses.get k {}
  let on := x.till.isSome
  let s := if k = 8 then s.fs (Fld.PRT_STATUS_RX_PAUSED p) (ofBool on) else s.fsbit (Fld.PRT_STATUS_RX_PFC_PAUSED p) k on
  s.fs (Fld.PRT_STATUS_WD_ACTIVE p) (ofBool ((s.port p).pauses.any fun e => e.2.wdTill.isSome))

/-- Changes the pause state of a key. -/
def State.modPause (s : State) (p k : Nat) (f : Pause → Pause) : State :=
  (s.modPort p fun x => { x with pauses := x.pauses.put k {} (f (x.pauses.get k {})) }).showPause p k

/-- The link partner pauses a key for a number of quanta, or resumes it (R62). -/
def State.setPause (s : State) (p k quanta : Nat) : State :=
  let d := ceilDiv (quanta * 512 * 1000) (max 1 (s.rate p) * 40)
  s.modPause p k fun x =>
    if quanta = 0 then { x with till := none, since := none }
    else
      let unbroken := match x.till with | some t => decide (s.aon ≤ t) | none => false
      { x with till := some (s.aon + d), since := if unbroken then x.since else some s.aon }

/-- Whether a key's pauses are ignored by the watchdog (R64). -/
def State.underWatchdog (s : State) (p k : Nat) : Bool := ((s.port p).pauses.get k {}).wdTill.isSome

/-- A good MAC control frame (R61, R62, R64). (DESIGN CHOICE, log 25) -/
def State.macControl (s : State) (p : Nat) (f : List Byte) : State :=
  let bad := s.inc (Reg.PRT_RX_MAC_CTL_BAD p)
  let dst := beAt f 0 6
  let op := beAt f 14 2
  if dst ≠ 0x0180C2000001 ∧ dst ≠ s.portMac p then bad
  else
    match s.fg (Fld.PRT_CFG_FC_MODE p) with
    | 1 =>
      if op ≠ 1 ∨ s.underWatchdog p 8 then bad else (s.inc (Reg.PRT_RX_MAC_CTL p)).setPause p 8 (beAt f 16 2)
    | 2 =>
      if op ≠ 0x0101 then bad
      else
        let acts := (List.range 8).filter fun k => bitAt (beAt f 16 2) k && s.fbit (Fld.PRT_PAUSE_PFC_EN p) k
        let free := acts.filter fun k => !s.underWatchdog p k
        if acts ≠ [] ∧ free = [] then bad
        else free.foldl (fun s k => s.setPause p k (beAt f (18 + 2 * k) 2)) (s.inc (Reg.PRT_RX_MAC_CTL p))
    | _ => bad

/-- MAC_CONTROL_FRAME: a whole frame of EtherType 0x8808 has been received (R61), with the codewords of it that were corrected,
or could not be (R56). -/
def execMacControlFrame (port : Nat) (frame : List Byte) (pcsErr : Bool) (fecCorr fecUncorr : Nat) (s : State) : Res :=
  let s := s.begin
  if 64 ≤ port ∨ !s.assigned port ∨ !s.fb (Fld.PRT_STATUS_LINK port) ∨ beAt frame 12 2 ≠ 0x8808 then .next s
  else
    let s := (s.inc (Reg.PRT_FEC_CORR port) fecCorr).inc (Reg.PRT_FEC_UNCORR port) fecUncorr
    match badCause frame (pcsErr || decide (fecUncorr ≠ 0)) with
    | some r => .next (s.inc (r port))
    | none => .next (s.macControl port frame)

/-- PAUSE_EXPIRY: a received pause runs out (R62). (DESIGN CHOICE, log 3) -/
def execPauseExpiry (port : Nat) (pri : Option Nat) (s : State) : Res :=
  let s := s.begin
  let k := pauseKey pri
  match ((s.port port).pauses.get k {}).till with
  | some t =>
    .next (if t ≤ s.aon then (s.modPause port k fun x => { x with till := none, since := none }).refreshPort port else s)
  | none => .next s

/-- XOFF_REPEAT: half of PAUSE_TIME has passed and the condition still holds (R63). -/
def execXoffRepeat (port : Nat) (pri : Option Nat) (s : State) : Res :=
  let s := s.begin
  let k := pauseKey pri
  match (s.port port).xoff.find? fun e => e.1 == k with
  | some (_, t) =>
    if t ≤ s.aon ∧ s.xoffDue port k then
      .next ((s.sendPause port k (s.fg (Fld.PRT_PAUSE_PAUSE_TIME port))).modPort port fun x =>
        { x with xoff := x.xoff.ins k (s.aon + s.halfPause port) })
    else .next s
  | none => .next s

/-- PAUSE_WATCHDOG: a port or priority has been paused without a break for longer than WD_MS (R64). -/
def execPauseWatchdog (port : Nat) (pri : Option Nat) (s : State) : Res :=
  let s := s.begin
  let k := pauseKey pri
  let wd := s.fg (Fld.PRT_PAUSE_WD_WD_MS port) * msCycles
  let x := (s.port port).pauses.get k {}
  match x.till, x.since with
  | some t, some since =>
    if wd ≠ 0 ∧ s.aon ≤ t ∧ since + wd < s.aon then
      let s := s.modPause port k fun _ => { wdTill := some (s.aon + wd) }
      .next (((s.portEvent (Fld.PRT_EVENT_PAUSE_WD port)).log 0x0406).refreshPort port)
    else .next s
  | _, _ => .next s

/-- PAUSE_WATCHDOG_END: WD_MS later, PAUSE or PFC is honoured again (R64). -/
def execPauseWatchdogEnd (port : Nat) (pri : Option Nat) (s : State) : Res :=
  let s := s.begin
  let k := pauseKey pri
  match ((s.port port).pauses.get k {}).wdTill with
  | some t => .next (if t ≤ s.aon then s.modPause port k fun x => { x with wdTill := none } else s)
  | none => .next s

/-! ## Low-power idle (R67) -/

/-- LPI_ENTRY: a port that has had no queued packet for IDLE_US, and no PAUSE or PFC frame due, enters low-power idle. With
`partner`, it is the link partner's low-power idle that begins, and only LPI_RX shows it (R67, R82). (DESIGN CHOICE, log 102) -/
def execLpiEntry (port : Nat) (partner : Bool) (s : State) : Res :=
  let s := s.begin
  if partner then
    .next (if port < 64 ∧ s.fb (Fld.PRT_STATUS_LINK port) ∧ s.fb (Fld.PRT_CFG_LPI_EN port) then
      s.fs (Fld.PRT_STATUS_LPI_RX port) 1 else s)
  else
  let quiet := (s.portQueues port).all fun n => (s.queue n).items.isEmpty
  let gated := s.fb (Fld.GTE_CFG_EN port) && s.fb (Fld.GTE_CTL_OPER_VALID port)
  if port < 64 ∧ s.fb (Fld.PRT_STATUS_LINK port) ∧ s.fb (Fld.PRT_CFG_LPI_EN port) ∧ !s.fb (Fld.PRT_STATUS_LPI_TX port)
      ∧ quiet ∧ !gated ∧ (s.psched port).tx = none ∧ (s.port port).twTill = none
      ∧ ((s.port port).xoff.all fun e => decide (s.aon < e.2))
      ∧ (s.port port).idleSince + s.fg (Fld.PRT_LPI_IDLE_US port) * usCycles ≤ s.aon then
    .next (s.fs (Fld.PRT_STATUS_LPI_TX port) 1)
  else .next s

/-- LPI_WAKE_DONE: TW_US after leaving low-power idle the transmitter may send. With `partner`, the link partner has left
its own (R82). (DESIGN CHOICE, log 102) -/
def execLpiWakeDone (port : Nat) (partner : Bool) (s : State) : Res :=
  let s := s.begin
  if partner then .next (if port < 64 then s.fs (Fld.PRT_STATUS_LPI_RX port) 0 else s)
  else
    match (s.port port).twTill with
    | some t => .next (if t ≤ s.aon then s.endTw port else s)
    | none => .next s

/-! ## The I2C masters (R70, R71, R89) -/

/-- A write of PRT_I2C_CMD_n. A transaction runs with the LEN and READ of the write that started it: one without GO while it
runs changes the register only. (DESIGN CHOICE, log 26) -/
def State.writeI2c (s : State) (n : Nat) (v : Word) : State :=
  let len := bitsOf v.toNat 23 16
  let go := bitAt v.toNat 31
  if len < 1 ∨ 128 < len ∨ (go ∧ s.fb (Fld.PRT_I2C_STAT_BUSY n)) then s.denied Spec.PRT_I2C_CMD
  else
    let s := s.store Spec.PRT_I2C_CMD [n] v.toNat
    if go then
      let s := (s.fs (Fld.PRT_I2C_STAT_BUSY n) 1).fs (Fld.PRT_I2C_STAT_COUNT n) 0
      { s with i2c := s.i2c.put n {} { startAt := some s.aon, command := v.toNat } }.emit (.i2c n v)
    else s

/-- I2C_TRANSACTION: a master starts the transaction of a write of its command register (R70). -/
def execI2cTransaction (req : Requester) (master : Nat) (value : Word) (s : State) : Res :=
  .next (s.begin.forReq req fun s => if master < 4 then s.writeI2c master value else s.errorResponse)

/-- A master's transaction is over. (DESIGN CHOICE, log 26) -/
def State.endI2c (s : State) (n count : Nat) : State :=
  let s := { s with i2c := s.i2c.put n {} {} }
  ((s.fs (Fld.PRT_I2C_STAT_BUSY n) 0).fs (Fld.PRT_I2C_STAT_COUNT n) count).doneLine (Fld.PRT_I2C_STAT_DONE n)

/-- Puts bytes into a master's data buffer, byte 0 in bits 31:24 of the first word (R89). -/
def State.i2cBytes (s : State) (n : Nat) (bs : List Byte) : State :=
  (List.range bs.length).foldl (fun s i =>
    let r := Reg.PRT_I2C_BUF n (i / 4)
    let b := 24 - 8 * (i % 4)
    s.wr r (BitVec.ofNat 32 (withBits (s.rd r).toNat (b + 7) b (bs.getD i 0).toNat))) s

/-- I2C_DONE: a transaction finishes, or a NACK ends it with a STOP; COUNT shows the bytes transferred (R71). LEN and READ are
those of its GO. (DESIGN CHOICE, log 26) -/
def execI2cDone (master count : Nat) (nack : Bool) (data : List Byte) (s : State) : Res :=
  let s := s.begin
  if 4 ≤ master ∨ !s.fb (Fld.PRT_I2C_STAT_BUSY master) then .next s
  else
    let cmd := (s.i2c.get master {}).command
    let len := bitsOf cmd 23 16
    let n := if nack then min count len else len
    let s := if bitAt cmd 30 then s.i2cBytes master (sliceBytes data 0 n) else s
    let s := if nack then (s.fs (Fld.PRT_I2C_STAT_NACK master) 1).emit (.i2cStop master 0) else s
    .next (s.endI2c master n)

/-- I2C_TIMEOUT: clock stretching has passed 10 ms and the master aborts: nine clock pulses and a STOP free the bus. How many
bytes it had transferred is a free value (R71). -/
def execI2cTimeout (master : Nat) (s : State) : Res :=
  let s := s.begin
  match (s.i2c.get master {}).startAt with
  | some t =>
    if t + 10 * msCycles ≤ s.aon then
      let (v, s) := s.free
      let len := bitsOf (s.i2c.get master {}).command 23 16
      .next (((s.fs (Fld.PRT_I2C_STAT_TIMEOUT master) 1).emit (.i2cStop master 9)).endI2c master (v.toNat % (len + 1)))
    else .next s
  | none => .next s

end Sys2Proof.Machine
end

