-- ==== Sys2Proof/Machine/Engines.lean ====
section
/-! DEFINITION. Trowel engines without their instructions (chapter 5): dispatch, the end of a program, exceptions, unit replies,
quarantine, the program table, the instruction memory, the drain mark and patches. -/

namespace Sys2Proof.Machine

/-! ## DISPATCH (R27, R188–R192, R421) -/

/-- A packet that no program takes: its flow is released and it goes to a queue, in order with the untracked ones. -/
def State.sendUntracked (s : State) (pid port q reason : Nat) : State :=
  ((s.leaveFlow pid).modPkt pid fun p =>
    { p with flow := .noRecord, op := none, untracked := true, reason := reason, stage := .issueWait,
             dest := .queue port q }).issueWaiting

/-- A packet that no program takes is dropped: its flow is released without writing (R31). -/
def State.dropParsed (s : State) (pid : Nat) : State := (((s.offerAll pid 0xFF true).leaveFlow pid).release pid).issueWaiting

/-- The record an operation delivered to a packet. -/
def State.recordFor (s : State) (p : Packet) : Option Record :=
  match p.flow, p.op with | .record, some id => (s.op id).base | _, _ => none

/-- The effective policer: bit 17 valid, bits 16:0 its index (R193). -/
def effPolicer (r : Option Record) (w : Nat) : Nat :=
  match r with
  | some r => if bitAt r.policer 23 then 2 ^ 17 + r.policer % 2 ^ 17 else if bitAt w 17 then w % 2 ^ 18 else 0
  | none => if bitAt w 17 then w % 2 ^ 18 else 0

/-- Starts a packet's program in a context. -/
def State.startProgram (s : State) (pid w slice eng c prog entry : Nat) : State :=
  let p := s.pkt pid
  let r := s.recordFor p
  let x : Ctx :=
    { pid := pid, ia := bitsOf entry 50 33 * 4, prog := prog, arg := entry % 2 ^ 32, budget := bitsOf entry 62 51, began := s.coreNow, tc := p.tc,
      pol := effPolicer r w, record := r, present := r.isSome, dir := !p.head.srcIsA,
      countOnly := match r with | some r => r.flag bCountOnly | none => false }
  ((s.setCtx (ctxKey slice eng c) x).modPkt pid fun p => { p with stage := .inContext, prog := prog, hadRecord := r.isSome }).evc
    (48 + 4 * slice + 2)

/-- DISPATCH: a packet with its record and its rule result takes a context, or leaves without a program (R27, R188–R190,
R155, R421). It waits while no context is free. -/
def execDispatch (pid : Nat) (s : State) : Res :=
  let s := s.begin
  let p := s.pkt pid
  match p.rule with
  | none => .next s
  | some w =>
    let s := if p.stage = .parsed ∧ p.flow = .notAsked ∧ !bitAt w 60 then s.noFlow pid else s
    let p := s.pkt pid
    let ready : Bool := match p.flow with | .notAsked | .waiting => false | _ => true
    if p.stage ≠ .parsed ∨ !ready then .next s
    else if p.flow = .refused 0 then .next (s.dropParsed pid)
    else if p.flow = .refused 2 then
      .next (s.sendUntracked pid 66 (p.tc % max 1 (s.fg (Fld.SCH_PORT_CFG_QCOUNT 66))) 3)
    else if p.pass = 1 ∧ bitAt w 60 ∧ p.asStandby.getD (s.standby p.head.zone) then
      let s := s.inc Reg.GRF_STBY_PKTS
      match s.fg Fld.GRF_CFG_STBY_ACT with
      | 1 => .next (s.sendUntracked pid 64 (s.fg Fld.GRF_CFG_STBY_Q) 4)
      | 2 => .next (s.sendUntracked pid 66 (s.fg Fld.GRF_CFG_STBY_Q) 4)
      | _ => .next (s.dropParsed pid)
    else
      let prog := match s.recordFor p with
        | some r => if r.prog = 0 then bitsOf w 47 32 else r.prog
        | none => bitsOf w 47 32
      let entry := s.trw.progs.get prog 0
      if !bitAt entry 63 then .next ((s.inc (Reg.TRW_NO_PROG p.slice)).dropParsed pid)
      else
        match s.dispatchPlace p.slice with
        | none => .next s
        | some (e, c) => .next (s.startProgram pid w p.slice e c prog entry)

/-! ## The end of a program (R202, R207) -/

/-- Whether a creation an operation has asked for is still wanted by another context. -/
def State.creationShared (s : State) (id k : Nat) : Bool :=
  s.trw.ctxs.any fun e => e.1 != k && (s.pkt e.2.pid).op == some id && (e.2.creating || e.2.created)
    || (s.op id).members.any fun m => m.made && !m.cancelled

/-- Whether the record of a context's packet was created by its operation (R193, R201): by its own program, or by that of another
member. -/
def State.opCreated (s : State) (x : Ctx) : Bool :=
  x.created || match (s.pkt x.pid).op with
    | some id => (s.trw.ctxs.any fun e => (s.pkt e.2.pid).op == some id && e.2.created)
      || (s.op id).members.any fun m => m.made && !m.cancelled
    | none => false

/-- Cancels the request a context waits on: its reservation is released unless others share it (R151, R215, R217). -/
def State.cancelRequest (s : State) (k : Nat) : State :=
  match s.ctx? k with
  | none => s
  | some c =>
    let s := s.setCtx k { c with wait := none, reply := none, micro := none }
    match c.creating, (s.pkt c.pid).op with
    | true, some id =>
      if s.creationShared id k then s
      else
        let s := { s with fle := { s.fle with creations := s.fle.creations.erase id } }
        (s.releaseReservation id).modOp id fun o => { o with creation := .none }
    | _, _ => s

/-- Ends a program without its effects on the packet's record: its packet is freed, its provisional references are released
with the operation, its operation goes on without it. -/
def State.abandon (s : State) (k : Nat) : State :=
  match s.ctx? k with
  | none => s
  | some c =>
    let s := (s.cancelRequest k).freeCtx k
    let s := match (s.pkt c.pid).op with
      | some id => s.modOp id fun o => { o with members := o.members.map fun (m : Member) =>
          if m.pid = c.pid then { m with natTaken := c.natTaken } else m }
      | none => s.settleRefs c.natTaken none none
    (((s.leaveFlow c.pid).release c.pid).issueWaiting)

/-- An exception on an engine (R207). -/
def State.raise (s : State) (k cause : Nat) : State :=
  match s.ctx? k with
  | none => s
  | some c =>
    let slice := k / 128
    let first := cause * 2 ^ 56 + c.prog * 2 ^ 40 + c.ia % 2 ^ 40
    let s := (s.inc (Reg.TRW_EXC slice cause)).logLimited 0x0803 slice 1 first fun f _ =>
      d1 (f / 2 ^ 56) ++ d2 (f / 2 ^ 40 % 65536) ++ d5 (f % 2 ^ 40)
    (s.fcCount { kind := 8, priv := some 2, masters := 2 ^ slice }).abandon k

/-- The record copy as its program has left it. -/
def Ctx.copy (x : Ctx) : Option Record := x.record.map (·.overlay x.writes)

/-- EXIT: the program's work passes to its flow's operation, or its descriptor is issued in order (R32, R39, R202). -/
def State.finishProgram (s : State) (k : Nat) : State :=
  match s.ctx? k with
  | none => s
  | some c =>
    let s := s.freeCtx k
    let s := s.modPkt c.pid fun p =>
      { p with dest := c.dest, edits := c.edits, named := c.mirrors, tsreq := c.tsreq, tc := c.tc, prog := c.prog,
               hadRecord := c.present, runSlice := k / 128, scratch := (List.range 16).map fun i => c.next.get i 0 }
    match (s.pkt c.pid).op with
    | some id =>
      let s := s.modOp id fun o => { o with members := o.members.map fun (m : Member) =>
        if m.pid = c.pid then
          { m with finished := true, deleted := c.deleted, made := c.created, writes := c.writes, natTaken := c.natTaken,
                   natRelease := c.natRelease, copy := c.copy }
        else m }
      ((s.modPkt c.pid fun p => { p with stage := .endGate }).settleOp id).issueWaiting
    | none =>
      let s := s.settleRefs c.natTaken none none
      let p := s.pkt c.pid
      if p.ended ∧ !p.good then (s.release c.pid).issueWaiting
      else (s.modPkt c.pid fun p => { p with stage := .issueWait, untracked := true }).issueWaiting

/-- The clocks a context has been charged at least, and at most, when an instruction is to issue (R203). A clock of the time base is
50 core clocks long, and the wait of a package-memory read is not charged. (DEDUCED, log 80) -/
def Ctx.chargedLow (x : Ctx) (now : Nat) : Nat := max x.charged (now - x.began - x.waited - 49)
@[inherit_doc Ctx.chargedLow] def Ctx.chargedHigh (x : Ctx) (now : Nat) : Nat := max x.charged (now - x.began + 49)

/-- A wait on package memory, if there is one, ends: its clocks are not charged (R203). (DEDUCED, log 111) -/
def Ctx.endMiss (x : Ctx) (now : Nat) : Ctx :=
  match x.missFrom with
  | some t => { x with waited := x.waited + (now - t) + 49, missFrom := none }
  | none => x

/-- A context that issues an instruction at a core clock: its clock is charged. (DEDUCED, log 111) -/
def Ctx.issues (x : Ctx) (now : Nat) : Ctx := { x.endMiss now with charged := (x.endMiss now).chargedLow now + 1 }

/-- Whether a context's budget allows it to issue at a core clock. -/
def Ctx.within (x : Ctx) (now : Nat) : Bool := decide ((x.endMiss now).chargedLow now < x.budget)

/-- BUDGET_EXCEEDED: the charged clocks of a program reach BUDGET (R203); it acts once the clocks since the dispatch can have
been as many. -/
def execBudgetExceeded (slice engine ctx : Nat) (s : State) : Res :=
  let s := s.begin
  let k := ctxKey slice engine ctx
  if 4 ≤ slice ∨ 16 ≤ engine ∨ 8 ≤ ctx then .next s
  else
    match s.ctx? k with
    | some x => .next (if x.budget ≤ x.chargedHigh s.coreNow then s.raise k 5 else s)
    | none => .next s

/-! ## A slice leaves service; quarantine (R51, R220) -/

/-- Drops every packet that is in a slice. -/
def State.emptySlice (s : State) (n : Nat) : State :=
  let s := (List.range 128).foldl (fun s i => s.abandon (n * 128 + i)) s
  let inside := (s.packets.filter fun e => e.2.slice == n && e.2.copy.isNone && !e.2.dead
      && match e.2.stage with | .queued | .txing | .recirc => false | _ => true).map (·.1)
  let s := inside.foldl (fun s pid =>
    match (s.pkt pid).stage with
    | .cozy => (s.cozyFree pid).discard pid
    | _ => (s.leaveFlow pid).release pid) s
  (s.modSlice n fun x => { x with fifo := [], inner := [], asks := [], cozy := [], viaCozy := false }).issueWaiting

/-- A slice leaves service: its ports go down, and what it held is dropped. -/
def State.failSlice (s : State) (n : Nat) : State :=
  let s := (List.range 16).foldl (fun s i => if s.assigned (16 * n + i) then s.forceDown (16 * n + i) else s) s
  let s := (s.emptySlice n).modSlice n fun x => { x with inService := false, wantsWake := false }
  (s.setPower n 3).fsbit Fld.KTL_PWR_STAT_WAKING n false

/-- Quarantines an engine (R220): the packets of its contexts are dropped. The last engine of a slice takes the slice out of
service. (DESIGN CHOICE, log 43) -/
def State.quarantine (s : State) (slice eng : Nat) : State :=
  let s := s.fsbit (Fld.TRW_ENG_STAT_QUAR slice) eng true
  let s := (List.range 8).foldl (fun s c =>
    let k := ctxKey slice eng c
    if (s.ctx? k).isSome then (s.inc (Reg.TRW_QUAR_DROP slice)).abandon k else s) s
  if s.fg (Fld.TRW_ENG_STAT_QUAR slice) = 0xFFFF then s.failSlice slice else s

/-- A write of TRW_ENG_CTL (R224): a quarantine that would leave the slice with no engine is rejected. -/
def State.writeEngCtl (s : State) (slice : Nat) (v : Word) : State :=
  let e := v.toNat % 16
  let others := (List.range 16).any fun i => i != e && !s.quarantined slice i
  if bitAt v.toNat 31 ∧ !others then s.denied Spec.TRW_ENG_CTL
  else
    let s := s.store Spec.TRW_ENG_CTL [slice] v.toNat
    let s := if bitAt v.toNat 31 ∧ !s.quarantined slice e then s.quarantine slice e else s
    if bitAt v.toNat 30 then s.fsbit (Fld.TRW_ENG_STAT_QUAR slice) e false else s

/-- ENGINE_QUARANTINE (R220). -/
def execEngineQuarantine (slice : Nat) (engine : BitVec 4) (s : State) : Res :=
  let s := s.begin
  .next (if slice < 4 then s.writeEngCtl slice (BitVec.ofNat 32 (2 ^ 31 + engine.toNat)) else s.errorResponse)

/-- ENGINE_RELEASE (R220). -/
def execEngineRelease (slice : Nat) (engine : BitVec 4) (s : State) : Res :=
  let s := s.begin
  .next (if slice < 4 then s.writeEngCtl slice (BitVec.ofNat 32 (2 ^ 30 + engine.toNat)) else s.errorResponse)

/-! ## Unit replies and micro-faults (R214–R218) -/

/-- A routine is abandoned, by a micro-fault at a micro-address or by an interrupt, and starts again; the eighth restart of one
instruction quarantines its engine (R217, R218). Event 0x0801 carries the address of the last fault; where only interrupts came it is a
free value. (DESIGN CHOICE, log 43) -/
def State.restartRoutine (s : State) (k : Nat) (fault : Option Nat) : State :=
  match s.ctx? k with
  | none => s
  | some c =>
    let slice := k / 128
    let eng := k % 128 / 8
    let last := fault.orElse fun _ => c.lastFault
    if c.restarts = 8 then
      let (v, s) := s.free
      (s.log 0x0801 (d1 (16 * slice + eng) ++ d1 (k % 8) ++ d2 (last.getD (v.toNat % 65536)) ++ d2 c.prog)).quarantine slice eng
    else
      let s := (s.inc (Reg.TRW_RESTART slice)).cancelRequest k
      match s.ctx? k with
      | some c => s.setCtx k { c with restarts := c.restarts + 1, lastFault := last }
      | none => s

/-- The result of a creation reaches its context and commits (R156, R214): status 0 shows the new record. A reply whose
request the unit has discarded comes with the error flag (R215). (DEDUCED, log 41) -/
def State.commitCreate (s : State) (k : Nat) : State :=
  match s.ctx? k with
  | none => s
  | some c =>
    match c.wait, c.reply with
    | some (1, _), some _ => s.raise k 6
    | some _, some n =>
      let p := s.pkt c.pid
      let c := { c with wait := none, reply := none, restarts := 0, lastFault := none, ia := c.ia + 4,
                        g := if c.rd = 0 then c.g else c.g.put c.rd 0 (BitVec.ofNat 64 n) }
      match n, p.op with
      | 0, some id => s.setCtx k { c with created := true, record := some (s.newRecord (s.op id)).blank }
      | _, _ => s.setCtx k c
    | _, _ => s

/-- TENTATIVE_TIMEOUT: neither a confirm nor a cancel of an answered request came within 256 core clocks (R215). -/
def execTentativeTimeout (slice engine ctx : Nat) (s : State) : Res :=
  let s := s.begin
  let k := ctxKey slice engine ctx
  match s.ctx? k with
  | none => .next s
  | some c =>
    match c.wait, c.reply, (s.pkt c.pid).op with
    | some (0, t), some _, some id =>
      if s.coreNow < t + 256 then .next s
      else
        let s := s.setCtx k { c with wait := some (1, t) }
        if s.creationShared id k then .next s
        else .next ((s.releaseReservation id).modOp id fun o => { o with creation := .none })
    | _, _, _ => .next s

/-! ## Programs and instruction memory (R190, R191, R226) -/

/-- A write of TRW_PROG_CMD. -/
def State.writeProgCmd (s : State) (v : Word) : State :=
  let w := v.toNat
  let old := s
  let s := s.store Spec.TRW_PROG_CMD [] w
  let i := w % 65536
  let e := (s.rd Reg.TRW_PROG_DATA_HI).toNat * 2 ^ 32 + (s.rd Reg.TRW_PROG_DATA_LO).toNat
  if !bitAt w 31 then s
  else if bitAt w 30 then
    if bitsOf e 62 51 = 0 then old.rejectBit Fld.TRW_PROG_STAT_REJECTED
    else { s with trw := { s.trw with progs := s.trw.progs.put i 0 (setBit e 32 false) } }.done Fld.TRW_PROG_STAT_DONE
  else if !(s.slice (bitsOf w 17 16)).inService then old.rejectBit Fld.TRW_PROG_STAT_REJECTED
  else
    let e := s.trw.progs.get i 0
    ((s.wr Reg.TRW_PROG_DATA_HI (BitVec.ofNat 32 (e / 2 ^ 32))).wr Reg.TRW_PROG_DATA_LO (BitVec.ofNat 32 (e % 2 ^ 32))).done
      Fld.TRW_PROG_STAT_DONE

/-- PROGRAM_ENTRY_READ (R226). -/
def execProgramEntryRead (slice : BitVec 2) (index : BitVec 16) (s : State) : Res :=
  .next (s.begin.writeProgCmd (BitVec.ofNat 32 (2 ^ 31 + slice.toNat * 65536 + index.toNat)))

/-- PROGRAM_ENTRY_WRITE (R191). -/
def execProgramEntryWrite (index : BitVec 16) (s : State) : Res :=
  .next (s.begin.writeProgCmd (BitVec.ofNat 32 (2 ^ 31 + 2 ^ 30 + index.toNat)))

/-- Steps the word address of the instruction memory. -/
def State.stepImem (s : State) : State :=
  s.fs Fld.TRW_IMEM_ADDR_ADDR ((s.fg Fld.TRW_IMEM_ADDR_ADDR + 1) % 262144)

/-- A write of TRW_IMEM_DATA: one instruction, to all slices. -/
def State.writeImem (s : State) (v : Word) : State :=
  let a := s.fg Fld.TRW_IMEM_ADDR_ADDR
  ({ s with trw := { s.trw with imem := s.trw.imem.put a 0 v } }.wr Reg.TRW_IMEM_DATA v).stepImem

/-- A read of TRW_IMEM_DATA. -/
def State.readImem (s : State) : Word × State :=
  let w := s.trw.imem.get (s.fg Fld.TRW_IMEM_ADDR_ADDR) 0
  (w, (s.wr Reg.TRW_IMEM_DATA w).stepImem)

/-- IMEM_DATA_WRITE (R191). -/
def execImemDataWrite (value : Word) (s : State) : Res := .next (s.begin.writeImem value)

/-- IMEM_DATA_READ (R226). -/
def execImemDataRead (s : State) : Res :=
  let (w, s) := s.begin.readImem
  .next (s.emit (.readData w))

/-- A write of MARK: the contexts that run now are marked, and DRAINED stays clear while one of them is held (R191). -/
def State.mark (s : State) : State :=
  { s with trw := { s.trw with ctxs := s.trw.ctxs.map fun e => (e.1, { e.2 with marked := true }) } }

/-- DRAINED (R191). -/
def State.drained (s : State) : Bool := s.trw.ctxs.all fun e => !e.2.marked

/-- MARK (R191). -/
def execMark (s : State) : Res := .next s.begin.mark

/-! ## Patches (R221–R223, R227) -/

/-- Who may write the staging registers, INSTALL and CLEAR (R223). -/
def mayPatch (q : Requester) : Bool := match q with | .kernel | .loader => true | _ => false

/-- A write of TRW_PATCH_DATA_k; the third one stages the word (R227). -/
def State.writePatchData (s : State) (k : Nat) (v : Word) : State :=
  let s := s.wr (Reg.TRW_PATCH_DATA k) v
  if k ≠ 2 then s
  else
    let a := s.fg Fld.TRW_PATCH_ADDR_ADDR
    let w := ((s.rd (Reg.TRW_PATCH_DATA 0)).toNat * 2 ^ 32 + (s.rd (Reg.TRW_PATCH_DATA 1)).toNat) * 2 ^ 32 + v.toNat
    { s with trw := { s.trw with staged := s.trw.staged.ins a w } }.fs Fld.TRW_PATCH_ADDR_ADDR ((a + 1) % 512)

/-- PATCH_DATA_WRITE: the third data word of a staged micro-word (R227). -/
def execPatchDataWrite (req : Requester) (value : Word) (s : State) : Res :=
  let s := s.begin
  .next (if mayPatch req then s.writePatchData 2 value else s.errorResponse)

/-- A write of INSTALL or CLEAR in TRW_PATCH_CTL; a write of both is taken as INSTALL. (DESIGN CHOICE, log 110) -/
def State.writePatchCtl (s : State) (v : Word) : State :=
  let go := bitAt v.toNat 31 || bitAt v.toNat 30
  if go ∧ s.fb Fld.TRW_PATCH_STAT_BUSY then s.denied Spec.TRW_PATCH_CTL
  else
    let s := s.store Spec.TRW_PATCH_CTL [] v.toNat
    if go then
      { s with trw := { s.trw with installing := some (!bitAt v.toNat 31, s.aon) } }.fs Fld.TRW_PATCH_STAT_BUSY 1
    else s

/-- INSTALL (R222). -/
def execInstall (req : Requester) (s : State) : Res :=
  let s := s.begin
  .next (if mayPatch req then s.writePatchCtl (BitVec.ofNat 32 (2 ^ 31 + s.fg Fld.TRW_PATCH_CTL_STAGED_ID)) else s.errorResponse)

/-- CLEAR (R223). -/
def execClear (req : Requester) (s : State) : Res :=
  let s := s.begin
  .next (if mayPatch req then s.writePatchCtl (BitVec.ofNat 32 (2 ^ 30 + s.fg Fld.TRW_PATCH_CTL_STAGED_ID)) else s.errorResponse)

/-- The words of the staged patch: those up to the last one staged since a caddy's patch began to be staged. The spec gives the
staging registers no count of words. (DESIGN CHOICE, log 109) -/
def State.stagedCount (s : State) : Nat := s.trw.staged.foldl (fun n e => max n (e.1 + 1)) 0

/-- Why the staged patch is rejected, if it is (R222): 3 count, 4 target, 5 duplicate address, 6 word check. -/
def State.patchFault (s : State) : Option Nat :=
  let n := s.stagedCount
  let ms := ((List.range 32).map fun m => (s.rd (Reg.TRW_PATCH_MATCH m)).toNat).filter fun e => bitAt e 31
  let addrs := ms.map fun e => bitsOf e 30 18
  if n < 1 ∨ 512 < n then some 3
  else if ms.any fun e => decide (n ≤ e % 512) then some 4
  else if addrs.any fun a => decide (1 < (addrs.filter (· == a)).length) then some 5
  else if (List.range n).any fun i => !Config.microCheck (s.trw.staged.get i 0) then some 6
  else none

/-- The contexts that wait on a unit are abandoned at the quiesce, and their instruction starts again (R219, R223). -/
def State.quiesce (s : State) : State :=
  (s.trw.ctxs.filter fun e => e.2.wait.isSome).foldl (fun s e => s.restartRoutine e.1 none) s

/-- The section body of the staged patch (R221), under a version. -/
def State.patchBody (s : State) (version : Nat) : List Byte :=
  let n := s.stagedCount
  d2 (s.fg Fld.TRW_PATCH_CTL_STAGED_ID) ++ d2 version ++ d1 (s.fg Fld.KTL_DEVICE_ID_STEP) ++ d1 (s.fg Fld.TRW_ROM_INFO_ROM_REV)
    ++ d2 n ++ ((List.range 32).flatMap fun m => beBytes 4 (s.rd (Reg.TRW_PATCH_MATCH m)).toNat)
    ++ (List.range n).flatMap fun i => beBytes 12 (s.trw.staged.get i 0)

/-- PATCH_INSTALLED: the checks and the copy of a patch end; it is in force and measured, or rejected (R222, R223, R595). The
version of a patch that was staged by register writes alone is a free value. -/
def execPatchInstalled (s : State) : Res :=
  let s := s.begin
  match s.trw.installing with
  | none => .next s
  | some (clear, t) =>
    let n := if clear then 0 else s.stagedCount
    let clocks := if clear then 64 else 2 * n + 96
    if s.coreNow < t * 50 + clocks then .next s
    else
      let s := { s with trw := { s.trw with installing := none } }.fs Fld.TRW_PATCH_STAT_BUSY 0
      if clear then
        let s := s.quiesce
        .next (({ s with trw := { s.trw with patchWords := [], patchMatch := [], version := 0 } }.fs
          Fld.TRW_PATCH_STAT_ACTIVE_ID 0).measure 2 (List.replicate 32 0) |>.log 0x0802 (d2 0 ++ d2 0))
      else
        match s.patchFault with
        | some r => .next ((s.fs Fld.TRW_PATCH_STAT_REASON r).log 0x0805 (d1 r))
        | none =>
          let (v, s) := s.quiesce.free
          let ver := s.trw.stagedVersion.getD (v.toNat % 65536)
          let id := s.fg Fld.TRW_PATCH_CTL_STAGED_ID
          let match' := (List.range 32).map fun m => (m, s.rd (Reg.TRW_PATCH_MATCH m))
          let s := { s with trw := { s.trw with
            patchWords := s.trw.staged, patchMatch := match'.filter fun e => e.2 != 0, version := ver } }
          .next (((s.fs Fld.TRW_PATCH_STAT_ACTIVE_ID id).measure 2 (sm3Of (s.patchBody ver))).log 0x0802 (d2 id ++ d2 ver))

end Sys2Proof.Machine
end

