-- ==== Sys2Proof/Machine/Schedule.lean ====
section
/-! DEFINITION. The commands of the scheduler and the gates (chapter 9): queue and node settings, shapers and their refill,
gate lists, their switch, and SDU_FIT. -/

namespace Sys2Proof.Machine

/-! ## Shapers (R345, R346) -/

/-- The settings a shaper was last given. -/
def Shaper.shown (h : Shaper) : Bool × Nat × Nat := h.pend.getD (h.en, h.inc, h.burst)

/-- Gives a shaper new settings, which take effect at the next refill boundary (R346). (DESIGN CHOICE, log 56) -/
def Shaper.give (h : Shaper) (en : Bool) (inc burst : Nat) : Shaper :=
  { h with pend := if (en, inc, burst) = (h.en, h.inc, h.burst) then none else some (en, inc, burst) }

/-- `n` refill boundaries, at least one (R345, R346). (DESIGN CHOICE, log 56) -/
def Shaper.refill (h : Shaper) (n : Nat) : Shaper :=
  let h := match h.pend with
    | none => h
    | some (en, inc, burst) =>
      { en := en, inc := inc, burst := burst, pend := none,
        tokens := if en && !h.en then burst * 256 else min h.tokens (burst * 256) }
  if h.en then { h with tokens := min (h.tokens + (h.inc * n : Nat)) (h.burst * 256 : Nat) } else h

/-- SHAPER_REFILL: the refill boundaries that have passed, one every 128 core clocks. -/
def execShaperRefill (s : State) : Res :=
  let s := s.begin
  let n := s.coreNow / 128 - s.sch.lastRefill
  if n = 0 then .next s
  else
    let s := { s with sch := { s.sch with lastRefill := s.coreNow / 128 } }
    let s := (s.sch.queues.map (·.1)).foldl (fun (s : State) k => s.modQueue k fun q => { q with shaper := q.shaper.refill n }) s
    let s := (s.sch.nodes.map (·.1)).foldl (fun (s : State) k => s.modNode k fun q => { q with shaper := q.shaper.refill n }) s
    let s := (s.sch.ports.map (·.1)).foldl (fun (s : State) k => s.modPsched k fun q => { q with shaper := q.shaper.refill n }) s
    .next ((List.range 67).foldl (fun s p => s.refreshPort p) s)

/-- Gives the shaper of a port scheduler the settings of its registers. -/
def State.givePort (s : State) (p : Nat) : State :=
  let en := s.fb (Fld.SCH_PORT_SHAPE_EN p)
  let inc := s.fg (Fld.SCH_PORT_SHAPE_INC p)
  let burst := s.fg (Fld.SCH_PORT_BURST_BURST p)
  s.modPsched p fun x => { x with shaper := x.shaper.give en inc burst }

/-- A write of SCH_PORT_SHAPE or SCH_PORT_BURST (R358). -/
def State.writePortShape (s : State) (p v : Nat) : State :=
  let s := s.store Spec.SCH_PORT_SHAPE [p] v
  s.givePort p
@[inherit_doc State.writePortShape] def State.writePortBurst (s : State) (p v : Nat) : State :=
  let s := s.checkedStore Spec.SCH_PORT_BURST [p] v
  s.givePort p

/-- A write of SCH_PORT_CFG, rejected as R331 states; the checks are on a change of QBASE or QCOUNT. -/
def State.writePortCfg (s : State) (p v : Nat) : State :=
  let b := bitsOf v 29 16
  let n := v % 512
  let ob := s.fg (Fld.SCH_PORT_CFG_QBASE p)
  let on := s.fg (Fld.SCH_PORT_CFG_QCOUNT p)
  let held := fun lo cnt => s.sch.queues.any fun e => decide (lo ≤ e.1 ∧ e.1 < lo + cnt) && !e.2.items.isEmpty
  let overlap := (List.range 67).any fun q =>
    q != p && decide (b < s.fg (Fld.SCH_PORT_CFG_QBASE q) + s.fg (Fld.SCH_PORT_CFG_QCOUNT q)
      ∧ s.fg (Fld.SCH_PORT_CFG_QBASE q) < b + n)
  if (b = ob ∧ n = on) ∨ (1 ≤ n ∧ n ≤ 256 ∧ b + n ≤ 16384 ∧ !overlap ∧ !held ob on ∧ !held b n) then
    s.store Spec.SCH_PORT_CFG [p] v
  else s.denied Spec.SCH_PORT_CFG

/-! ## Queues and nodes (R336, R360–R362) -/

/-- The queues whose parent is a node. -/
def State.queuesUnder (s : State) (m : Nat) : List Nat :=
  (s.sch.queues.filter fun e => e.2.pnode && e.2.parent == m).map (·.1)

/-- The enabled nodes whose parent is a node. -/
def State.nodesUnder (s : State) (m : Nat) : List Nat :=
  (s.sch.nodes.filter fun e => e.2.en && e.2.pnode && e.2.parent == m).map (·.1)

/-- Every queue below a node, down to `n` levels. -/
def State.allUnder (s : State) : Nat → Nat → List Nat
  | 0, _ => []
  | n + 1, m => s.queuesUnder m ++ (s.nodesUnder m).flatMap (s.allUnder n)

/-- The most nodes from a node down to the parent of a queue below it, the node counted; 0 with no queue below. -/
def State.depthUnder (s : State) : Nat → Nat → Nat
  | 0, _ => 0
  | n + 1, m =>
    (s.nodesUnder m).foldl (fun d k => let x := s.depthUnder n k; if x = 0 then d else max d (x + 1))
      (if s.queuesUnder m = [] then 0 else 1)

/-- The children of a node, or of a port scheduler, but for one: an index as in `children`. -/
def State.childCount (s : State) (pnode : Bool) (parent port but : Nat) : Nat :=
  let kids := if pnode then s.queuesUnder parent ++ (s.nodesUnder parent).map (16384 + ·) else s.children port none
  (kids.filter (· ≠ but)).length

/-- Whether a parent would have too many children (R336). -/
def State.crowded (s : State) (pnode : Bool) (parent port but : Nat) : Bool :=
  decide ((if pnode then 256 else 512) < s.childCount pnode parent port but + 1)

/-- Whether a node cannot be the parent in a chain of a port: it is not enabled, or its chain ends at another port's scheduler. -/
def State.badParent (s : State) (parent : Nat) (port : Option Nat) : Bool :=
  !(s.node parent).en || match port with
    | some p => s.nodePort parent != p
    | none => false

/-- Fields that the queue and the node data words share: PNODE, PARENT, PRIO, WEIGHT, EN, INC and BURST of the shaper. -/
structure ChildCfg where
  pnode : Bool
  parent : Nat
  prio : Nat
  weight : Nat
  sh : Bool × Nat × Nat

/-- Reads those fields from data words 0, 2 and 3. -/
def childCfg (d0 d2 d3 : Nat) : ChildCfg :=
  { pnode := bitAt d0 31, parent := bitsOf d0 26 16, prio := bitsOf d0 15 13, weight := d0 % 1024,
    sh := (bitAt d2 31, d2 % 2 ^ 22, d3 % 2 ^ 24) }

/-- Why a queue write is rejected (R360), 0 when it is not. (DESIGN CHOICE, log 55) -/
def State.queueReason (s : State) (n : Nat) (c : ChildCfg) (tc age qmax : Nat) : Nat :=
  let q := s.queue n
  let port := s.portOf n
  if c.pnode && s.badParent c.parent port then 1
  else if c.pnode && decide (3 < (s.nodeChain nodeCount c.parent).length) then 2
  else if (match port with | some p => s.crowded c.pnode c.parent p n | none => c.pnode && s.crowded true c.parent 0 n) then 3
  else if c.weight = 0 ∨ 30000 < age ∨ c.sh.2.2 = 0 ∨ 262144 < qmax then 4
  else if q.items ≠ [] ∧ (c.pnode, c.parent, c.prio, tc) ≠ (q.pnode, q.parent, q.prio, q.tc) then 5
  else 0

/-- A write of SCH_Q_CMD (R360, R361). -/
def State.writeQueueCmd (s : State) (v : Nat) : State :=
  let old := s
  let s := s.store Spec.SCH_Q_CMD [] v
  if !bitAt v 31 then s
  else
    let n := v % 16384
    let q := s.queue n
    let s := s.fs Fld.SCH_Q_DATA_5_PKTS q.packets
    let w := fun (r : Reg) => (s.rd r).toNat
    if bitAt v 30 then
      let c := childCfg (w Reg.SCH_Q_DATA_0) (w Reg.SCH_Q_DATA_2) (w Reg.SCH_Q_DATA_3)
      let tc := s.fg Fld.SCH_Q_DATA_0_TC
      let age := s.fg Fld.SCH_Q_DATA_1_AGE
      let qmax := s.fg Fld.SCH_Q_DATA_4_QMAX
      let why := s.queueReason n c tc age qmax
      if why ≠ 0 then old.reject Fld.SCH_Q_STAT_REJECTED Fld.SCH_Q_STAT_REASON why
      else
        let s := s.modQueue n fun q =>
          { q with pnode := c.pnode, parent := c.parent, prio := c.prio, tc := tc, weight := c.weight,
                   pfcEn := s.fb Fld.SCH_Q_DATA_1_PFC_EN, pfcPri := s.fg Fld.SCH_Q_DATA_1_PFC_PRI, age := age, qmax := qmax,
                   shaper := q.shaper.give c.sh.1 c.sh.2.1 c.sh.2.2 }
        let s := match s.portOf n with | some p => s.refreshPort p | none => s
        s.done Fld.SCH_Q_STAT_DONE
    else
      let (en, inc, burst) := q.shaper.shown
      let d0 := 2 ^ 31 * ofBool q.pnode + 2 ^ 16 * q.parent + 2 ^ 13 * q.prio + 2 ^ 10 * q.tc + q.weight
      let d1 := 2 ^ 31 * ofBool q.pfcEn + 2 ^ 24 * q.pfcPri + q.age
      let put := fun (s : State) (r : Reg) (x : Nat) => s.wr r (BitVec.ofNat 32 x)
      let s := put (put (put s Reg.SCH_Q_DATA_0 d0) Reg.SCH_Q_DATA_1 d1) Reg.SCH_Q_DATA_2 (2 ^ 31 * ofBool en + inc)
      let s := put (put s Reg.SCH_Q_DATA_3 burst) Reg.SCH_Q_DATA_4 q.qmax
      let s := put (put s Reg.SCH_Q_DATA_6 q.ageDrops) Reg.SCH_Q_DATA_7 q.qfullDrops
      (s.modQueue n fun q => { q with ageDrops := 0, qfullDrops := 0 }).done Fld.SCH_Q_STAT_DONE

/-- Why a node write is rejected (R360, R362), 0 when it is not. (DESIGN CHOICE, log 55) -/
def State.nodeReason (s : State) (m : Nat) (c : ChildCfg) (en : Bool) (port : Nat) : Nat :=
  let nd := s.node m
  let chain := if c.pnode then s.nodeChain nodeCount c.parent else []
  let below := s.allUnder 4 m
  let depth := s.depthUnder 4 m
  if (c.pnode && !chain.contains m && s.badParent c.parent (some port)) || below.any fun k => (s.portOf k).getD port != port then 1
  else if chain.contains m ∨ (depth ≠ 0 ∧ 3 < chain.length + depth) then 2
  else if en && s.crowded c.pnode c.parent port (16384 + m) then 3
  else if c.weight = 0 ∨ 66 < port ∨ c.sh.2.2 = 0 then 4
  else if (c.pnode, c.parent, c.prio, port) ≠ (nd.pnode, nd.parent, nd.prio, nd.port)
      ∧ below.any (fun k => !(s.queue k).items.isEmpty) then 5
  else if !en ∧ (s.queuesUnder m ≠ [] ∨ s.nodesUnder m ≠ []) then 7
  else 0

/-- A write of SCH_N_CMD (R360, R362). -/
def State.writeNodeCmd (s : State) (v : Nat) : State :=
  let old := s
  let s := s.store Spec.SCH_N_CMD [] v
  if !bitAt v 31 then s
  else
    let m := v % 2048
    let nd := s.node m
    let w := fun (r : Reg) => (s.rd r).toNat
    if bitAt v 30 then
      let c := childCfg (w Reg.SCH_N_DATA_0) (w Reg.SCH_N_DATA_2) (w Reg.SCH_N_DATA_3)
      let en := s.fb Fld.SCH_N_DATA_1_EN
      let port := s.fg Fld.SCH_N_DATA_1_PORT
      let why := s.nodeReason m c en port
      if why ≠ 0 then old.reject Fld.SCH_N_STAT_REJECTED Fld.SCH_N_STAT_REASON why
      else
        let s := s.modNode m fun x =>
          { x with pnode := c.pnode, parent := c.parent, prio := c.prio, weight := c.weight, en := en, port := port,
                   shaper := x.shaper.give c.sh.1 c.sh.2.1 c.sh.2.2 }
        ((s.refreshPort nd.port).refreshPort port).done Fld.SCH_N_STAT_DONE
    else
      let (en, inc, burst) := nd.shaper.shown
      let d0 := 2 ^ 31 * ofBool nd.pnode + 2 ^ 16 * nd.parent + 2 ^ 13 * nd.prio + nd.weight
      let put := fun (s : State) (r : Reg) (x : Nat) => s.wr r (BitVec.ofNat 32 x)
      let s := put (put s Reg.SCH_N_DATA_0 d0) Reg.SCH_N_DATA_1 (2 ^ 31 * ofBool nd.en + nd.port)
      (put (put s Reg.SCH_N_DATA_2 (2 ^ 31 * ofBool en + inc)) Reg.SCH_N_DATA_3 burst).done Fld.SCH_N_STAT_DONE

/-- QUEUE_READ and QUEUE_WRITE: SCH_Q_CMD written with GO = 1. -/
def execQueueRead (queue : BitVec 14) (s : State) : Res := .next (s.begin.writeQueueCmd (2 ^ 31 + queue.toNat))

/-- QUEUE_WRITE (R360). -/
def execQueueWrite (queue : BitVec 14) (s : State) : Res :=
  .next (s.begin.writeQueueCmd (2 ^ 31 + 2 ^ 30 + queue.toNat))

/-- NODE_READ and NODE_WRITE: SCH_N_CMD written with GO = 1. -/
def execNodeRead (node : BitVec 11) (s : State) : Res := .next (s.begin.writeNodeCmd (2 ^ 31 + node.toNat))

/-- NODE_WRITE (R360). -/
def execNodeWrite (node : BitVec 11) (s : State) : Res :=
  .next (s.begin.writeNodeCmd (2 ^ 31 + 2 ^ 30 + node.toNat))

/-! ## Gates (R349–R356, R363–R365) -/

/-- The entries of the operational list over one cycle: gates and duration. -/
def Gate.segments (g : Gate) (oper : Bool) (len cycle : Nat) : Nat → Nat → Nat → List (Nat × Nat)
  | 0, _, _ => []
  | n + 1, i, start =>
    let e := g.entry oper i
    if len ≤ i + 1 ∨ cycle ≤ start + e.interval then [(e.gates, cycle - start)]
    else (e.gates, e.interval) :: g.segments oper len cycle n (i + 1) (start + e.interval)

/-- The longest window in which a class is open, over a list of segments. -/
def longestOpen (c : Nat) (l : List (Nat × Nat)) : Nat :=
  (l.foldl (fun (x : Nat × Nat) e =>
    let run := if bitAt e.1 c then x.1 + e.2 else 0
    (run, max x.2 run)) (0, 0)).2

/-- Whether MAX_SDU of a class fits a window of the operational list (R356); the windows join across cycles (R354). -/
def State.sduFits (s : State) (p c : Nat) : Bool :=
  let (len, cycle, _, _) := s.listParams p true
  let l := (s.gate p).segments true len cycle 1024 0 0
  l.all (fun e => bitAt e.1 c)
    || decide ((s.maxSdu p c + 20) * 8 * 1000 ≤ longestOpen c (l ++ l) * s.rate p)

/-- Recomputes SDU_FIT of a port. (DESIGN CHOICE, log 57) -/
def State.sduFit (s : State) (p : Nat) : State :=
  if s.fb (Fld.GTE_CTL_OPER_VALID p) then
    s.fs (Fld.GTE_STAT_SDU_FIT p) ((List.range 8).foldl (fun n c => n + 2 ^ c * ofBool (s.sduFits p c)) 0)
  else s

/-- A write of SCH_SDU_k (R355, R356). -/
def State.writeSdu (s : State) (p k v : Nat) : State :=
  if Spec.SCH_SDU.inRange v then
    let s := s.store Spec.SCH_SDU [p, k] v
    if p < 64 then s.sduFit p else s
  else s.denied Spec.SCH_SDU

/-- Shows the gate states and the entry now in force. -/
def State.showGates (s : State) (p : Nat) : State :=
  let (g, e, _) := s.gatesAt p s.gateNow
  (s.fs (Fld.GTE_STAT_CUR_GATES p) g).fs (Fld.GTE_STAT_CUR_ENTRY p) e

/-- GATE_ENTRY_BOUNDARY: the entry in force is the one network time falls in (R350, R353). -/
def execGateEntryBoundary (port : Nat) (s : State) : Res :=
  let s := s.begin
  if 64 ≤ port then .next s else .next ((s.refreshPort port).showGates port)

/-- The switch of a port's lists (R352). -/
def State.switchGates (s : State) (p : Nat) : State :=
  let s := s.modGate p fun g => { g with oper := !g.oper }
  let s := (s.fs (Fld.GTE_OPER_LEN_LEN p) (s.fg (Fld.GTE_ADMIN_LEN_LEN p))).fs (Fld.GTE_OPER_CYCLE_CYCLE p)
    (s.fg (Fld.GTE_ADMIN_CYCLE_CYCLE p))
  let s := (s.fs (Fld.GTE_OPER_EXT_EXT p) (s.fg (Fld.GTE_ADMIN_EXT_EXT p))).fs (Fld.GTE_OPER_BASE_SH_SEC_HI p)
    (s.fg (Fld.GTE_ADMIN_BASE_SH_SEC_HI p))
  let s := (s.wr (Reg.GTE_OPER_BASE_SL p) (s.rd (Reg.GTE_ADMIN_BASE_SL p))).fs (Fld.GTE_OPER_BASE_NS_NS p)
    (s.fg (Fld.GTE_ADMIN_BASE_NS_NS p))
  let s := ((s.fs (Fld.GTE_CTL_OPER_VALID p) 1).fs (Fld.GTE_CTL_PENDING p) 0).fs (Fld.GTE_CTL_SWITCHED p) 1
  (((s.log 0x0D01).sduFit p).refreshPort p).showGates p

/-- GATE_SWITCH: at its switch time T, a port's administrative list becomes the operational one. -/
def execGateSwitch (port : Nat) (s : State) : Res :=
  let s := s.begin
  if port < 64 ∧ s.fb (Fld.GTE_CTL_PENDING port) ∧ s.changeTime port ≤ s.gateNow then .next (s.switchGates port) else .next s

/-- CONFIG_CHANGE on a port: refused, or the switch time is computed (R351). -/
def State.configChange (s : State) (p : Nat) : State :=
  let (_, cycle, base, ext) := s.listParams p false
  if cycle < ext ∨ s.fb (Fld.GTE_CTL_PENDING p) ∨ !s.fb (Fld.GTE_CFG_EN p) then
    (s.fs (Fld.GTE_CTL_REFUSED p) 1).log 0x0D03
  else
    let t0 := s.gateNow + 10000
    let t := if t0 ≤ base then base else base + ceilDiv (t0 - base) cycle * cycle
    let sec := t / 1000000000
    ((s.fs (Fld.GTE_CHANGE_SH_SEC_HI p) (bitsOf sec 47 32)).wr (Reg.GTE_CHANGE_SL p) (BitVec.ofNat 32 sec)
      |>.fs (Fld.GTE_CHANGE_NS_NS p) (t % 1000000000)).fs (Fld.GTE_CTL_PENDING p) 1

/-- A write of GTE_CTL (R363). -/
def State.writeGteCtl (s : State) (p v : Nat) : State :=
  let s := s.store Spec.GTE_CTL [p] v
  if bitAt v 31 then s.configChange p else s

/-- CONFIG_CHANGE: written to GTE_CTL of a front port. -/
def execConfigChange (port : Nat) (s : State) : Res :=
  let s := s.begin
  if port < 64 then .next (s.writeGteCtl port (2 ^ 31)) else .next s

/-- A write of GTE_CFG: EN = 0 ends the operational list and cancels a pending switch (R352). -/
def State.writeGteCfg (s : State) (p v : Nat) : State :=
  let s := s.store Spec.GTE_CFG [p] v
  let s := if bitAt v 31 then s else (s.fs (Fld.GTE_CTL_OPER_VALID p) 0).fs (Fld.GTE_CTL_PENDING p) 0
  (s.refreshPort p).showGates p

/-- GATE_EN_WRITE: a write of GTE_CFG. -/
def execGateEnWrite (req : Requester) (port : Nat) (value : Word) (s : State) : Res :=
  let s := s.begin
  if port < 64 then .next (s.forReq req fun s => s.writeGteCfg port value.toNat) else .next s

/-- A write of a register of the administrative list, rejected while a switch is pending (R351, R364). -/
def State.writeAdmin (s : State) (r : RegSpec) (p v : Nat) : State :=
  if s.fb (Fld.GTE_CTL_PENDING p) then s.denied r else s.checkedStore r [p] v

/-- A write of GTE_LIST_CMD (R365). (DESIGN CHOICE, log 57) -/
def State.writeListCmd (s : State) (p v : Nat) : State :=
  let old := s
  let s := s.store Spec.GTE_LIST_CMD [p] v
  let i := v % 1024
  let oper := bitAt v 29
  if !bitAt v 31 then s
  else if bitAt v 30 then
    let e : GateEntry :=
      { gates := s.fg (Fld.GTE_LIST_DATA_0_GATES p), interval := s.fg (Fld.GTE_LIST_DATA_1_INTERVAL p) }
    if oper || s.fb (Fld.GTE_CTL_PENDING p) || decide (e.interval < 16 ∨ 1000000000 < e.interval) then
      old.rejectBit (Fld.GTE_LIST_STAT_REJECTED p)
    else
      let s := s.modGate p fun g =>
        if g.oper then { g with bank0 := g.bank0.put i {} e } else { g with bank1 := g.bank1.put i {} e }
      s.done (Fld.GTE_LIST_STAT_DONE p)
  else
    let e := (s.gate p).entry oper i
    ((s.fs (Fld.GTE_LIST_DATA_0_GATES p) e.gates).fs (Fld.GTE_LIST_DATA_1_INTERVAL p) e.interval).done
      (Fld.GTE_LIST_STAT_DONE p)

/-- LIST_ENTRY_READ and LIST_ENTRY_WRITE: GTE_LIST_CMD of a front port written with GO = 1. -/
def execListEntryRead (port : Nat) (oper : Bool) (index : BitVec 10) (s : State) : Res :=
  let s := s.begin
  if port < 64 then .next (s.writeListCmd port (2 ^ 31 + 2 ^ 29 * ofBool oper + index.toNat)) else .next s

/-- LIST_ENTRY_WRITE (R365). -/
def execListEntryWrite (port : Nat) (oper : Bool) (index : BitVec 10) (s : State) : Res :=
  let s := s.begin
  if port < 64 then .next (s.writeListCmd port (2 ^ 31 + 2 ^ 30 + 2 ^ 29 * ofBool oper + index.toNat)) else .next s

end Sys2Proof.Machine
end

