-- ==== Sys2Proof/Machine/Kettle.lean ====
section
/-! DEFINITION. The Kettle (chapter 13): the power states of the slices, early wakes and wake compares, package-memory
self-refresh, the temperature sensors and throttling. The supply warning and the resets stand in Supply.lean. -/

namespace Sys2Proof.Machine

/-! ## Power states (R464, R465) -/

/-- Whether a queue of a port whose egress a slice serves holds a packet that only the slice's state keeps waiting. -/
def State.egressWaits (s : State) (n : Nat) : Bool :=
  (List.range 67).any fun p =>
    s.egressSlice p == n && s.assigned p && (s.portQueues p).any fun q => s.queueEligible p q

/-- Whether a packet head is in a slice's ingress FIFO or in any of its stages (R26). -/
def State.headsIn (s : State) (n : Nat) : Bool :=
  !(s.slice n).fifo.isEmpty || !(s.slice n).inner.isEmpty || s.packets.any fun e =>
    e.2.slice == n && match e.2.stage with
      | .fifo | .parsed | .inContext | .endGate | .issueWait => true
      | _ => false

/-- Whether a slice is idle now (R465). -/
def State.idleNow (s : State) (n : Nat) : Bool :=
  !s.headsIn n && !(s.trw.ctxs.any fun e => e.1 / 128 == n) && (s.slice n).cozy.isEmpty && !s.egressWaits n

/-- How long a slice has been idle, in AON_CLK cycles: idle time starts no earlier than the event an early wake was for
(R472). -/
def State.idleFor (s : State) (n : Nat) : Nat :=
  if s.idleNow n then s.aon - max (s.slice n).idleSince (s.slice n).holdTill else 0

/-- Whether a slice may enter a lower state at all. -/
def State.maySleep (s : State) (n : Nat) : Bool :=
  decide (n < 4) && (s.slice n).inService && !s.waking n && !s.fbit Fld.KTL_HOLD_HOLD_RUN n

/-- DOZE_ENTRY: a slice idle for 1 µs gates its clocks. -/
def execDozeEntry (slice : Nat) (s : State) : Res :=
  let s := s.begin
  if s.maySleep slice && s.power slice == 0 && decide (usCycles ≤ s.idleFor slice) then .next (s.setPower slice 1)
  else .next s

/-- REST_ENTRY: a slice idle for REST_US with REST_EN set power-gates its logic; not under a supply warning (R475). -/
def execRestEntry (slice : Nat) (s : State) : Res :=
  let s := s.begin
  if s.maySleep slice && s.power slice == 1 && s.fbit Fld.KTL_PWR_CFG_REST_EN slice && !s.fb Fld.KTL_PWR_STAT_WARN
      && decide (s.fg Fld.KTL_PWR_CFG_REST_US * usCycles ≤ s.idleFor slice) then
    .next ((s.setPower slice 2).modSlice slice fun x => { x with sleptAt := s.aon })
  else .next s

/-- Whether every front port in a slice's lane range is disabled or down, or the slice has no ports (R464). -/
def State.portsAllowDormant (s : State) (n : Nat) : Bool :=
  s.sliceMode n == 15 || (List.range 16).all fun i =>
    let p := 16 * n + i
    !s.assigned p || !s.fb (Fld.PRT_CFG_ENABLE p) || !s.fb (Fld.PRT_STATUS_LINK p)

/-- DORMANT_ENTRY: from Rest, with DORMANT_EN set and the port condition; never the slice named in TRELLIS_SLICE. -/
def execDormantEntry (slice : Nat) (s : State) : Res :=
  let s := s.begin
  if s.maySleep slice && s.power slice == 2 && s.fbit Fld.KTL_PWR_CFG_DORMANT_EN slice && !s.fb Fld.KTL_PWR_STAT_WARN
      && s.fg Fld.PRT_INTERNAL_CTL_TRELLIS_SLICE != slice && s.portsAllowDormant slice && s.idleNow slice then
    .next (s.setPower slice 3)
  else .next s

/-! ## Early wake (R472, R482) -/

/-- The typical wake time of a slice from its current state, in nanoseconds (R464, R468). -/
def State.wakeNs (s : State) (n : Nat) : Nat :=
  match s.power n with
  | 0 => 0
  | 1 => 150
  | 2 => 5000
  | _ => if (List.range 4).any fun m => m != n && (s.slice m).inService && s.power m != 3 then 90000 else 160000

/-- Whether the wake of a slice for an event at a time is due. -/
def State.wakeDue (s : State) (n at' : Nat) : Bool :=
  decide (at' ≤ s.gateNow + s.wakeNs n + s.fg Fld.KTL_LEAD_LEAD_NS)

/-- Starts the wake of a slice for an event at a time, when it is due; the slice stays in Run until the event. -/
def State.wakeFor (s : State) (n at' : Nat) : State :=
  if (s.slice n).inService && s.wakeDue n at' then
    (s.wake n).modSlice n fun x => { x with holdTill := max x.holdTill (s.aon + ceilDiv (at' - s.gateNow) 40) }
  else s

/-- The time of a wake compare, in nanoseconds. -/
def State.compareTime (s : State) (k : Nat) : Nat :=
  (s.fg (Fld.KTL_WCMP_SH_SEC_HI k) * 2 ^ 32 + (s.rd (Reg.KTL_WCMP_SL k)).toNat) * 1000000000 + s.fg (Fld.KTL_WCMP_NS_NS k)

/-- An armed wake compare starts the wakes that are due; ARM clears when the last of them has started. (DESIGN CHOICE, log
61) -/
def State.compareWake (s : State) (k : Nat) : State :=
  if !s.fb (Fld.KTL_WCMP_CTL_ARM k) then s
  else
    let e := s.compareTime k
    let ns := (List.range 4).filter fun n => s.fbit (Fld.KTL_WCMP_CTL_MASK k) n && (s.slice n).inService
    let done := if ns = [] then decide (e ≤ s.gateNow + s.fg Fld.KTL_LEAD_LEAD_NS) else ns.all fun n => s.wakeDue n e
    let s := ns.foldl (fun s n => s.wakeFor n e) s
    if done && ns.all fun n => s.power n == 0 || s.waking n then s.fs (Fld.KTL_WCMP_CTL_ARM k) 0 else s

/-- The first gate event of a port after a time: a gate of some class changes from closed to open in the list in force,
or a pending switch takes place (R472). -/
def State.nextOpening (s : State) (p limit : Nat) : Nat → Nat → Option Nat
  | 0, _ => none
  | n + 1, t =>
    let (g, _, e) := s.gatesAt p t
    if limit < e then none
    else
      let (g', _, _) := s.gatesAt p e
      if (s.fb (Fld.GTE_CTL_PENDING p) && s.changeTime p == e) || (List.range 8).any fun c => bitAt g' c && !bitAt g c then some e
      else s.nextOpening p limit n e

/-- EARLY_WAKE: ahead of a wake compare or of a gate event, the Kettle starts a wake of the slices concerned. -/
def execEarlyWake (src : WakeSource) (s : State) : Res :=
  let s := s.begin
  match src with
  | .compare k => .next (if k < 16 then s.compareWake k else s)
  | .gate port =>
    if 64 ≤ port ∨ !s.fb (Fld.GTE_CFG_EN port) then .next s
    else
      let n := s.egressSlice port
      match s.nextOpening port (s.gateNow + s.wakeNs n + s.fg Fld.KTL_LEAD_LEAD_NS) 20000 s.gateNow with
      | some e => .next (s.wakeFor n e)
      | none => .next s

/-- A write of KTL_WCMP_CTL_k: ARM = 1 with NS above 999,999,999 is rejected; a compare whose wake time has passed starts its
wake at once (R482, R472). (DESIGN CHOICE, log 61) -/
def State.writeWcmpCtl (s : State) (k v : Nat) : State :=
  if bitAt v 31 ∧ 999999999 < s.fg (Fld.KTL_WCMP_NS_NS k) then s.denied Spec.KTL_WCMP_CTL else (s.store Spec.KTL_WCMP_CTL [k] v).compareWake k

/-- A write of a time field of a wake compare, rejected while it is armed (R482). -/
def State.writeWcmpTime (s : State) (r : RegSpec) (k v : Nat) : State :=
  if s.fb (Fld.KTL_WCMP_CTL_ARM k) then s.denied r else s.store r [k] v

/-- WAKE_COMPARE_ARM: a write of KTL_WCMP_CTL_k. -/
def execWakeCompareArm (req : Requester) (k : Nat) (value : Word) (s : State) : Res :=
  let s := s.begin
  if k < 16 then .next (s.forReq req fun s => s.writeWcmpCtl k value.toNat) else .next s

/-! ## Self-refresh (R473) -/

/-- SELF_REFRESH_ENTRY: every slice has been in Rest or Dormant for SR_IDLE_MS and package memory has seen no
transaction in that time. -/
def execSelfRefreshEntry (s : State) : Res :=
  let s := s.begin
  let idle := s.fg Fld.KTL_SR_CFG_SR_IDLE_MS * msCycles
  if s.fb Fld.KTL_SR_CFG_SR_EN && !s.fb Fld.KTL_PWR_STAT_SR && decide (s.ktl.srIdleSince + idle ≤ s.aon)
      && (List.range 4).all fun n =>
        !(s.slice n).inService || (decide (2 ≤ s.power n ∧ (s.slice n).sleptAt + idle ≤ s.aon) && !s.waking n) then
    .next ({ s with ktl := { s.ktl with srBatchAt := s.aon + s.fg Fld.KTL_SR_CFG_SR_BATCH_MS * msCycles } }.fs
      Fld.KTL_PWR_STAT_SR 1)
  else .next s

/-- SELF_REFRESH_BATCH: every SR_BATCH_MS self-refresh ends so that Prune and Weeder can run their share. -/
def execSelfRefreshBatch (s : State) : Res :=
  let s := s.begin
  if s.fb Fld.KTL_PWR_STAT_SR ∧ s.ktl.srBatchAt ≤ s.aon then .next ((s.fs Fld.KTL_PWR_STAT_SR 0).evc 191) else .next s

/-! ## Temperatures and throttling (R477–R479) -/

/-- A reading of a sensor, in 0.25 °C units: its latest value and its peak since it was last read (R483). (DESIGN CHOICE, log 113) -/
def State.readTemp (s : State) (j : Nat) (t : BitVec 16) : State :=
  let peak := signedOf (s.fg (Fld.KTL_TEMP_PEAK j)) 16
  let s := if s.ktl.seen.contains j && decide (t.toInt ≤ peak) then s else s.fs (Fld.KTL_TEMP_PEAK j) t.toNat
  let s := { s with ktl := { s.ktl with seen := if s.ktl.seen.contains j then s.ktl.seen else j :: s.ktl.seen } }
  s.fs (Fld.KTL_TEMP_TEMP j) t.toNat

/-- The junction temperature: the highest of sensors 0–7 (R477). -/
def State.junction (s : State) : Int :=
  (List.range 8).foldl (fun m j => max m (signedOf (s.fg (Fld.KTL_TEMP_TEMP j)) 16)) (-32768)

/-- The entry temperature of a throttle level, in 0.25 °C units (R478): level 3 at THROTTLE_C + 4 °C or at 110 °C. -/
def State.throttleEntry (s : State) (l : Nat) : Int :=
  let c : Int := 4 * (s.fg Fld.KTL_THERM_CFG_THROTTLE_C : Nat)
  match l with
  | 1 => c
  | 2 => c + 8
  | _ => min (c + 16) 440

/-- The level a junction temperature enters. (DESIGN CHOICE, log 63) -/
def State.throttleFor (s : State) (tj : Int) : Nat :=
  if s.throttleEntry 3 ≤ tj then 3 else if s.throttleEntry 2 ≤ tj then 2 else if s.throttleEntry 1 ≤ tj then 1 else 0

/-- The core clocks of the Glasshouse since reset (R519, R525): 40 in an AON_CLK cycle at 1.0 GHz, 20 at 500 MHz. -/
def State.coreCycles (s : State) : Nat :=
  s.glh.cycles + (s.aon - s.glh.cyclesAt) * (if s.fb Fld.GLH_STATUS_CLK_HALF then 20 else 40)

/-- CLK_HALF shows a Glasshouse clock of 500 MHz: under a warning or a throttle level (R519). -/
def State.showClkHalf (s : State) : State :=
  ({ s with glh := { s.glh with cycles := s.coreCycles, cyclesAt := s.aon } }).fs Fld.GLH_STATUS_CLK_HALF (ofBool (s.fb Fld.KTL_PWR_STAT_WARN || s.fb Fld.KTL_PWR_STAT_THROT))

/-- Follows a change of the junction temperature: the time it has been low enough for the level to fall and the time it
has been at or above 115 °C (R478, R479). -/
def State.watchTj (s : State) : State :=
  let tj := s.junction
  let l := s.fg Fld.KTL_PWR_STAT_THROT
  let low := decide (l ≠ 0 ∧ tj ≤ s.throttleEntry l - 12)
  let hot := decide (460 ≤ tj)
  { s with ktl := { s.ktl with
      lowSince := if low then s.ktl.lowSince.orElse fun _ => some s.aon else none,
      hotSince := if hot then s.ktl.hotSince.orElse fun _ => some s.aon else none } }

/-- A reading of a sensor 0–7, with the rise of the throttle level that it causes. (DESIGN CHOICE, log 63) -/
def State.senseTj (s : State) (j : Nat) (t : BitVec 16) : State :=
  let before := s.junction
  let s := s.readTemp j t
  let tj := s.junction
  let l := s.throttleFor tj
  let s := if s.fg Fld.KTL_PWR_STAT_THROT < l then
      (((s.fs Fld.KTL_PWR_STAT_THROT l).showClkHalf).raiseLine 29).logLimited 0x0110 0 1 l fun _ _ => d1 l ++ d2 (wrapInt tj 16)
    else s
  let s := if before < 440 ∧ 440 ≤ tj then s.log 0x0111 else s
  s.watchTj

/-- THROTTLE_RAISE: a sensor reading with which the junction temperature reaches the next throttle level. -/
def execThrottleRaise (sensor : Nat) (temp : BitVec 16) (s : State) : Res :=
  let s := s.begin
  if sensor < 8 then .next (s.senseTj sensor temp) else .next s

/-- THROTTLE_LOWER: a sensor reading; the level falls by one when Tj has been 3 °C or more below the entry temperature of
the current level for 10 ms, but stays 3 while Tj ≥ 110 °C (R478, R479). -/
def execThrottleLower (sensor : Nat) (temp : BitVec 16) (s : State) : Res :=
  let s := s.begin
  if 8 ≤ sensor then .next s
  else
    let s := s.senseTj sensor temp
    match s.ktl.lowSince with
    | some t =>
      if t + 10 * msCycles ≤ s.aon then
        let l := s.fg Fld.KTL_PWR_STAT_THROT - 1
        let s := ((s.fs Fld.KTL_PWR_STAT_THROT l).showClkHalf).raiseLine 29
        let s := { s with ktl := { s.ktl with lowSince := none } }
        let tj := wrapInt s.junction 16
        .next ((s.logLimited 0x0113 0 1 l fun _ _ => d1 l ++ d2 tj).watchTj)
      else .next s
    | none => .next s

/-- STACK_TEMPERATURE_CHANGE: the temperature a package-memory stack reports; above 85 °C its refresh rate doubles
(R477). -/
def execStackTemperatureChange (stack : Nat) (temp : BitVec 16) (s : State) : Res :=
  let s := s.begin
  if 2 ≤ stack then .next s
  else
    let s := s.readTemp (8 + stack) temp
    .next { s with ktl := { s.ktl with refreshDoubled := setBit s.ktl.refreshDoubled stack (decide (340 < temp.toInt)) } }

end Sys2Proof.Machine
end

