-- ==== Sys2Proof/Machine/Compost.lean ====
section
/-! DEFINITION. The buffer manager's own commands (chapter 8): frees, Compost's walks and audits, spill and read-back, and
the configuration of owners and pools with its legality checks. -/

namespace Sys2Proof.Machine

/-! ## Frees and Compost (R305–R310) -/

/-- CELL_FREE: a requester frees a packet by its first cell and generation (R307). When the free passes its checks, the
packet's charges are released with its cells. -/
def execCellFree (slice code cell gen : Nat) (s : State) : Res :=
  let s := s.begin
  if 4 ≤ slice ∨ 64 ≤ code ∨ 262144 ≤ cell then .next s
  else
    let tag := tagOf slice code
    let h := s.cell cell
    let ok := h.held && !h.badMarker && decide (code ≤ 8) && h.first && (h.tag == tag || code == codeCompost) && h.gen == gen
    let s := s.freeCells tag cell gen
    if !ok then .next s
    else
      match s.packets.find? fun e => e.2.cells.head? == some cell && e.2.gen == gen with
      | some (pid, _) => .next (((s.dropEgress pid).dropIngress pid).dropReturn pid)
      | none => .next s

/-- The home cells of a list, in ascending order. -/
def homeCells (l : Nat) : List Nat := (List.range 8192).map fun i => l / 8 * 65536 + 8 * i + l % 8

/-- FREE_LIST_WALK: Compost checks the next list, and rebuilds it when a check fails (R309). -/
def execFreeListWalk (s : State) : Res :=
  let s := s.begin
  if !s.fb Fld.BUF_CFG_COMPOST_EN then .next s
  else
    let l := s.buf.compostList
    let f := s.freeList l
    let cells := f.cells l
    let count := s.fg (Fld.BUF_FL_COUNT (l / 8) (l % 8))
    let free := fun c => let h := s.cell c; !h.held && !h.badMarker && !h.retired
    let ok := (cells.all fun c => free c && homeList c == l) && cells.length == count
    let s := { s with buf := { s.buf with compostList := (l + 1) % 32 } }
    if ok then .next s
    else
      let cs := (homeCells l).filter free
      let s := s.setFreeList l { fresh := 0, appended := cs }
      .next ((s.inc Reg.BUF_FL_REBUILT).log 0x0B06 (d1 l ++ d4 count ++ d4 cs.length))

/-- AUDIT_CYCLE: every 100 ms the parity flips, live chains are marked, and lost cells are reclaimed (R310). -/
def execAuditCycle (s : State) : Res :=
  let s := s.begin
  if !s.fb Fld.BUF_CFG_COMPOST_EN ∨ s.aon < s.buf.auditAt + 100 * msCycles then .next s
  else
    let p := !s.buf.parity
    let s := { s with buf := { s.buf with parity := p, auditAt := s.aon } }
    let s := s.packets.foldl (fun (s : State) e => e.2.cells.foldl (fun (s : State) c =>
      let h := s.cell c
      if h.held then s.setCell c { h with mark := p } else s) s) s
    let old := fun (h : CellHdr) => decide (s.fg Fld.BUF_CFG_LEAK_MS ≤ (s.flowMs % 65536 + 65536 - h.stamp) % 65536)
    let listed := fun (c : Nat) => ((s.freeList (homeList c)).cells (homeList c)).contains c
    let lost := (s.buf.cells.filter fun e => (e.2.badMarker && !listed e.1) || (e.2.held && e.2.mark != p && old e.2)).map (·.1)
    match lost with
    | [] => .next s
    | c :: _ =>
      let s := lost.foldl (fun (s : State) c => s.appendCell c) s
      .next ((s.inc Reg.BUF_LEAKED lost.length).logLimited 0x0B03 0 lost.length c fun f n => d4 n ++ d4 f)

/-! ## Spill (R314–R319) -/

/-- The on-die cells of a queue item. -/
def State.itemCells (s : State) : QItem → Nat
  | .pkt pid => (s.pkt pid).cells.length
  | .run _ => 0

/-- The on-die cells of a queue. -/
def State.queueCells (s : State) (n : Nat) : Nat := (s.queue n).items.foldl (fun k i => k + s.itemCells i) 0

/-- The queues of an egress owner. -/
def State.ownerQueues (s : State) (o : Nat) : List Nat :=
  let p := (o - 1024) / 8
  (s.portQueues p).filter fun n => (s.queue n).tc == o % 8

/-- Whether a packet may be spilled: it has ended good, is not cut through and is not in transmission (R315). -/
def State.spillable (s : State) (pid : Nat) : Bool :=
  let p := s.pkt pid
  p.ended && p.good && !p.cut && p.stage == .queued && !p.cells.isEmpty

/-- The items of a queue before a run, the packets of the run, and the items after it; `k` is how many cells lie ahead
(R315). -/
def State.cutRun (s : State) (keep : Nat) : Nat → List QItem → List QItem × List Nat × List QItem
  | _, [] => ([], [], [])
  | k, .pkt pid :: r =>
    if keep ≤ k ∧ s.spillable pid then
      let tail := r.takeWhile fun i => match i with | .pkt q => s.spillable q | .run _ => false
      let n := min 256 (tail.length + 1)
      ([], (.pkt pid :: tail).take n |>.filterMap fun i => match i with | .pkt q => some q | .run _ => none,
       (.pkt pid :: r).drop n)
    else
      let (a, b, c) := s.cutRun keep (k + s.itemCells (.pkt pid)) r
      (.pkt pid :: a, b, c)
  | k, .run x :: r => let (a, b, c) := s.cutRun keep k r; (.run x :: a, b, c)

/-- The longest queue of an owner, by its on-die cells, the lower number on ties. (DESIGN CHOICE, log 58) -/
def State.longestQueue (s : State) (o : Nat) : Option Nat :=
  (s.ownerQueues o).foldl (fun b n =>
    match b with
    | none => some n
    | some x => if s.queueCells x < s.queueCells n then some n else some x) none

/-- What the next run of an owner would hold: its longest queue, and the items before the run, the packets of the run, and the items
after it (R315). -/
def State.nextRun (s : State) (o : Nat) : Option (Nat × List QItem × List Nat × List QItem) :=
  (s.longestQueue o).map fun n => (n, s.cutRun (s.fg Fld.BUF_SPILL_CFG_KEEP_CELLS) 0 (s.queue n).items)

/-- The on-die cells of an egress owner. -/
def State.ownerCells (s : State) (o : Nat) : Nat :=
  s.packets.foldl (fun k e => if e.2.egr.area != .none && e.2.egr.owner == o then k + e.2.cells.length else k) 0

/-- The owner of a pool that spills next: with SPILL_EN, below SPILL_MAX and with something to spill, the most on-die cells, the
lower index on ties (R315). (DESIGN CHOICE, log 58) -/
def State.spillOwner (s : State) (pool : Nat) : Option Nat :=
  let ok := fun o =>
    let c := s.ownerCfg o
    o / 8 % 128 ≤ 66 && c.spillEn && c.pool == pool && (c.xoffSpill == 0 || decide ((s.ownerUse o).spillPages < c.xoffSpill))
      && (match s.nextRun o with | some (_, _, pids, _) => !pids.isEmpty | none => false)
  ((s.buf.cfg.map (·.1)).filter fun o => decide (1024 ≤ o) && ok o).foldl (fun b o =>
    match b with
    | none => some o
    | some x => if s.ownerCells x < s.ownerCells o then some o else some x) none

/-- Moves a packet of a run to package memory: its cells are freed under its queue's requester, and its charges are released.
(DESIGN CHOICE, log 58) -/
def State.spillOut (s : State) (pid : Nat) : State :=
  let p := s.pkt pid
  let s := match p.cells with | [] => s | c :: _ => s.freeCells p.tag c p.gen
  let s := (((s.dropEgress pid).dropIngress pid).dropReturn pid)
  s.modPkt pid fun p => { p with cells := [] }

/-- Gives the packets of a run their places in its stream of blocks (R314): each takes a block for its descriptor image and four
for every cell. -/
def State.placeBlocks (s : State) : Nat → List Nat → State
  | _, [] => s
  | b, pid :: r =>
    let k := (s.pkt pid).cells.length
    (s.modPkt pid fun p => { p with blocks := (b, k) }).placeBlocks (b + 1 + 4 * k) r

/-- The pages that a run of packets takes (R314): a descriptor block for each packet, and four blocks for each cell. -/
def State.runPages (s : State) (pids : List Nat) : Nat :=
  ceilDiv (pids.length + 4 * pids.foldl (fun k pid => k + (s.pkt pid).cells.length) 0) 64

/-- Writes packets of a queue of an owner as one run: it takes their place in the queue, and their cells are freed (R314, R315). -/
def State.writeRun (s : State) (o n : Nat) (before : List QItem) (pids : List Nat) (after : List QItem) : State :=
  let pages := s.runPages pids
  let at' := s.freePages pages
  let run : Run :=
    { number := s.newRun, packets := pids, firstPage := at'.headD 0, pages := pages
      cells := pids.foldl (fun k pid => k + (s.pkt pid).cells.length) 0
      oldest := (s.pkt (pids.headD 0)).enq, newest := (s.pkt (pids.getLastD 0)).enq }
  let s := pids.foldl (fun (s : State) pid => s.spillOut pid) (s.placeBlocks 0 pids)
  let s := (s.linkPages at').modQueue n fun q => { q with items := before ++ .run run :: after }
  let s := { s with buf := { s.buf with usedPages := s.buf.usedPages + pages } }
  let s := s.modOwner o fun u => { u with spillPages := u.spillPages + pages }
  let s := (s.pmRun true run).evc 188 pages
  match s.portOf n with | some p => s.refreshPort p | none => s

/-- SPILL_RUN_WRITE: the spill engine writes one run of a pool that spills (R315). -/
def execSpillRunWrite (pool : Nat) (s : State) : Res :=
  let s := s.begin
  if 16 ≤ pool then .next s
  else
    let s := s.spillWatch pool
    let owner := if s.buf.spilling.contains pool then s.spillOwner pool else none
    match owner.bind fun o => (s.nextRun o).map fun x => (o, x) with
    | none => .next s
    | some (o, n, before, pids, after) =>
      if s.spillPages < s.buf.usedPages + s.runPages pids ∨ 262144 ≤ s.allRuns.length then
        .next (if s.buf.spillFull then s else { s with buf := { s.buf with spillFull := true } }.log 0x0B08)
      else .next (s.writeRun o n before pids after)

/-- The first run of a queue: the items before it, the run, the items after it. -/
def splitRun : List QItem → Option (List QItem × Run × List QItem)
  | [] => none
  | .run r :: t => some ([], r, t)
  | .pkt p :: t => (splitRun t).map fun (a, r, b) => (.pkt p :: a, r, b)

/-- Reads a run of a queue of a port back: its packets take its place in the queue (R316). -/
def State.readRun (s : State) (port queue : Nat) (errors : List (Nat × BlockErr)) (before : List QItem) (run : Run)
    (after : List QItem) : State :=
  let (items, s) := (s.pmRun false run).fetchRun port queue errors run
  (s.modQueue queue fun q => { q with items := before ++ items ++ after }).refreshPort port

/-- SPILL_READ_BACK: the spill engine reads the first run of a queue back (R316). `errors` lists the blocks of the run's stream that
read uncorrectable (R318). -/
def execSpillReadBack (queue : Nat) (errors : List (Nat × BlockErr)) (s : State) : Res :=
  let s := s.begin
  match s.portOf queue, splitRun (s.queue queue).items with
  | some port, some (before, run, after) =>
    let ahead := before.foldl (fun k i => k + s.itemCells i) 0
    if s.fg Fld.BUF_SPILL_FETCH_FETCH_CELLS ≤ ahead then .next s
    else .next (s.readRun port queue errors before run after)
  | _, _ => .next s

/-- SPILL_WRITE_CAP_HOLD: the write cap has held back the spilling of a pool for 1 ms without a break (R317). -/
def execSpillWriteCapHold (s : State) : Res :=
  let s := s.begin
  if s.buf.spilling = [] then .next s else .next (s.logLimited 0x0B05 0 1 0 fun _ _ => [])

/-! ## Owners and pools (R303, R324–R327) -/

/-- Whether stage 10 has completed (R512). -/
def State.started (s : State) : Bool := s.nvm.done

/-- Every owner index (R296). -/
def allOwners : List Nat := List.range 536 ++ (List.range 536).map (1024 + ·)

/-- Why a buffer configuration is not legal (R303), in the REASON codes of R325; 0 when it is. -/
def State.bufIllegal (s : State) : Nat :=
  let any := fun (f : Nat → OwnerCfg → Bool) => allOwners.any fun o => f o (s.ownerCfg o)
  let egress := fun p => s.fb (Fld.BUF_POOL_CFG_KIND p)
  let cells := fun p => s.fg (Fld.BUF_POOL_CFG_CELLS p)
  let spills := fun p => s.buf.cfg.any fun e => decide (1024 ≤ e.1) && e.2.spillEn && e.2.pool == p
  let badPool := fun p =>
    if egress p then
      decide (cells p < s.sumMin p) || (spills p && !decide
        (s.fg (Fld.BUF_POOL_SPOFF_SPILL_OFF p) < s.fg (Fld.BUF_POOL_SPON_SPILL_ON p) ∧ s.fg (Fld.BUF_POOL_SPON_SPILL_ON p) ≤ cells p))
    else decide (cells p < s.sumMin p + s.sumHdrm p)
  let total := (List.range 16).foldl (fun n p => if egress p then n else n + cells p) (s.fg Fld.BUF_RET_RET_CELLS)
  let spillBad := s.fb Fld.BUF_SPILL_CFG_EN && decide
    (s.fg Fld.BUF_RET_RET_CELLS < 43 ∨ s.fg Fld.BUF_SPILL_CFG_KEEP_CELLS ≤ s.fg Fld.BUF_SPILL_FETCH_FETCH_CELLS)
  if any fun o c => decide (c.min < 43) || (decide (o < 1024) && c.mir && decide (c.min < 86)) then 2
  else if any fun o c => egress c.pool != decide (1024 ≤ o) then 3
  else if (List.range 16).any badPool || decide (261120 < total) || spillBad then 4
  else if any fun o c => decide (o < 1024 ∧ c.xoffSpill < c.xon) then 5
  else 0

/-- A write of BUF_OWN_CMD (R325). -/
def State.writeOwnCmd (s : State) (v : Nat) : State :=
  let old := s
  let s := s.store Spec.BUF_OWN_CMD [] v
  if !bitAt v 31 then s
  else
    let o := v % 2048
    let no := fun n => old.reject Fld.BUF_OWN_STAT_REJECTED Fld.BUF_OWN_STAT_REASON n
    if 66 < o / 8 % 128 then no 1
    else
      let u := s.ownerUse o
      let s := s.fs Fld.BUF_OWN_DATA_4_USE (u.r + u.s + u.h)
      if bitAt v 30 then
        let c : OwnerCfg :=
          { mir := s.fb Fld.BUF_OWN_DATA_0_MIR, spillEn := s.fb Fld.BUF_OWN_DATA_0_SPILL_EN,
            pool := s.fg Fld.BUF_OWN_DATA_0_POOL, alpha := bitsOf (s.rd Reg.BUF_OWN_DATA_0).toNat 22 20,
            min := s.fg Fld.BUF_OWN_DATA_0_MIN, hdrm := s.fg Fld.BUF_OWN_DATA_1_HDRM,
            xoffSpill := s.fg Fld.BUF_OWN_DATA_2_XOFF_SPILL, xon := s.fg Fld.BUF_OWN_DATA_3_XON }
        let t := { s with buf := { s.buf with cfg := s.buf.cfg.put o (ownerDefault o) c } }
        let why := if s.started then t.bufIllegal else 0
        if why ≠ 0 then no why
        else if (1024 ≤ o ∧ (c.mir ∨ c.hdrm ≠ 0)) ∨ (o < 1024 ∧ c.spillEn) then no 7
        else ((t.poolWatch (s.ownerCfg o).pool).poolWatch c.pool).done Fld.BUF_OWN_STAT_DONE
      else
        let c := s.ownerCfg o
        let d0 := 2 ^ 31 * ofBool c.mir + 2 ^ 29 * ofBool c.spillEn + 2 ^ 24 * c.pool + 2 ^ 20 * c.alpha + c.min
        let put := fun (s : State) (r : Reg) (x : Nat) => s.wr r (BitVec.ofNat 32 x)
        let s := put (put (put s Reg.BUF_OWN_DATA_0 d0) Reg.BUF_OWN_DATA_1 c.hdrm) Reg.BUF_OWN_DATA_2 c.xoffSpill
        let s := put (put s Reg.BUF_OWN_DATA_3 c.xon) Reg.BUF_OWN_DATA_5 u.drops
        (s.modOwner o fun u => { u with drops := 0 }).done Fld.BUF_OWN_STAT_DONE

/-- OWNER_READ and OWNER_WRITE: BUF_OWN_CMD written with GO = 1. -/
def execOwnerRead (owner : BitVec 11) (s : State) : Res := .next (s.begin.writeOwnCmd (2 ^ 31 + owner.toNat))

/-- OWNER_WRITE (R325). -/
def execOwnerWrite (owner : BitVec 11) (s : State) : Res :=
  .next (s.begin.writeOwnCmd (2 ^ 31 + 2 ^ 30 + owner.toNat))

/-- A write of a register of the buffer configuration whose rejection shows in BUF_POOL_STAT (R324, R326): out of range,
or, after start, breaking a condition of R303. -/
def State.writeBufReg (s : State) (r : RegSpec) (ix : List Nat) (v : Nat) : State :=
  let no := fun n => s.reject Fld.BUF_POOL_STAT_REJECTED Fld.BUF_POOL_STAT_REASON n
  if !r.inRange v then no 8
  else
    let t := s.store r ix v
    let why := if s.started then t.bufIllegal else 0
    if why ≠ 0 then no why else (List.range 16).foldl (fun (s : State) p => s.spillWatch p) t

/-- A write of BUF_POOL_CFG_p: KIND cannot change while any owner maps to the pool (R326). -/
def State.writeBufPool (s : State) (p v : Nat) : State :=
  if bitAt v 31 != s.fb (Fld.BUF_POOL_CFG_KIND p) && allOwners.any fun o => (s.ownerCfg o).pool == p then
    s.reject Fld.BUF_POOL_STAT_REJECTED Fld.BUF_POOL_STAT_REASON 3
  else (s.writeBufReg Spec.BUF_POOL_CFG [p] v).poolWatch p

/-- A write of BUF_SPILL_CFG: EN and EXT are start-only (R324). -/
def State.writeSpillCfg (s : State) (v : Nat) : State :=
  if s.started && bitsOf v 31 30 != bitsOf (s.rd Reg.BUF_SPILL_CFG).toNat 31 30 then
    s.reject Fld.BUF_POOL_STAT_REJECTED Fld.BUF_POOL_STAT_REASON 8
  else s.writeBufReg Spec.BUF_SPILL_CFG [] v

/-- A write of BUF_MIR_TRUNC_m: 0, or 64–10,240 (R327). -/
def State.writeMirTrunc (s : State) (m v : Nat) : State :=
  let n := v % 16384
  if n = 0 ∨ (64 ≤ n ∧ n ≤ 10240) then s.store Spec.BUF_MIR_TRUNC [m] v
  else s.reject Fld.BUF_POOL_STAT_REJECTED Fld.BUF_POOL_STAT_REASON 8

end Sys2Proof.Machine
end

