-- ==== Sys2Proof/Machine/Time.lean ====
section
/-! DEFINITION. The time unit (chapter 10): the counter and its steps, the timestamp queues as they are read, and the pulses
per second. -/

namespace Sys2Proof.Machine

/-! ## The counter (R367–R372) -/

/-- Adds to event counter `i` only when something is to be added. -/
def State.evcSome (s : State) (i k : Nat) : State := if k = 0 then s else s.evc i k

/-- How many of the next `n` AON_CLK cycles a port is paused by its partner, under PAUSE or any PFC priority. -/
def State.pausedFor (s : State) (p n : Nat) : Nat :=
  (s.port p).pauses.foldl (fun m e =>
    match e.2.till, e.2.wdTill with
    | some t, none => max m (min n (t - s.aon))
    | _, _ => m) 0

/-- Counts a number of clocks the model does not fix, at most `bound`: a free value. -/
def State.evcFree (s : State) (i bound : Nat) : State :=
  let (v, s) := s.free
  s.evcSome i (v.toNat % (bound + 1))

/-- Whether no context of a Glasshouse core runs, so that the core issues nothing. -/
def State.coreIdle (s : State) (k : Nat) : Bool :=
  (List.range 8).all fun c => (s.glh.cores.get (8 * k + c) {}).state != 2

/-- Counts the clocks in which something waited (R559): a stalled slice, a flow operation that waits for a tag, a Glasshouse core
that issues nothing, and a port with a head that only its shapers or its gate keep back. The clocks the other shares of
package memory waited, those in which a core with a running context issued nothing, and how long such a head waited are free
values. (DESIGN CHOICE, log 46) -/
def State.countWaits (s : State) (n : Nat) : State :=
  let s := (List.range 4).foldl (fun (s : State) k => if s.sliceStalled k then s.evcSome (49 + 4 * k) (50 * n) else s) s
  let s := if s.fle.tagQueue.isEmpty then s else s.evcSome 40 (50 * n)
  let s := [41, 42, 43].foldl (fun (s : State) i => s.evcFree i (50 * n)) s
  let clocks := n * (if s.fb Fld.GLH_STATUS_CLK_HALF then 20 else 40)
  let s := (List.range 4).foldl (fun (s : State) k =>
    if s.coreIdle k then s.evcSome (160 + k) clocks else s.evcFree (160 + k) clocks) s
  s.ports.foldl (fun (s : State) e =>
    if e.1 < 64 ∧ (s.portQueues e.1).any (s.headWaits e.1) then s.evcFree (256 + e.1) (50 * n) else s) s

/-- Counts the clocks of `n` AON_CLK cycles, 50 core clocks each: slice states, self-refresh, paused ports and waits (R559).
(DESIGN CHOICE, log 46) -/
def State.countClocks (s : State) (n : Nat) : State :=
  let s := s.countWaits n
  let s := (List.range 4).foldl (fun (s : State) k =>
    if (s.slice k).inService then s.evcSome (164 + 4 * k + s.power k) (50 * n) else s) s
  let s := if s.fb Fld.KTL_PWR_STAT_SR then s.evcSome 190 (50 * n) else s
  s.ports.foldl (fun (s : State) e => if e.1 < 64 then s.evcSome (192 + e.1) (50 * s.pausedFor e.1 n) else s) s

/-- Settings of PPS_OUT take effect at a second boundary; with EN = 0 the pin is low (R385). -/
def State.ppsBoundary (s : State) : State :=
  let en := s.fb Fld.TIM_PPSOUT_CFG_EN
  let s := { s with tim := { s.tim with
    pps := (en, s.fg Fld.TIM_PPSOUT_CFG_WIDTH_US, s.fg Fld.TIM_PPSOUT_OFS_OFFSET_NS) } }
  if !en && s.tim.ppsHigh then { s with tim := { s.tim with ppsHigh := false } }.emit (.ppsOut false) else s

/-- `n` edges of AON_CLK with no step: the counter adds the increment at each (R368). (DESIGN CHOICE, log 4) -/
def State.tickPlain (s : State) (n : Nat) : State :=
  let inc := { s with tim := { s.tim with adjPending := none } }.increment
  let net := s.net.move ((n * inc : Nat) : Int)
  let t := { s with tim := { s.tim with adjPending := none } }.countClocks n
  let t := { t with aon := s.aon + n, net := net }
  if net.sec = s.net.sec then t else t.ppsBoundary

/-- The detail of a time difference: 4 bytes, signed, saturated (R371, R634). -/
def diffBytes (d : Int) : List Byte := beBytes 4 (wrapInt (max (-(2 ^ 31 - 1)) (min (2 ^ 31 - 1) d)) 32)

/-- The gates of a port follow a step (R353): the entry the new time falls in, and a switch whose time is past. -/
def State.realign (s : State) (p : Nat) : State :=
  if !s.fb (Fld.GTE_CFG_EN p) then s
  else
    let s := s.log 0x0D04 (d1 p)
    if s.fb (Fld.GTE_CTL_PENDING p) ∧ s.changeTime p ≤ s.gateNow then s.switchGates p
    else (s.refreshPort p).showGates p

/-- PPS_OUT follows a step (R372): a high pulse finishes its width, and the next rise falls at the first boundary of the
new time at least 1 µs after it. -/
def State.ppsStep (s : State) : State :=
  let past := decide (s.tim.pps.2.2 ≤ s.net.ns)
  { s with tim := { s.tim with
      ppsLast := if past then some s.net.sec else none,
      ppsNotBefore := if s.tim.ppsHigh then s.tim.ppsFallAt + usCycles else 0 } }

/-- The edge at which a pending step is applied (R371), with every user of network time but the Glasshouse's compares (R372).
The rate in force at that edge is the old one when ADJ was written with the step. (DESIGN CHOICE, log 60) -/
def State.applyStep (s : State) : State :=
  match s.tim.step with
  | none => s
  | some (offset, a, b) =>
    let old := s.net
    let inc := s.increment
    let s := s.countClocks 1
    let net := if offset then old.move ((inc : Int) + signedOf a 32 * 2 ^ 48) else { sec := a, ns := b, frac := 0 }
    let s := { s with aon := s.aon + 1, net := net, tim := { s.tim with step := none, adjPending := none } }
    let s := (s.fs Fld.TIM_STEP_CTL_BUSY 0).fs Fld.TIM_STEP_CTL_STEP_SEQ ((s.fg Fld.TIM_STEP_CTL_STEP_SEQ + 1) % 256)
    let s := s.log 0x0E02 (diffBytes ((net.toNs : Int) - old.toNs))
    let s := (List.range 64).foldl (fun (s : State) p => s.realign p) s
    ((List.range 16).foldl (fun (s : State) k => s.compareWake k) s).ppsStep

/-- A write of TIM_ADJ, rejected outside ±4,294,967 (R368). -/
def State.writeAdj (s : State) (v : Word) : State :=
  if v.toInt < -4294967 ∨ 4294967 < v.toInt then s.denied Spec.TIM_ADJ
  else
    { s with tim := { s.tim with adjPending := s.tim.adjPending.orElse fun _ => some (s.rd Reg.TIM_ADJ) } }.wr Reg.TIM_ADJ v

/-- A write of TIM_STEP_CTL (R371): the values of a step are taken at its GO. (DESIGN CHOICE, log 60) -/
def State.writeStepCtl (s : State) (v : Nat) : State :=
  let old := s
  let s := s.store Spec.TIM_STEP_CTL [] v
  if !bitAt v 31 then s
  else
    let offset := bitAt v 30
    let ns := s.fg Fld.TIM_SET_NS_NS
    if s.tim.step.isSome ∨ (!offset ∧ 999999999 < ns) then old.rejectBit Fld.TIM_STEP_CTL_REJECTED
    else
      let x := if offset then (true, (s.rd Reg.TIM_STEP_OFS).toNat, 0)
        else (false, (s.rd Reg.TIM_SET_SH).toNat * 2 ^ 32 + (s.rd Reg.TIM_SET_SL).toNat, ns)
      { s with tim := { s.tim with step := some x } }.fs Fld.TIM_STEP_CTL_BUSY 1

/-- TIME_STEP_GO: TIM_STEP_CTL written with GO = 1. -/
def execTimeStepGo (mode : Bool) (s : State) : Res := .next (s.begin.writeStepCtl (2 ^ 31 + 2 ^ 30 * ofBool mode))

/-- A read of TIM_NOW_NS latches the seconds and the fraction of the same moment (R370), from the copy of the management block
(R373). -/
def State.readNowNs (s : State) : Word × State :=
  let (t, s) := s.sampleTime
  let s := (s.wr Reg.TIM_NOW_SH (BitVec.ofNat 32 (t.sec / 2 ^ 32))).wr Reg.TIM_NOW_SL (BitVec.ofNat 32 t.sec)
  (BitVec.ofNat 32 t.ns, s.fs Fld.TIM_NOW_FRAC_FRAC (t.frac / 2 ^ 32))

/-- TIM_NOW_NS_READ (R370). -/
def execTimNowNsRead (s : State) : Res :=
  let (v, s) := s.begin.readNowNs
  .next (s.emit (.readData v))

/-! ## Timestamp queues (R379, R380) -/

/-- The 16 bytes of a timestamp entry (R379). -/
def TsEntry.bytes (e : TsEntry) : List Byte :=
  let t := e.at?.getD {}
  beBytes 2 e.id ++ beBytes 1 e.port ++ beBytes 1 (32 * e.fate + 16 * ofBool e.notify + e.seq % 4) ++ beBytes 6 t.sec
    ++ beBytes 4 t.ns ++ beBytes 2 (t.frac / 2 ^ 32)

/-- A read of TIM_TSQ_W0 takes the head entry of a slice's queue; an empty queue reads fate 7 and zeros (R380). -/
def State.readTsq (s : State) (slice : Nat) : Word × State :=
  let word := fun bs k => BitVec.ofNat 32 (beNat (sliceBytes bs (4 * k) 4))
  let q := s.tim.tsq.get slice []
  let bs := match q with | [] => beBytes 4 0xE0 ++ List.replicate 12 0 | e :: _ => e.bytes
  let s := { s with tim := { s.tim with tsq := s.tim.tsq.put slice [] q.tail } }
  let s := (s.wr (Reg.TIM_TSQ_W1 slice) (word bs 1)).wr (Reg.TIM_TSQ_W2 slice) (word bs 2)
  (word bs 0, s.wr (Reg.TIM_TSQ_W3 slice) (word bs 3))

/-- TSQ_W0_READ (R380). -/
def execTsqW0Read (slice : Nat) (s : State) : Res :=
  let s := s.begin
  if 4 ≤ slice then .next s
  else
    let (v, s) := s.readTsq slice
    .next (s.emit (.readData v))

/-! ## Pulses per second (R385, R386) -/

/-- PPS_OUT_RISE: the counter has passed a whole second plus OFFSET_NS (R385). -/
def execPpsOutRise (s : State) : Res :=
  let s := s.begin
  let (en, width, offset) := s.tim.pps
  let since := ceilDiv (s.net.ns - offset) 40
  if en && !s.tim.ppsHigh && decide (offset ≤ s.net.ns ∧ s.tim.ppsNotBefore + since ≤ s.aon) && s.tim.ppsLast != some s.net.sec then
    .next ({ s with tim := { s.tim with
      ppsHigh := true, ppsFallAt := s.aon + width * usCycles, ppsLast := some s.net.sec } }.emit (.ppsOut true))
  else .next s

/-- PPS_OUT_FALL: the pulse has been high for WIDTH_US (R385). -/
def execPpsOutFall (s : State) : Res :=
  let s := s.begin
  if s.tim.ppsHigh ∧ s.tim.ppsFallAt ≤ s.aon then
    .next ({ s with tim := { s.tim with ppsHigh := false } }.emit (.ppsOut false))
  else .next s

/-- PPS_IN_CAPTURE: a rising edge on PPS_IN after at least 100 ns of low level (R386). -/
def execPpsInCapture (s : State) : Res :=
  let s := s.begin
  let early : Bool := match s.tim.ppsInLast with | some t => decide (s.aon < t + msCycles) | none => false
  if !s.fb Fld.TIM_PPSIN_CTL_EN || early then .next s
  else
    let (t, s) := s.sampleTime
    let s := { s with tim := { s.tim with ppsInLast := some s.aon } }
    let s := if s.fb Fld.TIM_PPSIN_CTL_CAPTURED then
        (s.fs Fld.TIM_PPSIN_CTL_MISSED 1).logLimited 0x0E04 0 1 0 fun _ _ => []
      else s
    let s := (s.fs Fld.TIM_PPSIN_SH_SEC_HI (t.sec / 2 ^ 32 % 65536)).wr Reg.TIM_PPSIN_SL (BitVec.ofNat 32 t.sec)
    let s := (s.fs Fld.TIM_PPSIN_NS_NS t.ns).fs Fld.TIM_PPSIN_FRAC_FRAC (t.frac / 2 ^ 32)
    .next ((s.fs Fld.TIM_PPSIN_CTL_CAPTURED 1).raiseLine 20)

end Sys2Proof.Machine
end

