-- ==== Sys2Proof/Machine/Counters.lean ====
section
/-! DEFINITION. The counters as software reads and sets them, and Harvest (chapter 16). The counting itself stands in Ops. -/

namespace Sys2Proof.Machine

/-! ## Counters (R558–R567, R577–R579) -/

/-- A read of PMU_EVC_LO_n latches bits 47:32 into HI (R560). -/
def State.readEvcLo (s : State) (n : Nat) : Word × State :=
  let v := s.pmu.evc.get n 0
  (BitVec.ofNat 32 v, s.fs (Fld.PMU_EVC_HI_COUNT_HI n) (v / 2 ^ 32))

/-- PMU_EVC_LO_READ (R560). -/
def execPmuEvcLoRead (n : Nat) (s : State) : Res :=
  let s := s.begin
  if 512 ≤ n then .next s
  else
    let (v, s) := s.readEvcLo n
    .next (s.emit (.readData v))

/-- Latches the upper bits of filtered counter m. -/
def State.latchFc (s : State) (m : Nat) : State := s.fs (Fld.PMU_FC_CNT_HI_COUNT_HI m) (s.pmu.fc.get m 0 / 2 ^ 32)

/-- A read of PMU_FC_CNT_LO_m (R564). In the small configuration a read of an even counter latches its own HI and both
words of its pair, and the odd counter's LO reads its latch. -/
def State.readFcLo (s : State) (m : Nat) : Word × State :=
  let full := s.fb Fld.PMU_FC_CTL_FULL
  let v := BitVec.ofNat 32 (s.pmu.fc.get m 0)
  if full then (v, s.latchFc m)
  else if m % 2 = 0 then
    (v, ((s.latchFc m).latchFc (m + 1)).wr (Reg.PMU_FC_CNT_LO (m + 1)) (BitVec.ofNat 32 (s.pmu.fc.get (m + 1) 0)))
  else (s.rd (Reg.PMU_FC_CNT_LO m), s)

/-- PMU_FC_CNT_LO_READ (R564). -/
def execPmuFcCntLoRead (n : Nat) (s : State) : Res :=
  let s := s.begin
  if 64 ≤ n then .next s
  else
    let (v, s) := s.readFcLo n
    .next (s.emit (.readData v))

/-- A write of a filter register of counter m, rejected while it counts (R564). -/
def State.writeFilter (s : State) (r : RegSpec) (m v : Nat) : State :=
  if s.fb Fld.PMU_FC_CTL_RUN && s.fb (Fld.PMU_FC_CFG_EN m) then s.denied r else s.checkedStore r [m] v

/-- A write of PMU_FC_CNT_LO_m or HI_m sets the counter; it is rejected while RUN = 1 (R564). -/
def State.writeFcCnt (s : State) (m : Nat) (hi : Bool) (v : Nat) : State :=
  let r := if hi then Spec.PMU_FC_CNT_HI else Spec.PMU_FC_CNT_LO
  if s.fb Fld.PMU_FC_CTL_RUN then s.denied r
  else
    let x := s.pmu.fc.get m 0
    let y := if hi then v % 256 * 2 ^ 32 + x % 2 ^ 32 else x / 2 ^ 32 * 2 ^ 32 + v % 2 ^ 32
    let s := { s with pmu := { s.pmu with fc := s.pmu.fc.put m 0 y } }
    s.store r [m] v

/-- A write of PMU_FC_CTL (R561, R564): FULL changes only while RUN = 0, and a change zeroes every counter and its sticky bit.
(DEDUCED, log 115) -/
def State.writeFcCtl (s : State) (v : Nat) : State :=
  if bitAt v 30 = s.fb Fld.PMU_FC_CTL_FULL then s.store Spec.PMU_FC_CTL [] v
  else if s.fb Fld.PMU_FC_CTL_RUN then s.denied Spec.PMU_FC_CTL
  else
    let s := { s with pmu := { s.pmu with fc := [] } }
    ((s.wr (Reg.PMU_FC_WRAP 0) 0).wr (Reg.PMU_FC_WRAP 1) 0).store Spec.PMU_FC_CTL [] v

/-- FC_RUN_WRITE and FC_FULL_WRITE: a write of PMU_FC_CTL. -/
def execFcRunWrite (req : Requester) (value : Word) (s : State) : Res :=
  .next (s.begin.forReq req fun s => s.writeFcCtl value.toNat)

/-- FC_FULL_WRITE (R561). -/
def execFcFullWrite (req : Requester) (value : Word) (s : State) : Res :=
  .next (s.begin.forReq req fun s => s.writeFcCtl value.toNat)

/-- A write of PMU_Q_CMD (R567, R579). -/
def State.writePmuQ (s : State) (v : Nat) : State :=
  let s := s.store Spec.PMU_Q_CMD [] v
  if !bitAt v 31 then s
  else
    let n := v % 16384
    let q := s.queue n
    let put := fun (s : State) w x => (s.wr (Reg.PMU_Q_DATA w) (BitVec.ofNat 32 (x / 2 ^ 32))).wr (Reg.PMU_Q_DATA (w + 1)) (BitVec.ofNat 32 x)
    let s := put (put (put s 0 q.sentPkts) 2 q.sentBytes) 4 q.dropped
    if bitAt v 30 then s.modQueue n fun q => { q with sentPkts := 0, sentBytes := 0, dropped := 0 } else s

/-- QUEUE_COUNTS_READ: PMU_Q_CMD written with GO = 1. -/
def execQueueCountsRead (queue : BitVec 14) (clear : Bool) (s : State) : Res :=
  .next (s.begin.writePmuQ (2 ^ 31 + 2 ^ 30 * ofBool clear + queue.toNat))

/-- A read of a word of a port's statistics at an offset of R565: LO latches HI. -/
def State.readStat (s : State) (port off : Nat) : Word × State :=
  let k := port * 64 + (off - 0x200) / 8
  if off % 8 = 0 then
    let v := s.pmu.stats.get k 0
    (BitVec.ofNat 32 v, { s with pmu := { s.pmu with statHi := s.pmu.statHi.put k 0 (v / 2 ^ 32) } })
  else (BitVec.ofNat 32 (s.pmu.statHi.get k 0), s)

/-! ## Frames that the device builds -/

/-- A checksum that is sent as 0xFFFF when it is zero. -/
def udpSum (n : Nat) : Nat := if n = 0 then 0xFFFF else n

/-- The addresses of a UDP datagram the device sends. -/
structure UdpEnds where
  v6 : Bool
  src : Nat
  dst : Nat
  sport : Nat
  dport : Nat

/-- A UDP datagram over IPv4 with DF set and a TTL of 64, or over IPv6 with a hop limit of 64 (R574). The fields the spec
does not name are zero. -/
def udpPacket (u : UdpEnds) (payload : List Byte) : List Byte :=
  let n := payload.length + 8
  let a := if u.v6 then 16 else 4
  let udp := fun c => beBytes 2 u.sport ++ beBytes 2 u.dport ++ beBytes 2 n ++ beBytes 2 c ++ payload
  let pseudo := beBytes a u.src ++ beBytes a u.dst ++ (if u.v6 then beBytes 4 n ++ beBytes 4 17 else beBytes 2 17 ++ beBytes 2 n)
  let body := udp (udpSum (inetSum (pseudo ++ udp 0)))
  if u.v6 then beBytes 4 0x60000000 ++ beBytes 2 n ++ beBytes 1 17 ++ beBytes 1 64 ++ beBytes 16 u.src ++ beBytes 16 u.dst ++ body
  else
    let h := fun c => beBytes 2 0x4500 ++ beBytes 2 (20 + n) ++ beBytes 2 0 ++ beBytes 2 0x4000 ++ beBytes 1 64 ++ beBytes 1 17
      ++ beBytes 2 c ++ beBytes 4 u.src ++ beBytes 4 u.dst
    h (inetSum (h 0)) ++ body

/-- An Ethernet frame around an IP packet, padded, with its FCS. -/
def ipFrame (dst src : Nat) (v6 : Bool) (ip : List Byte) : List Byte :=
  finishFrame (beBytes 6 dst ++ beBytes 6 src ++ beBytes 2 (if v6 then 0x86DD else 0x0800) ++ ip)

/-- The management port's MAC address. -/
def State.mgtMac (s : State) : Nat := s.fg Fld.MGT_MAC_HI_MAC_HI * 2 ^ 32 + (s.rd Reg.MGT_MAC_LO).toNat

/-- Hands a frame to the management port's MAC; nothing leaves while its link is down. -/
def State.mgmtSend (s : State) (frame : List Byte) : State := if s.fb Fld.MGT_STATUS_LINK then s.emit (.mgmt frame) else s

/-! ## Harvest's messages (R568, R571, R573, R574) -/

/-- The field specifiers of a template: element, length, and whether it is a reverse element of enterprise 29305. -/
def templateFields : Nat → List (Nat × Nat × Bool)
  | 256 => [(8, 4, false), (12, 4, false), (7, 2, false), (11, 2, false), (4, 1, false), (136, 1, false), (234, 4, false),
            (86, 8, false), (85, 8, false), (86, 8, true), (85, 8, true), (152, 8, false), (153, 8, false), (225, 4, false),
            (227, 2, false)]
  | 257 => [(27, 16, false), (28, 16, false), (7, 2, false), (11, 2, false), (4, 1, false), (136, 1, false), (234, 4, false),
            (86, 8, false), (85, 8, false), (86, 8, true), (85, 8, true), (152, 8, false), (153, 8, false), (281, 16, false),
            (227, 2, false)]
  | _ => [(230, 1, false), (323, 8, false), (234, 4, false), (8, 4, false), (225, 4, false), (4, 1, false), (7, 2, false),
          (227, 2, false), (361, 2, false), (362, 2, false), (283, 4, false)]

/-- The length of a record of a template. -/
def templateLen (t : Nat) : Nat := (templateFields t).foldl (fun n f => n + f.2.1) 0

/-- A template set. -/
def templateSet (t : Nat) : List Byte :=
  let fs := templateFields t
  let body := fs.flatMap fun f =>
    if f.2.2 then beBytes 2 (0x8000 + f.1) ++ beBytes 2 f.2.1 ++ beBytes 4 29305 else beBytes 2 f.1 ++ beBytes 2 f.2.1
  beBytes 2 2 ++ beBytes 2 (body.length + 8) ++ beBytes 2 t ++ beBytes 2 fs.length ++ body

/-- An address in four registers, big-endian from word 0; an IPv4 address lies in word 3 (R580). -/
def State.address (s : State) (r : Nat → Reg) (v6 : Bool) : Nat :=
  if v6 then (List.range 4).foldl (fun n w => n * 2 ^ 32 + (s.rd (r w)).toNat) 0 else (s.rd (r 3)).toNat

/-- The frame of an IPFIX message that holds some sets (R574). -/
def State.ipfixFrame (s : State) (sets : List Byte) : List Byte :=
  let v6 := s.fb Fld.HRV_CFG_V6
  let msg := beBytes 2 10 ++ beBytes 2 (16 + sets.length) ++ beBytes 4 s.net.sec ++ beBytes 4 (s.rd Reg.HRV_SEQ).toNat
    ++ beBytes 4 (s.rd Reg.HRV_DOMAIN).toNat ++ sets
  let u : UdpEnds :=
    { v6 := v6, src := s.address Reg.HRV_SRC v6, dst := s.address Reg.HRV_DST v6, sport := s.fg Fld.HRV_PORTS_SRC_PORT,
      dport := s.fg Fld.HRV_PORTS_DST_PORT }
  let src := if s.fb Fld.HRV_CFG_DEST then s.portMac (s.fg Fld.HRV_CFG_PORT) else s.mgtMac
  ipFrame (s.nextHop (s.fg Fld.HRV_NHOP_NHOP)).dst src v6 (udpPacket u msg)

/-- Enqueues a frame that the device itself made on a queue of a port, through the checks of R335: whether it was
enqueued, and the state. No slice runs a program for it. -/
def State.sendOwn (s : State) (port q : Nat) (frame : List Byte) : Bool × State :=
  let slice := s.egressSlice port
  let n := cellsFor frame.length
  let (cs, s') := s.allocCells slice codeGlasshouse n
  if cs.length < n then (false, s)
  else
    let p : Packet :=
      { bytes := frame, inPort := 66, slice := slice, rx := s'.net, ended := true, good := true, len := frame.length, cells := cs,
        gen := (s'.cell (cs.headD 0)).gen, tag := codeGlasshouse, desc := s'.newDesc, stage := .issueWait, runSlice := 64 }
    let (pid, s) := s'.addPkt p
    let s := (s.linkCells pid 0 frame.length cs).enqueue pid port q
    (s.hasPkt pid, if s.hasPkt pid then s.refreshPort port else s)

/-- Sends an IPFIX message with `n` data records: to the front port's queue, or to the management port's MAC. -/
def State.sendIpfix (s : State) (sets : List Byte) (n : Nat) : State :=
  let f := s.ipfixFrame sets
  let sent := fun (s : State) =>
    ((s.inc Reg.HRV_MSGS).inc Reg.HRV_RECORDS n).wr Reg.HRV_SEQ (s.rd Reg.HRV_SEQ + BitVec.ofNat 32 n)
  if s.fb Fld.HRV_CFG_DEST then
    match s.sendOwn (s.fg Fld.HRV_CFG_PORT) (s.fg Fld.HRV_CFG_QUEUE) f with
    | (true, s) => sent s
    | (false, s) => s.inc Reg.HRV_LOST n
  else sent (s.mgmtSend f)

/-- Sends all three templates in one message (R574). -/
def State.sendTemplates (s : State) : State :=
  { s with hrv := { s.hrv with templatesAt := s.aon } }.sendIpfix (templateSet 256 ++ templateSet 257 ++ templateSet 258) 0

/-- TEMPLATE_REFRESH: every TPL_S (R574). -/
def execTemplateRefresh (s : State) : Res :=
  let s := s.begin
  if s.fb Fld.HRV_CFG_EN ∧ s.hrv.templatesAt + s.fg Fld.HRV_TIMERS_TPL_S * secCycles ≤ s.aon then .next s.sendTemplates
  else .next s

/-- How many records of a template a message holds (R574): the IP packet stays within MTU. (DESIGN CHOICE, log 71) -/
def State.perMessage (s : State) (t : Nat) : Nat :=
  (s.fg Fld.HRV_MTU_MTU - (if s.fb Fld.HRV_CFG_V6 then 40 else 20) - 28) / templateLen t

/-- The template whose message closes: the next record would take the packet beyond MTU, or FLUSH_MS has passed since its
first record. The template of the oldest record comes first. (DESIGN CHOICE, log 71) -/
def State.closing (s : State) : Option Nat :=
  (s.hrv.queue.map (·.template)).eraseDups.find? fun t =>
    let rs := s.hrv.queue.filter fun r => r.template == t
    decide (s.perMessage t < rs.length)
      || match rs with | r :: _ => decide (r.at' + s.fg Fld.HRV_TIMERS_FLUSH_MS * msCycles ≤ s.aon) | [] => false

/-- Takes up to `n` records of a template from a queue: those taken, and the rest. -/
def takeRecords (t : Nat) : Nat → List HarvestRec → List HarvestRec × List HarvestRec
  | 0, l => ([], l)
  | _ + 1, [] => ([], [])
  | n + 1, r :: l =>
    if r.template = t then let (a, b) := takeRecords t n l; (r :: a, b)
    else let (a, b) := takeRecords t (n + 1) l; (a, r :: b)

/-- MESSAGE_CLOSE: a message closes and is sent, unless the rate limit holds its records back (R574, R575). -/
def execMessageClose (s : State) : Res :=
  let s := s.begin
  match (if s.fb Fld.HRV_CFG_EN then s.closing else none) with
  | none => .next s
  | some t =>
    let (rs, rest) := takeRecords t (s.perMessage t) s.hrv.queue
    let s := if s.hrv.secondAt + secCycles ≤ s.aon then
        { s with hrv := { s.hrv with secondAt := s.aon, sentInSecond := 0 } } else s
    if s.fg Fld.HRV_RATE_RATE_KRPS * 1000 < s.hrv.sentInSecond + rs.length then
      .next { s with hrv := { s.hrv with heldSince := s.hrv.heldSince.orElse fun _ => some s.aon } }
    else
      let s := { s with hrv := { s.hrv with queue := rest, sentInSecond := s.hrv.sentInSecond + rs.length } }
      let set := beBytes 2 t ++ beBytes 2 (4 + rs.length * templateLen t) ++ rs.flatMap (·.bytes)
      let s := s.sendIpfix set rs.length
      .next (if s.closing.isNone then { s with hrv := { s.hrv with heldSince := none } } else s)

/-- RATE_LIMIT_HOLD: the rate limit has held records back for 1 s without a break (R575). -/
def execRateLimitHold (s : State) : Res :=
  let s := s.begin
  match s.hrv.heldSince with
  | some t => if t + secCycles ≤ s.aon then .next (s.logLimited 0x1302 0 1 0 fun _ _ => []) else .next s
  | none => .next s

/-- A write of HRV_CFG (R574, R575): EN = 1 starts with the templates and sequence number 0, EN = 0 discards the queue. A
write that changes the destination or the transport while EN = 1 is rejected. -/
def State.writeHrvCfg (s : State) (v : Nat) : State :=
  let was := s.fb Fld.HRV_CFG_EN
  let old := (s.rd Reg.HRV_CFG).toNat
  if was ∧ bitsOf v 30 8 ≠ bitsOf old 30 8 then s.denied Spec.HRV_CFG
  else
    let s := s.store Spec.HRV_CFG [] v
    if !was && bitAt v 31 then (s.wr Reg.HRV_SEQ 0).sendTemplates
    else if was && !bitAt v 31 then
      { s with hrv := { s.hrv with queue := [], heldSince := none } }.inc Reg.HRV_LOST s.hrv.queue.length
    else s

/-- HARVEST_EN_WRITE: a write of HRV_CFG. -/
def execHarvestEnWrite (req : Requester) (value : Word) (s : State) : Res :=
  .next (s.begin.forReq req fun s => s.writeHrvCfg value.toNat)

/-- A register of Harvest's destination, transport or templates (R575). (DESIGN CHOICE, log 71) -/
def RegSpec.isHarvestTarget (r : RegSpec) : Bool :=
  [Spec.HRV_NHOP, Spec.HRV_DOMAIN, Spec.HRV_PORTS, Spec.HRV_TIMERS, Spec.HRV_MTU, Spec.HRV_SRC, Spec.HRV_DST].any
    (·.base == r.base)

/-- A write of a register of Harvest: one of its destination, transport or templates is rejected while EN = 1 (R575). -/
def State.writeHrvReg (s : State) (r : RegSpec) (ix : List Nat) (v : Nat) : State :=
  if s.fb Fld.HRV_CFG_EN && r.isHarvestTarget then s.denied r else s.checkedStore r ix v

end Sys2Proof.Machine
end

