-- ==== Sys2Proof/Machine/Graft.lean ====
section
/-! DEFINITION. Graft (chapter 12): the pairing state machine, takeover, resync, what a received message does and which
message is sent next. -/

namespace Sys2Proof.Machine

/-! ## Pairing state, roles and timers (R422, R423) -/

/-- Sets the pairing state, which raises line 28 when it changes (R529). -/
def State.setPair (s : State) (n : Nat) : State :=
  if s.pairing = n then s else (s.fs Fld.GRF_STATUS_PAIR n).raiseLine 28

/-- This device's pair side. -/
def State.side (s : State) : Nat := s.fg Fld.GRF_STATUS_SIDE

/-- Whether the Trellis link is UP (R410). -/
def State.trellisUp (s : State) : Bool := s.fg Fld.TRL_STATUS_STATE == 3

/-- Whether the heartbeat is missing (R436); a quarantined partner's heartbeats are treated so (R444). -/
def State.hbMissing (s : State) : Bool :=
  s.pairing == 5 || (match s.grf.hbAt with
    | none => true
    | some t => decide (t + s.fg Fld.GRF_TIMERS_HB_MS * msCycles ≤ s.aon))

/-- The zone's role becomes owner, or standby. The hold timers of a new owner's mappings run from now (R443). -/
def State.setRole (s : State) (z : Nat) (owner : Bool) : State :=
  let s := s.modGzone z fun g => { g with owner := owner }
  if owner then
    { s with xlb := { s.xlb with rev := s.xlb.rev.map fun (e : Nat × Mapping) =>
      if e.2.zone = z ∧ e.2.state = 2 then (e.1, { e.2 with since := s.aon }) else e } }
  else s

/-- Every owned paired zone becomes DIVERGED. -/
def State.divergeOwned (s : State) : State :=
  s.pairedZones.foldl (fun s z =>
    if (s.gzone z).owner then s.modGzone z fun g => { g with state := 2, step := 0, handover := none } else s) s

/-- What a session that has ended left to be applied or answered goes: entries and repair requests that wait, and those held in the
banks' queues (R423, R444, R446, R449). -/
def State.dropReceived (s : State) : State :=
  let mine : Held → Bool := fun h => match h.kind with | .upsert _ _ | .delete _ | .repair _ => true | _ => false
  let holds := s.fle.holds.foldl (fun (t : Table (List Held)) (e : Nat × List Held) =>
    t.put e.1 [] (e.2.filter fun h => !mine h)) s.fle.holds
  { s with grf := { s.grf with waiting := [], serving := [] }, fle := { s.fle with holds := holds } }

/-- Pairing is lost (R423): owned paired zones become DIVERGED, the log is emptied, and what the partner sent and was not yet applied
is lost (R449). -/
def State.goAlone (s : State) : State :=
  let s := s.divergeOwned.dropReceived
  (({ s with grf := { s.grf with log := [], msgs := [], walkPos := none, flushing := false } }.fs Fld.GRF_STATUS_LAG 0).setPair
    4).log 0x1009

/-- The announcements of a zone's addresses fall due (R450). -/
def State.announceZone (s : State) (z : Nat) : State :=
  let due := ((List.range s.grf.annList.length).filter fun i => (s.grf.annList.getD i {}).zone == z).map fun i =>
    ({ entry := i, left := s.grf.annCount, due := s.aon } : Announce)
  { s with grf := { s.grf with anns := s.grf.anns ++ due } }

/-- The zones become owned, as in a takeover (R449, R450). -/
def State.takeZones (s : State) (group : Nat) (zs : List Nat) : State :=
  let s := zs.foldl (fun s z => (s.setRole z true).announceZone z) s
  (s.raiseLine 28).log 0x1003 (d1 group ++ d4 zs.length)

/-- The standby zones of a witness group. -/
def State.standbyOf (s : State) (g : Nat) : List Nat :=
  s.pairedZones.filter fun z => (s.gzone z).group == g && !(s.gzone z).owner

/-- The groups whose standby zones this device takes over now (R449). (DESIGN CHOICE, log 66) -/
def State.takeoverGroups (s : State) : List Nat :=
  if (s.pairing == 2 || s.pairing == 3) && (!s.trellisUp || s.hbMissing) then
    (List.range 8).filter fun g =>
      !(s.fb (Fld.GRF_WIT_EN g) && s.fbit Fld.GRF_WIT_STAT_PRESENT g) && s.standbyOf g != []
  else []

/-- A takeover, when its conditions hold: whether there was one (R449). (DESIGN CHOICE, log 66) -/
def State.takeover (s : State) : Bool × State :=
  match s.takeoverGroups with
  | [] => (false, s)
  | gs => (true, (gs.foldl (fun s g => s.takeZones g (s.standbyOf g)) s).goAlone)

/-- The Trellis link has left UP, or the heartbeat is missing: a takeover, or PAIRED becomes SUSPENDED (R423). -/
def State.pairingLost (s : State) : State :=
  match s.takeover with
  | (true, s) => s
  | (false, s) =>
    if s.pairing = 2 then ({ s with grf := { s.grf with suspAt := s.aon } }.setPair 3).log 0x1007 else s

/-! ## The key exchange (R424, R425) -/

/-- The pair digest (R425). -/
def State.pairDigest (s : State) : List Byte :=
  Config.sm3 (beBytes 4 (s.rd Reg.PAR_HASH_SEED_LO).toNat ++ beBytes 4 (s.rd Reg.PAR_HASH_SEED_HI).toNat
    ++ beBytes 1 (s.fg Fld.FLE_CFG_REGION) ++ beBytes 1 1 ++ (List.range 65536).flatMap fun z =>
      let g := s.gzone z
      beBytes 1 (128 * ofBool g.paired + 64 * g.home + g.group))

/-- A HELLO, REPLY or CONFIRM message of this device. -/
def State.pairMessage (s : State) (type : Nat) (confirm : List Byte) : List Byte :=
  graftMessage type 0 0 (Config.pairEncode
    { side := s.side, key := Config.identityKey, point := Config.ephemeralPoint s.grf.eph, confirm := confirm,
      digest := if type = 9 then [] else s.pairDigest })

/-- Starts an attempt of the exchange: side 0 sends HELLO. (DESIGN CHOICE, log 65) -/
def State.startAuth (s : State) : State :=
  let s := { s with
    fresh := s.fresh + 1
    grf := { s.grf with step := 0, eph := s.fresh, session := none, retryAt := none, claims := [], msgs := [], stepAt := s.aon } }
  let s := s.setPair 1
  if s.side = 0 then { s with grf := { s.grf with step := 1 } }.graftSend (s.pairMessage 7 []) else s

/-- The exchange fails (R423, R424): the next attempt starts 1 s later. -/
def State.authFail (s : State) (reason : Nat) : State :=
  ({ s with grf := { s.grf with step := 0, session := none, msgs := [], retryAt := some (s.aon + secCycles) } }.fs
    Fld.GRF_STATUS_REASON reason).log 0x1006 (d1 reason)

/-- The claims of this device (R426). -/
def State.claimsMessages (s : State) : List (List Byte) :=
  (List.range 16).map fun k =>
    graftMessage 10 0 0 (beBytes 1 k ++ beBytes 3 0 ++ (List.range 512).map fun i =>
      BitVec.ofNat 8 ((List.range 8).foldl (fun b j =>
        let g := s.gzone (4096 * k + 8 * i + j)
        2 * b + ofBool (g.paired && g.owner)) 0))

/-- The exchange is complete: the claims are sent, and the witness counters of the session start (R426, R447). -/
def State.exchangeDone (s : State) : State :=
  { s with grf := { s.grf with
    step := 3, stepAt := s.aon, msgs := s.grf.msgs ++ s.claimsMessages
    wits := s.grf.wits.map fun (e : Nat × Witness) => (e.1, { e.2 with rx := 0, tx := 0 }) } }

/-- Why the fields of a HELLO or REPLY fail, if they do (R424). -/
def State.pairCheck (s : State) (m : PairMsg) : Option Nat :=
  if m.side = s.side then some 4
  else if m.key ≠ s.grf.peerKey then some 1
  else if m.digest ≠ s.pairDigest then some 2
  else none

/-- A HELLO: the responder computes the key and answers REPLY. -/
def State.takeHello (s : State) (m : PairMsg) : State :=
  if s.pairing ≠ 1 ∨ s.grf.retryAt.isSome then s
  else
    match s.pairCheck m with
    | some n => s.authFail n
    | none =>
      if s.side = 0 then s
      else
        let k := Config.sm2Key s.grf.ids s.grf.eph m.key m.point
        let s := { s with grf := { s.grf with step := 2, stepAt := s.aon, session := some k } }
        s.graftSend (s.pairMessage 8 (Config.sm2Confirm false k))

/-- A REPLY: the initiator computes the key, checks the responder's value and answers CONFIRM. -/
def State.takeReply (s : State) (m : PairMsg) : State :=
  if s.pairing ≠ 1 ∨ s.grf.step ≠ 1 then s
  else
    match s.pairCheck m with
    | some n => s.authFail n
    | none =>
      let k := Config.sm2Key s.grf.ids s.grf.eph m.key m.point
      if m.confirm ≠ Config.sm2Confirm false k then s.authFail 1
      else
        let s := { s with grf := { s.grf with session := some k } }
        (s.graftSend (s.pairMessage 9 (Config.sm2Confirm true k))).exchangeDone

/-- A CONFIRM: the responder checks the initiator's value. -/
def State.takeConfirm (s : State) (m : PairMsg) : State :=
  if s.pairing ≠ 1 ∨ s.grf.step ≠ 2 then s
  else
    match s.grf.session with
    | some k => if m.confirm = Config.sm2Confirm true k then s.exchangeDone else s.authFail 1
    | none => s

/-! ## Claims and entry into PAIRED (R426, R430, R445) -/

/-- Every zone that can begin its resync does (R445, step 1). -/
def State.startResyncs (s : State) : State :=
  s.pairedZones.foldl (fun s z =>
    let g := s.gzone z
    if g.owner && g.state == 2 && s.pairing == 2 && decide (s.grf.log.length < 4194304) then
      (s.modGzone z fun g => { g with state := 3, step := 1 }).graftSend (graftMessage 4 0 0 (beBytes 2 z))
    else s) s

/-- Whether the partner claims a zone. -/
def State.partnerOwns (s : State) (z : Nat) : Bool :=
  bitAt ((s.grf.claims.get (z / 4096) []).getD (z % 4096 / 8) 0).toNat (7 - z % 8)

/-- Settles a zone (R426). -/
def State.settleClaim (s : State) (z : Nat) : State :=
  let g := s.gzone z
  let conflict := g.owner == s.partnerOwns z
  let s := if conflict then
      let mine := g.home == s.side
      (if g.owner = mine then s else (s.setRole z mine).raiseLine 28).log 0x100B
    else s
  s.modGzone z fun g => { g with state := 2, step := 0, handover := none }

/-- All claims are in: PAIRED, with both sequence spaces at 1 (R423, R430). (DESIGN CHOICE, log 67) -/
def State.enterPaired (s : State) : State :=
  let s := (s.pairedZones.foldl State.settleClaim s).dropReceived
  let s := { s with grf := { s.grf with
    log := [], nextSeq := 1, acked := 0, ackAt := s.aon, rxSeq := 0, hbAt := some s.aon, hbRx := none, step := 0,
    walkPos := none, walkLast := 0, flushing := false } }
  (((s.fs Fld.GRF_STATUS_LAG 0).setPair 2).log 0x1001).startResyncs

/-- A CLAIMS message (R426). -/
def State.takeClaims (s : State) (k : Nat) (bitmap : List Byte) : State :=
  if s.pairing ≠ 1 ∨ s.grf.step ≠ 3 then s
  else
    let s := { s with grf := { s.grf with claims := s.grf.claims.ins k bitmap } }
    if s.grf.claims.length = 16 then s.enterPaired else s

/-! ## The resync walk (R445) -/

/-- Half of the log slots. -/
def halfLog : Nat := 4194304

/-- Starts a walk over the zones that have been purged. (DESIGN CHOICE, log 67) -/
def State.startWalk (s : State) : State :=
  let zs := s.pairedZones.filter fun z => (s.gzone z).state == 3 && (s.gzone z).step == 2 && (s.gzone z).owner
  if zs = [] ∨ s.grf.walkPos.isSome ∨ s.pairing ≠ 2 then s
  else
    let s := zs.foldl (fun s z => s.modGzone z fun g => { g with step := 3 }) s
    { s with grf := { s.grf with walkPos := some 0, walkLast := (s.grf.nextSeq + 2 ^ 48 - 1) % 2 ^ 48 } }

/-- Whether a zone is in the walk. -/
def State.inWalk (s : State) (z : Nat) : Bool := (s.gzone z).state == 3 && (s.gzone z).step == 3

/-- Logs an entry of the walk. -/
def State.walkEntry (s : State) (z : Nat) (walk : Bool) (b : GBody) : State :=
  match s.graftAppend z walk b with
  | (some n, s) => { s with grf := { s.grf with walkLast := n } }
  | (none, s) => s

/-- A zone is SYNC at the owner once the acknowledgement has reached the walk's end (R445, step 6). -/
def State.settleResync (s : State) (z : Nat) : State :=
  let g := s.gzone z
  if g.owner && g.state == 3 && g.step == 4 && decide (g.endSeq ≤ s.grf.acked) then
    (s.modGzone z fun g => { g with state := 1, step := 0 }).log 0x1005
  else s

/-- The walk has read everything: RESYNC_END for each of its zones (step 5). -/
def State.endWalk (s : State) : State :=
  let zs := s.pairedZones.filter s.inWalk
  let n := s.grf.walkLast
  let s := zs.foldl (fun s z =>
    ((s.modGzone z fun g => { g with step := 4, endSeq := n }).graftSend
      (graftMessage 6 0 0 (beBytes 2 z ++ beBytes 6 n))).settleResync z) s
  ({ s with grf := { s.grf with walkPos := none } }).startWalk

/-- The places of the mappings in the walk come after those of the slots. -/
def walkMaps : Nat := 2 ^ 40

/-- The walk from a place on, through the slots and then the mappings, until half of the log is in use (step 4). -/
def State.walkItems (s : State) : List (Nat × GBody × Nat) → State
  | [] => s.endWalk
  | (k, b, z) :: r =>
    if halfLog ≤ s.grf.log.length then { s with grf := { s.grf with walkPos := some k } }
    else if s.inWalk z then
      let s := match b with | .mapping _ => s | _ => s.pmFlow false (s.fle.slots.get k {}).bank (slotAddr (k / 8) (k % 8))
      (s.walkEntry z (decide (k < walkMaps)) b).walkItems r
    else s.walkItems r

/-- What the walk has still to read from a place on. -/
def State.walkRest (s : State) (pos : Nat) : List (Nat × GBody × Nat) :=
  let recs : List (Nat × GBody × Nat) := s.fle.slots.filterMap fun (e : Nat × Slot) =>
    match e.2.record with
    | some r => if r.poisoned then none else some (e.1, .upsert r, r.key.zone)
    | none => none
  let maps : List (Nat × GBody × Nat) := s.xlb.rev.map fun (e : Nat × Mapping) => (walkMaps + e.1, .mapping e.2, e.2.zone)
  (recs ++ maps).filter fun x => decide (pos ≤ x.1)

/-- RESYNC_BEGIN at the standby: every record and mapping of the zone goes, without entries or exports (step 2). -/
def State.purgeZone (s : State) (z : Nat) : State :=
  let ks := s.fle.slots.filter fun e => match e.2.record with | some r => !r.poisoned && r.key.zone == z | none => false
  let s := ks.foldl (fun s e => (s.modZone z fun x => { x with live := x.live - 1 }).clearSlot (e.1 / 8) (e.1 % 8)) s
  (s.xlb.rev.filter fun e => e.2.zone == z).foldl (fun s e => s.freeMapping e.1 e.2 false) s

/-! ## Acknowledgement and heartbeat (R436–R438, R451) -/

/-- The lag in AON_CLK cycles: the age of the oldest unacknowledged entry. -/
def State.lag (s : State) : Nat := match s.grf.log.head? with | some e => s.aon - e.at' | none => 0

/-- LAG clears when the lag falls below LAG_US. -/
def State.checkLag (s : State) : State :=
  if s.lag < s.fg Fld.GRF_TIMERS_LAG_US * usCycles then s.fs Fld.GRF_STATUS_LAG 0 else s

/-- The HANDOVER of a zone, with its tag under the session key (R433). -/
def State.handoverMessage (s : State) (z n : Nat) : List Byte :=
  let b := beBytes 2 z ++ beBytes 6 n
  let h := beBytes 1 0x0B ++ beBytes 1 1 ++ beBytes 2 40 ++ beBytes 6 0 ++ beBytes 2 0
  graftMessage 0x0B 0 0 (b ++ sliceBytes (Config.hmacSm3 (s.grf.session.getD []) (h ++ b)) 0 16)

/-- A HANDOVER whose sequence number is acknowledged is sent (R451). -/
def State.settleHandover (s : State) (z : Nat) : State :=
  match (s.gzone z).handover with
  | some n =>
    if n ≤ s.grf.acked then (s.modGzone z fun g => { g with handover := none }).graftSend (s.handoverMessage z n) else s
  | none => s

/-- An acknowledgement up to n: the entries' log slots are freed (R436). -/
def State.acknowledge (s : State) (n : Nat) : State :=
  if s.grf.acked < n ∧ n < s.grf.nextSeq then
    let s := { s with grf := { s.grf with acked := n, ackAt := s.aon, log := s.grf.log.filter fun e => decide (n < e.seq) } }
    (s.pairedZones.foldl (fun s z => (s.settleResync z).settleHandover z) s.checkLag).startResyncs
  else s

/-- A SUSPENDED pair resumes: retransmission from the last acknowledgement (R423, R437). -/
def State.resendAll (s : State) : State :=
  { s with grf := { s.grf with
    ackAt := s.aon
    log := s.grf.log.map fun (e : LogEntry) => if e.sent then { e with again := true } else e } }
@[inherit_doc State.resendAll] def State.resumePair (s : State) : State :=
  ((s.resendAll.setPair 2).log 0x1008).startResyncs

/-- The position-1 field of a CRC-correct overhead: bytes 16–23 (R436). -/
def State.takeAck (s : State) (field : List Byte) : State :=
  if s.pairing ≠ 2 ∧ s.pairing ≠ 3 then s
  else
    let s := s.acknowledge (beAt field 0 6)
    let count := beAt field 7 1
    if bitAt (beAt field 6 1) 7 && s.grf.hbRx != some count then
      let s := { s with grf := { s.grf with hbAt := some s.aon, hbRx := some count } }
      if s.pairing = 3 ∧ s.trellisUp then s.resumePair else s
    else s

/-- The position-1 field this device sends; its heartbeat count increments once per superframe (R436). -/
def State.ackField (s : State) : List Byte × State :=
  let alive := s.pairing == 2 || s.pairing == 3
  let c := (s.grf.hbTx + 1) % 256
  (beBytes 6 s.appliedSeq ++ beBytes 1 (128 * ofBool alive + 64 * ofBool (s.pairing == 5)) ++ beBytes 1 c,
   { s with grf := { s.grf with hbTx := c } })

/-! ## What is sent next (R434, R435, R437) -/

/-- The bytes of an entry (R434). -/
def LogEntry.bytes (e : LogEntry) : List Byte :=
  let h := fun kind => beBytes 1 kind ++ beBytes 1 (128 * ofBool e.walk) ++ beBytes 2 e.zone ++ beBytes 4 0
  match e.body with
  | .upsert r => if r.key.v6 then h 2 ++ r.keyBytes ++ r.dataBytes ++ List.replicate 6 0 else h 1 ++ r.bytes
  | .delete k => h (if k.v6 then 4 else 3) ++ Record.keyBytes { key := k }
  | .mapping m =>
    h 5 ++ beBytes 4 m.addr ++ beBytes 2 m.port ++ beBytes 1 m.proto ++ beBytes 1 m.state ++ beBytes 2 m.pub
      ++ beBytes 2 m.pport ++ beBytes 1 0 ++ beBytes 3 m.refs

/-- The entries of a DELTAS message: in sequence, as long as it stays within 4,096 bytes. Walk entries are ready while
`walk` bytes of their rate are left (R435). -/
def takeEntries (room walk : Nat) : List LogEntry → List LogEntry
  | [] => []
  | e :: r =>
    let n := e.bytes.length
    if room < n ∨ (e.walk ∧ walk = 0) then []
    else e :: takeEntries (room - n) (if e.walk then walk - n else walk) r

/-- The bytes of walk entries that may be sent now: RESYNC_GBPS over 10 µs (R435). -/
def State.walkRoom (s : State) : Nat := (12500 * s.fg Fld.GRF_RATE_RESYNC_GBPS - s.grf.walkDebt) / 10

/-- The next DELTAS message, and the state once it is sent: none when nothing is ready. -/
def State.nextDeltas (s : State) : Option (List Byte × State) :=
  let waiting := s.grf.log.dropWhile fun e => e.sent && !e.again
  match takeEntries 4080 s.walkRoom (waiting.takeWhile fun e => !e.sent || e.again) with
  | [] => none
  | e :: r =>
    let es := e :: r
    let first := e.seq
    let last := (es.getLastD e).seq
    let again := (es.filter fun x => x.again).length
    let fresh := !(s.grf.log.any fun x => x.sent)
    let walked := es.foldl (fun n x => if x.walk then n + x.bytes.length else n) 0
    let log := s.grf.log.map fun (x : LogEntry) =>
      if first ≤ x.seq ∧ x.seq ≤ last then { x with sent := true, again := false } else x
    some (graftMessage 1 first es.length (es.flatMap LogEntry.bytes),
      { s with grf := { s.grf with
        log := log, ackAt := if fresh then s.aon else s.grf.ackAt, walkDebt := s.grf.walkDebt + 10 * walked,
        flushing := s.grf.flushing && log.any fun x => !x.sent || x.again } }.inc Reg.GRF_RETX again)

/-- Whether Graft messages are sent at all: a quarantined partner gets the position-1 field only (R444). -/
def State.graftSends (s : State) : Bool := s.pairing == 1 || s.pairing == 2 || s.pairing == 3

/-- The next Graft message in the order of R435, and the state once it is sent. -/
def State.nextGraft (s : State) : Option (List Byte × State) :=
  if !s.graftSends then none
  else
    let repair := fun (m : List Byte) => m.headD 0 == 2 || m.headD 0 == 3
    let pop := fun (m : List Byte) => { s with grf := { s.grf with msgs := s.grf.msgs.erase m } }
    match s.grf.msgs.find? repair with
    | some m => some (m, pop m)
    | none =>
      match s.grf.msgs with
      | m :: _ => some (m, pop m)
      | [] => if s.pairing = 2 then s.nextDeltas else none

/-- FLUSH (R439): every unsent entry goes ahead of port 64 until none is left. -/
def State.graftFlush (s : State) : State :=
  { s with grf := { s.grf with flushing := s.grf.log.any fun x => !x.sent || x.again } }

/-! ## The checks of received messages (R440) -/

/-- Whether a record's key passes the checks. -/
def keyOk (v6 : Bool) (flags : Nat) (k : FlowKey) : Bool :=
  bitAt flags 7 && !bitAt flags 4 && bitAt flags 6 == v6 && decide (flags % 16 ≤ 2)
    && (flags % 16 == 0 || (k.portA == 0 && k.portB == 0)) && (flags % 16 != 2 || k.proto == 0)

/-- Whether a record's fields pass the checks. -/
def Record.fieldsOk (r : Record) : Bool :=
  bitsOf r.policer 22 17 == 0
    && (!(r.flag bXlated && !r.flag bBalanced) || !bitAt r.member 13)
    && (!r.flag bBalanced || decide (r.member ≤ 255))

/-- The record in an upsert body, if it passes the checks. -/
def upsertOf (v6 : Bool) (bs : List Byte) : Option Record :=
  let full := if v6 then bs.take 40 ++ List.replicate 24 0 ++ bs.drop 40 else bs
  let r := recordRaw v6 full
  if keyOk v6 (beAt full (if v6 then 37 else 13) 1) r.key && r.fieldsOk && (!v6 || beAt full 122 6 == 0) then some r.clean else none

/-- The key in a delete body or a repair request, if it passes the checks. -/
def keyBodyOf (v6 : Bool) (bs : List Byte) : Option FlowKey :=
  let r := recordOf v6 (padTo 128 bs)
  if keyOk v6 (beAt bs (if v6 then 37 else 13) 1) r.key then some r.key else none

/-- The body size of an entry's kind (R434). -/
def entryBody : Nat → Option Nat
  | 1 => some 64 | 2 => some 104 | 3 => some 16 | 4 => some 40 | 5 => some 16 | _ => none

/-- An entry of its kind and zone, if it passes the checks. -/
def State.entryOf (s : State) (kind zone : Nat) (bs : List Byte) : Option GBody :=
  if !s.standby zone then none
  else
    match kind with
    | 1 | 2 => (upsertOf (kind == 2) bs).bind fun r => if r.key.zone = zone then some (.upsert r) else none
    | 3 | 4 => (keyBodyOf (kind == 4) bs).bind fun k => if k.zone = zone then some (.delete k) else none
    | _ =>
      let m : Mapping :=
        { addr := beAt bs 0 4, port := beAt bs 4 2, proto := beAt bs 6 1, state := beAt bs 7 1, pub := beAt bs 8 2,
          pport := beAt bs 10 2, refs := beAt bs 13 3, zone := zone }
      if m.state ≤ 2 ∧ (m.proto = 6 ∨ m.proto = 17) ∧ m.pub ≤ 8191 ∧ beAt bs 12 1 = 0 then some (.mapping m) else none

/-- The entries of a DELTAS body, `n` of them; none when one fails a check. -/
def State.entriesOf (s : State) : Nat → List Byte → Option (List GBody)
  | 0, bs => if bs = [] then some [] else none
  | n + 1, bs =>
    match entryBody (beAt bs 0 1) with
    | none => none
    | some k =>
      if bs.length < 8 + k ∨ beAt bs 4 4 ≠ 0 then none
      else
        match s.entryOf (beAt bs 0 1) (beAt bs 2 2) (sliceBytes bs 8 k) with
        | none => none
        | some b => (s.entriesOf n (bs.drop (8 + k))).map (b :: ·)

/-- Quarantines the partner (R444). -/
def State.quarantinePartner (s : State) : State :=
  let s := s.divergeOwned.dropReceived
  ({ s with grf := { s.grf with msgs := [], walkPos := none, flushing := false } }.setPair 5).log 0x1004

/-- A malformed message (R440): more than 16 of them within 1 s quarantine the partner (R444). -/
def State.malformed (s : State) : State :=
  let s := s.inc Reg.GRF_MALFORMED
  let bad := (s.grf.bad.filter fun t => decide (s.aon < t + secCycles)) ++ [s.aon]
  let s := { s with grf := { s.grf with bad := bad } }
  if 16 < bad.length ∧ s.pairing ≠ 5 then s.quarantinePartner
  else if s.pairing = 1 ∧ s.grf.retryAt = none then s.authFail 5
  else s

/-! ## Messages that arrive (R440–R446, R451) -/

/-- A DELTAS message: duplicates are skipped, a gap is discarded, the rest is applied in order, as far as no entry must wait for its
key's bank (R153, R441, R442). -/
def State.takeDeltas (s : State) (first : Nat) (es : List GBody) : State :=
  if s.pairing ≠ 2 ∧ s.pairing ≠ 3 then s
  else if s.grf.rxSeq + 1 < first then s.inc Reg.GRF_GAP
  else
    (((List.range es.length).zip es).foldl (fun (s : State) e =>
      if first + e.1 ≤ s.grf.rxSeq then s.inc Reg.GRF_DUP
      else { s with grf := { s.grf with rxSeq := first + e.1, waiting := s.grf.waiting ++ [(first + e.1, e.2)] } }) s).drain

/-- A repair request of the partner, which is served as an operation of the flow engine (R446). -/
def State.takeRepairReq (s : State) (ident : Nat) (key : FlowKey) : State :=
  if s.pairing ≠ 2 then s
  else { s with grf := { s.grf with serving := s.grf.serving ++ [(ident, key)] } }.drain

/-- A repair answer that passed its checks goes to the flow engine (R172, R446). -/
def State.takeRepairRsp (s : State) (id : Nat) (r : Option Record) : State :=
  if s.pairing ≠ 2 then s
  else match r with
    | some r => (s.repair id r).settleOp id
    | none => (s.deleteMarker id).settleOp id

/-- RESYNC_BEGIN (R445, step 2). -/
def State.takeResyncBegin (s : State) (z : Nat) : State :=
  if (s.pairing ≠ 2 ∧ s.pairing ≠ 3) ∨ !s.standby z then s
  else ((s.purgeZone z).modGzone z fun g => { g with state := 3, step := 2 }).graftSend (graftMessage 5 0 0 (beBytes 2 z))

/-- PURGED (step 3). -/
def State.takePurged (s : State) (z : Nat) : State :=
  let g := s.gzone z
  if (s.pairing == 2 || s.pairing == 3) && g.paired && g.owner && g.state == 3 && g.step == 1 then
    (s.modGzone z fun g => { g with step := 2 }).startWalk
  else s

/-- RESYNC_END (step 5). -/
def State.takeResyncEnd (s : State) (z n : Nat) : State :=
  if (s.pairing ≠ 2 ∧ s.pairing ≠ 3) ∨ !s.standby z then s
  else (s.modGzone z fun g => { g with step := 4, endSeq := n }).settleStandby z

/-- HANDOVER: the zone becomes owned when the tag is right (R451). -/
def State.takeHandover (s : State) (header body : List Byte) : State :=
  let z := beAt body 0 2
  if (s.pairing ≠ 2 ∧ s.pairing ≠ 3) ∨ !s.standby z
      ∨ body.drop 8 ≠ sliceBytes (Config.hmacSm3 (s.grf.session.getD []) (header ++ body.take 8)) 0 16 then s
  else (((s.setRole z true).raiseLine 28).log 0x100C).announceZone z

/-- The body of a message of a known type: what it does, or none when it is malformed (R433, R440). -/
def State.takeBody (s : State) (type count ident first : Nat) (header body : List Byte) : Option State :=
  let n := body.length
  match type with
  | 1 => (s.entriesOf count body).map fun es => s.takeDeltas first es
  | 2 =>
    let v6 := bitAt (beAt body 37 1) 6 && bitAt (beAt body 37 1) 7
    if n ≠ 40 then none
    else
      (if v6 then keyBodyOf true body
       else if beNat (body.drop 16) = 0 then keyBodyOf false (body.take 16) else none).map (s.takeRepairReq ident)
  | 3 =>
    match s.grf.reqs.find? fun e => e.1 == ident with
    | none => none
    | some (_, id) =>
      let key := (s.op id).key
      if beAt body 1 7 ≠ 0 then none
      else if beAt body 0 1 = 1 then (if n = 8 then some (s.takeRepairRsp id none) else none)
      else if beAt body 0 1 = 0 ∧ n = (if key.v6 then 112 else 72) then
        (upsertOf key.v6 (body.drop 8)).bind fun r => if r.key = key then some (s.takeRepairRsp id (some r)) else none
      else none
  | 4 => if n = 2 then some (s.takeResyncBegin (beAt body 0 2)) else none
  | 5 => if n = 2 then some (s.takePurged (beAt body 0 2)) else none
  | 6 => if n = 8 then some (s.takeResyncEnd (beAt body 0 2) (beAt body 2 6)) else none
  | 7 => some (s.takeHello (Config.pairDecode body))
  | 8 => some (s.takeReply (Config.pairDecode body))
  | 9 => some (s.takeConfirm (Config.pairDecode body))
  | 10 =>
    if n = 516 ∧ beAt body 0 1 ≤ 15 ∧ beAt body 1 3 = 0 then some (s.takeClaims (beAt body 0 1) (body.drop 4)) else none
  | 11 => if n = 24 then some (s.takeHandover header body) else none
  | _ => none

/-- A complete Graft message that the link delivered (R432, R440). While Graft is OFF nothing is applied; a quarantined
partner's messages are not applied either (R423, R444). -/
def State.takeMessage (s : State) (m : List Byte) : State :=
  if s.pairing = 0 then s
  else
    let n := m.length
    if m.drop (n - 4) ≠ beBytes 4 (crc32c 0xFFFFFFFF (m.take (n - 4))) then s.inc Reg.GRF_MSG_CRC
    else
      let type := beAt m 0 1
      let bad : Bool := decide (n < 16 ∨ 4096 < n ∨ beAt m 2 2 ≠ n ∨ beAt m 1 1 ≠ 1 ∨ (type ≠ 1 ∧ beAt m 4 6 ≠ 0)
        ∨ (3 < type ∧ beAt m 10 2 ≠ 0))
      let idle : Bool := s.pairing == 4 || s.pairing == 5
      let r := s.takeBody type (beAt m 10 2) (beAt m 10 2) (beAt m 4 6) (m.take 12) (sliceBytes m 12 (n - 16))
      match (if bad then none else r) with
      | none =>
        let s' := s.malformed
        if type = 3 ∧ !bad then
          match s.grf.reqs.find? fun e => e.1 == beAt m 10 2 with
          | some (_, id) => if s'.hasOp id then (s'.deleteMarker id).settleOp id else s'
          | none => s'
        else s'
      | some s' => if idle then s else s'

end Sys2Proof.Machine
end

