-- ==== Sys2Proof/Machine/Trellis.lean ====
section
/-! DEFINITION. The Trellis pair link (chapter 11): lanes, defects and the link state machine, the frames it sends and
receives, the containers in them, and the management data channels. -/

namespace Sys2Proof.Machine

/-! ## Frames as bytes (R396–R400) -/

/-- The alignment word. -/
def alignWord : Nat := 0x5A3C96E1C3A50F69

/-- One byte of the scrambler's output, with its next register. -/
def scrambleStep (r : Nat) : Nat × Nat :=
  (List.range 8).foldl (fun x _ =>
    let out := (x.1 / 2 ^ 30 + x.1 / 2 ^ 27) % 2
    ((2 * x.1 + out) % 2 ^ 31, 2 * x.2 + out)) (r, 0)

/-- Scrambles, or descrambles, bytes from byte 8 of a frame on. -/
def scrambleFrom (r : Nat) : List Byte → List Byte
  | [] => []
  | b :: bs => let (r', k) := scrambleStep r; (b ^^^ BitVec.ofNat 8 k) :: scrambleFrom r' bs

/-- A frame with bytes 8–4,095 scrambled or descrambled. -/
def scramble (f : List Byte) : List Byte := f.take 8 ++ scrambleFrom 0x7FFFFFFF (f.drop 8)

/-- A container header (R400). -/
def containerHeader (type : Nat) (first last : Bool) (len : Nat) : List Byte :=
  let h := beBytes 1 (16 * type + 8 * ofBool first + 4 * ofBool last) ++ beBytes 2 len
  h ++ beBytes 1 (crc8 h)

/-- Whether the CRC-16 of a frame's overhead is correct (R398). -/
def overheadOk (f : List Byte) : Bool := beAt f 30 2 == crc16 (f.take 30)

/-- The bytes of a lane whose polarity is inverted, or not (R394). -/
def invert (yes : Bool) (bs : List Byte) : List Byte := if yes then bs.map fun b => ~~~b else bs

/-- The bits of bytes, the most significant one of each first. -/
def bitsOfBytes (bs : List Byte) : List Bool := bs.flatMap fun b => (List.range 8).map fun i => bitAt b.toNat (7 - i)

/-- The bytes of bits, the reverse of `bitsOfBytes`. -/
def bytesOfBits (n : Nat) (bits : List Bool) : List Byte :=
  (List.range n).map fun i => BitVec.ofNat 8 (((bits.drop (8 * i)).take 8).foldl (fun v b => 2 * v + ofBool b) 0)

/-- The bits of the alignment word. -/
def alignBits : List Bool := bitsOfBytes (beBytes 8 alignWord)

/-- The hunt for frame alignment (R403): the overhead of the first frame in a lane's bits whose alignment word is found again exactly
4,096 bytes later. -/
def hunt : List Bool → Option (List Byte)
  | [] => none
  | b :: bs =>
    if (b :: bs).take 64 == alignBits && ((b :: bs).drop 32768).take 64 == alignBits then some (bytesOfBits 32 (b :: bs))
    else hunt bs

/-! ## Lanes and defects (R403–R407) -/

/-- A physical receive lane, and its change. -/
def State.lane (s : State) (p : Nat) : TrlLane := s.trl.lanes.get p {}
@[inherit_doc State.lane] def State.modLane (s : State) (p : Nat) (f : TrlLane → TrlLane) : State :=
  { s with trl := { s.trl with lanes := s.trl.lanes.put p {} (f (s.lane p)) } }

/-- A defect, and its change. -/
def State.defect (s : State) (d : Nat) : Defect := s.trl.defects.get d {}
@[inherit_doc State.defect] def State.setDefect (s : State) (d : Nat) (x : Defect) : State :=
  { s with trl := { s.trl with defects := s.trl.defects.put d {} x } }

/-- The register TRL_INTEG of a defect (R417). -/
def defectKind (d : Nat) : Nat := if d < 8 then 0 else if d < 16 then 1 else d - 14

/-- The defects of a kind. -/
def kindDefects (k : Nat) : List Nat :=
  if k = 0 then List.range 8 else if k = 1 then (List.range 8).map (8 + ·) else [k + 14]

/-- Whether a kind is declared: for LOS and LOA, on any lane (R407). -/
def State.declaredKind (s : State) (k : Nat) : Bool := (kindDefects k).any fun d => (s.defect d).declared

/-- The set and clear times of a kind, in AON_CLK cycles. -/
def State.setTime (s : State) (k : Nat) : Nat := s.fg (Fld.TRL_INTEG_SET k) * 2500
@[inherit_doc State.setTime] def State.clrTime (s : State) (k : Nat) : Nat := s.fg (Fld.TRL_INTEG_CLR k) * 2500

/-- Lanes as a mask. -/
def laneMask (ds : List Nat) : Nat := ds.foldl (fun m d => m ||| 2 ^ (d % 8)) 0

/-- Shows the declared defects in TRL_STATUS. -/
def State.showDefects (s : State) : State :=
  let on := fun k => (kindDefects k).filter fun d => (s.defect d).declared
  ((((((s.fs Fld.TRL_STATUS_LANE_LOS (laneMask (on 0))).fs Fld.TRL_STATUS_LANE_LOA (laneMask (on 1))).fs
    Fld.TRL_STATUS_LOS (ofBool (s.declaredKind 0))).fs Fld.TRL_STATUS_LOF (ofBool (s.declaredKind 2))).fs
    Fld.TRL_STATUS_LOM (ofBool (s.declaredKind 3))).fs Fld.TRL_STATUS_DEG (ofBool (s.declaredKind 4))).fs
    Fld.TRL_STATUS_RDI (ofBool (s.declaredKind 5))

/-- The event of a declaration or a clearance, with the lanes where R418 names them. -/
def defectEvent (k : Nat) (declared : Bool) (lanes : Nat) : Nat × List Byte :=
  match k, declared with
  | 0, true => (0x0F06, d1 lanes) | 0, false => (0x0F0A, [])
  | 1, true => (0x0F0E, d1 lanes) | 1, false => (0x0F0F, d1 lanes)
  | 2, true => (0x0F01, []) | 2, false => (0x0F02, [])
  | 3, true => (0x0F07, []) | 3, false => (0x0F0B, [])
  | 4, true => (0x0F04, []) | 4, false => (0x0F05, [])
  | _, true => (0x0F03, []) | _, false => (0x0F08, [])

/-- The TRL_EVENT bit of a kind. -/
def kindEvent (k : Nat) : Fld :=
  match k with
  | 0 => Fld.TRL_EVENT_LOS_CHG | 1 => Fld.TRL_EVENT_LOA_CHG | 2 => Fld.TRL_EVENT_LOF_CHG
  | 3 => Fld.TRL_EVENT_LOM_CHG | 4 => Fld.TRL_EVENT_DEG_CHG | _ => Fld.TRL_EVENT_RDI_CHG

/-! ## The link state machine (R410, R411) -/

/-- Enters a state of the link. -/
def State.setLink (s : State) (n : Nat) : State :=
  if s.fg Fld.TRL_STATUS_STATE = n then s else (s.fs Fld.TRL_STATUS_STATE n).trellisEvent Fld.TRL_EVENT_STATE_CHG

/-- The link leaves UP for a state: what is being sent is cut short, port 64 is declared down, and the pair is suspended
or the zones are taken over (R401, R402, R423, R449). -/
def State.leaveUp (s : State) (n : Nat) : State :=
  let s := (s.setLink n).declareDown 64
  let s := { s with trl := { s.trl with seg := [], segData := false, graft := [], graftFirst := true } }
  if s.pairing == 2 || s.pairing == 3 then s.pairingLost else s

/-- The link enters UP: port 64 is declared up, and pairing starts from OFF and ALONE (R423). (DESIGN CHOICE, log 65) -/
def State.enterUp (s : State) : State :=
  let s := ((s.setLink 3).declareUp 64).log 0x0F0D
  if s.fb Fld.GRF_CFG_EN && (s.pairing == 0 || s.pairing == 4) then s.startAuth else s

/-- The transition that the declared defects ask for, if any. -/
def State.linkStep (s : State) : State :=
  let down := s.declaredKind 0 || s.declaredKind 2 || s.declaredKind 3
  let rdi := s.declaredKind 5
  match s.fg Fld.TRL_STATUS_STATE with
  | 3 =>
    if down then (s.leaveUp 1).log 0x0F0C (d1 1)
    else if rdi then (s.leaveUp 2).log 0x0F0C (d1 2)
    else s
  | 2 => if down then s.setLink 1 else if rdi then s else s.enterUp
  | 1 => if down then s else if rdi then s.setLink 2 else s.enterUp
  | _ => s

/-- Declares or clears the defects of a kind whose integration has ended: the event, the status and the link (R407). -/
def State.settleKind (s : State) (k : Nat) (declare : Bool) : State :=
  let now := if k = 4 then s.trl.degAt else s.aon
  let ds := (kindDefects k).filter fun d =>
    let x := s.defect d
    x.raw == declare && x.declared != declare && decide (x.due ≤ now)
  if ds = [] ∨ s.fg Fld.TRL_STATUS_STATE = 0 then s
  else
    let s := ds.foldl (fun s d => s.setDefect d { s.defect d with declared := declare }) s
    let e := defectEvent k declare (laneMask ds)
    ((s.showDefects.log e.1 e.2).trellisEvent (kindEvent k)).linkStep

/-- A raw condition, as it is from a time on; times of 0 act at once (R407). -/
def State.setRaw (s : State) (d : Nat) (raw : Bool) (since : Nat) : State :=
  let x := s.defect d
  if x.raw = raw then s
  else
    let k := defectKind d
    let t := if raw then s.setTime k else s.clrTime k
    let s := s.setDefect d { x with raw := raw, due := since + t }
    if t = 0 then s.settleKind k raw else s

/-- The receive of a port-64 frame is abandoned: it ends bad as a PCS error (R402). (DEDUCED, log 19, DESIGN CHOICE, log 64)
-/
def State.abandonRx (s : State) : State :=
  let s := { s with trl := { s.trl with rxGraft := none } }
  match s.trl.rxData with
  | none => s
  | some f =>
    let s := { s with trl := { s.trl with rxData := none } }.inc Reg.TRL_RX_ABORT
    if f.bytes = [] then s else (s.startIn 64 f.slice f.at' f.bytes).endRx 64 true

/-- Delineation is lost (R402). -/
def State.loseDelin (s : State) : State :=
  ({ s with trl := { s.trl with delin := false, stream := [], cont := none } }).abandonRx

/-- Whether two physical lanes carry the same logical lane (R404). -/
def TrlState.twice (t : TrlState) : Bool :=
  let ls := (List.range 8).filterMap fun p => (t.lanes.get p {}).logical
  ls.any fun k => decide (1 < (ls.filter (· == k)).length)

/-- Whether LOF is raw (R404, R406). -/
def State.lofRaw (s : State) : Bool :=
  ((List.range 8).any fun p => !(s.lane p).inFrame || (s.lane p).jump) || !s.trl.skewOk || s.trl.twice

/-- Brings the raw conditions that go by the lanes up to date. (DESIGN CHOICE, log 64) -/
def State.rawLanes (s : State) : State :=
  let absent := !s.fb Fld.TRL_STATUS_PRS && !s.fb Fld.TRL_CFG_MOD_IGN
  let s := (List.range 8).foldl (fun s p =>
    (s.setRaw p (!(s.lane p).signal || absent) s.aon).setRaw (8 + p) (!(s.lane p).inFrame) s.aon) s
  let lof := s.lofRaw
  let s := if lof then s.loseDelin else s
  let s := s.setRaw 16 lof s.aon
  let s := s.setRaw 17 (!lof && !s.trl.aligned) s.aon
  if lof then s.setRaw 19 false s.aon else s

/-- LANE_SIGNAL_DETECT_CHANGE: a lane's signal detect with its clock recovery, and its FEC decoder's codeword lock, which needs them
(R394, R406). -/
def execLaneSignalDetectChange (lane : BitVec 3) (on locked : Bool) (s : State) : Res :=
  let s := s.begin.modLane lane.toNat fun x => { x with signal := on, locked := on && locked }
  .next (if s.fg Fld.TRL_STATUS_STATE = 0 then s else s.rawLanes)

/-- The deskew starts anew (R404). -/
def State.emptyDeskew (s : State) : State :=
  { s with trl := { s.trl with expect := none, lanes := s.trl.lanes.map fun (e : Nat × TrlLane) => (e.1, { e.2 with held := [] }) } }

/-- What a physical lane's frame shows of its place: its count, from an overhead that is correct or from its position in the lane's
stream, and the logical lane it makes this one (R404). -/
def State.placeLane (s : State) (p : Nat) (f : List Byte) : State :=
  let ok := overheadOk f
  let c := beAt f 8 4
  let x := s.lane p
  let jump := ok && match x.next with | some e => e != c | none => false
  let next := if ok then some ((c + 8) % 2 ^ 32) else x.next.map fun e => (e + 8) % 2 ^ 32
  let s := s.modLane p fun x => { x with jump := jump, next := next, logical := if ok then some (c % 8) else x.logical }
  if ok then s.fs Fld.TRL_LANE_MAP_MAP (withBits (s.fg Fld.TRL_LANE_MAP_MAP) (3 * p + 2) (3 * p) (c % 8)) else s

/-- LANE_IN_FRAME: a lane in the hunt state searches its stream, as it came from the decoder, at every bit position. At the second
match, 4,096 bytes after the first, it is declared in-frame; without codeword lock nothing matches (R403). -/
def execLaneInFrame (lane : BitVec 3) (stream : List Byte) (s : State) : Res :=
  let s := s.begin
  let p := lane.toNat
  let x := s.lane p
  if s.fg Fld.TRL_STATUS_STATE = 0 ∨ x.inFrame ∨ !x.locked then .next s
  else
    match hunt (bitsOfBytes (invert (s.fbit Fld.TRL_LANE_CFG_RX_POL p) stream)) with
    | none => .next s
    | some head =>
      let s := s.modLane p fun x => { x with inFrame := true, misses := 0, logical := none, next := none, jump := false }
      .next ((s.placeLane p (scramble head)).emptyDeskew).rawLanes

/-- LANE_OUT_OF_FRAME: a lane that has missed the alignment word 4 times in a row returns to the hunt state (R403). -/
def execLaneOutOfFrame (lane : BitVec 3) (s : State) : Res :=
  let s := s.begin
  let p := lane.toNat
  if s.fg Fld.TRL_STATUS_STATE = 0 ∨ !(s.lane p).inFrame ∨ (s.lane p).misses < 4 then .next s
  else .next ((s.modLane p fun x => { x with inFrame := false, misses := 0, logical := none, next := none, jump := false }).inc
    Reg.TRL_OOF).emptyDeskew.rawLanes

/-- SUPERFRAME_ALIGNMENT_CHANGE: alignment is gained or lost as the overheads of the last frames show (R405). -/
def execSuperframeAlignmentChange (s : State) : Res :=
  let s := s.begin
  let t := s.trl
  if s.fg Fld.TRL_STATUS_STATE = 0 ∨ s.lofRaw then .next s
  else if !t.aligned ∧ 2 ≤ t.goodRun then .next ({ s with trl := { t with aligned := true, missRun := 0 } }.rawLanes)
  else if t.aligned ∧ (4 ≤ t.missRun ∨ 4 ≤ t.crcRun) then
    .next ({ s with trl := { t with aligned := false, posExp := none, goodRun := 0, missRun := 0, crcRun := 0 } }.rawLanes)
  else .next s

/-- DEFECT_DECLARED: a raw defect of a kind has held for its set time. Kinds: 0 LOS, 1 LOA, 2 LOF, 3 LOM, 4 DEG, 5 RDI
(R407, R410). -/
def execDefectDeclared (kind : Nat) (s : State) : Res :=
  let s := s.begin
  .next (if kind ≤ 5 then s.settleKind kind true else s)

/-- DEFECT_CLEARED: a defect of a kind has been absent for its clear time (R407, R410). -/
def execDefectCleared (kind : Nat) (s : State) : Res :=
  let s := s.begin
  .next (if kind ≤ 5 then s.settleKind kind false else s)

/-- Counts the corrections of a lane's FEC decoder (R394, R417). -/
def State.countFec (s : State) (p corr bad : Nat) : State :=
  ((s.modLane p fun x => { x with corr := x.corr + corr, bad := x.bad + bad }).inc Reg.TRL_FEC_CORR corr).inc Reg.TRL_FEC_UNCORR bad

/-- Counts what the eight decoders have counted, lane by lane. -/
def State.countLanes (s : State) (counts : List (Nat × Nat)) : State :=
  (List.range 8).foldl (fun s p => s.countFec p (counts.getD p (0, 0)).1 (counts.getD p (0, 0)).2) s

/-- A sum over the eight lanes. -/
def State.sumLanes (s : State) (f : TrlLane → Nat) : Nat := (List.range 8).foldl (fun n p => n + f (s.lane p)) 0

/-- Whether a window that ends now makes DEG raw: more symbols corrected on the 8 lanes than THRESH, or a codeword that could not be
(R406, R409). -/
def State.degRaw (s : State) : Bool :=
  decide (s.fg Fld.TRL_DEG_CFG_THRESH < s.sumLanes (·.corr) ∨ s.sumLanes (·.bad) ≠ 0)

/-- The next window begins. -/
def State.nextWindow (s : State) : State :=
  { s with trl := { s.trl with
    degAt := s.trl.degAt + msCycles, lanes := s.trl.lanes.map fun (e : Nat × TrlLane) => (e.1, { e.2 with corr := 0, bad := 0 }) } }

/-- DEG_WINDOW_END: a 1 ms window closes; `counts` are the symbols corrected and the codewords that could not be, lane by lane, that the
decoders counted in it beside the frames received (R406, R409). -/
def execDegWindowEnd (counts : List (Nat × Nat)) (s : State) : Res :=
  let s := s.begin
  if s.fg Fld.TRL_STATUS_STATE = 0 ∨ s.aon < s.trl.degAt + msCycles then .next s
  else
    let s := s.countLanes counts
    .next (s.nextWindow.setRaw 18 s.degRaw s.trl.degAt)

/-! ## TRL_CFG and the presence pin (R406, R410, R416) -/

/-- EN goes to 1: the lanes are powered, the frame count starts at 0, and LOS, LOA, LOF and LOM start declared (R407). -/
def State.enableTrellis (s : State) : State :=
  let lanes : Table TrlLane := s.trl.lanes.map fun (e : Nat × TrlLane) => (e.1, { signal := e.2.signal, locked := e.2.locked })
  let absent := !s.fb Fld.TRL_STATUS_PRS && !s.fb Fld.TRL_CFG_MOD_IGN
  let raw := fun d => if d < 8 then !(s.lane d).signal || absent else decide (d ≤ 16)
  let defects : Table Defect := (List.range 18).map fun d =>
    (d, { raw := raw d, due := s.aon + s.clrTime (defectKind d), declared := true })
  let s := { s with trl := { s.trl with
    count := 0, seg := [], segData := false, sent := 0, graft := [], graftFirst := true, debt := 0, lanes := lanes,
    defects := defects, skewOk := true, expect := none, aligned := false, posExp := none, goodRun := 0, missRun := 0, crcRun := 0,
    delin := false, stream := [], cont := none, degAt := s.aon } }
  s.showDefects.setLink 1

/-- EN goes to 0: the transmitter stops, the lanes are powered off, and the channels' TXD is high (R410, R416). -/
def State.disableTrellis (s : State) : State :=
  let s := { s.loseDelin with trl := { s.loseDelin.trl with
    mdc := s.loseDelin.trl.mdc.map fun (e : Nat × Mdc) => (e.1, { e.2 with brkRx := false, txLow := false }) } }
  if s.fg Fld.TRL_STATUS_STATE = 3 then s.leaveUp 0 else s.setLink 0

/-- A write of TRL_CFG. -/
def State.writeTrlCfg (s : State) (v : Nat) : State :=
  if !Spec.TRL_CFG.inRange v then s.denied Spec.TRL_CFG
  else
    let was := s.fb Fld.TRL_CFG_EN
    let s := s.store Spec.TRL_CFG [] v
    let on := s.fb Fld.TRL_CFG_EN
    if on && !was then s.enableTrellis
    else if !on && was then s.disableTrellis
    else if on then s.rawLanes
    else s

/-- TRELLIS_EN_WRITE: a write of TRL_CFG. -/
def execTrellisEnWrite (req : Requester) (value : Word) (s : State) : Res :=
  .next (s.begin.forReq req fun s => s.writeTrlCfg value.toNat)

/-- MODULE_PIN_CHANGE: a filtered pin of a front module site, or TRL_PRS_N as site 64 (R69, R406). -/
def execModulePinChange (site : Nat) (pin : ModulePin) (level : Bool) (s : State) : Res :=
  let s := s.begin
  if site < 64 then .next (s.modulePin site pin level)
  else if site = 64 ∧ pin = .prs then
    let s := s.fs Fld.TRL_STATUS_PRS (ofBool !level)
    .next (if s.fg Fld.TRL_STATUS_STATE = 0 then s else s.rawLanes)
  else .next s

/-! ## Management data channels (R412–R415) -/

/-- A channel, and its change. -/
def State.mdc (s : State) (n : Nat) : Mdc := s.trl.mdc.get n {}
@[inherit_doc State.mdc] def State.modMdc (s : State) (n : Nat) (f : Mdc → Mdc) : State :=
  { s with trl := { s.trl with mdc := s.trl.mdc.put n {} (f (s.mdc n)) } }

/-- Whether a channel runs, and whether its serial pins are in use (R412, R415). -/
def State.mdcRuns (s : State) (n : Nat) : Bool :=
  decide (n < 2) && s.fb (Fld.TRL_MDC_CFG_EN n) && s.fg Fld.TRL_STATUS_STATE != 0
@[inherit_doc State.mdcRuns] def State.mdcPins (s : State) (n : Nat) : Bool := s.mdcRuns n && !s.fb (Fld.TRL_MDC_CFG_SRC n)

/-- A byte that found a FIFO full (R414). -/
def State.mdcLost (s : State) (n : Nat) (f : Fld) : State :=
  (((s.fs f 1).inc (Reg.TRL_MDC_LOST n)).trellisEvent Fld.TRL_EVENT_MDC_OVF).logLimited 0x0F09 n 1 0 fun _ _ => d1 n

/-- A byte for the inbound FIFO. -/
def State.mdcIn (s : State) (n : Nat) (b : Byte) : State :=
  if 256 ≤ (s.mdc n).inb.length then s.mdcLost n (Fld.TRL_MDC_STAT_OVF_IN n)
  else s.modMdc n fun x => { x with inb := x.inb ++ [b] }

/-- A byte for the outbound FIFO; when it is the first one and the registers are in use, the channel's line is raised
(R415). -/
def State.mdcOut (s : State) (n : Nat) (b : Byte) : State :=
  let q := (s.mdc n).outb
  if 256 ≤ q.length then s.mdcLost n (Fld.TRL_MDC_STAT_OVF_OUT n)
  else
    let s := s.modMdc n fun x => { x with outb := x.outb ++ [b] }
    if q = [] ∧ s.fb (Fld.TRL_MDC_CFG_SRC n) then s.raiseLine (21 + n) else s

/-- TXD goes low for a break once the outbound FIFO is empty (R413). -/
def State.mdcBreak (s : State) (n : Nat) : State :=
  s.modMdc n fun x => { x with txLow := x.brkRx && (x.txLow || x.outb.isEmpty) }

/-- A channel's part of a position-0 field: its count, its bytes and its break bit. -/
def State.mdcDeliver (s : State) (n count : Nat) (bs : List Byte) (brk : Bool) : State :=
  if !s.mdcRuns n then s
  else
    let s := if count = 3 then s else (bs.take count).foldl (fun s b => s.mdcOut n b) s
    if s.mdcPins n then (s.modMdc n fun x => { x with brkRx := brk }).mdcBreak n else s

/-- What a channel puts in a position-0 field. -/
def State.mdcTake (s : State) (n : Nat) : List Byte × Bool × State :=
  if !s.mdcRuns n then ([], false, s)
  else
    let x := s.mdc n
    (x.inb.take 2, x.brkIn && s.mdcPins n, s.modMdc n fun x => { x with inb := x.inb.drop 2 })

/-- MDC_BYTE_RECEIVED: a serial character, with the level of its stop bit. A low stop bit is a framing error, and when RXD has stayed
low for the whole character a break begins (R413, R621). -/
def execMdcByteReceived (channel : Nat) (byte : Byte) (stop : Bool) (s : State) : Res :=
  let s := s.begin
  if !s.mdcPins channel then .next s
  else if stop then .next (s.mdcIn channel byte)
  else
    let s := (s.fs (Fld.TRL_MDC_STAT_FRAME_ERR channel) 1).inc (Reg.TRL_MDC_LOST channel)
    .next (if byte = 0 then s.modMdc channel fun x => { x with brkIn := true } else s)

/-- BREAK_END: RXD goes high (R413). -/
def execBreakEnd (channel : Nat) (s : State) : Res :=
  let s := s.begin
  .next (if channel < 2 then s.modMdc channel fun x => { x with brkIn := false } else s)

/-- MDC_BYTE_SENT: the serial port finishes a byte of the outbound FIFO (R413). -/
def execMdcByteSent (channel : Nat) (s : State) : Res :=
  let s := s.begin
  match (s.mdc channel).outb with
  | [] => .next s
  | b :: r =>
    if !s.mdcPins channel || (s.mdc channel).txLow then .next s
    else .next (((s.modMdc channel fun x => { x with outb := r }).mdcBreak channel).emit (.mdcByte channel b))

/-- MDC_TX_WRITE (R415). -/
def execMdcTxWrite (channel : Nat) (byte : Byte) (s : State) : Res :=
  let s := s.begin
  .next (if s.mdcRuns channel && s.fb (Fld.TRL_MDC_CFG_SRC channel) then s.mdcIn channel byte else s)

/-- A read of TRL_MDC_RX_n: VALID and the byte taken (R415). -/
def State.readMdcRx (s : State) (n : Nat) : Word × State :=
  match (s.mdc n).outb with
  | b :: r =>
    if s.mdcRuns n && s.fb (Fld.TRL_MDC_CFG_SRC n) then
      (BitVec.ofNat 32 (256 + b.toNat), s.modMdc n fun x => { x with outb := r })
    else (0, s)
  | [] => (0, s)

/-- MDC_RX_READ (R415). -/
def execMdcRxRead (channel : Nat) (s : State) : Res :=
  let (v, s) := s.begin.readMdcRx channel
  .next (s.emit (.readData v))

/-- A write of TRL_MDC_CFG_n empties both FIFOs (R414, R417). A break on RXD lasts until RXD goes high, and one received from the partner
until an overhead without it, unless the channel's pins are no longer in use (R413). -/
def State.writeMdcCfg (s : State) (n v : Nat) : State :=
  if Spec.TRL_MDC_CFG.inRange v then
    let s := s.store Spec.TRL_MDC_CFG [n] v
    let pins := s.mdcPins n
    (s.modMdc n fun x => { brkIn := x.brkIn, brkRx := x.brkRx && pins, txLow := x.txLow && pins }).mdcBreak n
  else s.denied Spec.TRL_MDC_CFG

/-- MDC_EN_WRITE: a write of TRL_MDC_CFG_n. -/
def execMdcEnWrite (req : Requester) (channel : Nat) (value : Word) (s : State) : Res :=
  .next (s.begin.forReq req fun s => if channel < 2 then s.writeMdcCfg channel value.toNat else s.errorResponse)

/-! ## Sending (R395, R401, R435) -/

/-- Whether Graft's next container goes before port 64's: its bytes of the last 10 µs stay within SHARE_GBPS, or FLUSH
runs (R435, R439). -/
def State.graftFirstNow (s : State) : Bool :=
  s.grf.flushing || decide (s.trl.debt + 5160 ≤ 12500 * s.fg Fld.GRF_CFG_SHARE_GBPS)

/-- Takes the next Graft message when none is being sent. -/
def State.loadGraft (s : State) : State :=
  if s.trl.graft ≠ [] then s
  else match s.nextGraft with
    | some (m, s) => { s with trl := { s.trl with graft := m, graftFirst := true } }
    | none => s

/-- What a cut-through frame on port 64 has that may be sent before its end, and has not been (R401). -/
def State.streaming (s : State) : List Byte :=
  match (s.psched 64).tx with
  | none => []
  | some pid =>
    let p := s.pkt pid
    if p.txAt.isSome && !p.ended then ((s.egressBody p p.len).take (s.sduOf p 64 - 4)).drop s.trl.sent else []

/-- The container of a cut-through frame: it closes at 512 bytes, or earlier when the data received so far runs out, which is a free
value (R401). Nothing is taken when none has come. -/
def State.earlyContainer (s : State) (bs : List Byte) : Bool × State :=
  let (v, s) := s.free
  let c := (bs.take (v.toNat % (bs.length + 1))).take 512
  if c = [] then (false, s)
  else
    (true, { s with trl := { s.trl with
      seg := containerHeader 1 (s.trl.sent == 0) false c.length ++ c, segData := true, sent := s.trl.sent + c.length } })

/-- The next container, as what is left to be sent of it; `false` when there is nothing to send. -/
def State.nextContainer (s : State) : Bool × State :=
  let s := s.loadGraft
  let t := s.trl
  let early := if t.data = [] then s.streaming else []
  if t.graft ≠ [] ∧ ((t.data = [] ∧ early = []) ∨ s.graftFirstNow) then
    let c := t.graft.take 512
    let seg := containerHeader 2 t.graftFirst (decide (t.graft.length ≤ 512)) c.length ++ c
    (true, { s with trl := { t with
      seg := seg, segData := false, graft := t.graft.drop 512, graftFirst := false, debt := t.debt + 10 * seg.length } })
  else if t.data ≠ [] then
    let c := t.data.take 512
    (true, { s with trl := { t with
      seg := containerHeader 1 t.dataFirst (decide (t.data.length ≤ 512)) c.length ++ c, segData := true, data := t.data.drop 512,
      dataFirst := decide (t.data.length ≤ 512) } })
  else if early ≠ [] then s.earlyContainer early
  else (false, s)

/-- Fills the payload of a frame: the rest of the container in progress, then containers, then fill. The answer holds the
offset of the first header that starts in it. A frame takes fewer than 1,024 containers. -/
def State.fillPayload (s : State) (room : Nat) (ptr : Option Nat) : Nat → List Byte × Option Nat × State
  | 0 => (List.replicate room 0, ptr, s)
  | f + 1 =>
    if room = 0 then ([], ptr, s)
    else if s.trl.seg ≠ [] then
      let c := s.trl.seg.take room
      let (r, p, s) := { s with trl := { s.trl with seg := s.trl.seg.drop room } }.fillPayload (room - c.length) ptr f
      (c ++ r, p, s)
    else match (if s.trellisUp then s.nextContainer else (false, s)) with
      | (true, s) => s.fillPayload room (some (ptr.getD (4064 - room))) f
      | (false, s) => (List.replicate room 0, ptr, s)

/-- The multiplexed field of a superframe position (R399). -/
def State.muxField (s : State) (pos : Nat) : List Byte × State :=
  if pos = 0 then
    let (a, ba, s) := s.mdcTake 0
    let (b, bb, s) := s.mdcTake 1
    (beBytes 1 (64 * a.length + 16 * b.length + 8 * ofBool ba + 4 * ofBool bb) ++ padTo 2 a ++ padTo 2 b ++ beBytes 3 0, s)
  else if pos = 1 then s.ackField
  else (beBytes 8 0, s)

/-- TRELLIS_FRAME_SENT: the transmitter sends its next frame whole on lane count mod 8, whose polarity TX_POL sets (R394, R395–R401, R408, R436). -/
def execTrellisFrameSent (s : State) : Res :=
  let s := s.begin
  if s.fg Fld.TRL_STATUS_STATE = 0 then .next s
  else
    let n := s.trl.count
    let s := { s with
      trl := { s.trl with debt := s.trl.debt - 102 * s.fg Fld.GRF_CFG_SHARE_GBPS }
      grf := { s.grf with walkDebt := s.grf.walkDebt - 102 * s.fg Fld.GRF_RATE_RESYNC_GBPS } }
    let (mux, s) := s.muxField (n % 256)
    let (payload, ptr, s) := s.fillPayload 4064 none 2048
    let rdi := s.fb Fld.TRL_CFG_FORCE_RDI || s.declaredKind 0 || s.declaredKind 2 || s.declaredKind 3
    let oh := beBytes 8 alignWord ++ beBytes 4 n ++ beBytes 1 n
      ++ beBytes 1 (128 * ofBool rdi + 64 * ofBool (s.declaredKind 4) + 32 * ofBool s.trellisUp)
      ++ beBytes 2 (ptr.getD 0xFFFF) ++ mux ++ beBytes 6 0
    let s := { s with trl := { s.trl with count := (n + 1) % 2 ^ 32 } }
    let wire := invert (s.fbit Fld.TRL_LANE_CFG_TX_POL (n % 8)) (scramble (oh ++ beBytes 2 (crc16 oh) ++ payload))
    .next (s.emit (.trellisFrame (n % 8) wire))

/-! ## Receiving (R397–R402, R405, R412, R436) -/

/-- A container that is delivered begins (R45, R402): with FIRST a port-64 frame takes its slice and its time, and a Graft message
starts. (DEDUCED, log 19) -/
def State.beginContainer (s : State) (type : Nat) (first : Bool) : State :=
  if !first then s
  else if type = 1 then
    let s := if s.trl.rxData.isSome then s.abandonRx else s
    let (t, s) := s.rxStamp 64
    { s with trl := { s.trl with rxData := some { slice := s.trellisSlice, at' := t } } }
  else { s with trl := { s.trl with rxGraft := some [] } }

/-- Content of a container that is delivered; `done` says that it ends the frame or the message. Content that belongs to none is
discarded. -/
def State.takeContent (s : State) (type : Nat) (done : Bool) (c : List Byte) : State :=
  if type = 1 then
    match s.trl.rxData with
    | none => s
    | some f =>
      if done then ({ s with trl := { s.trl with rxData := none } }.startIn 64 f.slice f.at' (f.bytes ++ c)).endRx 64 false
      else { s with trl := { s.trl with rxData := some { f with bytes := f.bytes ++ c } } }
  else
    match s.trl.rxGraft with
    | none => s
    | some f =>
      if done then { s with trl := { s.trl with rxGraft := none } }.takeMessage (f ++ c)
      else { s with trl := { s.trl with rxGraft := some (f ++ c) } }

/-- Whether the header at the front of a byte stream is a container's (R402). -/
def headerOk (bs : List Byte) : Bool :=
  let b0 := beAt bs 0 1
  let len := beAt bs 1 2
  beAt bs 3 1 == crc8 (bs.take 3) && (b0 / 16 == 1 || b0 / 16 == 2) && decide (1 ≤ len ∧ len ≤ 512)

/-- Whether received containers are delivered: in UP and HALF (R402). -/
def State.delivers (s : State) : Bool := s.fg Fld.TRL_STATUS_STATE == 2 || s.fg Fld.TRL_STATUS_STATE == 3

/-- Takes what is at the front of the stream: content of the container in progress, or the header of the next one. (DEDUCED, log 19)
-/
def State.takeContainers (s : State) : Nat → State
  | 0 => s
  | f + 1 =>
    match s.trl.cont with
    | some x =>
      let c := s.trl.stream.take x.left
      if c = [] then s
      else
        let rest := x.left - c.length
        let s := { s with trl := { s.trl with
          stream := s.trl.stream.drop x.left, cont := if rest = 0 then none else some { x with left := rest } } }
        (if s.delivers then s.takeContent x.type (x.last && rest == 0) c else s).takeContainers f
    | none =>
      let bs := s.trl.stream.dropWhile (· = 0)
      let s := { s with trl := { s.trl with stream := bs } }
      if bs.length < 4 then s
      else if !headerOk bs then (s.inc Reg.TRL_HDR_ERR).loseDelin
      else
        let b0 := beAt bs 0 1
        let s := { s with trl := { s.trl with
          stream := bs.drop 4, cont := some { type := b0 / 16, last := bitAt b0 2, left := beAt bs 1 2 } } }
        (if s.delivers then s.beginContainer (b0 / 16) (bitAt b0 3) else s).takeContainers f

/-- Delivers a frame's payload; `ptr` is its pointer when the overhead was correct. -/
def State.takePayload (s : State) (ptr : Option Nat) (payload : List Byte) : State :=
  if s.trl.delin then { s with trl := { s.trl with stream := s.trl.stream ++ payload } }.takeContainers 1024
  else match ptr with
    | some p =>
      if p < 4064 then { s with trl := { s.trl with delin := true, stream := payload.drop p } }.takeContainers 1024 else s
    | none => s

/-- What superframe alignment takes from an overhead: its position when its CRC is correct (R405). -/
def TrlState.seePosition (t : TrlState) (pos : Option Nat) : TrlState :=
  let next := fun (e : Nat) => (e + 1) % 256
  match pos with
  | none => { t with crcRun := t.crcRun + 1, posExp := t.posExp.map next }
  | some p =>
    if t.posExp = some p then { t with crcRun := 0, goodRun := t.goodRun + 1, missRun := 0, posExp := some (next p) }
    else
      { t with
        crcRun := 0, goodRun := 1, missRun := t.missRun + 1
        posExp := if t.aligned then t.posExp.map next else some (next p) }

/-- The fields of a correct overhead: link status, channels and acknowledgement. -/
def State.takeOverhead (s : State) (f : List Byte) : State :=
  let status := beAt f 13 1
  let s := s.fs Fld.TRL_STATUS_REM_DEG (ofBool (bitAt status 6))
  let s := s.setRaw 19 (bitAt status 7) s.aon
  let pos := beAt f 12 1
  if pos = 0 ∧ s.trl.aligned then
    let m := beAt f 16 1
    (s.mdcDeliver 0 (bitsOf m 7 6) (sliceBytes f 17 2) (bitAt m 3)).mdcDeliver 1 (bitsOf m 5 4) (sliceBytes f 19 2) (bitAt m 2)
  else if pos = 1 then s.takeAck (sliceBytes f 16 8)
  else s

/-- The next frame of the reassembled stream: superframe alignment, its overhead and its payload (R397–R402, R405). -/
def State.takeFrame (s : State) (ok : Bool) (f : List Byte) : State :=
  let s := { s with trl := s.trl.seePosition (if ok then some (beAt f 12 1) else none) }
  let s := if ok then s.takeOverhead f else s
  s.takePayload (if ok then some (beAt f 14 2) else none) (f.drop 32)

/-- Whether a frame count lies before another, as counts modulo 2^32 go. -/
def countBefore (a b : Nat) : Bool := decide (2 ^ 31 ≤ (a + 2 ^ 32 - b) % 2 ^ 32)

/-- The deskew takes the lanes up once each of them holds a frame (R404): the stream starts with the eight frames that end with the
latest of the lanes' first ones. (DESIGN CHOICE, log 64) -/
def State.startDeskew (s : State) : State :=
  let heads := (List.range 8).filterMap fun p => ((s.lane p).held.head?).map (·.1)
  match s.trl.expect, heads with
  | none, h :: hs =>
    if hs.length < 7 then s
    else
      let first := (hs.foldl (fun m c => if countBefore m c then c else m) h + 2 ^ 32 - 7) % 2 ^ 32
      { s with trl := { s.trl with
        expect := some first, skewOk := true
        lanes := s.trl.lanes.map fun (e : Nat × TrlLane) => (e.1, { e.2 with held := e.2.held.filter fun x => !countBefore x.1 first }) } }
  | _, _ => s

/-- The deskew holds two lane frames of skew: when a lane has more to hold, it fails and starts anew (R404). (DESIGN CHOICE, log 64)
-/
def State.checkSkew (s : State) : State :=
  if (List.range 8).any fun p => decide (2 < (s.lane p).held.length) then
    let s := s.emptyDeskew
    { s with trl := { s.trl with skewOk := false } }
  else s

/-- Reassembles the frames that the deskew holds, in count order (R404). -/
def State.reassemble (s : State) : Nat → State
  | 0 => s
  | n + 1 =>
    match s.trl.expect with
    | none => s
    | some e =>
      match (List.range 8).find? fun p => ((s.lane p).held.head?).any fun x => x.1 == e with
      | none => s
      | some p =>
        match (s.lane p).held with
        | [] => s
        | x :: r =>
          let s := s.modLane p fun y => { y with held := r }
          let s := { s with trl := { s.trl with expect := some ((e + 1) % 2 ^ 32) } }
          (s.takeFrame x.2.1 x.2.2).reassemble n

/-- A lane that is in-frame receives a frame, descrambled (R398, R403, R404): its alignment word is checked at its place, its count is
followed, and the deskew holds it while the lanes can be reassembled. -/
def State.takeLaneFrame (s : State) (p : Nat) (f : List Byte) : State :=
  let ok := overheadOk f
  let hit := (s.lane p).locked && beAt f 0 8 == alignWord
  let s := if ok then s else s.inc Reg.TRL_OH_CRC
  let s := (s.modLane p fun x => { x with misses := if hit then 0 else x.misses + 1 }).placeLane p f
  let x := s.lane p
  let whole := (List.range 8).all fun q => (s.lane q).inFrame && !(s.lane q).jump
  let s := match whole && !s.trl.twice, x.next with
    | true, some c => (s.modLane p fun x => { x with held := x.held ++ [((c + 2 ^ 32 - 8) % 2 ^ 32, ok, f)] }).startDeskew
    | _, _ => s.emptyDeskew
  let s := (if s.trl.expect.isNone then s.checkSkew else s).rawLanes
  if s.lofRaw then s
  else
    let s := s.reassemble 24
    let t := s.checkSkew
    if t.trl.skewOk then t else t.rawLanes

/-- TRELLIS_FRAME_RECEIVED: a physical lane has received 4,096 bytes, as they came from its FEC decoder; `corrected` and
`uncorrectable` are the symbols it corrected in them and the codewords it could not (R394–R405, R412, R436, R440). -/
def execTrellisFrameReceived (lane : BitVec 3) (frame : List Byte) (corrected uncorrectable : Nat) (s : State) : Res :=
  let s := s.begin
  let p := lane.toNat
  if s.fg Fld.TRL_STATUS_STATE = 0 ∨ frame.length ≠ 4096 then .next s
  else
    let s := s.countFec p corrected uncorrectable
    if !(s.lane p).inFrame then .next s
    else .next (s.takeLaneFrame p (scramble (invert (s.fbit Fld.TRL_LANE_CFG_RX_POL p) frame)))

end Sys2Proof.Machine
end

