-- ==== Sys2Proof/Machine/Reset.lean ====
section
/-! DEFINITION. Cold and warm reset: what each keeps (R614, R615, R630), and the reset causes (R474, R479, R616). -/

namespace Sys2Proof.Machine

/-- The first byte of the Glasshouse region of package memory (R496). (DEDUCED, log 44) -/
def State.glhBase (s : State) : Nat := 0x1000000000 + s.flowRegionBytes + 3 * 2 ^ 30

/-! ## What a warm reset keeps (R630) -/

/-- The bits of a register that a warm reset keeps: every register of KTL, the listed fields, and every RWS field. -/
def keptBits (addr : Nat) : Nat :=
  let all := 2 ^ 32 - 1
  if addr / 2 ^ 20 = 1 then all
  else if addr ∈ [Reg.TIM_NOW_SH.addr, Reg.TIM_NOW_SL.addr, Reg.TIM_NOW_NS.addr, Reg.TIM_NOW_FRAC.addr, Reg.TIM_ADJ.addr,
      Reg.TIM_PPSOUT_CFG.addr, Reg.TIM_PPSOUT_OFS.addr, Reg.FLE_CLOCK_LO.addr, Reg.FLE_CLOCK_HI.addr,
      Reg.PMEM_RETIRE_STAT.addr, Reg.DBG_EVT_STAT.addr] then all
  else if addr = Reg.FLE_STATUS.addr then 0xFF00
  else
    match Spec.find? addr with
    | some (r, _) =>
      if r.name ∈ ["PMU_EVC_LO", "PMU_EVC_HI", "PMU_EVC_WRAP"] then all
      else r.fields.foldl (fun m f => if f.acc = .rws then m + (2 ^ (f.hi + 1) - 2 ^ f.lo) else m) 0
    | none => 0

/-- The registers after a warm reset. -/
def keptRegs (t : Table Word) : Table Word :=
  (t.map fun e => (e.1, e.2 &&& BitVec.ofNat 32 (keptBits e.1))).filter fun e => e.2 != 0

/-- A reset of the flash: FL_RESET_N is driven low for 20 µs with FL_CS_N high. Of an operation in progress, each bit that it was to
change may or may not have changed (R617). -/
def State.cutFlash (s : State) : State :=
  let s := s.emit .flashReset
  match s.nvm.opAt, s.nvm.ops with
  | some _, op :: _ =>
    let n := if op.erase then 4096 else op.data.length
    let base := if op.erase then op.addr / 4096 * 4096 else op.addr
    (List.range n).foldl (fun (s : State) i =>
      let (v, s) := s.free
      let old := s.nvm.flash.get (base + i) 0xFF
      let b : Byte := if op.erase then old ||| BitVec.ofNat 8 v.toNat else old &&& (op.data.getD i 0xFF ||| BitVec.ofNat 8 v.toNat)
      { s with nvm := { s.nvm with flash := s.nvm.flash.put (base + i) 0xFF b } }) s
  | _, _ => s

/-- The cells that are retired, as both the reset free lists and the cell table need them (R313). -/
def State.keepRetired (s : State) (cells : Table CellHdr) : State :=
  let kept : Table CellHdr := (cells.filter fun e => e.2.retired).map fun e => (e.1, { retired := true })
  let s := { s with buf := { s.buf with cells := kept, retiredCells := kept.length } }
  (List.range 32).foldl (fun (s : State) l =>
    if kept.any fun e => homeList e.1 == l then
      s.setFreeList l { fresh := 0, appended := ((List.range 8192).map fun i => l / 8 * 65536 + 8 * i + l % 8).filter fun c =>
        !(kept.any fun e => e.1 == c) }
    else s) s

/-- A warm reset (R615): everything outside the always-on domain takes its reset value; package memory, the network time, the flow
clock, the Kettle, the event buffer, the statistics, the event and queue counts, retired banks and cells and the journal retention
registers are kept. Open sessions end (R588). `cause` is the value of KTL_RESET_CAUSE. (DESIGN CHOICE, log 86, DEDUCED, log 114) -/
def State.warmReset (s : State) (cause : Nat) : State :=
  let s := s.mgt.sessions.foldl (fun (s : State) e =>
    match e.2 with
    | some x => if x.opened then s.log 0x1403 (d1 (Config.closeCause 3).toNat) else s
    | none => s) s
  let s := s.cutFlash
  let counts := (s.sch.queues.map fun e =>
    (e.1, { queueDefault e.1 with sentPkts := e.2.sentPkts, sentBytes := e.2.sentBytes, dropped := e.2.dropped })).filter fun e =>
      e.2 != queueDefault e.1
  let t : State :=
    { pending := s.pending, regs := keptRegs s.regs, aon := s.aon, net := s.net, fresh := s.fresh, out := s.out,
      events := s.events, evtMark := s.evtMark,
      sch := { queues := counts },
      fle := { slots := s.fle.slots, overflow := s.fle.overflow, clockMs := s.fle.clockMs, clockAt := s.fle.clockAt,
               spareLogged := s.fle.spareLogged },
      tim := { adjPending := s.tim.adjPending, pps := s.tim.pps, ppsHigh := s.tim.ppsHigh, ppsFallAt := s.tim.ppsFallAt,
               ppsLast := s.tim.ppsLast, ppsNotBefore := s.tim.ppsNotBefore },
      ktl := s.ktl,
      pmu := { evc := s.pmu.evc, stats := s.pmu.stats, statHi := s.pmu.statHi },
      glh := { mem := s.glh.mem, cyclesAt := s.aon },
      xlb := { subs := s.xlb.subs, grans := s.xlb.grans, fwd := s.xlb.fwd, rev := s.xlb.rev },
      fwd := { l2 := s.fwd.l2, lpm := s.fwd.lpm },
      nvm := { flash := s.nvm.flash, held := s.nvm.held, pages := s.nvm.pages, holds := s.nvm.holds },
      sec := { slots := s.sec.slots, provLow := s.sec.provLow } }
  let t := if s.buf.retiredCells = 0 then t else t.keepRetired s.buf.cells
  (t.wr Reg.KTL_RESET_CAUSE (BitVec.ofNat 32 cause)).showClkHalf

/-- A cold reset (R614): the whole device takes its reset values, PPS_OUT is low (R608), flash and OTP keep what they hold, and
PROV_N is sampled (R597). What holds a reset goes on holding it (R616). (DESIGN CHOICE, log 9, DESIGN CHOICE, log 86) -/
def State.coldReset (s : State) (provLow : Bool) : State :=
  let s := if s.tim.ppsHigh then s.cutFlash.emit (.ppsOut false) else s.cutFlash
  { pending := s.pending, fresh := s.fresh, out := s.out,
    nvm := { flash := s.nvm.flash, pages := s.nvm.pages, holds := s.nvm.holds },
    sec := { slots := s.sec.slots, provLow := provLow } }

/-- A condition keeps the device in reset until START_STAGE finds it gone (R613, R616). -/
def State.holdBy (s : State) (h : Hold) : State :=
  { s with nvm := { s.nvm with holds := s.nvm.holds.filter (· ≠ h) ++ [h] } }

/-- Whether a condition is one of those that keep the device in cold reset (R613). -/
def coldHold (h : Hold) : Bool := match h with | .porst | .aonLow | .noClock => true | _ => false

/-- COLD_RESET: PORST_N low, VDD_AON below its reset level, or AON_CLK missing for more than 10 µs; it lasts as long as its cause
(R613). -/
def execColdReset (cause : Hold) (provLow : Bool) (s : State) : Res :=
  let s := s.begin
  .next (if coldHold cause then (s.coldReset provLow).holdBy cause else s)

/-- Two values of KTL_RESET_CAUSE together: every cause bit, and the lower supply index of two brown-outs (R616). -/
def causesOf (a b : Nat) : Nat :=
  if bitAt a 5 && bitAt b 5 then (a ||| b) / 8 * 8 + min (a % 8) (b % 8) else a ||| b

/-- A warm reset from a cause. One that finds a warm reset still held extends it and adds its cause; one that finds a cold reset held
changes nothing (R616). -/
def State.resetBy (s : State) (cause : Nat) : State :=
  if s.nvm.holds.any coldHold then s
  else if s.ktl.thermalHeld || !s.nvm.holds.isEmpty then
    s.wr Reg.KTL_RESET_CAUSE (BitVec.ofNat 32 (causesOf (s.rd Reg.KTL_RESET_CAUSE).toNat cause))
  else s.warmReset cause

/-- WARM_RESET: SYSRST_N low (R615, R616: the PIN bit); it lasts as long as the pin is low. -/
def execWarmReset (s : State) : Res := .next ((s.begin.resetBy 0x40).holdBy .sysrst)

end Sys2Proof.Machine
end

