-- ==== Sys2Proof/Machine/Nvm.lean ====
section
/-! DEFINITION. The flash (R486–R489, R513), the start journal (R498), the event log's place in flash (R635), and the
image format with its checks (R490–R497, R505, R514). -/

namespace Sys2Proof.Machine

/-! ## Reading and writing flash -/

/-- A byte of the flash; an erased one reads 0xFF. (DESIGN CHOICE, log 11) -/
def State.flByte (s : State) (a : Nat) : Byte := s.nvm.flash.get a 0xFF

/-- The `n` flash bytes at an offset. -/
def State.flBytes (s : State) (a n : Nat) : List Byte := (List.range n).map fun i => s.flByte (a + i)

/-- The number in `n` flash bytes at an offset. -/
def State.flNat (s : State) (a n : Nat) : Nat := beNat (s.flBytes a n)

/-- Starts the first waiting operation; under a supply warning none starts (R475, R488). -/
def State.flStart (s : State) : State :=
  if s.nvm.opAt.isNone && !s.nvm.ops.isEmpty && !s.fb Fld.KTL_PWR_STAT_WARN then
    { s with nvm := { s.nvm with opAt := some s.aon } }
  else s

/-- Puts an operation behind those that wait (R488: one at a time, in order). -/
def State.flPush (s : State) (op : FlashOp) : State := { s with nvm := { s.nvm with ops := s.nvm.ops ++ [op] } }.flStart

/-- What an operation does to the flash: a program clears bits, an erase sets its 4 KiB sector to 0xFF. (DESIGN CHOICE, log
11) -/
def flApply (t : Table Byte) (op : FlashOp) : Table Byte :=
  if op.erase then t.filter fun e => decide (e.1 / 4096 ≠ op.addr / 4096)
  else (List.range op.data.length).foldl (fun (t : Table Byte) i =>
    t.put (op.addr + i) 0xFF (t.get (op.addr + i) 0xFF &&& op.data.getD i 0xFF)) t

/-- The operation in progress ends: it has taken effect, or it failed, and is then retried once (R488). Answers who had
asked for it when it is over, and whether it succeeded. -/
def State.flEnd (s : State) (ok : Bool) : State × Option (FlashUser × Bool) :=
  match s.nvm.opAt, s.nvm.ops with
  | some _, op :: rest =>
    if ok then
      ({ s with nvm := { s.nvm with flash := flApply s.nvm.flash op, ops := rest, opAt := none } }.flStart, some (op.user, true))
    else
      let s := (s.inc Reg.NVM_FL_ERR).log 0x0301
      if op.tried then ({ s with nvm := { s.nvm with ops := rest, opAt := none } }.flStart, some (op.user, false))
      else ({ s with nvm := { s.nvm with ops := { op with tried := true } :: rest, opAt := some s.aon } }, none)
  | _, _ => (s, none)

/-- What the end of an operation shows in the registers: DONE, or REASON 5 when it was abandoned (R513). -/
def State.flShow (s : State) (user : FlashUser) (ok : Bool) : State :=
  match user with
  | .device => s
  | .invalidate => (s.fs Fld.NVM_IMG_STAT_BUSY 0).doneLine Fld.NVM_IMG_STAT_DONE
  | _ =>
    let s := s.fs Fld.NVM_FL_STAT_BUSY 0
    if ok then s.doneLine Fld.NVM_FL_STAT_DONE
    else (s.fs Fld.NVM_FL_STAT_REJECTED 1).fs Fld.NVM_FL_STAT_REASON 5

/-- Whether the operation in progress has passed its limit: 10 ms for a page, 500 ms for a sector (R488). -/
def State.flLate (s : State) : Bool :=
  match s.nvm.opAt, s.nvm.ops with
  | some t, op :: _ => decide (t + (if op.erase then 500 else 10) * msCycles ≤ s.aon)
  | _, _ => false

/-! ## The copies (R489, R505) -/

/-- Where a copy lies and how large its region is: 0 caddy A, 1 caddy B, 2 boot A, 3 boot B (R489, R514). -/
def copyBase (c : Nat) : Nat := [0x1000000, 0x2800000, 0x0800000, 0x0C00000].getD c 0
@[inherit_doc copyBase] def copySize (c : Nat) : Nat := if c < 2 then 24 * 2 ^ 20 else 4 * 2 ^ 20

/-- The copy whose region holds an offset. -/
def copyAt (a : Nat) : Option Nat := (List.range 4).find? fun c => decide (copyBase c ≤ a ∧ a < copyBase c + copySize c)

/-- Whether a copy is in use: the caddy copy selected or running, or the boot copy loaded (R505). -/
def State.copyInUse (s : State) (c : Nat) : Bool := if c < 2 then s.nvm.caddy == some c else s.nvm.boot == some (c - 2)

/-- The bytes of the data buffer (R513: byte 0 in bits 31:24 of word 0). -/
def State.flBuf (s : State) (n : Nat) : List Byte :=
  ((List.range 64).flatMap fun w => beBytes 4 (s.rd (Reg.NVM_FL_BUF w)).toNat).take n

/-- Puts bytes into the data buffer. -/
def State.setFlBuf (s : State) (bs : List Byte) : State :=
  (List.range bs.length).foldl (fun (s : State) i =>
    let r := Reg.NVM_FL_BUF (i / 4)
    let lo := 24 - 8 * (i % 4)
    s.wr r (BitVec.ofNat 32 (withBits (s.rd r).toNat (lo + 7) lo (bs.getD i 0).toNat))) s

/-- A flash read: the content of the training cache and of the retirement list has no format in the spec, so its bytes
are free values. -/
def State.flRead (s : State) (a n : Nat) : List Byte × State :=
  (List.range n).foldl (fun x i =>
    let b := a + i
    if 0x0110000 ≤ b ∧ b < 0x0190000 then
      let (v, s) := x.2.free
      (x.1 ++ [BitVec.ofNat 8 v.toNat], s)
    else (x.1 ++ [x.2.flByte b], x.2)) (([] : List Byte), s)

/-- Why a flash command is refused, in the REASON codes of R513; none when it is not. -/
def State.flRefuse (s : State) (kernel : Bool) (op a n : Nat) : Option Nat :=
  if op = 0 then if a + n ≤ 2 ^ 26 then none else some 1
  else
    match copyAt a with
    | none => some 1
    | some c =>
      if s.copyInUse c then some 2
      else if !kernel then some 3
      else if op = 1 ∧ 256 < a % 256 + n then some 4
      else none

/-- A write of NVM_FL_CMD (R513), for a user: the command register itself, or a Grix request. -/
def State.writeFlCmd (s : State) (kernel : Bool) (user : FlashUser) (v : Nat) : State :=
  let op := bitsOf v 30 28
  let n := v % 512
  let no := fun (k : Nat) => s.reject Fld.NVM_FL_STAT_REJECTED Fld.NVM_FL_STAT_REASON k
  if n < 1 ∨ 256 < n ∨ 2 < op then no 0
  else if !bitAt v 31 then s.store Spec.NVM_FL_CMD [] v
  else if s.fb Fld.NVM_FL_STAT_BUSY then no 6
  else
    let a := s.fg Fld.NVM_FL_ADDR_ADDR
    match s.flRefuse kernel op a n with
    | some k => no k
    | none =>
      let s := s.store Spec.NVM_FL_CMD [] v
      if op = 0 then
        let (bs, s) := s.flRead a n
        (s.setFlBuf bs).doneLine Fld.NVM_FL_STAT_DONE
      else
        let s := { s with nvm := { s.nvm with verified := s.nvm.verified.filter fun c => copyAt a != some c } }
        (s.fs Fld.NVM_FL_STAT_BUSY 1).flPush { erase := op == 2, addr := a, data := s.flBuf n, user := user }

/-- Whether a requester has Glasshouse kernel privilege (R505). -/
def isKernel (q : Requester) : Bool := match q with | .kernel | .loader => true | _ => false

/-- FLASH_CMD_READ, PAGE_PROGRAM and SECTOR_ERASE: NVM_FL_CMD written with GO = 1. -/
def execFlashCmdRead (req : Requester) (len : BitVec 9) (s : State) : Res :=
  .next (s.begin.forReq req fun s => s.writeFlCmd (isKernel req) .command (2 ^ 31 + len.toNat))

/-- PAGE_PROGRAM (R505). -/
def execPageProgram (req : Requester) (len : BitVec 9) (s : State) : Res :=
  .next (s.begin.forReq req fun s => s.writeFlCmd (isKernel req) .command (2 ^ 31 + 2 ^ 28 + len.toNat))

/-- SECTOR_ERASE (R505). -/
def execSectorErase (req : Requester) (len : BitVec 9) (s : State) : Res :=
  .next (s.begin.forReq req fun s => s.writeFlCmd (isKernel req) .command (2 ^ 31 + 2 * 2 ^ 28 + len.toNat))

/-! ## The start journal (R498) -/

/-- The 32 bytes of a journal entry. -/
def JEntry.bytes (e : JEntry) : List Byte :=
  let bs := d1 e.kind ++ d1 e.stage ++ d1 e.method ++ d1 e.fails ++ beBytes 4 e.start ++ beBytes 4 e.flowMs ++ d2 e.event ++
    d1 e.copies ++ d1 0 ++ beBytes 4 e.unit ++ beBytes 4 e.detail ++ beBytes 4 e.num
  bs ++ beBytes 4 (crc32c 0xFFFFFFFF bs)

/-- The journal entry in 32 bytes; one whose CRC fails does not exist. -/
def JEntry.of (bs : List Byte) : Option JEntry :=
  let n := fun off k => beNat (sliceBytes bs off k)
  if n 28 4 = crc32c 0xFFFFFFFF (bs.take 28) then
    some { kind := n 0 1, stage := n 1 1, method := n 2 1, fails := n 3 1, start := n 4 4, flowMs := n 8 4, event := n 12 2,
           copies := n 14 1, unit := n 16 4, detail := n 20 4, num := n 24 4 }
  else none

/-- Where the journal lies; its ring has 32,768 places, 128 to a sector. -/
def journalBase : Nat := 0x0010000

/-- The copies in use, as bits 7 and 6 of byte 14. -/
def State.copyBits (s : State) : Nat := 128 * s.nvm.boot.getD 0 + 64 * s.nvm.caddy.getD 0

/-- Writes an entry at the next place of the ring; a sector that is begun has the following one erased. (DESIGN CHOICE, log
87) -/
def State.journalPut (s : State) (e : JEntry) : State :=
  let pos := s.nvm.jpos
  let e := { e with num := s.nvm.jnum }
  let begun := decide (pos % 128 = 0)
  let next := (pos / 128 + 1) % 256
  let kept : Table JEntry := if begun then s.nvm.journal.filter fun x => decide (x.1 / 128 ≠ next) else s.nvm.journal
  let s := { s with nvm := { s.nvm with
    journal := Table.ins kept pos e, jpos := (pos + 1) % 32768, jnum := (s.nvm.jnum + 1) % 2 ^ 32 } }
  let s := if begun then s.flPush { erase := true, addr := journalBase + next * 4096 } else s
  s.flPush { addr := journalBase + pos * 32, data := e.bytes }

/-- Appends an entry: to the journal, or before stage 2 has completed to the retention registers (R499). (DESIGN CHOICE, log
87) -/
def State.journal (s : State) (e : JEntry) : State :=
  let e := { e with flowMs := s.flowMs % 2 ^ 32, start := s.nvm.startNo, copies := s.copyBits }
  if s.nvm.opened then s.journalPut e else { s with nvm := { s.nvm with held := s.nvm.held ++ [e] } }

/-- The detail of an event of block 0x17: bytes 1–3 and 16–23 of its journal entry (R634). -/
def JEntry.detailBytes (e : JEntry) : List Byte :=
  d1 e.stage ++ d1 e.method ++ d1 e.fails ++ beBytes 4 e.unit ++ beBytes 4 e.detail

/-- Appends an entry with its event of block 0x17. -/
def State.journalEvent (s : State) (e : JEntry) : State := (s.journal e).log e.event e.detailBytes

/-- The entries the flash holds, by place. -/
def State.journalInFlash (s : State) : Table JEntry :=
  s.nvm.flash.foldl (fun (t : Table JEntry) x =>
    let pos := (x.1 - journalBase) / 32
    if journalBase ≤ x.1 ∧ x.1 < journalBase + 2 ^ 20 ∧ (t.all fun y => decide (y.1 ≠ pos)) then
      match JEntry.of (s.flBytes (journalBase + 32 * pos) 32) with
      | some e => t.ins pos e
      | none => t
    else t) []

/-- Opens the journal: the head is the valid entry with the highest number (R498). -/
def State.openJournal (s : State) : State :=
  let t := s.journalInFlash
  let head := t.foldl (fun (h : Option (Nat × JEntry)) x =>
    match h with
    | some y => if y.2.num < x.2.num then some x else h
    | none => some x) none
  let (pos, num) := match head with | some (p, e) => ((p + 1) % 32768, (e.num + 1) % 2 ^ 32) | none => (0, 0)
  { s with nvm := { s.nvm with journal := t, jpos := pos, jnum := num, opened := true } }

/-- The journal from its oldest entry to its newest, with the retention registers at the end while it is not open. -/
def State.history (s : State) : List JEntry :=
  let t := s.nvm.journal
  ((t.filter fun e => decide (s.nvm.jpos ≤ e.1)) ++ (t.filter fun e => decide (e.1 < s.nvm.jpos))).map (·.2)
    ++ (if s.nvm.opened then [] else s.nvm.held)

/-- The failures of a stage, or of one of its slices or lane groups, since its last completion or the last fallback or
halt (R500, R504). Unit 0xFF is the whole of stage 7 or 8, which any of its slices or groups completes. -/
def failCount (es : List JEntry) (stage unit : Nat) : Nat :=
  es.foldl (fun n e =>
    if e.kind = 6 ∨ e.kind = 7 then 0
    else if e.stage = stage ∧ (e.unit = unit ∨ (unit = 0xFF ∧ e.kind = 2)) then
      (if e.kind = 2 then 0 else if e.kind = 3 then n + 1 else n)
    else n) 0

/-- The copies rejected since the last completion of stage 10 (R503): the caddies, and the boot copy, by sequence number. A
fallback of a start rejects a caddy, then the boot copy with the caddy rejections cleared, then a caddy again; that of
a live apply rejects its caddy. -/
def rejections (es : List JEntry) : List Nat × Option Nat :=
  es.foldl (fun (r : List Nat × Option Nat) e =>
    let seq := e.unit * 2 ^ 32 + e.detail
    if e.kind = 7 ∨ (e.kind = 2 ∧ e.stage = 10) then ([], none)
    else if e.kind ≠ 6 then r
    else if e.stage = 0xFF then (seq :: r.1, r.2)
    else if r.1 ≠ [] ∧ r.2 = none then ([], some seq)
    else (seq :: r.1, r.2)) ([], none)

/-! ## The event log in flash (R631, R635) -/

/-- Where the event log lies; its ring has 65,536 places of 64 bytes, 64 to a sector. -/
def logBase : Nat := 0x0190000

/-- The 64 bytes of an event record under a log sequence number. -/
def EventRec.bytes (r : EventRec) (seq : Nat) : List Byte :=
  let flags := (if r.cont = 0 then 0 else 128) + 64 * ofBool r.prior + 32 * ofBool r.loss
  let bs := beBytes 4 seq ++ d2 r.code ++ d1 flags ++ d1 (if r.cont = 0 then r.follow else r.cont) ++ beBytes 8 r.flowMs ++
    beBytes 6 r.sec ++ beBytes 4 r.ns ++ d2 r.lost ++ sliceBytes r.detail 0 32
  bs ++ beBytes 4 (crc32c 0xFFFFFFFF bs)

/-- The valid records of the log by place: sequence number and bytes. A record whose CRC fails does not exist. -/
def State.logRecords (s : State) : Table (Nat × List Byte) :=
  s.nvm.flash.foldl (fun (t : Table (Nat × List Byte)) x =>
    let pos := (x.1 - logBase) / 64
    if logBase ≤ x.1 ∧ x.1 < logBase + 2 ^ 22 ∧ (t.all fun y => decide (y.1 ≠ pos)) then
      let bs := s.flBytes (logBase + 64 * pos) 64
      if beNat (bs.drop 60) = crc32c 0xFFFFFFFF (bs.take 60) then t.ins pos (beNat (bs.take 4), bs) else t
    else t) []

/-- The number after a log sequence number; 0 is passed over. -/
def nextLogSeq (n : Nat) : Nat := if (n + 1) % 2 ^ 32 = 0 then 1 else n + 1

/-- Finds the head of the log: the record that is newer than every other, modulo 2^32. -/
def State.openLog (s : State) : State :=
  let t := s.logRecords
  match t.find? fun h => t.all fun x => h.1 == x.1 || decide ((h.2.1 + 2 ^ 32 - x.2.1) % 2 ^ 32 < 2 ^ 31) with
  | some (pos, seq, _) => { s with nvm := { s.nvm with logPos := (pos + 1) % 65536, logSeq := nextLogSeq seq } }
  | none => { s with nvm := { s.nvm with logPos := 0, logSeq := 1 } }

/-- Appends a record to the log, one erased sector ahead of the head; answers its bytes. -/
def State.logAppend (s : State) (r : EventRec) : List Byte × State :=
  let pos := s.nvm.logPos
  let bs := r.bytes s.nvm.logSeq
  let s := { s with nvm := { s.nvm with logPos := (pos + 1) % 65536, logSeq := nextLogSeq s.nvm.logSeq } }
  let s := if pos % 64 = 0 then s.flPush { erase := true, addr := logBase + (pos / 64 + 1) % 1024 * 4096 } else s
  (bs, s.flPush { addr := logBase + pos * 64, data := bs })

/-! ## Images (R490–R497) -/

/-- An entry of a caddy's section table (R493): type, class, offset and length of the body, and its digest. -/
structure Section where
  ty : Nat
  cls : Nat
  off : Nat
  len : Nat
  digest : List Byte
  deriving DecidableEq, Repr, Inhabited

/-- The header fields of a copy: length, section count, identifier length and sequence number. -/
def State.imgLen (s : State) (c : Nat) : Nat := s.flNat (copyBase c + 24) 4
@[inherit_doc State.imgLen] def State.imgCount (s : State) (c : Nat) : Nat := s.flNat (copyBase c + 28) 2
@[inherit_doc State.imgLen] def State.imgIdLen (s : State) (c : Nat) : Nat := s.flNat (copyBase c + 30) 1
@[inherit_doc State.imgLen] def State.imgSeq (s : State) (c : Nat) : Nat := s.flNat (copyBase c + 16) 8

/-- The section table of a caddy copy. -/
def State.sections (s : State) (c : Nat) : List Section :=
  (List.range (s.imgCount c)).map fun i =>
    let a := copyBase c + 256 + 64 * i
    { ty := s.flNat a 2, cls := s.flNat (a + 2) 1, off := s.flNat (a + 4) 4, len := s.flNat (a + 8) 4,
      digest := s.flBytes (a + 32) 32 }

/-- The section of a type, if a copy has one. -/
def State.section? (s : State) (c ty : Nat) : Option Section := (s.sections c).find? fun x => x.ty == ty

/-- The body of a section. -/
def State.body (s : State) (c : Nat) (x : Section) : List Byte := s.flBytes (copyBase c + x.off) x.len

/-- The apply class of a known section type (R494): 0 live, 1 slice-restart, 2 start-only. -/
def classOf (ty : Nat) : Option Nat :=
  if 1 ≤ ty ∧ ty ≤ 7 then some 2 else if ty = 8 ∨ ty = 9 then some 1 else if 0x10 ≤ ty ∧ ty ≤ 0x1E then some 0 else none

/-- Whether an owner slot is active (R596). -/
def OwnerSlot.active (x : OwnerSlot) : Bool := x.programmed && !x.revoked

/-- Whether a key hash stands in an active owner slot. -/
def State.ownerKey (s : State) (hash : List Byte) : Bool :=
  (List.range 4).any fun k => let x := s.sec.slots.get k {}; x.active && x.hash == hash

/-- The message an image's signature covers (R491). -/
def State.signedPart (s : State) (c : Nat) : List Byte :=
  if c < 2 then s.flBytes (copyBase c) (256 + 64 * s.imgCount c) else s.flBytes (copyBase c) (s.imgLen c - 64)

/-- The checks of R497 on a copy, in order; each is numbered by its place. -/
def State.imageChecks (s : State) (c : Nat) : List Bool :=
  let b := copyBase c
  let len := s.imgLen c
  let n := s.imgCount c
  let key := s.flBytes (b + 64) 64
  let secs := s.sections c
  let steps := (List.range (s.flNat (b + 5) 1)).map fun i => s.flNat (b + 8 + i) 1
  let head := [
    s.flNat b 4 == (if c < 2 then 0x4F584344 else 0x4F584246),
    s.flNat (b + 4) 1 == 1,
    decide (len % 256 = 0 ∧ 256 ≤ len ∧ len ≤ copySize c) && (if c < 2 then decide (1 ≤ n ∧ n ≤ 64) else n == 0),
    decide (s.imgIdLen c ≤ 32) &&
      Config.sm2Verify (s.flBytes (b + 32) (s.imgIdLen c)) key (s.signedPart c) (s.flBytes (b + len - 64) 64),
    if c < 2 then s.ownerKey (sm3Of key) else key == Config.firmwareKey && s.imgIdLen c == 0,
    decide (steps.length ≤ 8) && steps.contains (s.fg Fld.KTL_DEVICE_ID_STEP)]
  let table := [
    secs.all fun x => decide (x.off % 256 = 0 ∧ 1 ≤ x.len ∧ x.off + x.len ≤ len - 64),
    (List.range n).all fun i => (List.range i).all fun j =>
      match secs[i]?, secs[j]? with
      | some x, some y => decide (x.off + x.len ≤ y.off ∨ y.off + y.len ≤ x.off)
      | _, _ => true,
    secs.all (fun x => (classOf x.ty).isSome || decide (0x8000 ≤ x.ty)) && decide (secs.map (·.ty)).Nodup
      && secs.any fun x => x.ty == 1,
    secs.all fun x => match classOf x.ty with | some k => x.cls == k | none => true,
    secs.all fun x => sm3Of (s.body c x) == x.digest]
  if c < 2 then head ++ table else head

/-- The number of the first check of R497 that a copy fails, counting from 1; none when it is valid. The later checks are
not made. -/
def State.imageFails (s : State) (c : Nat) : Option Nat := ((s.imageChecks c).findIdx? (!·)).map (· + 1)

/-- What NVM_IMG_STAT shows for a failed check; its numbering is not in the spec. -/
def checkShown (k : Nat) : Nat := (Config.checkNumber k).toNat % 65535 + 1

/-- Logs that a copy is invalid (R497), with the signature failure's own event. -/
def State.logInvalid (s : State) (c k : Nat) : State :=
  let s := if k = 4 then s.log 0x0201 (d1 1) else s
  s.log 0x0302 (d1 c ++ d2 (checkShown k))

/-! ## Image commands (R505, R514) -/

/-- Operation 0: the copy is checked, with its sequence number against the other copy's and the running one's, and the result is
journalled and logged (R505). -/
def State.verifyCopy (s : State) (c : Nat) : State :=
  let other := s.imgSeq (if c % 2 = 0 then c + 1 else c - 1)
  let otherThere := s.flNat (copyBase (if c % 2 = 0 then c + 1 else c - 1)) 4 == (if c < 2 then 0x4F584344 else 0x4F584246)
  let seq := s.imgSeq c
  let inUse := if c < 2 then s.nvm.caddySeq else s.nvm.bootSeq
  let higher := decide (inUse < seq) && (!otherThere || decide (other < seq))
  let entry : JEntry := { kind := 8, unit := seq / 2 ^ 32, detail := seq % 2 ^ 32 }
  let s := { s with nvm := { s.nvm with verified := s.nvm.verified.erase c } }
  let s := match s.imageFails c with
    | some k =>
      (((s.logInvalid c k).journal { entry with event := 0x0302 }).fs Fld.NVM_IMG_STAT_CHECK (checkShown k)).fs
        Fld.NVM_IMG_STAT_VALID 0
    | none =>
      let s := s.fs Fld.NVM_IMG_STAT_CHECK 0
      if higher then
        let s := { s with nvm := { s.nvm with verified := c :: s.nvm.verified } }
        (((s.log 0x0304).journal { entry with event := 0x0304 }).fs Fld.NVM_IMG_STAT_VALID 1)
      else
        ((((s.log 0x0302 (d1 c ++ d2 0)).journal { entry with event := 0x0302 }).fs Fld.NVM_IMG_STAT_VALID 0).fs
          Fld.NVM_IMG_STAT_REASON 3)
  s.doneLine Fld.NVM_IMG_STAT_DONE

/-- Operation 2: the first sector of a copy is erased (R514). -/
def State.invalidateCopy (s : State) (c : Nat) : State :=
  let s := { s with nvm := { s.nvm with verified := s.nvm.verified.erase c } }
  (s.fs Fld.NVM_IMG_STAT_BUSY 1).flPush { erase := true, addr := copyBase c, user := .invalidate }

/-- A refusal of an image command. -/
def State.imgNo (s : State) (k : Nat) : State := s.reject Fld.NVM_IMG_STAT_REJECTED Fld.NVM_IMG_STAT_REASON k

/-- NVM_RUN_SEQ_LO_READ: a read of the low word latches the high word (R512). -/
def State.readRunSeq (s : State) : Word × State :=
  (BitVec.ofNat 32 s.nvm.runSeq, s.wr Reg.NVM_RUN_SEQ_HI (BitVec.ofNat 32 (s.nvm.runSeq / 2 ^ 32)))

/-- NVM_RUN_SEQ_LO_READ (R512). -/
def execNvmRunSeqLoRead (s : State) : Res :=
  let (v, s) := s.begin.readRunSeq
  .next (s.emit (.readData v))

end Sys2Proof.Machine
end

