-- ==== Sys2Proof/Machine/Supply.lean ====
section
/-! DEFINITION. The supply monitors and their resets, the VDD_CORE warning, and the thermal reset (R474–R476, R479). -/

namespace Sys2Proof.Machine

/-- The reset level of each supply, in mV (R474). -/
def resetLevel (i : Nat) : Nat := [675, 720, 720, 810, 1080, 990, 1620, 1620].getD i 0

/-- A reading of a supply in mV: its latest value and its minimum since it was last read (R474, R483). (DESIGN CHOICE, log 113) -/
def State.readVolt (s : State) (i mv : Nat) : State :=
  let s := if s.ktl.seen.contains (16 + i) && decide (s.fg (Fld.KTL_VMON_MIN i) ≤ mv) then s else s.fs (Fld.KTL_VMON_MIN i) mv
  let s := { s with ktl := { s.ktl with seen := if s.ktl.seen.contains (16 + i) then s.ktl.seen else (16 + i) :: s.ktl.seen } }
  s.fs (Fld.KTL_VMON_MV i) mv

/-- SUPPLY_WARNING: VDD_CORE has been below 0.705 V for 200 ns (R475). Flash writes, wakes, Rest entries and the live apply
hold by WARN itself; a flush of Graft runs and the Glasshouse clock halves. During a warning, a fall below 0.720 V restarts the
count of R476 and enters no second warning. -/
def execSupplyWarning (mv : BitVec 16) (s : State) : Res :=
  let s := s.begin
  if s.fb Fld.KTL_PWR_STAT_WARN then
    if 720 ≤ mv.toNat then .next s
    else
      let s := s.readVolt 0 mv.toNat
      .next { s with ktl := { s.ktl with clearFrom := s.aon } }
  else if 705 ≤ mv.toNat then .next s
  else
    let s := (s.readVolt 0 mv.toNat).fs Fld.KTL_PWR_STAT_WARN 1
    let s := ({ s with ktl := { s.ktl with warnAt := some s.aon, clearFrom := s.aon } }.log 0x0101).showClkHalf
    .next (s.graftFlush.raiseLine 29)

/-- SUPPLY_WARNING_CLEARED: VDD_CORE has stayed above 0.720 V for 100 µs (R476): what the warning held starts, in order. -/
def execSupplyWarningCleared (mv : BitVec 16) (s : State) : Res :=
  let s := s.begin
  match s.ktl.warnAt with
  | some t =>
    if !s.fb Fld.KTL_PWR_STAT_WARN ∨ mv.toNat ≤ 720 ∨ s.aon < s.ktl.clearFrom + 100 * usCycles then .next s
    else
      let us := (s.aon - t) / usCycles
      let s := (s.readVolt 0 mv.toNat).fs Fld.KTL_PWR_STAT_WARN 0
      let s := { s with ktl := { s.ktl with warnAt := none } }.log 0x0102 (d4 us)
      let s := s.fs Fld.KTL_WARN_STAT_COUNT (min 0xFFFF (s.fg Fld.KTL_WARN_STAT_COUNT + 1))
      let s := ((s.fs Fld.KTL_WARN_STAT_LAST_US (min 0xFFFF us)).flStart).showClkHalf
      let s := (List.range 4).foldl (fun (s : State) n =>
        if (s.slice n).wantsWake then (s.modSlice n fun x => { x with wantsWake := false }).wake n else s) s
      .next (s.raiseLine 29)
  | none => .next s

/-- BROWN_OUT: a supply has been below its reset level for 100 ns (R474); the reset lasts as long as it is (R613). -/
def execBrownOut (supply mv : Nat) (provLow : Bool) (s : State) : Res :=
  let s := s.begin
  if 8 ≤ supply ∨ resetLevel supply ≤ mv then .next s
  else if supply = 2 then .next ((s.coldReset provLow).holdBy .aonLow)
  else .next (((s.readVolt supply mv).resetBy (0x20 + supply)).holdBy (.supply supply))

/-- THERMAL_RESET: Tj has been at or above 115 °C for 10 ms; the warm reset holds until the die has cooled (R479). -/
def execThermalReset (s : State) : Res :=
  let s := s.begin
  match s.ktl.hotSince with
  | some t =>
    if t + 10 * msCycles ≤ s.aon ∧ !s.ktl.thermalHeld then
      if s.nvm.holds.any coldHold then .next s
      else
        let s := s.resetBy 0x10
        .next { s with ktl := { s.ktl with thermalHeld := true, hotSince := none } }
    else .next s
  | none => .next s

/-- THERMAL_RESET_RELEASE: a reading with which every sensor from 0 to 7 is at 95 °C or less. -/
def execThermalResetRelease (sensor : Nat) (temp : BitVec 16) (s : State) : Res :=
  let s := s.begin
  if 8 ≤ sensor then .next s
  else
    let s := s.senseTj sensor temp
    .next (if s.ktl.thermalHeld && decide (s.junction ≤ 380) then { s with ktl := { s.ktl with thermalHeld := false } } else s)

end Sys2Proof.Machine
end

