-- ==== Sys2Proof/Machine/Glasshouse.lean ====
section
/-! DEFINITION. The Glasshouse complex around its instructions (chapter 15): exceptions, the dispatcher, channels, flow
holds, timer compares, the CPU port's transmit ring, the stall watchdog and debug. -/

namespace Sys2Proof.Machine

/-! ## Contexts that wait -/

/-- What a context counts as for the filtered counters (R563): its privilege and its core. -/
def State.corePriv (s : State) (c : Nat) : Nat := ofBool (s.core c).kern
@[inherit_doc State.corePriv] def coreMaster (c : Nat) : Nat := 2 ^ (12 + c / 8)

/-- A channel, and its change. -/
def State.chan (s : State) (c : Nat) : Channel := s.glh.channels.get c {}
@[inherit_doc State.chan] def State.modChan (s : State) (c : Nat) (f : Channel → Channel) : State :=
  { s with glh := { s.glh with channels := s.glh.channels.put c {} (f (s.chan c)) } }

/-- The address of a slot (R535). -/
def slotAddress (c k : Nat) : Nat := 0x117C0000 + c * 0x400 + k * 0x40

/-- The lowest-numbered FREE slot of a channel. -/
def Channel.freeSlot (x : Channel) : Option Nat := (List.range 16).find? fun k => x.slots.get k .free = .free

/-- How many slots of a channel are FREE, COMMITTED, RESERVED (R553). -/
def Channel.freeCount (x : Channel) : Nat := ((List.range 16).filter fun k => x.slots.get k .free = .free).length
@[inherit_doc Channel.freeCount] def Channel.committed (x : Channel) : Nat := x.order.length
@[inherit_doc Channel.freeCount] def Channel.reserved (x : Channel) : Nat :=
  (x.slots.filter fun e => match e.2 with | .reserved _ => true | _ => false).length

/-- Takes a FREE slot for a context; answers its address. -/
def State.takeSlot (s : State) (ch ctx : Nat) : Option (Nat × State) :=
  (s.chan ch).freeSlot.map fun k =>
    (slotAddress ch k, s.modChan ch fun x => { x with slots := x.slots.put k .free (.reserved ctx) })

/-- Takes the oldest COMMITTED slot for a context; answers what CHRCV returns: length and address. -/
def State.takeOldest (s : State) (ch ctx : Nat) : Option (Nat × State) :=
  match (s.chan ch).order with
  | [] => none
  | k :: r =>
    let len := match (s.chan ch).slots.get k .free with | .committed n => n | _ => 0
    some (len * 2 ^ 56 + slotAddress ch k,
      s.modChan ch fun x => { x with slots := x.slots.put k .free (.received ctx len), order := r })

/-- Ends the wait of a context in CHRES or CHRCV with a value. -/
def State.wakeCore (s : State) (c v : Nat) : State := (s.modCore c fun x => x.resume (BitVec.ofNat 64 v)).evc (128 + c)

/-- Serves the contexts that wait for a slot, in the order in which their waits began (R537). -/
def State.serveSlots (s : State) (ch : Nat) : Nat → State
  | 0 => s
  | n + 1 =>
    match (s.chan ch).resWait with
    | [] => s
    | c :: r =>
      match s.takeSlot ch c with
      | none => s
      | some (a, s) => ((s.modChan ch fun x => { x with resWait := r }).wakeCore c a).serveSlots ch n

/-- Serves the contexts that wait for a message. -/
def State.serveMessages (s : State) (ch : Nat) : Nat → State
  | 0 => s
  | n + 1 =>
    match (s.chan ch).rcvWait with
    | [] => s
    | c :: r =>
      match s.takeOldest ch c with
      | none => s
      | some (v, s) => ((s.modChan ch fun x => { x with rcvWait := r }).wakeCore c v).serveMessages ch n

/-- A slot becomes FREE, and serves the contexts that wait for one. -/
def State.freeSlotOf (s : State) (ch k : Nat) : State :=
  (s.modChan ch fun x => { x with slots := x.slots.put k .free .free, order := x.order.erase k }).serveSlots ch 32

/-! ## Flow holds (R538–R541) -/

/-- Takes back what a context has asked of the flow engine, and its hold: a request that waits, an operation in service. -/
def State.dropFlow (s : State) (c : Nat) : State :=
  let hs := s.fle.holds.foldl (fun (t : Table (List Held)) (e : Nat × List Held) =>
    t.put e.1 [] (e.2.filter fun h => h.kind != .glasshouse c)) s.fle.holds
  let s := { s with fle := { s.fle with holds := hs } }
  let mine := (s.fle.ops.filter fun e => e.2.kind == .glasshouse c).map (·.1)
  let s := s.modCore c fun x => { x with flow := none }
  mine.foldl (fun (s : State) id => s.endOp id) s

/-- FLOW_HOLD_EXPIRY: a hold that has lasted FHOLD_US ends as if FREL had run (R541). -/
def execFlowHoldExpiry (ctx : Nat) (s : State) : Res :=
  let s := s.begin
  match (s.core ctx).flow with
  | some h =>
    if h.since + s.fg Fld.GLH_CFG_FHOLD_US * usCycles ≤ s.aon then
      let s := (s.dropFlow ctx).modCore ctx fun x => { x with expired := true }
      let s := match (s.core ctx).wait with
        | .flowPut _ _ => s.wakeCore ctx 7
        | _ => s
      .next ((s.inc Reg.GLH_FLOW_EXPIRED).logLimited 0x1106 0 1 0 fun _ _ => [])
    else .next s
  | none => .next s

/-! ## Abandoning a wait (R547) -/

/-- A context's waiting instruction is abandoned with no effect; IA stays at it. -/
def State.abandonWait (s : State) (c : Nat) : State :=
  let w := (s.core c).wait
  let s := s.modCore c fun x => { x with wait := .none }
  match w with
  | .slot ch => s.modChan ch fun x => { x with resWait := x.resWait.erase c }
  | .message ch => s.modChan ch fun x => { x with rcvWait := x.rcvWait.erase c }
  | .post _ _ => { s with glh := { s.glh with postWaits := s.glh.postWaits.erase c } }
  | .flowGet _ _ _ | .flowGot _ => s.dropFlow c
  | .flowPut _ _ =>
    match (s.core c).flow with
    | some h => { s with fle := { s.fle with creations := s.fle.creations.erase h.op } }.modOp h.op fun o =>
        { o with creation := .none }
    | none => s
  | _ => s

/-! ## Exceptions (R526) -/

/-- An exception on a context: it enters XENTRY at kernel privilege, or it is a double fault, which warm resets. -/
def State.coreException (s : State) (c cause val : Nat) : State :=
  let x := s.core c
  let s := (s.inc (Reg.GLH_EXC cause)).fcCount { kind := 8, priv := some (s.corePriv c), masters := coreMaster c }
  if x.exc then
    ((s.modCore c fun x => { x with state := 0 }).log 0x1104 (d1 c ++ d1 cause ++ d5 x.ia)).warmReset 0
  else
    s.modCore c fun x => { x with
      xia := x.ia, xcause := cause, xval := val, pkern := x.kern, kern := true, exc := true, ia := x.xentry, wait := .none,
      state := if x.stepping then 5 else 2, stepping := false }

/-! ## The dispatcher (R530–R534) -/

/-- The task a descriptor of 32 bytes describes, or none where a field is not legal (R530, R531). -/
def taskOf (bs : List Byte) : Option Task :=
  let n := fun off k => beNat (sliceBytes bs off k)
  if n 0 5 % 4 ≠ 0 ∨ 31 < n 5 1 ∨ 3 < n 6 1 ∨ n 7 1 ≠ 0 ∨ n 12 4 ≠ 0 ∨ n 24 8 ≠ 0 then none
  else some { num := 0, entry := n 0 5, level := n 5 1, user := bitAt (n 6 1) 0, tagged := bitAt (n 6 1) 1, tag := n 8 4,
              arg := BitVec.ofNat 64 (n 16 8) }

/-- Fills the places that are free: the lines that hold an event post in ascending order, then the waiting POSTs in the
order in which they began to wait (R531, R534). -/
def State.fillPlaces (s : State) : Nat → State
  | 0 => s
  | n + 1 =>
    if s.dispatcherFull then s
    else
      match (List.range 32).find? fun e => s.fb (Fld.GLH_EVT_CFG_PEND e) with
      | some e => ((s.fs (Fld.GLH_EVT_CFG_PEND e) 0).addTask (s.lineTask e)).2.fillPlaces n
      | none =>
        match s.glh.postWaits with
        | [] => s
        | c :: r =>
          let s := { s with glh := { s.glh with postWaits := r } }
          match (s.core c).wait with
          | .post d _ =>
            match taskOf (beBytes 32 d) with
            | some t => let (k, s) := s.addTask t; (s.wakeCore c k).fillPlaces n
            | none => s.fillPlaces n
          | _ => s.fillPlaces n

/-- POST_WAIT_EXPIRY: a POST that has waited POST_WAIT_US returns with bits 63:60 = 1 and posts nothing (R531). -/
def execPostWaitExpiry (ctx : Nat) (s : State) : Res :=
  let s := s.begin
  match (s.core ctx).wait with
  | .post _ since =>
    if since + s.fg Fld.GLH_CFG2_POST_WAIT_US * usCycles ≤ s.aon then
      let s := { s with glh := { s.glh with postWaits := s.glh.postWaits.erase ctx } }.wakeCore ctx (2 ^ 60)
      .next ((s.inc Reg.GLH_POST_FULL).logLimited 0x1102 0 1 0 fun _ _ => [])
    else .next s
  | _ => .next s

/-- Releases what a context holds: its RESERVED and RECEIVED slots and its flow. Answers how many. -/
def State.releaseHolds (s : State) (c : Nat) : Nat × State :=
  let mine := s.glh.channels.flatMap fun e => e.2.slots.filterMap fun x =>
    match x.2 with
    | .reserved k => if k = c then some (e.1, x.1, false) else none
    | .received k _ => if k = c then some (e.1, x.1, true) else none
    | _ => none
  let s := mine.foldl (fun (s : State) x =>
    let s := if x.2.2 then s.inc Reg.GLH_CHAN_LOST else s
    s.freeSlotOf x.1 x.2.1) s
  if (s.core c).flow.isSome then (mine.length + 1, s.dropFlow c) else (mine.length, s)

/-- Ends a context's task: its place and its tag are free, and the context is IDLE (R533, R548). -/
def State.endTask (s : State) (c : Nat) : State :=
  let num := (s.core c).task
  let s := { s with glh := { s.glh with tasks := s.glh.tasks.filter fun t => t.ctx != some c || some t.num != num } }
  let s := s.modCore c fun x => { x with state := 1, task := none, tag := none, wait := .none, stepping := false, expired := false }
  s.fillPlaces 64

/-- Whether a ready task may be bound: its tag is not in service (R532). (DESIGN CHOICE, log 78) -/
def State.bindable (s : State) (t : Task) : Bool :=
  t.ctx.isNone && !(t.tagged && s.glh.tasks.any fun u => u.ctx.isSome && u.tagged && u.tag == t.tag)

/-- Binds a task to an IDLE context (R532). (DESIGN CHOICE, log 78) -/
def State.bindTask (s : State) (t : Task) (c : Nat) : State :=
  let s := { s with glh := { s.glh with tasks := s.glh.tasks.map fun (u : Task) =>
    if u.num = t.num then { u with ctx := some c } else u } }
  s.modCore c fun x => { x with
    state := 2, ia := t.entry, g := (Table.put (Table.put [] 1 0 t.arg) 2 0 (BitVec.ofNat 64 t.num)), kern := !t.user, exc := false,
    wait := .none, task := some t.num, tag := if t.tagged then some t.tag else none, stepping := false, expired := false }

/-- The lowest-numbered IDLE context. -/
def State.idleCore (s : State) : Option Nat := (List.range 32).find? fun c => (s.core c).state == 1

/-- TASK_BIND: the first ready task of the highest level that has one goes to the lowest-numbered IDLE context. -/
def execTaskBind (s : State) : Res :=
  let s := s.begin
  let ts := s.glh.tasks.filter s.bindable
  match s.idleCore, ts.find? fun t => ts.all fun u => decide (u.level ≤ t.level) with
  | some c, some t => .next (s.bindTask t c)
  | _, _ => .next s

/-! ## Timer compares (R527, R528, R372) -/

/-- Whether a context's compare is armed and its time is reached. -/
def State.compareMet (s : State) (c : Nat) : Bool :=
  let x := s.core c
  x.armed && decide (x.tmS * 1000000000 + x.tmNs ≤ s.net.sec % 2 ^ 48 * 1000000000 + s.net.ns)

/-- A compare that is met ends a wait in WAITT or WAITE: rd = 0, and the compare disarms. -/
def State.meetCompare (s : State) (c : Nat) : State :=
  if !s.compareMet c ∨ (s.core c).state ≠ 3 then s
  else
    match (s.core c).wait with
    | .timer | .events _ => ((s.modCore c fun x => { x with armed := false }).wakeCore c 0)
    | _ => s

/-- TIMER_COMPARE_MET: the time counter has reached a context's armed compare. -/
def execTimerCompareMet (ctx : Nat) (s : State) : Res :=
  let s := s.begin
  .next (if ctx < 32 then s.meetCompare ctx else s)

/-! ## The stall watchdog (R545, R546) -/

/-- The conditions under which the watchdog counts. -/
def State.stalled (s : State) : Bool :=
  let limit := s.net.sec % 2 ^ 48 * 1000000000 + s.net.ns + s.fg Fld.GLH_CFG_WD_MS * 1000000
  ((List.range 32).all fun c =>
    let x := s.core c
    x.state != 2 && x.state != 4 && x.state != 5 && !(x.armed && decide (x.tmS * 1000000000 + x.tmNs < limit))
      && match x.wait with | .events m => x.evpend &&& m == 0 | _ => true)
    && !(s.glh.tasks.any s.bindable) && (List.range 32).all fun e => !s.fb (Fld.GLH_EVT_CFG_PEND e)

/-- What GLH_CTX_WAIT shows of a wait (R551). -/
def waitShown (w : CoreWait) : Nat :=
  match w with
  | .timer => 2 ^ 28
  | .events _ => 2 * 2 ^ 28
  | .slot ch => 3 * 2 ^ 28 + ch * 256
  | .message ch => 4 * 2 ^ 28 + ch * 256
  | _ => 0

/-- The WAITE mask of a context. -/
def maskShown (w : CoreWait) : Nat := match w with | .events m => m | _ => 0

/-- The 16 bytes of a context in event 0x1101 (R634). -/
def State.stallItem (s : State) (c : Nat) : List Byte :=
  d1 (s.core c).state ++ beBytes 4 (waitShown (s.core c).wait) ++ beBytes 8 (maskShown (s.core c).wait) ++ beBytes 3 0

/-- STALL_WATCHDOG: the conditions have held for WD_MS; the recovery task is released. -/
def execStallWatchdog (s : State) : Res :=
  let s := s.begin
  match s.glh.stallSince with
  | some t =>
    if s.stalled ∧ t + s.fg Fld.GLH_CFG_WD_MS * msCycles ≤ s.aon then
      let s := s.inc Reg.GLH_STALLS
      let conts := (List.range 16).map fun i => s.stallItem (2 * i) ++ s.stallItem (2 * i + 1)
      let s := s.log 0x1101 (d4 (s.rd Reg.GLH_STALLS).toNat ++ d2 (s.fg Fld.GLH_CFG_WD_MS)) conts
      let s := { s with glh := { s.glh with stallSince := none } }
      match s.idleCore with
      | some c =>
        let entry := s.fg Fld.GLH_RECOV_HI_IA_HI * 2 ^ 32 + (s.rd Reg.GLH_RECOV_LO).toNat
        let (num, s) := s.addTask { num := 0, entry := entry, level := 31, user := false, tagged := false, tag := 0, arg := 0 }
        match s.glh.tasks.find? fun u => u.num == num with
        | some u => .next (s.bindTask u c)
        | none => .next s
      | none =>
        let (v, s) := s.free
        .next ((s.abandonWait 0).coreException 0 11 v.toNat)
    else .next s
  | none => .next s

/-! ## The network time moves on (R368, R371, R372) -/

/-- Starts or ends the watchdog's count as the conditions stand. -/
def State.watchStall (s : State) : State :=
  if s.stalled then { s with glh := { s.glh with stallSince := s.glh.stallSince.orElse fun _ => some s.aon } }
  else { s with glh := { s.glh with stallSince := none } }

/-- The edge at which a pending step is applied; the compares that it reaches are met (R371, R372). -/
def State.stepEdge (s : State) : State := (List.range 32).foldl (fun (s : State) c => s.meetCompare c) s.applyStep

/-- TIME_COUNTER_INCREMENT: `edges` rising edges of AON_CLK; a pending step is applied at the first. -/
def execTimeCounterIncrement (edges : Nat) (s : State) : Res :=
  let s := s.begin
  match edges with
  | 0 => .next s
  | n + 1 =>
    let s := s.watchStall
    let s := if s.tim.step.isSome then (if n = 0 then s.stepEdge else s.stepEdge.tickPlain n) else s.tickPlain (n + 1)
    .next (if s.stalled then s else { s with glh := { s.glh with stallSince := none } })

/-- TIME_STEP_APPLIED: the edge at which a pending step is applied; compares that it reaches are met. -/
def execTimeStepApplied (s : State) : Res :=
  let s := s.begin
  if s.tim.step.isNone then .next s
  else .next s.stepEdge

/-! ## Results that arrive (R520, R539, R542) -/

/-- GLASSHOUSE_RESULT_ARRIVAL: what a stalled context waits for arrives. An FGET whose bank had no room asks again. -/
def execGlasshouseResultArrival (ctx : Nat) (s : State) : Res :=
  let s := s.begin
  match (s.core ctx).wait with
  | .lookup v | .memory v | .flowGot v => .next ((s.modCore ctx fun x => x.resume v).evc (128 + ctx))
  | .flowGet key h _ =>
    let asked := s.fle.ops.any (fun e => e.2.kind == .glasshouse ctx) ||
      s.fle.holds.any fun e => e.2.any fun x => x.kind == .glasshouse ctx
    .next (if asked then s else (s.requestFlow key h noSlice (.glasshouse ctx) none none []).getD s)
  | _ => .next s

/-! ## The transmit ring of the CPU port (R544) -/

/-- Whether an address lies in shared SRAM below the channel slots, or in the Glasshouse region (R520, R543). -/
def State.bufferAddr (s : State) (a n : Nat) : Bool :=
  decide (0x11000000 ≤ a ∧ a + n ≤ 0x117C0000) || decide (s.glhBase ≤ a ∧ a + n ≤ s.glhBase + 2 ^ 30)

/-- A frame enters a slice as a pass-1 packet on port 66, through ingress admission at an owner (R299, R544). (DESIGN CHOICE,
log 81) -/
def State.inject (s : State) (slice cls : Nat) (frame : List Byte) : Option State :=
  let o := ingOwner 66 cls
  match s.admitIngress o with
  | none => none
  | some (ch, s) =>
    let n := cellsFor frame.length
    let (cs, s') := s.allocCells slice codeGlasshouse n
    if cs.length < n then none
    else
      let p : Packet :=
        { bytes := frame, inPort := 66, slice := slice, rx := s'.net, ended := true, good := true, len := frame.length,
          cells := cs, gen := (s'.cell (cs.headD 0)).gen, tag := codeGlasshouse, ing := ch, desc := s'.newDesc, stage := .fifo }
      let (pid, s) := s'.addPkt p
      let s := (s.linkCells pid o frame.length cs).modSlice slice fun x => { x with inner := x.inner ++ [pid] }
      some (s.settle pid)

/-- The end of a transmit entry: OWN clears, the status stands at byte 12, HEAD advances and line 25 is raised. (DESIGN CHOICE, log 81) -/
def State.txDone (s : State) (e status : Nat) : State :=
  let s := (s.setMemByte (e + 5) 0).setMemByte (e + 12) (BitVec.ofNat 8 status)
  let s := s.fs Fld.GLH_TXR_HEAD_HEAD ((s.fg Fld.GLH_TXR_HEAD_HEAD + 1) % 2 ^ s.fg Fld.GLH_TXR_CFG_LOG2)
  (if status = 1 then s.inc Reg.GLH_TX_BAD else s).raiseLine 25

/-- CPU_TX_ENTRY: the device takes the entry at HEAD whose OWN is set. A frame for a slice that sleeps waits while the slice
wakes, and one for a slice that holds 2,048 such heads waits for room (R44, R466). (DESIGN CHOICE, log 18) -/
def execCpuTxEntry (s : State) : Res :=
  let s := s.begin
  let e := s.fg Fld.GLH_TXR_BASE_HI_BASE_HI * 2 ^ 32 + (s.rd Reg.GLH_TXR_BASE_LO).toNat + 32 * s.fg Fld.GLH_TXR_HEAD_HEAD
  let n := fun off k => beNat (s.memBytes (e + off) k)
  if !s.fb Fld.GLH_TXR_CFG_EN ∨ n 5 1 < 128 then .next s
  else
    let a := n 0 5
    let len := n 6 2
    let mode := n 8 1
    let w := n 10 2
    let legal := decide (n 5 1 = 128 ∧ 60 ≤ len ∧ len ≤ 10236 ∧ n 13 19 = 0 ∧ a % 64 = 0) && s.bufferAddr a len
    let frame := finishFrame (s.memBytes a len)
    if mode = 0 then
      let port := w / 256
      if !legal || decide (n 9 1 ≠ 0 ∨ port = 65 ∨ 66 < port) then .next (s.txDone e 1)
      else
        let (ok, s) := s.sendOwn port (w % 256) frame
        .next (s.txDone e (if ok then 0 else 2))
    else
      let slice := n 9 1
      if !legal || decide (1 < mode ∨ 3 < slice ∨ 7 < w) || !(s.slice slice).inService then .next (s.txDone e 1)
      else if s.power slice ≠ 0 then .next (s.wake slice)
      else if 2048 ≤ (s.slice slice).inner.length then .next s
      else
        match s.inject slice w frame with
        | some s => .next (s.txDone e 0)
        | none => .next ((s.refuseOwner (ingOwner 66 w)).txDone e 2)

/-! ## Debug (R547, R548, R555) -/

/-- Stops a context in HALT (R547). -/
def State.haltCore (s : State) (c : Nat) : State :=
  let x := s.core c
  if x.state = 2 ∨ x.state = 3 ∨ x.state = 4 then
    ((s.abandonWait c).modCore c fun x => { x with state := 5, stepping := false }).log 0x1103 (d1 c ++ d5 x.ia)
  else s

/-- Ends a context's thread (R548). -/
def State.killCore (s : State) (c : Nat) : State :=
  let x := s.core c
  if x.state < 2 then s
  else (((s.abandonWait c).releaseHolds c).2.endTask c).log 0x1105

/-- Whether any context is in HALT. -/
def State.anyHalted (s : State) : Bool := (List.range 32).any fun c => (s.core c).state == 5

/-- A write of GLH_DBG_CMD: after a relock only resume and kill stay accepted, until no context is halted (R547, R599). -/
def State.writeDbgCmd (s : State) (v : Nat) : State :=
  let old := s
  let s := s.store Spec.GLH_DBG_CMD [] v
  let op := bitsOf v 30 28
  let c := v % 32
  let no := old.reject Fld.GLH_DBG_STAT_REJECTED Fld.GLH_DBG_STAT_REASON
  let open' := s.fbit Fld.SEC_STATUS_SCOPE 0 || (s.anyHalted && (op == 2 || op == 4))
  if !bitAt v 31 then s
  else if !open' then no 1
  else
    match op with
    | 1 => (s.haltCore c).done Fld.GLH_DBG_STAT_DONE
    | 2 =>
      if (s.core c).state ≠ 5 then no 3
      else (s.modCore c fun x => { x with state := 2 }).done Fld.GLH_DBG_STAT_DONE
    | 3 =>
      if (s.core c).state ≠ 5 then no 3
      else (s.modCore c fun x => { x with state := 2, stepping := true }).done Fld.GLH_DBG_STAT_DONE
    | 4 => if c = 0 then no 2 else (s.killCore c).done Fld.GLH_DBG_STAT_DONE
    | _ => no 0

/-- DEBUG_HALT, DEBUG_RESUME, DEBUG_STEP and DEBUG_KILL: GLH_DBG_CMD written with GO = 1. -/
def execDebugHalt (ctx : BitVec 5) (s : State) : Res := .next (s.begin.writeDbgCmd (2 ^ 31 + 2 ^ 28 + ctx.toNat))

/-- DEBUG_RESUME (R547). -/
def execDebugResume (ctx : BitVec 5) (s : State) : Res :=
  .next (s.begin.writeDbgCmd (2 ^ 31 + 2 * 2 ^ 28 + ctx.toNat))

/-- DEBUG_STEP (R547). -/
def execDebugStep (ctx : BitVec 5) (s : State) : Res :=
  .next (s.begin.writeDbgCmd (2 ^ 31 + 3 * 2 ^ 28 + ctx.toNat))

/-- DEBUG_KILL (R548). -/
def execDebugKill (ctx : BitVec 5) (s : State) : Res :=
  .next (s.begin.writeDbgCmd (2 ^ 31 + 4 * 2 ^ 28 + ctx.toNat))

/-! ## Registers of the Glasshouse (R518, R550–R554) -/

/-- Whether a requester may write the registers of the Glasshouse: kernel privilege, or the debugger while debug is
unlocked (R518). -/
def State.mayGlh (s : State) (q : Requester) : Bool :=
  match q with
  | .kernel | .loader => true
  | .jtag => s.fbit Fld.SEC_STATUS_SCOPE 0
  | .user => false

/-- Runs a write of a register of the Glasshouse, or answers the error response. -/
def State.forGlh (s : State) (q : Requester) (f : State → State) : State :=
  if s.mayGlh q && s.mayAccess q then f s else s.errorResponse

/-- A write of GLH_CTX_CTL_n (R518, R551). -/
def State.writeCtxCtl (s : State) (n v : Nat) : State :=
  if bitAt v 31 ∧ (s.core n).state ≠ 0 then s.denied Spec.GLH_CTX_CTL
  else
    let s := s.store Spec.GLH_CTX_CTL [n] v
    if bitAt v 31 then
      s.modCore n fun x => { x with state := if bitAt v 30 then 1 else 2, kern := !bitAt v 29, exc := false, wait := .none }
    else s

/-- CONTEXT_RELEASE: RELEASE written to GLH_CTX_CTL_n. -/
def execContextRelease (req : Requester) (ctx : BitVec 5) (toIdle user : Bool) (s : State) : Res :=
  .next (s.begin.forGlh req fun s => s.writeCtxCtl ctx.toNat (2 ^ 31 + 2 ^ 30 * ofBool toIdle + 2 ^ 29 * ofBool user))

/-- A write of a context's IA or of a general register: rejected unless the context is OFF or in HALT (R518). `f` makes
the change. -/
def State.writeCoreReg (s : State) (n : Nat) (f : Core → Core) : State :=
  if (s.core n).state = 0 ∨ (s.core n).state = 5 then s.modCore n f else s.denied Spec.GLH_CTX_IA_LO

/-- A write of GLH_EVT_CFG_e: MODE 3 and LEVEL 31 are rejected (R552). -/
def State.writeEvtCfg (s : State) (e v : Nat) : State :=
  if bitsOf v 31 30 = 3 ∨ bitsOf v 28 24 = 31 then s.denied Spec.GLH_EVT_CFG else s.store Spec.GLH_EVT_CFG [e] v

/-- A write of GLH_CHAN_CFG_c: EN = 0 is rejected while any slot is not FREE (R537). -/
def State.writeChanCfg (s : State) (c v : Nat) : State :=
  if !bitAt v 31 ∧ (s.chan c).freeCount ≠ 16 then s.denied Spec.GLH_CHAN_CFG else s.store Spec.GLH_CHAN_CFG [c] v

/-- A write of the configuration of a ring: LOG2 is rejected while EN = 1, and EN = 1 sets HEAD to 0 (R554). `head` is the
ring's HEAD. -/
def State.writeRing (s : State) (r : RegSpec) (ix : List Nat) (head : Fld) (v : Nat) : State :=
  let old := (s.rd (r.at ix)).toNat
  if !r.inRange v || (bitAt old 31 && v % 16 != old % 16) then s.denied r
  else
    let s := s.store r ix v
    if bitAt v 31 then s.fs head 0 else s

/-- A write of a ring's base: rejected while EN = 1, and when it is not aligned to the entry size (R554). -/
def State.writeRingBase (s : State) (r : RegSpec) (ix : List Nat) (en : Bool) (align v : Nat) : State :=
  if en ∨ v % align ≠ 0 then s.denied r else s.store r ix v

/-- A write of GLH_RXR_CFG_r (ring < 16), or of GLH_TXR_CFG (ring 16). -/
def State.writeRingCfg (s : State) (ring v : Nat) : State :=
  if ring < 16 then s.writeRing Spec.GLH_RXR_CFG [ring] (Fld.GLH_RXR_HEAD_HEAD ring) v
  else s.writeRing Spec.GLH_TXR_CFG [] Fld.GLH_TXR_HEAD_HEAD v

/-- RING_EN_WRITE: EN = 1 written to a CPU-port ring; ring 16 is the transmit ring. -/
def execRingEnWrite (req : Requester) (ring : Nat) (log2 : BitVec 4) (s : State) : Res :=
  let s := s.begin
  .next (s.forGlh req fun s =>
    if ring ≤ 16 then
      let t := s.writeRingCfg ring (2 ^ 31 + log2.toNat)
      if ring < 16 then t.refreshPort 66 else t
    else s.errorResponse)

end Sys2Proof.Machine
end

