-- ==== Sys2Proof/Machine/Security.lean ====
section
/-! DEFINITION. Device identity, owner keys, quotes, and the debug unlock (R594–R600). -/

namespace Sys2Proof.Machine

/-! ## Identity and quotes (R594, R595) -/

/-- The device certificate (R594). -/
def State.certificate (s : State) : List Byte :=
  beBytes 4 0x4F584944 ++ d1 1 ++ d1 (s.fg Fld.KTL_DEVICE_ID_STEP) ++ d2 0 ++ sliceBytes Config.serial 0 16
    ++ beBytes 6 Config.otpMac.toNat ++ d2 0 ++ sliceBytes Config.identityKey 0 64 ++ sliceBytes Config.issuerHash 0 32
    ++ sliceBytes Config.certSignature 0 64

/-- An owner slot (R596). -/
def State.slot (s : State) (k : Nat) : OwnerSlot := s.sec.slots.get k {}

/-- Changes an owner slot. -/
def State.modSlot (s : State) (k : Nat) (f : OwnerSlot → OwnerSlot) : State :=
  { s with sec := { s.sec with slots := s.sec.slots.put k {} (f (s.slot k)) } }

/-- The state of a slot: 0 empty, 1 active, 2 revoked. -/
def OwnerSlot.shown (x : OwnerSlot) : Nat := if x.revoked then 2 else if x.programmed then 1 else 0

/-- Byte 87 of a quote and STATE of SEC_SLOTS: 2 bits per slot. -/
def State.slotStates (s : State) : Nat := (List.range 4).foldl (fun n k => n + 4 ^ k * (s.slot k).shown) 0

/-- Whether the device is in provisioning (R597). -/
def State.provisioning (s : State) : Bool := s.sec.provLow && (List.range 4).all fun k => !(s.slot k).programmed

/-- Byte 86 of a quote. -/
def State.quoteFlags (s : State) : Nat :=
  128 * s.fg Fld.NVM_STATUS_BOOT_COPY + 64 * s.fg Fld.NVM_STATUS_CADDY_COPY + 32 * s.fg Fld.NVM_STATUS_DEGRADED
    + 16 * s.fg Fld.NVM_STATUS_START_PEND + 8 * ofBool (s.fb Fld.SEC_STATUS_SCOPE) + 4 * s.fg Fld.SEC_STATUS_EVER
    + 2 * s.fg Fld.NVM_STATUS_SINGLE + s.fg Fld.NVM_STATUS_SLOW_PM

/-- A quote over a nonce, built in one instant (R595). -/
def State.quote (s : State) (nonce : List Byte) : List Byte × State :=
  let bs := beBytes 4 0x4F585154 ++ d1 1 ++ d1 (s.fg Fld.KTL_DEVICE_ID_STEP) ++ d2 0 ++ sliceBytes Config.serial 0 16
    ++ sliceBytes nonce 0 32 ++ beBytes 8 s.flowMs ++ beBytes 4 s.nvm.startNo ++ beBytes 8 s.nvm.bootSeq
    ++ beBytes 8 s.nvm.runSeq ++ d2 (s.fg Fld.TRW_PATCH_STAT_ACTIVE_ID) ++ d1 s.quoteFlags ++ d1 s.slotStates
    ++ (List.range 4).flatMap fun m => s.meas m
  let (k, s) := s.free
  (bs ++ sliceBytes (Config.sm2Sign Config.identitySecret k.toNat bs) 0 64, s)

/-! ## Owner keys (R596–R598) -/

/-- Programs the lowest slot that is not PROGRAMMED with a key hash. A read-back that differs revokes the slot (R597).
Answers the slot, and whether it is in use. -/
def State.ownerAdd (s : State) (hash : List Byte) (ok : Bool) : Option (Nat × Bool) × State :=
  match (List.range 4).find? fun k => !(s.slot k).programmed with
  | none => (none, s)
  | some k =>
    let s := s.modSlot k fun _ => { hash := hash, programmed := true, revoked := !ok }
    (some (k, ok), if ok then s.log 0x0204 (d1 k) else s.log 0x0206)

/-- Whether a slot may be revoked: it is active, and another would stay active (R598). -/
def State.mayRevoke (s : State) (k : Nat) : Bool :=
  decide (k < 4) && (s.slot k).active && (List.range 4).any fun j => j != k && (s.slot j).active

/-! ## The debug unlock (R599, R600) -/

/-- A time of 60 s. -/
def minuteCycles : Nat := 60 * secCycles

/-- Issues a challenge of 32 random bytes, unless challenges are refused; it replaces an outstanding one. -/
def State.issueChallenge (s : State) : Option (List Byte) × State :=
  if s.fb Fld.SEC_DBG_CTL_BLOCKED then (none, s)
  else
    let (bs, s) := (List.range 4).foldl (fun (x : List Byte × State) _ =>
      let (v, s) := x.2.free
      (x.1 ++ beBytes 8 v.toNat, s)) (([] : List Byte), s)
    (some bs, { s with sec := { s.sec with challenge := some (bs, s.aon) } }.fs Fld.SEC_DBG_CTL_PENDING 1)

/-- Whether a response answers a challenge. -/
def State.responsePasses (s : State) (challenge response : List Byte) : Bool :=
  let key := sliceBytes response 0 64
  let scope := sliceBytes response 64 1
  let hash := sm3Of key
  (s.ownerKey hash || (s.sec.secBody != [] && hash == sliceBytes (Config.debugKeyHash s.sec.secBody) 0 32)) && decide (beNat scope < 4)
    && (sliceBytes response 65 63).all (· == 0)
    && Config.sm2Verify [] key (challenge ++ sliceBytes Config.serial 0 16 ++ scope) (sliceBytes response 128 64)

/-- Checks a response: one that passes sets its scope bits and is measured; one that fails counts, and three in a row
have challenges refused for 60 s. Either consumes the challenge. -/
def State.checkResponse (s : State) (response : List Byte) : Bool × State :=
  let ch := s.sec.challenge
  let ok := match ch with | some (c, _) => s.responsePasses c response | none => false
  let s := { s with sec := { s.sec with challenge := none } }.fs Fld.SEC_DBG_CTL_PENDING 0
  if ok then
    let scope := sliceBytes response 64 1
    let c := match ch with | some (c, _) => c | none => []
    let s := { s with sec := { s.sec with failures := 0 } }
    let s := (s.for Fld.SEC_STATUS_SCOPE (beNat scope)).fs Fld.SEC_STATUS_EVER 1
    (true, (s.measure 3 (sm3Of (c ++ sm3Of (sliceBytes response 0 64) ++ scope))).log 0x0202)
  else
    let s := (s.fs Fld.SEC_DBG_CTL_FAILED 1).log 0x0201 (d1 2)
    let n := s.sec.failures + 1
    if n < 3 then (false, { s with sec := { s.sec with failures := n } })
    else (false, { s with sec := { s.sec with failures := 0, blockTill := some (s.aon + minuteCycles) } }.fs Fld.SEC_DBG_CTL_BLOCKED 1)

/-- Locks debug; halted contexts stay halted. (DESIGN CHOICE, log 82) -/
def State.relock (s : State) : State := (s.fs Fld.SEC_STATUS_SCOPE 0).log 0x0203

/-- The bytes of SEC_DBG_BUF. -/
def State.dbgBuf (s : State) : List Byte := (List.range 48).flatMap fun w => beBytes 4 (s.rd (Reg.SEC_DBG_BUF w)).toNat

/-- Puts a challenge into words 0–7 of SEC_DBG_BUF. -/
def State.putChallenge (s : State) (bs : List Byte) : State :=
  (List.range 8).foldl (fun (s : State) w => s.wr (Reg.SEC_DBG_BUF w) (BitVec.ofNat 32 (beNat (sliceBytes bs (4 * w) 4)))) s

/-- A write of SEC_DBG_CTL: CHAL, RESP and RELOCK, in this order. (DESIGN CHOICE, log 82) -/
def State.writeDbgCtl (s : State) (v : Nat) : State :=
  let s := s.store Spec.SEC_DBG_CTL [] v
  let s := if bitAt v 31 then
      match s.issueChallenge with
      | (some bs, s) => s.putChallenge bs
      | (none, s) => s.denied Spec.SEC_DBG_CTL
    else s
  let s := if bitAt v 30 then (s.checkResponse s.dbgBuf).2 else s
  if bitAt v 29 then s.relock else s

/-- Who may reach SEC_DBG_CTL and SEC_DBG_BUF: JTAG also while debug is locked (R599, R600). -/
def mayUnlock (q : Requester) : Bool := match q with | .user => false | _ => true

/-- CHAL (R599): written to SEC_DBG_CTL. -/
def execChal (req : Requester) (s : State) : Res :=
  let s := s.begin
  .next (if mayUnlock req then s.writeDbgCtl (2 ^ 31) else s.errorResponse)

/-- RESP (R599). -/
def execResp (req : Requester) (s : State) : Res :=
  let s := s.begin
  .next (if mayUnlock req then s.writeDbgCtl (2 ^ 30) else s.errorResponse)

/-- RELOCK (R599). -/
def execRelock (req : Requester) (s : State) : Res :=
  let s := s.begin
  .next (if mayUnlock req then s.writeDbgCtl (2 ^ 29) else s.errorResponse)

/-- CHALLENGE_LAPSE: a challenge lapses 60 s after it was issued. -/
def execChallengeLapse (s : State) : Res :=
  let s := s.begin
  match s.sec.challenge with
  | some (_, t) =>
    if t + minuteCycles ≤ s.aon then
      .next ({ s with sec := { s.sec with challenge := none } }.fs Fld.SEC_DBG_CTL_PENDING 0)
    else .next s
  | none => .next s

/-- CHALLENGE_BLOCK_END: 60 s after the third failure in a row, challenges are accepted again. -/
def execChallengeBlockEnd (s : State) : Res :=
  let s := s.begin
  match s.sec.blockTill with
  | some t =>
    if t ≤ s.aon then .next ({ s with sec := { s.sec with blockTill := none } }.fs Fld.SEC_DBG_CTL_BLOCKED 0) else .next s
  | none => .next s

end Sys2Proof.Machine
end

