-- ==== Sys2Proof/Machine/Caddy.lean ====
section
/-! DEFINITION. Caddies as they are loaded: register records (R495), what a section's loading does (R507), the part of a slice
(R508), the legality check of stage 6 (R502), and the requests that start an apply, an image operation or a slice restart
(R505, R506, R508, R514). -/

namespace Sys2Proof.Machine

/-! ## Register records (R495) -/

/-- A 32-bit word of some bytes. -/
def wordAt (bs : List Byte) (off : Nat) : Nat := beAt bs off 4

/-- The steps of a body of register records; none unless it ends with operation 3 exactly at its length. -/
def recordSteps : Nat → List Byte → Option (List LoadStep)
  | 0, _ => none
  | fuel + 1, bs =>
    let addr := beAt bs 0 5
    let op := beAt bs 5 1
    let n := beAt bs 6 2
    let after := 8 + 4 * n
    if bs.length < 8 ∨ addr % 4 ≠ 0 then none
    else if op = 0 ∨ op = 1 then
      if n = 0 ∨ bs.length < after then none
      else (recordSteps fuel (bs.drop after)).map fun r =>
        ((List.range n).map fun i => LoadStep.write (if op = 0 then addr + 4 * i else addr) (wordAt bs (8 + 4 * i))) ++ r
    else if op = 2 then
      if n = 0 ∨ bs.length < 16 then none
      else (recordSteps fuel (bs.drop 16)).map fun r => .wait addr (wordAt bs 8) (wordAt bs 12) (n * usCycles) none :: r
    else if op = 3 ∧ n = 0 ∧ bs.length = 8 then some []
    else none

/-- The steps of a body. -/
def bodySteps (bs : List Byte) : Option (List LoadStep) := recordSteps (bs.length / 8 + 1) bs

/-- What a step writes, if it writes. -/
def LoadStep.written : LoadStep → Option (Nat × Nat)
  | .write a v => some (a, v)
  | _ => none

/-- The value a list of steps leaves written at an address. -/
def lastWrite (steps : List LoadStep) (addr : Nat) : Option Nat :=
  steps.foldl (fun (r : Option Nat) x => match x.written with | some (a, v) => if a = addr then some v else r | none => r) none

/-! ## The loading of a section (R131, R221, R507) -/

/-- A wait of at most 1 s (R509: a procedure refused for longer fails). -/
def waitSecond (r : Reg) (mask value : Nat) : LoadStep := .wait r.addr mask value secCycles none

/-- A check that must hold at once. -/
def waitNow (r : Reg) (mask value : Nat) : LoadStep := .wait r.addr mask value 0 none

/-- A write of a register. -/
def writeStep (r : Reg) (value : Nat) : LoadStep := .write r.addr value

/-- The half of the instruction memory that a Programs body names in its first record (R507). -/
def programsHalf (steps : List LoadStep) : Nat := (lastWrite (steps.take 1) Reg.TRW_IMEM_ADDR.addr).getD 0 % 2 ^ 18 / 2 ^ 17

/-- Routes, through the procedure of R280: the shadows of the LPM families are cleared, that of L2 becomes a copy of the active
bank, and after the records the LPM families flip together, then L2. -/
def routeSteps (rs : List LoadStep) : List LoadStep :=
  let idle := waitSecond Reg.FWD_CMD_STAT 1 0
  let cmd := fun op table => writeStep Reg.FWD_CMD (2 ^ 31 + op * 2 ^ 28 + table * 2 ^ 25 + 2 ^ 23)
  let flip := fun tables =>
    [writeStep Reg.FWD_EPOCH_CTL (2 ^ 26), writeStep Reg.FWD_EPOCH_CTL (2 ^ 31 + tables * 2 ^ 28),
     waitNow Reg.FWD_EPOCH_CTL (2 ^ 26) 0]
  [waitSecond Reg.FWD_EPOCH_CTL (7 * 2 ^ 16) 0, idle, writeStep (Reg.FWD_CMD_DATA 0) (2 ^ 29), cmd 4 1, idle, cmd 4 2, idle,
   cmd 5 0, idle] ++ rs ++ [idle] ++ flip 3 ++ flip 4

/-- Rules: at a start into both banks (R131); in service through the shadow and a swap (R123). -/
def ruleSteps (live : Bool) (rs : List LoadStep) : List LoadStep :=
  if live then
    [waitSecond Reg.RUL_EPOCH_CTL 0x100 0, waitSecond Reg.RUL_ACC_STAT 1 0, .clearShadow] ++ rs ++
      [writeStep Reg.RUL_EPOCH_CTL 0x200, writeStep Reg.RUL_EPOCH_CTL (2 ^ 31), waitNow Reg.RUL_EPOCH_CTL 0x200 0]
  else rs ++ [.bothBanks]

/-- Programs: in service once the old half is free, which the mark after the entries frees again (R191, R507). -/
def programSteps (live : Bool) (rs : List LoadStep) : List LoadStep :=
  if live then waitSecond Reg.TRW_MARK 1 1 :: (rs ++ [.half (programsHalf rs), writeStep Reg.TRW_MARK (2 ^ 31)])
  else rs ++ [.half (programsHalf rs)]

/-- Why a patch body is refused before it is staged (R222): 1 stepping, 2 ROM revision, 3 count. -/
def State.patchRefused (s : State) (bs : List Byte) : Option Nat :=
  let n := beAt bs 6 2
  if beAt bs 4 1 ≠ s.fg Fld.KTL_DEVICE_ID_STEP then some 1
  else if beAt bs 5 1 ≠ s.fg Fld.TRW_ROM_INFO_ROM_REV then some 2
  else if n < 1 ∨ 512 < n ∨ bs.length ≠ 136 + 12 * n then some 3
  else none

/-- A Trowel patch: its body is staged and installed (R221, R222). -/
def patchSteps (bs : List Byte) : List LoadStep :=
  let id := beAt bs 0 2
  [waitSecond Reg.TRW_PATCH_STAT 1 0, .version (beAt bs 2 2), writeStep Reg.TRW_PATCH_ADDR 0]
    ++ ((List.range (beAt bs 6 2)).flatMap fun i => (List.range 3).map fun k =>
      writeStep (Reg.TRW_PATCH_DATA k) (wordAt bs (136 + 12 * i + 4 * k)))
    ++ ((List.range 32).map fun m => writeStep (Reg.TRW_PATCH_MATCH m) (wordAt bs (8 + 4 * m)))
    ++ [writeStep Reg.TRW_PATCH_CTL (2 ^ 31 + id), waitSecond Reg.TRW_PATCH_STAT 1 0,
        waitNow Reg.TRW_PATCH_STAT 0xFFFF0000 (id * 65536)]

/-- The steps that load a section; `live` tells a live apply from a start. -/
def typeSteps (live : Bool) (ty : Nat) (bs : List Byte) : Option (List LoadStep) :=
  if ty = 0x17 then some (patchSteps bs)
  else (bodySteps bs).map fun rs =>
    if ty = 0x14 then routeSteps rs
    else if ty = 0x18 then ruleSteps live rs
    else if ty = 0x16 then programSteps live rs
    else rs

/-! ## The part of a slice (R508) -/

/-- The slice whose registers an address lies in, for the Ports and Parser sections; none for a device-wide register. -/
def sliceOf (addr : Nat) : Option Nat :=
  let off := addr % 2 ^ 20
  if addr / 2 ^ 20 = 4 then (if off < 64 * 0x1000 then some (off / 0x10000) else none)
  else if addr / 2 ^ 20 = 5 then (if off % 0x40000 < 0x3F000 then some (off / 0x40000) else none)
  else if addr / 2 ^ 20 = 0xE then
    (if off % 0x1000 < 0x800 then (if off / 0x1000 < 64 then some (off / 0x10000) else none)
     else if off % 0x40000 < 0x1000 then some (off / 0x40000) else none)
  else none

/-- Whether an address is that of a PRT_CFG, by its port. -/
def cfgPort (addr : Nat) : Option Nat :=
  if addr / 2 ^ 20 = 4 ∧ addr % 0x1000 = 0 ∧ addr % 2 ^ 20 < 64 * 0x1000 then some (addr % 2 ^ 20 / 0x1000) else none

/-- The address a step concerns. -/
def LoadStep.address : LoadStep → Option Nat
  | .write a _ => some a
  | .wait a _ _ _ _ => some a
  | _ => none

/-- The steps of a list that concern a slice: its own registers and the device-wide ones. -/
def slicePart (n : Nat) (steps : List LoadStep) : List LoadStep :=
  steps.filter fun x => match x.address with | some a => (sliceOf a).getD n == n | none => true

/-- The steps of the Ports and Parser sections of a copy. -/
def State.sliceSteps (s : State) (copy : Nat) : List LoadStep :=
  [8, 9].flatMap fun ty => match s.section? copy ty with | some x => (bodySteps (s.body copy x)).getD [] | none => []

/-- The part of a slice as it is compared: of PRT_SLICE_MODE, only the slice's own mode. -/
def State.partOf (s : State) (copy n : Nat) : List LoadStep :=
  (slicePart n (s.sliceSteps copy)).map fun x =>
    match x with
    | .write a v => if a = Reg.PRT_SLICE_MODE.addr then .write a (bitsOf v (4 * n + 3) (4 * n)) else x
    | _ => x

/-- The slices in service whose part differs between two copies, in ascending order. -/
def State.changedSlices (s : State) (old new : Nat) : List Nat :=
  (List.range 4).filter fun n => (s.slice n).inService && s.partOf old n != s.partOf new n

/-! ## The legality check of stage 6 (R502) -/

/-- The sizes of a region plan that R496 allows: flow and spill in GiB, and its two bits. -/
def regionPlan (bs : List Byte) : Option (Nat × Nat × Nat) :=
  let f := beAt bs 0 1
  let sp := beAt bs 1 1
  let b := beAt bs 2 1
  if bs.length = 16 ∧ (f = 4 ∨ f = 8 ∨ f = 16) ∧ 2 ≤ sp ∧ sp ≤ 12 ∧ b < 4 ∧ beNat (bs.drop 3) = 0 ∧ f + sp ≤ 27 then some (f, sp, b) else none

/-- The blocks that the records of a section may address, by the number in the address (R494, R627). -/
def blocksOf (ty : Nat) : List Nat :=
  match ty with
  | 2 => [2, 0x14]
  | 3 => [5]
  | 4 => [0xB]
  | 5 => [0xF]
  | 6 => [0x10]
  | 8 => [4, 0xE]
  | 9 => [5]
  | 0x10 | 0x11 => [7]
  | 0x12 | 0x13 => [9]
  | 0x14 | 0x15 => [0xA]
  | 0x16 => [8]
  | 0x18 => [6]
  | 0x19 => [0xC]
  | 0x1A => [0xD]
  | 0x1B => [0xB]
  | 0x1C => [0xE]
  | 0x1D => [0x13, 0x12]
  | 0x1E => [1]
  | _ => []

/-- The section types whose body is register records. -/
def recordTypes : List Nat := [2, 3, 4, 5, 6, 8, 9, 0x10, 0x11, 0x12, 0x13, 0x14, 0x15, 0x16, 0x18, 0x19, 0x1A, 0x1B, 0x1C, 0x1D, 0x1E]

/-- The record sections of a copy with their steps; none for a body that is not one. -/
def State.recordSections (s : State) (copy : Nat) : List (Nat × Option (List LoadStep)) :=
  recordTypes.filterMap fun ty => (s.section? copy ty).map fun x => (ty, bodySteps (s.body copy x))

/-- Whether a register is a setting: neither a command register nor the data one runs on. -/
def isSetting (addr : Nat) : Bool :=
  match Spec.find? addr with
  | some (r, _) =>
    (r.fields.all fun f => f.acc != .wo) && !(r.name ∈ ["RUL_ACC_DATA", "FLE_ZONE_DATA", "FLE_ZONE_PROF", "FLE_POL_DATA_0",
      "FLE_POL_DATA_1", "FLE_POL_DATA_2", "FLE_POL_DATA_3", "FLE_POL_DATA_4", "XLB_LB_DATA", "FWD_CMD_DATA", "FWD_ECMP_MEM",
      "BUF_OWN_DATA_0", "BUF_OWN_DATA_1", "BUF_OWN_DATA_2", "BUF_OWN_DATA_3", "TRW_IMEM_ADDR", "TRW_IMEM_DATA",
      "TRW_PROG_DATA_HI", "TRW_PROG_DATA_LO"] : Bool)
  | none => true

/-- Whether two sections set one register to different values. -/
def clash (a b : List LoadStep) : Bool :=
  a.any fun x => match x.written with
    | some (addr, _) =>
      isSetting addr && (match lastWrite a addr, lastWrite b addr with | some u, some v => u != v | _, _ => false)
    | none => false

/-- The first check of R502 that a caddy copy fails before its sections are loaded, numbered in the order of the rule: 1 region
plan, 3 blocks, 4 patch, 5 Graft without Trellis, 6 two values. Check 2 is made on the loaded buffer section. -/
def State.legalFails (s : State) (copy : Nat) : Option Nat :=
  let bodyOf := fun (ty : Nat) => (s.section? copy ty).map (s.body copy)
  let rs := s.recordSections copy
  let blocks := rs.all fun e => match e.2 with
    | some steps => steps.all fun x => match x.address with | some a => (blocksOf e.1).contains (a / 2 ^ 20) | none => true
    | none => false
  let patch := match bodyOf 0x17 with
    | some bs => match s.patchRefused bs with | some k => decide (k = 3) | none => true
    | none => true
  let trellis := match rs.find? fun e => e.1 == 5 with
    | some (_, some steps) => bitAt ((lastWrite steps Reg.TRL_CFG.addr).getD 0) 31
    | _ => false
  let twice := (List.range rs.length).any fun i => (List.range i).any fun j =>
    match rs[i]?, rs[j]? with
    | some (_, some a), some (_, some b) => clash a b
    | _, _ => false
  if ((bodyOf 1).bind regionPlan).isNone then some 1
  else if !blocks then some 3
  else if !patch then some 4
  else if (s.section? copy 6).isSome && !trellis then some 5
  else if twice then some 6
  else none

/-! ## Slice restarts (R508) -/

/-- A slice restart begins: its heads stop at the parser and its ports go down. -/
def State.startRestart (s : State) (n : Nat) : State :=
  let s := (s.modSlice n fun x => { x with restarting := true })
  let s := (List.range 16).foldl (fun (s : State) i => if s.assigned (16 * n + i) then s.forceDown (16 * n + i) else s) s
  { s with nvm := { s.nvm with restarts := s.nvm.restarts ++ [n] } }.fs Fld.NVM_STATUS_APPLYING 1

/-- A write of NVM_SLICE_CTL (R514): a restart is rejected while APPLYING. -/
def State.writeSliceCtl (s : State) (v : Nat) : State :=
  if bitAt v 31 && s.fb Fld.NVM_STATUS_APPLYING then s.denied Spec.NVM_SLICE_CTL
  else
    let s := s.store Spec.NVM_SLICE_CTL [] v
    if bitAt v 31 then s.startRestart (v % 4) else s

/-- RESTART: NVM_SLICE_CTL written with RESTART = 1. -/
def execRestart (req : Requester) (slice : BitVec 2) (s : State) : Res :=
  .next (s.begin.forReq req fun s => s.writeSliceCtl (2 ^ 31 + slice.toNat))

/-! ## The start of a live apply (R506, R510) -/

/-- Whether a section of a copy differs from the running caddy's of its type. -/
def State.changedSection (s : State) (old new ty : Nat) : Bool :=
  match s.section? new ty with
  | some x => (s.section? old ty).map (·.digest) != some x.digest
  | none => false

/-- An apply begins: the changed live sections in type order, then the slices to be restarted. A changed start-only section
sets START_PEND. -/
def State.startApply (s : State) (copy : Nat) : State :=
  let old := s.nvm.caddy.getD 0
  let live := ((List.range 15).map (· + 0x10)).filter (s.changedSection old copy)
  let slices := if [8, 9].any (s.changedSection old copy) then s.changedSlices old copy else []
  let steps := live.map (LoadStep.body copy) ++ slices.flatMap fun n => [.restart n, .restarted n]
  let s := if [1, 2, 3, 4, 5, 6, 7].any (s.changedSection old copy) then s.fs Fld.NVM_STATUS_START_PEND 1 else s
  { s with nvm := { s.nvm with apply := some { copy := copy }, steps := steps } }.fs Fld.NVM_STATUS_APPLYING 1

/-- A write of NVM_IMG_CMD (R505, R506, R514). Applying needs a caddy copy that was verified and does not run. -/
def State.writeImgCmd (s : State) (kernel : Bool) (v : Nat) : State :=
  let op := bitsOf v 30 28
  let c := v % 4
  let t := s.store Spec.NVM_IMG_CMD [] v
  if 2 < op then s.imgNo 0
  else
    if !bitAt v 31 then t
    else if op ≠ 0 ∧ s.copyInUse c then s.imgNo 1
    else if op = 1 ∧ (1 < c ∨ !s.nvm.verified.contains c) then s.imgNo 2
    else if op = 1 ∧ s.imgSeq c ≤ s.nvm.caddySeq then s.imgNo 3
    else if s.fb Fld.NVM_IMG_STAT_BUSY ∨ (op = 1 ∧ (s.fb Fld.NVM_STATUS_APPLYING ∨ !s.nvm.done)) then s.imgNo 4
    else if !kernel then s.imgNo 5
    else
      match op with
      | 0 => t.verifyCopy c
      | 1 => (t.startApply c).doneLine Fld.NVM_IMG_STAT_DONE
      | _ => t.invalidateCopy c

/-- VERIFY, APPLY and INVALIDATE: NVM_IMG_CMD written with GO = 1. -/
def execVerify (req : Requester) (target : BitVec 2) (s : State) : Res :=
  .next (s.begin.forReq req fun s => s.writeImgCmd (isKernel req) (2 ^ 31 + target.toNat))

/-- APPLY (R506). -/
def execApply (req : Requester) (target : BitVec 2) (s : State) : Res :=
  .next (s.begin.forReq req fun s => s.writeImgCmd (isKernel req) (2 ^ 31 + 2 ^ 28 + target.toNat))

/-- INVALIDATE (R514). -/
def execInvalidate (req : Requester) (target : BitVec 2) (s : State) : Res :=
  .next (s.begin.forReq req fun s => s.writeImgCmd (isKernel req) (2 ^ 31 + 2 * 2 ^ 28 + target.toNat))

end Sys2Proof.Machine
end

