-- ==== Sys2Proof/Machine/GraftCommands.lean ====
section
/-! DEFINITION. Graft's commands: its registers, its timers, the messages it receives, witness frames and announcements. -/

namespace Sys2Proof.Machine

/-! ## Registers (R451, R453–R458) -/

/-- A write of GRF_CFG: EN = 0 turns pairing off, EN = 1 lets it start while the link is UP (R419, R423). -/
def State.writeGrfCfg (s : State) (v : Nat) : State :=
  if !Spec.GRF_CFG.inRange v || bitsOf v 30 29 == 3 then s.denied Spec.GRF_CFG
  else
    let was := s.fb Fld.GRF_CFG_EN
    let s := s.store Spec.GRF_CFG [] v
    if !s.fb Fld.GRF_CFG_EN then
      ({ s with grf := { s.grf with msgs := [], walkPos := none, flushing := false, retryAt := none } }.dropReceived).setPair 0
    else if !was && s.pairing == 0 && s.trellisUp then s.startAuth
    else s

/-- GRAFT_EN_WRITE: a write of GRF_CFG. -/
def execGraftEnWrite (req : Requester) (value : Word) (s : State) : Res :=
  .next (s.begin.forReq req fun s => s.writeGrfCfg value.toNat)

/-- A write of GRF_CTL: FLUSH, and the higher of the two rows of R423 that UNPAIR and RETRY ask for. -/
def State.writeGrfCtl (s : State) (v : Nat) : State :=
  let s := if bitAt v 31 then s.graftFlush else s
  if bitAt v 29 ∧ (s.pairing = 2 ∨ s.pairing = 3) then s.goAlone
  else if bitAt v 30 ∧ (s.pairing = 4 ∨ s.pairing = 5) then s.startAuth
  else s

/-- GRAFT_FLUSH (R439). -/
def execGraftFlush (s : State) : Res := .next (s.begin.writeGrfCtl (2 ^ 31))

/-- RETRY: QUARANTINE or ALONE is left for AUTH (R423). -/
def execRetry (s : State) : Res := .next (s.begin.writeGrfCtl (2 ^ 30))

/-- UNPAIR: pairing goes to ALONE (R423). -/
def execUnpair (s : State) : Res := .next (s.begin.writeGrfCtl (2 ^ 29))

/-- Shows a zone in GRF_ZONE_DATA. -/
def State.showZone (s : State) (z : Nat) : State :=
  let g := s.gzone z
  ((((s.fs Fld.GRF_ZONE_DATA_PAIRED (ofBool g.paired)).fs Fld.GRF_ZONE_DATA_HOME g.home).fs Fld.GRF_ZONE_DATA_GROUP g.group).fs
    Fld.GRF_ZONE_DATA_ROLE (ofBool g.owner)).fs Fld.GRF_ZONE_DATA_STATE g.state

/-- A write of a zone's mode: a zone that becomes paired, or whose home moves, is owned on its home side (R419, R457).
(DESIGN CHOICE, log 70) -/
def State.setZoneMode (s : State) (z : Nat) (paired : Bool) (home group : Nat) : State :=
  let g := s.gzone z
  if !paired then s.modGzone z fun _ => { home := home, group := group }
  else if g.paired && g.home == home then s.modGzone z fun g => { g with group := group }
  else
    (s.modGzone z fun g => { g with paired := true, home := home, group := group, state := 0, step := 0 }).setRole z
      (home == s.side)

/-- ACT 1: the owner's zone becomes standby; HANDOVER follows the acknowledgement (R451). -/
def State.handOverZone (s : State) (z : Nat) : State :=
  let n := (s.grf.nextSeq + 2 ^ 48 - 1) % 2 ^ 48
  let s := ((s.modGzone z fun g => { g with handover := some n }).setRole z false).raiseLine 28
  s.graftFlush.settleHandover z

/-- ACT 2: a takeover of one zone without its conditions (R451). -/
def State.takeZone (s : State) (z : Nat) : State :=
  let s := s.takeZones (s.gzone z).group [z]
  if s.pairing = 2 ∨ s.pairing = 3 then s.goAlone else s

/-- A write of GRF_ZONE_CMD (R457). -/
def State.writeGrfZone (s : State) (v : Nat) : State :=
  let old := s
  let s := s.store Spec.GRF_ZONE_CMD [] v
  let z := v % 65536
  let act := bitsOf v 29 28
  let g := s.gzone z
  let no := old.reject Fld.GRF_ZONE_STAT_REJECTED Fld.GRF_ZONE_STAT_REASON
  if act = 3 then no 3
  else if !bitAt v 31 then s
  else if bitAt v 30 then
    if s.pairing ≠ 0 ∧ s.pairing ≠ 4 then no 1
    else
      (s.setZoneMode z (s.fb Fld.GRF_ZONE_DATA_PAIRED) (s.fg Fld.GRF_ZONE_DATA_HOME) (s.fg Fld.GRF_ZONE_DATA_GROUP)).done
        Fld.GRF_ZONE_STAT_DONE
  else if act = 0 then (s.showZone z).done Fld.GRF_ZONE_STAT_DONE
  else if !g.paired then no 2
  else if act = 1 then
    if g.owner && s.inSync z then (s.handOverZone z).done Fld.GRF_ZONE_STAT_DONE else no 3
  else
    if !g.owner && (s.inSync z || s.pairing == 3 || s.pairing == 4) then (s.takeZone z).done Fld.GRF_ZONE_STAT_DONE else no 3

/-- ZONE_MODE_READ (R457). -/
def execZoneModeRead (zone : BitVec 16) (s : State) : Res := .next (s.begin.writeGrfZone (2 ^ 31 + zone.toNat))

/-- ZONE_MODE_WRITE: GRF_ZONE_DATA, then GRF_ZONE_CMD (R457). -/
def execZoneModeWrite (zone : BitVec 16) (paired home : Bool) (group : BitVec 3) (s : State) : Res :=
  let s := ((s.begin.fs Fld.GRF_ZONE_DATA_PAIRED (ofBool paired)).fs Fld.GRF_ZONE_DATA_HOME (ofBool home)).fs
    Fld.GRF_ZONE_DATA_GROUP group.toNat
  .next (s.writeGrfZone (2 ^ 31 + 2 ^ 30 + zone.toNat))

/-- HAND_OVER (R451). -/
def execHandOver (zone : BitVec 16) (s : State) : Res := .next (s.begin.writeGrfZone (2 ^ 31 + 2 ^ 28 + zone.toNat))

/-- TAKE (R451). -/
def execTake (zone : BitVec 16) (s : State) : Res := .next (s.begin.writeGrfZone (2 ^ 31 + 2 ^ 29 + zone.toNat))

/-- A read of GRF_TX_SEQ_LO (0), GRF_ACK_LO (1) or GRF_RX_SEQ_LO (2): its _HI register latches (R456). -/
def State.readGrfSeq (s : State) (which : Nat) : Word × State :=
  let (v, s) := match which with
    | 0 => (s.grf.nextSeq, s.fs Fld.GRF_TX_SEQ_HI_SEQ (s.grf.nextSeq / 2 ^ 32))
    | 1 => (s.grf.acked, s.fs Fld.GRF_ACK_HI_SEQ (s.grf.acked / 2 ^ 32))
    | _ => (s.appliedSeq, s.fs Fld.GRF_RX_SEQ_HI_SEQ (s.appliedSeq / 2 ^ 32))
  (BitVec.ofNat 32 v, s)

/-- GRF_SEQ_LO_READ (R456). -/
def execGrfSeqLoRead (which : Nat) (s : State) : Res :=
  let (v, s) := s.begin.readGrfSeq which
  .next (s.emit (.readData v))

/-! ## Timers (R423, R424, R436–R438, R448) -/

/-- AUTH_TIMEOUT: a step of the exchange was not answered within 100 ms (R424). -/
def execAuthTimeout (s : State) : Res :=
  let s := s.begin
  if s.pairing = 1 ∧ s.grf.step ≠ 0 ∧ s.grf.stepAt + 100 * msCycles ≤ s.aon then .next (s.authFail 3) else .next s

/-- AUTH_RETRY: the next attempt, 1 s after a failure (R423). -/
def execAuthRetry (s : State) : Res :=
  let s := s.begin
  match s.grf.retryAt with
  | some t => if s.pairing = 1 ∧ t ≤ s.aon then .next s.startAuth else .next s
  | none => .next s

/-- HEARTBEAT_MISSING: none has arrived for HB_MS (R436, R449). -/
def execHeartbeatMissing (s : State) : Res :=
  let s := s.begin
  if (s.pairing = 2 ∨ s.pairing = 3) ∧ s.hbMissing then .next s.pairingLost else .next s

/-- RETRANSMIT_TIMEOUT: the acknowledgement has not advanced for RETX_US (R437). -/
def execRetransmitTimeout (s : State) : Res :=
  let s := s.begin
  if s.pairing = 2 ∧ (s.grf.log.any fun e => e.sent) ∧ s.grf.ackAt + s.fg Fld.GRF_TIMERS_2_RETX_US * usCycles ≤ s.aon then
    .next s.resendAll
  else .next s

/-- SUSPEND_TIMEOUT: SUSP_MS in SUSPENDED (R423). -/
def execSuspendTimeout (s : State) : Res :=
  let s := s.begin
  if s.pairing = 3 ∧ s.grf.suspAt + s.fg Fld.GRF_TIMERS_2_SUSP_MS * msCycles ≤ s.aon then .next s.goAlone else .next s

/-- LAG_BOUND_EXCEEDED: the lag has passed LAG_US (R438). -/
def execLagBoundExceeded (s : State) : Res :=
  let s := s.begin
  if s.grf.log ≠ [] ∧ s.fg Fld.GRF_TIMERS_LAG_US * usCycles < s.lag ∧ !s.fb Fld.GRF_STATUS_LAG then
    .next ((s.fs Fld.GRF_STATUS_LAG 1).log 0x1002)
  else .next s

/-! ## Messages received (R424–R426, R440–R446, R451) -/

/-- A complete message of a type arrives over the link. -/
def State.receiveType (s : State) (type : Nat) (m : List Byte) : State :=
  if beAt m 0 1 = type then s.takeMessage m else s

/-- HELLO (R424). -/
def execHello (message : List Byte) (s : State) : Res := .next (s.begin.receiveType 7 message)

/-- REPLY (R424). -/
def execReply (message : List Byte) (s : State) : Res := .next (s.begin.receiveType 8 message)

/-- CONFIRM (R424). -/
def execConfirm (message : List Byte) (s : State) : Res := .next (s.begin.receiveType 9 message)

/-- CLAIMS (R426). -/
def execClaims (message : List Byte) (s : State) : Res := .next (s.begin.receiveType 10 message)

/-- DELTAS (R441–R443). -/
def execDeltas (message : List Byte) (s : State) : Res := .next (s.begin.receiveType 1 message)

/-- REPAIR_REQ (R446). -/
def execRepairReq (message : List Byte) (s : State) : Res := .next (s.begin.receiveType 2 message)

/-- REPAIR_RSP (R172, R446). -/
def execRepairRsp (message : List Byte) (s : State) : Res := .next (s.begin.receiveType 3 message)

/-- RESYNC_BEGIN (R445). -/
def execResyncBegin (message : List Byte) (s : State) : Res := .next (s.begin.receiveType 4 message)

/-- PURGED (R445). -/
def execPurged (message : List Byte) (s : State) : Res := .next (s.begin.receiveType 5 message)

/-- RESYNC_END (R445). -/
def execResyncEnd (message : List Byte) (s : State) : Res := .next (s.begin.receiveType 6 message)

/-- HANDOVER (R451). -/
def execHandover (message : List Byte) (s : State) : Res := .next (s.begin.receiveType 11 message)

/-- RESYNC_WALK: zones that can begin their resync do, and the walk goes on (R445). -/
def execResyncWalk (s : State) : Res :=
  let s := s.begin.startResyncs.startWalk
  match s.grf.walkPos with
  | some p => if s.pairing = 2 then .next (s.walkItems (s.walkRest p)) else .next s
  | none => .next s

/-! ## Witness frames (R447–R449) -/

/-- A witness group's counters. -/
def State.wit (s : State) (g : Nat) : Witness := s.grf.wits.get g {}
@[inherit_doc State.wit] def State.setWit (s : State) (g : Nat) (w : Witness) : State :=
  { s with grf := { s.grf with wits := s.grf.wits.put g {} w } }

/-- The partner's witness address of a group. -/
def State.peerMac (s : State) (g : Nat) : Nat :=
  (s.fg Fld.GRF_PEER_MAC_HI_MAC_HI * 2 ^ 32 + (s.rd Reg.GRF_PEER_MAC_LO).toNat + s.fg (Fld.GRF_WIT_PEER_PORT g)) % 2 ^ 48

/-- A witness frame of a group with a counter (R447). (DESIGN CHOICE, log 70) -/
def State.witnessFrame (s : State) (g count : Nat) : List Byte :=
  let b := beBytes 1 1 ++ beBytes 1 g ++ beBytes 1 s.side ++ beBytes 1 0 ++ beBytes 8 count
  finishFrame (beBytes 6 (s.peerMac g) ++ beBytes 6 (s.portMac (s.fg (Fld.GRF_WIT_PORT g))) ++ beBytes 2 0x88B5 ++ b
    ++ sliceBytes (Config.hmacSm3 (s.grf.session.getD []) b) 0 8)

/-- WITNESS_FRAME_SEND: every 1 ms, while the port is up (R447). -/
def execWitnessFrameSend (group : Nat) (s : State) : Res :=
  let s := s.begin
  let w := s.wit group
  let port := s.fg (Fld.GRF_WIT_PORT group)
  let due : Bool := match w.txAt with | some t => decide (t + msCycles ≤ s.aon) | none => true
  if group < 8 ∧ s.fb (Fld.GRF_WIT_EN group) ∧ (s.pairing = 2 ∨ s.pairing = 3) ∧ due ∧ s.fb (Fld.PRT_STATUS_LINK port) then
    let s := s.setWit group { w with tx := w.tx + 1, txAt := some s.aon }
    .next (s.sendMac port (.witness (s.witnessFrame group (w.tx + 1))))
  else .next s

/-- Whether a consumed witness frame is valid for its group (R448). -/
def State.witnessValid (s : State) (port : Nat) (f : List Byte) : Bool :=
  let g := beAt f 15 1
  let tag := match s.grf.session with
    | some k => sliceBytes f 26 8 == sliceBytes (Config.hmacSm3 k (sliceBytes f 14 12)) 0 8
    | none => false
  beAt f 14 1 == 1 && decide (g < 8) && s.fb (Fld.GRF_WIT_EN g) && s.fg (Fld.GRF_WIT_PORT g) == port
    && beAt f 16 1 == 1 - s.side && tag && decide ((s.wit g).rx < beAt f 18 8)

/-- WITNESS_FRAME_RECEIVED: the MAC of a witness port consumes good frames addressed to its port address (R448), with the
codewords of the frame that were corrected, or could not be (R56). One that the PCS makes bad counts as R57 states; one that is bad
in itself is ordinary traffic. -/
def execWitnessFrameReceived (port : Nat) (frame : List Byte) (pcsErr : Bool) (fecCorr fecUncorr : Nat) (s : State) : Res :=
  let s := s.begin
  if !s.assigned port ∨ !s.fb (Fld.PRT_STATUS_LINK port) ∨ !s.takesWitness port frame then .next s
  else
  let s := (s.inc (Reg.PRT_FEC_CORR port) fecCorr).inc (Reg.PRT_FEC_UNCORR port) fecUncorr
  if pcsErr ∨ fecUncorr ≠ 0 then .next (s.inc (Reg.PRT_RX_PCS_ERR port))
  else if s.witnessValid port frame then
    let g := beAt frame 15 1
    .next ((s.setWit g { s.wit g with
      rx := beAt frame 18 8, till := some (s.aon + s.fg Fld.GRF_TIMERS_WIT_MS * msCycles) }).fsbit
      Fld.GRF_WIT_STAT_PRESENT g true)
  else .next (s.inc Reg.GRF_WIT_BAD)

/-- WITNESS_ABSENT: WIT_MS have passed without a valid frame of the group (R448, R449). -/
def execWitnessAbsent (group : Nat) (s : State) : Res :=
  let s := s.begin
  match (s.wit group).till with
  | some t =>
    if group < 8 ∧ t ≤ s.aon ∧ s.fbit Fld.GRF_WIT_STAT_PRESENT group then
      .next (((s.setWit group { s.wit group with till := none }).fsbit Fld.GRF_WIT_STAT_PRESENT group false).takeover).2
    else .next s
  | none => .next s

/-! ## Announcements (R450) -/

/-- The frame of an announcement: a gratuitous ARP request, or an unsolicited neighbour advertisement. (PRESUMED, log 68) -/
def annFrame (e : AnnEntry) : List Byte :=
  let tag := if e.vid = 0 then [] else beBytes 2 0x8100 ++ beBytes 2 e.vid
  if e.v6 then
    let dst := 0xFF020000000000000000000000000001
    let na := fun (c : Nat) => beBytes 1 136 ++ beBytes 1 0 ++ beBytes 2 c
      ++ beBytes 4 (2 ^ 31 * ofBool e.router + 2 ^ 29) ++ beBytes 16 e.addr ++ beBytes 1 2 ++ beBytes 1 1 ++ beBytes 6 e.mac
    let pseudo := beBytes 16 e.addr ++ beBytes 16 dst ++ beBytes 4 32 ++ beBytes 4 58
    finishFrame (beBytes 6 0x333300000001 ++ beBytes 6 e.mac ++ tag ++ beBytes 2 0x86DD
      ++ beBytes 4 0x60000000 ++ beBytes 2 32 ++ beBytes 1 58 ++ beBytes 1 255 ++ beBytes 16 e.addr ++ beBytes 16 dst
      ++ na (inetSum (pseudo ++ na 0)))
  else
    finishFrame (beBytes 6 0xFFFFFFFFFFFF ++ beBytes 6 e.mac ++ tag ++ beBytes 2 0x0806
      ++ beBytes 2 1 ++ beBytes 2 0x0800 ++ beBytes 1 6 ++ beBytes 1 4 ++ beBytes 2 1 ++ beBytes 6 e.mac ++ beBytes 4 e.addr
      ++ beBytes 6 0 ++ beBytes 4 e.addr)

/-- ANNOUNCEMENT: the next one that is due, on its entry's port (R450). -/
def execAnnouncement (s : State) : Res :=
  let s := s.begin
  match s.grf.anns.find? fun a => decide (a.due ≤ s.aon) with
  | none => .next s
  | some a =>
    let e := s.grf.annList.getD a.entry {}
    let rest := s.grf.anns.erase a
    let anns := if a.left ≤ 1 then rest
      else rest ++ [{ a with left := a.left - 1, due := a.due + s.grf.annMs * msCycles }]
    let s := { s with grf := { s.grf with anns := anns } }
    if a.left ≠ 0 ∧ e.port < 64 ∧ s.fb (Fld.PRT_STATUS_LINK e.port) then .next (s.sendMac e.port (.announce (annFrame e)))
    else .next s

end Sys2Proof.Machine
end

