-- ==== Sys2Proof/Machine/Grix.lean ====
section
/-! DEFINITION. The Grix datagrams and what the device sends of itself (R585, R586, R593), the taking of records out of the
event buffer (R632, R635), the ends of flash operations (R488), and the management port's own answers (R583, R584). -/

namespace Sys2Proof.Machine

/-! ## Sending (R584–R586) -/

/-- Sends a UDP payload to a peer, from the address the peer had used. -/
def State.sendPeer (s : State) (p : Peer) (payload : List Byte) : State :=
  let u : UdpEnds := { v6 := p.v6, src := p.dev.toNat, dst := p.addr.toNat, sport := s.fg Fld.MGT_CFG_GRIX_PORT, dport := p.port.toNat }
  s.mgmtSend (ipFrame p.mac.toNat s.mgtMac p.v6 (udpPacket u payload))

/-- The 16 bytes of a tag (R585). -/
def tagBytes (key bs : List Byte) : List Byte := sliceBytes (Config.hmacSm3 key bs) 0 16

/-- A datagram, tagged when it has a key (R585). -/
def datagram (type session seq : Nat) (body : List Byte) (key : Option (List Byte)) : List Byte :=
  let n := 16 + body.length + (if key.isSome then 16 else 0)
  let bs := d1 1 ++ d1 type ++ d2 n ++ beBytes 4 session ++ beBytes 8 seq ++ body
  match key with
  | some k => bs ++ tagBytes k bs
  | none => bs

/-- Answers an ERROR (R586). -/
def State.grixError (s : State) (p : Peer) (session code : Nat) : State := s.sendPeer p (datagram 4 session 0 (d1 code) none)

/-- A session. -/
def State.session (s : State) (id : Nat) : Option Session := s.mgt.sessions.get id none

/-- Sets or removes a session. -/
def State.setSession (s : State) (id : Nat) (x : Option Session) : State :=
  { s with mgt := { s.mgt with sessions := s.mgt.sessions.put id none x } }

/-- Ends an open session (R588); `why` numbers the cause in the rule's order: 0 CLOSE, 1 idle, 2 revocation, 3 reset. -/
def State.endSession (s : State) (id why : Nat) : State :=
  let opened := match s.session id with | some x => x.opened | none => false
  let s := s.setSession id none
  if opened then s.log 0x1403 (d1 (Config.closeCause why).toNat) else s

/-- Sends a RESPONSE of a session, and keeps it (R589, R590). -/
def State.respond (s : State) (id seq op status detail : Nat) (body : List Byte) : State :=
  match s.session id with
  | none => s
  | some x =>
    let bs := datagram 0x11 id seq (d2 op ++ d1 status ++ d1 detail ++ body) (some x.kD)
    ((s.setSession id (some { x with response := bs, busy := none })).emit (.grix id op status body)).sendPeer x.peer bs

/-- Sends a record to the sessions that have subscribed, at most 100 datagrams per second to each (R593). -/
def State.notify (s : State) (record : List Byte) : State :=
  s.mgt.sessions.foldl (fun (s : State) e =>
    match e.2 with
    | some x =>
      let anew := decide (x.sentAt + secCycles ≤ s.aon)
      let n := if anew then 0 else x.sentIn
      if x.opened && x.sub && decide (n < 100) then
        let y := { x with notes := x.notes + 1, sentIn := n + 1, sentAt := if anew then s.aon else x.sentAt }
        (s.setSession e.1 (some y)).sendPeer x.peer (datagram 0x12 e.1 y.notes record (some x.kD))
      else s
    | none => s) s

/-! ## The event buffer (R632, R635) -/

/-- The oldest record leaves the buffer and is appended to the flash log, which raises line 30. None leaves during a supply
warning. -/
def State.popEvent (s : State) : State :=
  match s.events with
  | [] => s
  | r :: rest =>
    if s.fb Fld.KTL_PWR_STAT_WARN then s
    else
      let s := { s with events := rest }
      if s.nvm.opened then
        let (bs, s) := s.logAppend r
        (s.raiseLine 30).notify bs
      else s

/-- POP: POP = 1 written to DBG_EVT_POP. -/
def execPop (s : State) : Res := .next s.begin.popEvent

/-! ## Flash operations end (R488, R513, R591) -/

/-- What the end of an operation shows and answers; REASON 5 is that of a flash error. -/
def State.flashOver (s : State) (e : Option (FlashUser × Bool)) : State :=
  match e with
  | none => s
  | some (user, ok) =>
    let s := s.flShow user ok
    match user with
    | .grix id =>
      match s.session id with
      | some x =>
        match x.busy with
        | some (op, seq) => if ok then s.respond id seq op 0 0 [] else s.respond id seq op 4 5 []
        | none => s
      | none => s
    | _ => s

/-- FLASH_OP_DONE: the flash reports the program or erase in progress as done, or as failed. -/
def execFlashOpDone (ok : Bool) (s : State) : Res :=
  let (s, e) := s.begin.flEnd ok
  .next (s.flashOver e)

/-- FLASH_OP_TIMEOUT: the operation in progress has passed its limit. -/
def execFlashOpTimeout (s : State) : Res :=
  let s := s.begin
  if s.flLate then
    let (s, e) := s.flEnd false
    .next (s.flashOver e)
  else .next s

/-! ## The management port (R583, R584) -/

/-- MANAGEMENT_LINK_CHANGE: the port's link goes up or down. -/
def execManagementLinkChange (up : Bool) (s : State) : Res :=
  let s := s.begin
  .next (s.fs Fld.MGT_STATUS_LINK (ofBool (up && s.fb Fld.MGT_CFG_EN)))

/-- MANAGEMENT_TRANSMIT_DONE: a frame has been sent (R529: line 24). -/
def execManagementTransmitDone (s : State) : Res :=
  let s := s.begin
  .next (if s.fb Fld.MGT_STATUS_LINK then s.raiseLine 24 else s)

/-- A frame that is dropped and counted. -/
def State.mgtDrop (s : State) : State := s.inc Reg.MGT_RX_DROP

/-- The link-local address with the modified EUI-64 of the port's MAC address. -/
def State.mgtLinkLocal (s : State) : Nat :=
  let m := s.mgtMac
  0xFE80 * 2 ^ 112 + ((m / 2 ^ 24) ^^^ 0x020000) * 2 ^ 40 + 0xFFFE * 2 ^ 24 + m % 2 ^ 24

/-- Whether an IPv6 address is the port's. -/
def State.mgtHasV6 (s : State) (a : Nat) : Bool :=
  s.fb Fld.MGT_CFG_V6_EN && (a == s.address Reg.MGT_V6_ADDR true || a == s.mgtLinkLocal)

/-- Whether an IPv4 address is the port's. -/
def State.mgtHasV4 (s : State) (a : Nat) : Bool := s.fb Fld.MGT_CFG_V4_EN && a == (s.rd Reg.MGT_V4_ADDR).toNat

/-- The answer to an ARP request for the port's address. (PRESUMED, log 88) -/
def State.mgtArp (s : State) (f : List Byte) : Option State :=
  if beAt f 14 8 = 0x0001080006040001 ∧ s.mgtHasV4 (beAt f 38 4) then
    some (s.mgmtSend (finishFrame (sliceBytes f 22 6 ++ beBytes 6 s.mgtMac ++ d2 0x0806 ++ beBytes 8 0x0001080006040002
      ++ beBytes 6 s.mgtMac ++ sliceBytes f 38 4 ++ sliceBytes f 22 10)))
  else none

/-- An ICMPv6 message with its checksum, as a frame. -/
def icmp6Frame (dst src : Nat) (ipSrc ipDst : Nat) (hop : Nat) (msg : Nat → List Byte) : List Byte :=
  let n := (msg 0).length
  let pseudo := beBytes 16 ipSrc ++ beBytes 16 ipDst ++ beBytes 4 n ++ beBytes 4 58
  ipFrame dst src true (beBytes 4 0x60000000 ++ d2 n ++ d1 58 ++ d1 hop ++ beBytes 16 ipSrc ++ beBytes 16 ipDst
    ++ msg (inetSum (pseudo ++ msg 0)))

/-- The answer to a neighbour solicitation for one of the port's addresses. (PRESUMED, log 88) -/
def State.mgtNeighbour (s : State) (f msg : List Byte) : Option State :=
  let target := beAt msg 8 16
  let asker := beAt f 22 16
  let mac := s.mgtMac
  let advert := fun (flags c : Nat) => d1 136 ++ d1 0 ++ d2 c ++ beBytes 4 flags ++ beBytes 16 target ++ d1 2 ++ d1 1 ++ beBytes 6 mac
  if msg.length < 24 ∨ beAt f 21 1 ≠ 255 ∨ !s.mgtHasV6 target then none
  else if asker = 0 then
    some (s.mgmtSend (icmp6Frame 0x333300000001 mac target (0xFF02 * 2 ^ 112 + 1) 255 (advert (2 ^ 29))))
  else some (s.mgmtSend (icmp6Frame (beAt f 6 6) mac target asker 255 (advert (3 * 2 ^ 29))))

/-- What a received UDP datagram is: its peer, its destination port and its payload. -/
structure UdpIn where
  peer : Peer
  dport : Nat
  payload : List Byte

/-- What the port makes of a frame. -/
inductive MgtFrame where
  | drop
  | answered (s : State)
  | udp (u : UdpIn)

/-- The UDP datagram of an IP packet, if its length and its checksum are right. -/
def udpOf (f ip : List Byte) (v6 : Bool) (src dst : Nat) : Option UdpIn :=
  let n := beAt ip 4 2
  let a := if v6 then 16 else 4
  let pseudo := beBytes a src ++ beBytes a dst ++ (if v6 then beBytes 4 n ++ beBytes 4 17 else d2 17 ++ d2 n)
  let sumOk := (!v6 && beAt ip 6 2 == 0) || inetSum (pseudo ++ ip.take n) == 0
  if 8 ≤ n ∧ n ≤ ip.length ∧ sumOk then
    some { peer := { mac := BitVec.ofNat 48 (beAt f 6 6), v6 := v6, addr := BitVec.ofNat 128 src, port := BitVec.ofNat 16 (beAt ip 0 2),
                     dev := BitVec.ofNat 128 dst },
           dport := beAt ip 2 2, payload := (ip.take n).drop 8 }
  else none

/-- An IPv4 packet to the port: no options, no fragment, a right header checksum (R584). -/
def State.mgtV4 (s : State) (f : List Byte) : MgtFrame :=
  let n := beAt f 16 2
  let src := beAt f 26 4
  let dst := beAt f 30 4
  let body := ((f.drop 14).take n).drop 20
  if beAt f 14 1 ≠ 0x45 ∨ beAt f 20 2 % 0x4000 ≠ 0 ∨ inetSum (sliceBytes f 14 20) ≠ 0 ∨ n < 20 ∨ f.length < 18 + n
      ∨ !s.mgtHasV4 dst then .drop
  else if beAt f 23 1 = 1 then
    if beAt body 0 2 = 0x0800 ∧ 8 ≤ body.length ∧ inetSum body = 0 then
      let r := fun (c : Nat) => d2 0 ++ d2 c ++ body.drop 4
      let h := fun (c : Nat) => d2 0x4500 ++ d2 n ++ d2 0 ++ d2 0x4000 ++ d1 64 ++ d1 1 ++ d2 c ++ beBytes 4 dst ++ beBytes 4 src
      .answered (s.mgmtSend (ipFrame (beAt f 6 6) s.mgtMac false (h (inetSum (h 0)) ++ r (inetSum (r 0)))))
    else .drop
  else if beAt f 23 1 = 17 then match udpOf f body false src dst with | some u => .udp u | none => .drop
  else .drop

/-- An IPv6 packet to the port, with no extension header (R584). -/
def State.mgtV6 (s : State) (f : List Byte) : MgtFrame :=
  let n := beAt f 18 2
  let src := beAt f 22 16
  let dst := beAt f 38 16
  let body := (f.drop 54).take n
  let pseudo := beBytes 16 src ++ beBytes 16 dst ++ beBytes 4 n ++ beBytes 4 58
  if beAt f 14 1 / 16 ≠ 6 ∨ f.length < 58 + n then .drop
  else if beAt f 20 1 = 58 then
    if inetSum (pseudo ++ body) ≠ 0 then .drop
    else if beAt body 0 2 = 0x8700 then match s.mgtNeighbour f body with | some t => .answered t | none => .drop
    else if beAt body 0 2 = 0x8000 ∧ s.mgtHasV6 dst then
      .answered (s.mgmtSend (icmp6Frame (beAt f 6 6) s.mgtMac dst src 64 fun c => d2 0x8100 ++ d2 c ++ body.drop 4))
    else .drop
  else if beAt f 20 1 = 17 ∧ s.mgtHasV6 dst then match udpOf f body true src dst with | some u => .udp u | none => .drop
  else .drop

/-- What the port makes of a frame that passes the checks of R583. -/
def State.mgtTake (s : State) (f : List Byte) : MgtFrame :=
  let dst := beAt f 0 6
  if dst ≠ s.mgtMac ∧ !bitAt dst 40 then .drop
  else
    match beAt f 12 2 with
    | 0x0806 => match s.mgtArp f with | some t => .answered t | none => .drop
    | 0x0800 => if dst = s.mgtMac then s.mgtV4 f else .drop
    | 0x86DD => s.mgtV6 f
    | _ => .drop

/-- Whether a UDP port is that of DHCP. -/
def isDhcp (p : Nat) : Bool := p == 67 || p == 68 || p == 546 || p == 547

end Sys2Proof.Machine
end

