-- ==== Sys2Proof/Machine/Translation.lean ====
section
/-! DEFINITION. The meanings of the commands of chapter 6: pools, the XLB sweep, load-balancing groups, mappings by their
public endpoint, and policers. -/

namespace Sys2Proof.Machine

/-! ## Pools (R232, R233, R255) -/

/-- The checks of R232 on a pool as the registers give it. -/
def State.poolOk (s : State) (p : Nat) : Bool :=
  let first := s.poolFirst p
  let count := s.poolCount p
  let b := s.poolB p
  let lo := s.poolLo p
  let hi := s.fg (Fld.XLB_POOL_PORTS_PORT_HI p)
  decide (0 < count ∧ first + count ≤ 8192 ∧ lo % b = 0 ∧ (hi + 1) % b = 0 ∧ lo ≤ hi)
    && (List.range 256).all fun q =>
      q == p || !s.fb (Fld.XLB_POOL_CFG_EN q)
        || decide (first + count ≤ s.poolFirst q ∨ s.poolFirst q + s.poolCount q ≤ first)

/-- A write of XLB_POOL_CFG_p: EN = 1 checks the pool, EN = 0 needs a use of zero, and nothing else changes while EN is 1
(R232, R233). -/
def State.writeXlbPool (s : State) (p : Nat) (v : Word) : State :=
  let old := (s.rd (Reg.XLB_POOL_CFG p)).toNat
  let r := Spec.XLB_POOL_CFG
  if !r.inRange v.toNat then s.denied r
  else
    let t := s.store r [p] v.toNat
    let new := (t.rd (Reg.XLB_POOL_CFG p)).toNat
    if bitAt old 31 then
      if bitAt new 31 then (if new = old then s else s.denied Spec.XLB_POOL_CFG)
      else if s.fb (Fld.XLB_POOL_USE_BLOCKS p) || decide (old % 2 ^ 31 ≠ new % 2 ^ 31) then s.denied Spec.XLB_POOL_CFG
      else { t with xlb := { t.xlb with high := t.xlb.high.erase p } }
    else if bitAt new 31 && !t.poolOk p then s.denied Spec.XLB_POOL_CFG
    else t

/-- A write of XLB_POOL_ADDR_p: while EN = 1, only an increase of COUNT that passes the checks (R233). -/
def State.writePoolAddr (s : State) (p : Nat) (v : Word) : State :=
  let r := Spec.XLB_POOL_ADDR
  let t := s.store r [p] v.toNat
  if !r.inRange v.toNat then s.denied r
  else if s.fb (Fld.XLB_POOL_CFG_EN p) then
    if t.poolFirst p = s.poolFirst p ∧ s.poolCount p < t.poolCount p ∧ t.poolOk p then t else s.denied r
  else t

/-- A write of XLB_POOL_PORTS_p: rejected while EN = 1 (R233). -/
def State.writePoolPorts (s : State) (p : Nat) (v : Word) : State :=
  if s.fb (Fld.XLB_POOL_CFG_EN p) then s.denied Spec.XLB_POOL_PORTS else s.checkedStore Spec.XLB_POOL_PORTS [p] v.toNat

/-- A write of XLB_ADDR_i: rejected while the entry belongs to an enabled pool (R233). -/
def State.writePubAddr (s : State) (i : Nat) (v : Word) : State :=
  if (s.poolOfIndex i).isSome then s.denied Spec.XLB_ADDR else s.store Spec.XLB_ADDR [i] v.toNat

/-- POOL_EN_WRITE: a write of XLB_POOL_CFG_p, or of XLB_POOL_ADDR_p, of a pool (R232, R233). -/
def execPoolEnWrite (req : Requester) (pool : Nat) (addrReg : Bool) (value : Word) (s : State) : Res :=
  .next (s.begin.forReq req fun s =>
    if 256 ≤ pool then s.errorResponse
    else if addrReg then s.writePoolAddr pool value else s.writeXlbPool pool value)

/-! ## The sweep (R241) -/

/-- The holding mappings whose time has passed. A standby zone's mappings have no timers (R443), and one that a tentative NATMAP has
found waits for its confirm or cancel (R237). -/
def State.heldOut (s : State) : List (Nat × Mapping) :=
  s.xlb.rev.filter fun e =>
    e.2.state == 2 && !s.standby e.2.zone && !s.claimed none [claimEnd e.2.pub e.2.pport] && decide (e.2.since + s.fg Fld.XLB_CFG_MAP_HOLD_S * secCycles ≤ s.aon)

/-- Clears HELD in the blocks whose hold has passed, in coarse ticks (R241). -/
def State.releaseNatHolds (s : State) : State :=
  let need := ceilDiv (s.fg Fld.XLB_CFG_BLOCK_HOLD_S * 1000) 1024
  (s.xlb.grans.filter fun e => e.2.held && decide (need ≤ (s.tick + 65536 - e.2.tick) % 65536)).foldl
    (fun s e => s.modGran e.1 fun g => { g with held := false, tick := 0 }) s

/-- XLB_SWEEP: the background sweep frees mappings and returns blocks whose hold has passed (R241). -/
def execXlbSweep (s : State) : Res :=
  let s := s.begin
  .next ((s.heldOut.foldl (fun s e => s.freeMapping e.1 e.2) s).releaseNatHolds)

/-! ## Groups, members and slots (R245–R248, R256) -/

/-- The word of XLB_LB_CMD, without GO. -/
def lbCmd (op : Nat) (target : BitVec 2) (group index : BitVec 12) : Nat :=
  op * 2 ^ 28 + target.toNat * 2 ^ 26 + group.toNat * 2 ^ 12 + index.toNat

/-- Sets the RW fields of XLB_LB_CMD. -/
def State.setLbCmd (s : State) (op : Nat) (target : BitVec 2) (group index : BitVec 12) : State :=
  s.store Spec.XLB_LB_CMD [] (lbCmd op target group index)

/-- Turns a load-balancing command down with a reason (R256). -/
def State.lbReject (s : State) (n : Nat) : State := s.reject Fld.XLB_LB_STAT_REJECTED Fld.XLB_LB_STAT_REASON n

/-- Sets the data words from the first one up. -/
def State.setLbData (s : State) (ws : List Nat) : State :=
  (List.range ws.length).foldl (fun s w => s.wr (Reg.XLB_LB_DATA w) (BitVec.ofNat 32 (ws.getD w 0))) s

/-- The value of a data word. -/
def State.lbData (s : State) (w : Nat) : Nat := (s.rd (Reg.XLB_LB_DATA w)).toNat

/-- Whether the index of a command lies in its target (R256). -/
def lbIndexOk (target : BitVec 2) (index : BitVec 12) : Bool :=
  target != 3 && !(target == 1 && decide (256 ≤ index.toNat))

/-- Why a load-balancing command is turned down, 0 when it is not (R256): 4 while a BUILD runs, then 1 for an index, 2 for a
family or mode change of an enabled group, 3 for a weight of 0. (DESIGN CHOICE, log 99) -/
def State.lbReason (s : State) (op : Nat) (target : BitVec 2) (group index : BitVec 12) : Nat :=
  let w := s.lbData 0
  let old := s.lbGroup group.toNat
  if s.fb Fld.XLB_LB_STAT_BUSY then 4
  else if op ≠ 2 ∧ !lbIndexOk target index then 1
  else if op = 1 ∧ target = 0 ∧ old.en ∧ (old.v6 ≠ bitAt w 30 ∨ old.translate ≠ bitAt w 29) then 2
  else if op = 1 ∧ target = 1 ∧ bitsOf (s.lbData 4) 15 8 = 0 then 3
  else 0

/-- OP 0: reads a group, a member or a slot. -/
def State.lbRead (s : State) (target : BitVec 2) (group index : BitVec 12) : State :=
  let g := group.toNat
  let ws :=
    if target = 0 then
      let x := s.lbGroup g
      [2 ^ 31 * ofBool x.en + 2 ^ 30 * ofBool x.v6 + 2 ^ 29 * ofBool x.translate + 2 ^ 28 * ofBool x.reselect
        + s.upCount g]
    else if target = 1 then
      let m := s.lbMember g index.toNat
      [bitsOf m.addr 127 96, bitsOf m.addr 95 64, bitsOf m.addr 63 32, bitsOf m.addr 31 0,
       m.port * 65536 + m.weight * 256 + m.state, m.nhop]
    else
      let t := s.lbSlot g index.toNat
      [65536 * ofBool t.valid + t.primary * 256 + t.backup]
  (s.setLbData ws).done Fld.XLB_LB_STAT_DONE

/-- OP 1: writes a group, a member or a slot. -/
def State.lbWrite (s : State) (target : BitVec 2) (group index : BitVec 12) : State :=
  let g := group.toNat
  let s :=
    if target = 0 then
      let w := s.lbData 0
      let x : LbGroup := { en := bitAt w 31, v6 := bitAt w 30, translate := bitAt w 29, reselect := bitAt w 28 }
      { s with xlb := { s.xlb with groups := s.xlb.groups.put g {} x } }
    else if target = 1 then
      let w := s.lbData 4
      let m : LbMember :=
        { addr := s.lbData 0 * 2 ^ 96 + s.lbData 1 * 2 ^ 64 + s.lbData 2 * 2 ^ 32 + s.lbData 3
          port := bitsOf w 31 16, weight := bitsOf w 15 8, state := w % 4, nhop := s.lbData 5 % 65536 }
      { s with xlb := { s.xlb with members := s.xlb.members.put (g * 256 + index.toNat) {} m } }
    else
      let w := s.lbData 0
      let t : LbSlot := { valid := bitAt w 16, primary := bitsOf w 15 8, backup := bitsOf w 7 0 }
      { s with xlb := { s.xlb with slots := s.xlb.slots.put (g * 4096 + index.toNat) {} t } }
  s.done Fld.XLB_LB_STAT_DONE

/-- OP 2: starts a BUILD of a group's slots (R248). -/
def State.lbBuild (s : State) (group : BitVec 12) : State :=
  { s with xlb := { s.xlb with building := some (group.toNat, s.aon) } }.fs Fld.XLB_LB_STAT_BUSY 1

/-- A command on XLB_LB_CMD with GO (R256): turned down, it leaves the register's fields as they were (R18). -/
def State.lbGo (s : State) (op : Nat) (target : BitVec 2) (group index : BitVec 12) : State :=
  let why := s.lbReason op target group index
  let t := s.setLbCmd op target group index
  if why ≠ 0 then s.lbReject why
  else
    match op with
    | 0 => t.lbRead target group index
    | 1 => t.lbWrite target group index
    | _ => t.lbBuild group

/-- LB_READ (R256). -/
def execLbRead (target : BitVec 2) (group index : BitVec 12) (s : State) : Res := .next (s.begin.lbGo 0 target group index)

/-- LB_WRITE (R248, R256). -/
def execLbWrite (target : BitVec 2) (group index : BitVec 12) (s : State) : Res :=
  .next (s.begin.lbGo 1 target group index)

/-- BUILD (R248). TARGET and INDEX of a written word are stored by REGISTER_WRITE; this command writes them as 0. -/
def execBuild (group : BitVec 12) (s : State) : Res := .next (s.begin.lbGo 2 0 group 0)

/-- BUILD_COMPLETE: after 4,096 core clocks every slot is rewritten (R248). -/
def execBuildComplete (s : State) : Res :=
  let s := s.begin
  match s.xlb.building with
  | some (g, t) =>
    if t * 50 + 4096 ≤ s.coreNow then
      let s := s.buildSlots g
      .next (({ s with xlb := { s.xlb with building := none } }.fs Fld.XLB_LB_STAT_BUSY 0).done Fld.XLB_LB_STAT_DONE)
    else .next s
  | none => .next s

/-! ## Mappings by their public endpoint (R257) -/

/-- XLB_MAP_CMD: finds the mapping at a public endpoint, and frees it when FREE is set. -/
def State.mapCmd (s : State) (free : Bool) (addr : BitVec 13) (pport : BitVec 16) : State :=
  let s := s.store Spec.XLB_MAP_CMD [] (2 ^ 30 * ofBool free + addr.toNat * 65536 + pport.toNat)
  let put := fun (s : State) w (n : Nat) => s.wr (Reg.XLB_MAP_DATA w) (BitVec.ofNat 32 n)
  match s.revFind addr.toNat pport.toNat with
  | none => ((put (put (put (put s 0 0) 1 0) 2 0) 3 0).fs Fld.XLB_MAP_CMD_FOUND 0).tableReads 1
  | some (k, m) =>
    let s := put s 0 (m.zone * 65536 + m.state * 4096 + m.proto)
    let s := put (put s 1 m.addr) 2 (m.port * 65536 + bitsOf m.refs 23 16)
    let s := ((put s 3 (bitsOf m.refs 15 0)).fs Fld.XLB_MAP_CMD_FOUND 1).tableReads 1
    if free then s.freeMapping k m else s

/-- MAPPING_FIND (R257). -/
def execMappingFind (addr : BitVec 13) (pport : BitVec 16) (s : State) : Res := .next (s.begin.mapCmd false addr pport)

/-- MAPPING_FREE: frees a mapping at once, whatever its count (R257). -/
def execMappingFree (addr : BitVec 13) (pport : BitVec 16) (s : State) : Res := .next (s.begin.mapCmd true addr pport)

/-! ## Policers (R252, R253) -/

/-- FLE_POL_CMD without WRITE: the data words take a policer's settings. -/
def State.polRead (s : State) (index : BitVec 17) : State :=
  let s := s.store Spec.FLE_POL_CMD [] index.toNat
  let p := s.policer index.toNat
  let s := s.wr Reg.FLE_POL_DATA_0 (BitVec.ofNat 32 (2 ^ 31 * ofBool p.valid + 2 ^ 30 * ofBool p.mode + 2 ^ 29 * ofBool p.aware))
  let s := (s.wr Reg.FLE_POL_DATA_1 (BitVec.ofNat 32 p.cir)).wr Reg.FLE_POL_DATA_2 (BitVec.ofNat 32 p.pir)
  let s := (s.wr Reg.FLE_POL_DATA_3 (BitVec.ofNat 32 p.cbs)).wr Reg.FLE_POL_DATA_4 (BitVec.ofNat 32 p.ebs)
  s.done Fld.FLE_POL_STAT_DONE

/-- FLE_POL_CMD with WRITE: sets a policer, both of its buckets full (R252). -/
def State.polWrite (s : State) (index : BitVec 17) : State :=
  let old := s
  let s := s.store Spec.FLE_POL_CMD [] (2 ^ 30 + index.toNat)
  let cbs := s.fg Fld.FLE_POL_DATA_3_CBS
  let ebs := s.fg Fld.FLE_POL_DATA_4_EBS_PBS
  let p : Policer :=
    { valid := s.fb Fld.FLE_POL_DATA_0_VALID, mode := s.fb Fld.FLE_POL_DATA_0_MODE, aware := s.fb Fld.FLE_POL_DATA_0_AWARE
      cir := (s.rd Reg.FLE_POL_DATA_1).toNat, pir := (s.rd Reg.FLE_POL_DATA_2).toNat, cbs := cbs, ebs := ebs
      tc := cbs * 65536, te := ebs * 65536, last := s.coreNow }
  if p.valid && (cbs == 0 || ebs == 0) || p.mode && decide (p.pir < p.cir) then old.rejectBit Fld.FLE_POL_STAT_REJECTED
  else (s.setPolicer index.toNat p).done Fld.FLE_POL_STAT_DONE

/-- POLICER_READ (R253). -/
def execPolicerRead (index : BitVec 17) (s : State) : Res := .next (s.begin.polRead index)

/-- POLICER_WRITE (R252, R253). -/
def execPolicerWrite (index : BitVec 17) (s : State) : Res := .next (s.begin.polWrite index)

end Sys2Proof.Machine
end

