-- ==== Sys2Proof/Machine/Control.lean ====
section
/-! DEFINITION. The control space (R10–R13, R18, R627–R630): a write or a read of the register at an address. A register
with a rule of its own is sent to the operation of its block; every other one goes by the access codes of its fields. -/

namespace Sys2Proof.Machine

/-- Whether a register is the one named. -/
def RegSpec.is (r q : RegSpec) : Bool := r.base == q.base

/-- The first, second and third index. -/
def ix0 (ix : List Nat) : Nat := ix.getD 0 0
@[inherit_doc ix0] def ix1 (ix : List Nat) : Nat := ix.getD 1 0
@[inherit_doc ix0] def ix2 (ix : List Nat) : Nat := ix.getD 2 0

/-- Whether stage 10 has enabled forwarding: from then on start-only settings are rejected (R114, R600, R601). (DESIGN CHOICE, log 85) -/
def State.forwarding (s : State) : Bool := s.nvm.done || (s.nvm.stage == 10 && s.nvm.running.isSome)

/-- The slice whose window a register copy lies in, for the registers with one copy per slice (R14, R629). -/
def RegSpec.sliceOf (r : RegSpec) (ix : List Nat) : Option Nat :=
  match r.dims with
  | (4, 0x40000, _) :: _ => some (ix0 ix)
  | _ => none

/-- Whether a requester may reach a register: the windows as R628 states, the debug interface of SEC also from JTAG while
it is locked (R599, R600). -/
def State.mayReach (s : State) (q : Requester) (r : RegSpec) : Bool :=
  s.mayAccess q || (mayUnlock q && (r.is Spec.SEC_DBG_CTL || r.is Spec.SEC_DBG_BUF))

/-! ## Writes -/

/-- Writes of PRT, PAR and KTL registers. -/
def State.writeFront (s : State) (r : RegSpec) (ix : List Nat) (v : Nat) : State :=
  let i := ix0 ix
  if r.is Spec.PRT_CFG then s.writePrtCfg i v
  else if r.is Spec.PRT_SLICE_MODE then
    if (List.range 4).all fun n => modeLanes (bitsOf v (4 * n + 3) (4 * n)) != 0 || bitsOf v (4 * n + 3) (4 * n) == 15
    then s.store r ix v else s.denied r
  else if r.is Spec.PRT_I2C_CMD then s.writeI2c i (BitVec.ofNat 32 v)
  else if r.is Spec.PAR_HASH_SEED_LO || r.is Spec.PAR_HASH_SEED_HI then if s.forwarding then s.denied r else s.store r ix v
  else if r.is Spec.PAR_HASH_TEST then s.writeHashTest (BitVec.ofNat 32 v)
  else if r.is Spec.PRT_PAUSE then (s.checkedStore r ix v).pauseCheck i
  else if r.is Spec.KTL_WCMP_CTL then s.writeWcmpCtl i v
  else if r.is Spec.KTL_WCMP_SH || r.is Spec.KTL_WCMP_SL || r.is Spec.KTL_WCMP_NS then s.writeWcmpTime r i v
  else s.checkedStore r ix v

/-- Writes of RUL and FLE registers. -/
def State.writeFlow (s : State) (r : RegSpec) (ix : List Nat) (v : Nat) : State :=
  let go := bitAt v 31
  if r.is Spec.RUL_ACC_CMD then s.rulCommand (BitVec.ofNat 32 v)
  else if r.is Spec.RUL_EPOCH_CTL then
    let s := s.store r ix v
    if go then s.ruleSwap else s
  else if r.is Spec.FLE_CACHE_CTL then if go then s.retireBank (v % 8) else s.store r ix v
  else if r.is Spec.FLE_ZONE_CMD then
    if !go then s.store r ix v else if bitAt v 30 then s.zoneWrite (v % 65536) else s.zoneRead (v % 65536)
  else if r.is Spec.FLE_POL_CMD then
    if !go then s.store r ix v
    else if bitAt v 30 then s.polWrite (BitVec.ofNat 17 v) else s.polRead (BitVec.ofNat 17 v)
  else if r.is Spec.FLE_ZPROF_BURST then (s.checkedStore r ix v).cutTokens (ix0 ix)
  else s.checkedStore r ix v

/-- Writes of TRW registers. -/
def State.writeTrw (s : State) (q : Requester) (r : RegSpec) (ix : List Nat) (v : Nat) : State :=
  let w := BitVec.ofNat 32 v
  if r.is Spec.TRW_ENG_CTL then s.writeEngCtl (ix0 ix) w
  else if r.is Spec.TRW_PROG_CMD then s.writeProgCmd w
  else if r.is Spec.TRW_IMEM_DATA then s.writeImem w
  else if r.is Spec.TRW_MARK then if bitAt v 31 then s.mark else s
  else if r.is Spec.TRW_PATCH_CTL || r.is Spec.TRW_PATCH_ADDR || r.is Spec.TRW_PATCH_DATA || r.is Spec.TRW_PATCH_MATCH then
    if !mayPatch q then s.errorResponse
    else if r.is Spec.TRW_PATCH_CTL then s.writePatchCtl w
    else if r.is Spec.TRW_PATCH_DATA then s.writePatchData (ix0 ix) w
    else s.checkedStore r ix v
  else s.checkedStore r ix v

/-- A write of XLB_LB_CMD (R256): an OP that is not defined is turned down with no reason of the table. -/
def State.writeLbCmd (s : State) (v : Nat) : State :=
  let target := BitVec.ofNat 2 (bitsOf v 27 26)
  let group := BitVec.ofNat 12 (bitsOf v 23 12)
  let index := BitVec.ofNat 12 (bitsOf v 11 0)
  let op := bitsOf v 30 28
  if 2 < op then s.lbReject 0
  else if !bitAt v 31 then s.store Spec.XLB_LB_CMD [] v
  else s.lbGo op target group index

/-- A write of FWD_CMD (R289): values out of range are rejected. -/
def State.writeFwdCmd (s : State) (v : Nat) : State :=
  let op := bitsOf v 30 28
  if op = 7 ∨ 4 < bitsOf v 27 25 ∨ bitsOf v 24 23 = 3 then s.denied Spec.FWD_CMD
  else if !bitAt v 31 then s.store Spec.FWD_CMD [] v
  else s.fwdCommand op (BitVec.ofNat 3 (bitsOf v 27 25)) (BitVec.ofNat 2 (bitsOf v 24 23)) (BitVec.ofNat 21 v) []

/-- Writes of XLB and FWD registers. -/
def State.writeTables (s : State) (r : RegSpec) (ix : List Nat) (v : Nat) : State :=
  let w := BitVec.ofNat 32 v
  if r.is Spec.XLB_POOL_CFG then s.writeXlbPool (ix0 ix) w
  else if r.is Spec.XLB_POOL_ADDR then s.writePoolAddr (ix0 ix) w
  else if r.is Spec.XLB_POOL_PORTS then s.writePoolPorts (ix0 ix) w
  else if r.is Spec.XLB_ADDR then s.writePubAddr (ix0 ix) w
  else if r.is Spec.XLB_LB_CMD then s.writeLbCmd v
  else if r.is Spec.XLB_MAP_CMD then
    if bitAt v 31 then s.mapCmd (bitAt v 30) (BitVec.ofNat 13 (bitsOf v 28 16)) (BitVec.ofNat 16 v) else s.store r ix v
  else if r.is Spec.FWD_CMD then s.writeFwdCmd v
  else if r.is Spec.FWD_PORT_L2 && decide (65 ≤ ix0 ix) then s.checkedStore r ix (v % 2 ^ 31)
  else if r.is Spec.FWD_EPOCH_CTL then
    let s := s.store r ix v
    if bitAt v 31 then s.fwdFlip (bitsOf v 30 28) else s
  else s.checkedStore r ix v

/-- Writes of BUF registers. -/
def State.writeBuf (s : State) (r : RegSpec) (ix : List Nat) (v : Nat) : State :=
  if r.is Spec.BUF_OWN_CMD then s.writeOwnCmd v
  else if r.is Spec.BUF_POOL_CFG then s.writeBufPool (ix0 ix) v
  else if r.is Spec.BUF_SPILL_CFG then s.writeSpillCfg v
  else if r.is Spec.BUF_MIR_TRUNC then s.writeMirTrunc (ix0 ix) v
  else if [Spec.BUF_OWN_DATA_0, Spec.BUF_OWN_DATA_1, Spec.BUF_OWN_DATA_2, Spec.BUF_OWN_DATA_3].any r.is then
    s.checkedStore r ix v
  else s.writeBufReg r ix v

/-- Writes of SCH, GTE and TIM registers. -/
def State.writeSched (s : State) (r : RegSpec) (ix : List Nat) (v : Nat) : State :=
  let i := ix0 ix
  if r.is Spec.SCH_PORT_CFG then s.writePortCfg i v
  else if r.is Spec.SCH_PORT_SHAPE then s.writePortShape i v
  else if r.is Spec.SCH_PORT_BURST then s.writePortBurst i v
  else if r.is Spec.SCH_SDU then s.writeSdu i (ix1 ix) v
  else if r.is Spec.SCH_Q_CMD then s.writeQueueCmd v
  else if r.is Spec.SCH_N_CMD then s.writeNodeCmd v
  else if r.is Spec.GTE_CFG then s.writeGteCfg i v
  else if r.is Spec.GTE_CTL then s.writeGteCtl i v
  else if [Spec.GTE_ADMIN_LEN, Spec.GTE_ADMIN_CYCLE, Spec.GTE_ADMIN_EXT, Spec.GTE_ADMIN_BASE_SH, Spec.GTE_ADMIN_BASE_SL,
      Spec.GTE_ADMIN_BASE_NS].any r.is then s.writeAdmin r i v
  else if r.is Spec.GTE_LIST_CMD then s.writeListCmd i v
  else if r.is Spec.TIM_ADJ then s.writeAdj (BitVec.ofNat 32 v)
  else if r.is Spec.TIM_STEP_CTL then s.writeStepCtl v
  else if r.is Spec.TIM_SET_NS then s.store r ix v
  else s.checkedStore r ix v

/-- Writes of TRL and GRF registers. -/
def State.writePair (s : State) (r : RegSpec) (ix : List Nat) (v : Nat) : State :=
  let i := ix0 ix
  if r.is Spec.TRL_CFG then s.writeTrlCfg v
  else if r.is Spec.TRL_MDC_CFG then s.writeMdcCfg i v
  else if r.is Spec.TRL_MDC_TX then
    if s.mdcRuns i && s.fb (Fld.TRL_MDC_CFG_SRC i) then s.mdcIn i (BitVec.ofNat 8 v) else s
  else if r.is Spec.GRF_CFG then s.writeGrfCfg v
  else if r.is Spec.GRF_CTL then s.writeGrfCtl v
  else if r.is Spec.GRF_ZONE_CMD then s.writeGrfZone v
  else if r.is Spec.GRF_TIMERS then (s.checkedStore r ix v).checkLag
  else if r.is Spec.GRF_WIT then (s.checkedStore r ix v).takeover.2
  else s.checkedStore r ix v

/-- Writes of GLH registers (R518, R550–R554). -/
def State.writeGlh (s : State) (r : RegSpec) (ix : List Nat) (v : Nat) : State :=
  let i := ix0 ix
  if r.is Spec.GLH_CTX_CTL then s.writeCtxCtl i v
  else if r.is Spec.GLH_CTX_IA_HI then s.writeCoreReg i fun c => { c with ia := v % 256 * 2 ^ 32 + c.ia % 2 ^ 32 }
  else if r.is Spec.GLH_CTX_IA_LO then s.writeCoreReg i fun c => { c with ia := c.ia / 2 ^ 32 * 2 ^ 32 + v % 2 ^ 32 }
  else if r.is Spec.GLH_CTX_GREG then
    s.writeCoreReg i fun c =>
      let old := (c.reg (ix1 ix)).toNat
      c.setReg (ix1 ix) (BitVec.ofNat 64 (if ix2 ix = 0 then withBits old 63 32 v else withBits old 31 0 v))
  else if r.is Spec.GLH_EVT_CFG then s.writeEvtCfg i v
  else if r.is Spec.GLH_CHAN_CFG then s.writeChanCfg i v
  else if r.is Spec.GLH_RXR_CFG then (s.writeRingCfg i v).refreshPort 66
  else if r.is Spec.GLH_TXR_CFG then s.writeRingCfg 16 v
  else if r.is Spec.GLH_RXR_BASE_HI then s.writeRingBase r ix (s.fb (Fld.GLH_RXR_CFG_EN i)) 1 v
  else if r.is Spec.GLH_RXR_BASE_LO then s.writeRingBase r ix (s.fb (Fld.GLH_RXR_CFG_EN i)) 16 v
  else if r.is Spec.GLH_TXR_BASE_HI then s.writeRingBase r ix (s.fb Fld.GLH_TXR_CFG_EN) 1 v
  else if r.is Spec.GLH_TXR_BASE_LO then s.writeRingBase r ix (s.fb Fld.GLH_TXR_CFG_EN) 32 v
  else if r.is Spec.GLH_DBG_CMD then s.writeDbgCmd v
  else if r.is Spec.GLH_RECOV_LO && v % 4 != 0 then s.denied r
  else s.checkedStore r ix v

/-- Writes of PMU and HRV registers. -/
def State.writeMeasure (s : State) (r : RegSpec) (ix : List Nat) (v : Nat) : State :=
  let i := ix0 ix
  if [Spec.PMU_FC_CFG, Spec.PMU_FC_MASTER, Spec.PMU_FC_ALO_HI, Spec.PMU_FC_ALO_LO, Spec.PMU_FC_AHI_HI,
      Spec.PMU_FC_AHI_LO].any r.is then s.writeFilter r i v
  else if r.is Spec.PMU_FC_CNT_LO then s.writeFcCnt i false v
  else if r.is Spec.PMU_FC_CNT_HI then s.writeFcCnt i true v
  else if r.is Spec.PMU_FC_CTL then s.writeFcCtl v
  else if r.is Spec.PMU_Q_CMD then s.writePmuQ v
  else if r.is Spec.HRV_CFG then s.writeHrvCfg v
  else if r.base / 2 ^ 20 = 0x13 then s.writeHrvReg r ix v
  else s.checkedStore r ix v

/-- Writes of NVM, SEC, MGT and DBG registers. (DESIGN CHOICE, log 85) -/
def State.writeManage (s : State) (q : Requester) (r : RegSpec) (ix : List Nat) (v : Nat) : State :=
  if r.is Spec.NVM_FL_CMD then s.writeFlCmd (isKernel q) .command v
  else if r.is Spec.NVM_IMG_CMD then s.writeImgCmd (isKernel q) v
  else if r.is Spec.NVM_SLICE_CTL then s.writeSliceCtl v
  else if r.is Spec.SEC_DBG_CTL then s.writeDbgCtl v
  else if r.is Spec.SEC_OPKEY || r.is Spec.SEC_OPKEY_ROLE then if s.forwarding then s else s.checkedStore r ix v
  else if Spec.MGT_CFG.base ≤ r.base ∧ r.base ≤ Spec.MGT_IDLE.base then if s.forwarding then s.denied r else s.checkedStore r ix v
  else if r.is Spec.DBG_EVT_POP then if bitAt v 31 then s.popEvent else s
  else s.checkedStore r ix v

/-- The write of a register that its requester may reach, by its block (R627). -/
def State.writeReg (s : State) (q : Requester) (r : RegSpec) (ix : List Nat) (v : Nat) : State :=
  match r.base / 2 ^ 20 with
  | 0x01 | 0x04 | 0x05 => s.writeFront r ix v
  | 0x06 | 0x07 => s.writeFlow r ix v
  | 0x08 => s.writeTrw q r ix v
  | 0x09 | 0x0A => s.writeTables r ix v
  | 0x0B => s.writeBuf r ix v
  | 0x0C | 0x0D | 0x0E => s.writeSched r ix v
  | 0x0F | 0x10 => s.writePair r ix v
  | 0x11 => s.forGlh q fun s => s.writeGlh r ix v
  | 0x12 | 0x13 => s.writeMeasure r ix v
  | 0x15 => s.checkedStore r ix v
  | _ => s.writeManage q r ix v

/-! ## Reads -/

/-- The state with a register copy's computed status made current before it is read. (DEDUCED, log 15) -/
def State.showReg (s : State) (r : RegSpec) (ix : List Nat) : State :=
  let i := ix0 ix
  let put := fun n => s.wr (r.at ix) (BitVec.ofNat 32 n)
  if r.is Spec.RUL_OLD_REFS then put (s.epochRef 0 1)
  else if r.is Spec.FLE_STATUS then
    s.fs Fld.FLE_STATUS_OVERLOAD (((List.range 4).filter s.overloaded).foldl (fun m n => m + 2 ^ n) 0)
  else if r.is Spec.FLE_BANK_HOLD then s.fs (Fld.FLE_BANK_HOLD_USED i) ((s.held i).filter fun (h : Held) => h.pid.isSome).length
  else if r.is Spec.FLE_SLICE_TAGS then put (s.sliceTags i)
  else if r.is Spec.TRW_ENG_STAT then
    let busy := (List.range 16).filter fun e => s.trw.ctxs.any fun c => c.1 / 8 == i * 16 + e
    s.fs (Fld.TRW_ENG_STAT_BUSY i) (busy.foldl (fun m e => m + 2 ^ e) 0)
  else if r.is Spec.TRW_MARK then s.fs Fld.TRW_MARK_DRAINED (ofBool s.drained)
  else if r.is Spec.FWD_OLD_REFS then put (s.epochRef (i + 1) 1)
  else if r.is Spec.FWD_COUNT then
    let bank := if ix1 ix = 0 then s.activeBank i else 1 - s.activeBank i
    if i = 0 then put (s.l2Count bank)
    else put (s.lpmBank (i - 1) bank).slots.length
  else if r.is Spec.KTL_VMON then
    let (v, s) := s.free
    s.readVolt i (v.toNat % 65536)
  else if r.is Spec.BUF_SPILL_STAT then put s.buf.usedPages
  else if r.is Spec.BUF_SPILL_RUNS then put s.allRuns.length
  else if r.is Spec.BUF_POOL_USE then put (s.poolUse i)
  else if r.is Spec.BUF_POOL_FREE then put (s.poolFree i)
  else if r.is Spec.GTE_STAT then s.showGates i
  else if r.is Spec.TIM_TSQ_STAT then s.fs (Fld.TIM_TSQ_STAT_COUNT i) (s.tim.tsq.get i []).length
  else if r.is Spec.TRL_MDC_STAT then
    (s.fs (Fld.TRL_MDC_STAT_IN_LEVEL i) (s.mdc i).inb.length).fs (Fld.TRL_MDC_STAT_OUT_LEVEL i) (s.mdc i).outb.length
  else if r.is Spec.GRF_STATUS then s.fs Fld.GRF_STATUS_LOG_USED (min 0xFFFFFF s.grf.log.length)
  else if r.is Spec.HRV_STAT then put s.hrv.queue.length
  else s

/-- As `showReg`, for the registers of GLH, SEC, MGT and DBG. -/
def State.showManaged (s : State) (r : RegSpec) (ix : List Nat) : State :=
  let i := ix0 ix
  let put := fun n => s.wr (r.at ix) (BitVec.ofNat 32 n)
  if r.is Spec.GLH_STATUS then
    (s.fs Fld.GLH_STATUS_WD_SUSP (ofBool s.anyHalted)).fs Fld.GLH_STATUS_DISP_USED s.glh.tasks.length
  else if r.is Spec.GLH_CTX_CTL then s.fs (Fld.GLH_CTX_CTL_STATE i) (s.core i).state
  else if r.is Spec.GLH_CTX_IA_HI then put ((s.core i).ia / 2 ^ 32)
  else if r.is Spec.GLH_CTX_IA_LO then put ((s.core i).ia % 2 ^ 32)
  else if r.is Spec.GLH_CTX_WAIT then put (waitShown (s.core i).wait)
  else if r.is Spec.GLH_CTX_MASK_HI then put (maskShown (s.core i).wait / 2 ^ 32)
  else if r.is Spec.GLH_CTX_MASK_LO then put (maskShown (s.core i).wait % 2 ^ 32)
  else if r.is Spec.GLH_CTX_GREG then
    let g := ((s.core i).reg (ix1 ix)).toNat
    put (if ix2 ix = 0 then g / 2 ^ 32 else g % 2 ^ 32)
  else if r.is Spec.GLH_CHAN_STAT then
    let c := s.chan i
    put (65536 * c.freeCount + 256 * c.committed + c.reserved)
  else if r.is Spec.SEC_STATUS then s.fs Fld.SEC_STATUS_PROV (ofBool s.provisioning)
  else if r.is Spec.SEC_SLOTS then put s.slotStates
  else if r.is Spec.SEC_OWNER then put (beNat (sliceBytes (sliceBytes (s.slot i).hash 0 32) (4 * ix1 ix) 4))
  else if r.is Spec.SEC_MEAS then put (beNat (sliceBytes (s.meas i) (4 * ix1 ix) 4))
  else if r.is Spec.MGT_STATUS then
    s.fs Fld.MGT_STATUS_SESSIONS (s.mgt.sessions.filter fun e => match e.2 with | some x => x.opened | none => false).length
  else if r.is Spec.DBG_EVT_STAT then s.fs Fld.DBG_EVT_STAT_LEVEL s.events.length
  else if r.is Spec.DBG_EVT_DATA then
    match s.events with
    | [] => put 0
    | e :: _ => put (if i = 15 then 0 else beNat (sliceBytes (e.bytes 0) (4 * i) 4))
  else s

/-- What a read gives: the registers whose read latches or takes something, and for the others the value, after which RC
fields clear; a write-only field reads as a free value (R12). (DEDUCED, log 15) -/
def State.readReg (s : State) (r : RegSpec) (ix : List Nat) : Word × State :=
  let i := ix0 ix
  if r.is Spec.TIM_NOW_NS then s.readNowNs
  else if r.is Spec.TIM_TSQ_W0 then s.readTsq i
  else if r.is Spec.FLE_CLOCK_LO then s.readClockLo
  else if r.is Spec.PMU_EVC_LO then s.readEvcLo i
  else if r.is Spec.PMU_FC_CNT_LO then s.readFcLo i
  else if r.is Spec.GRF_TX_SEQ_LO then s.readGrfSeq 0
  else if r.is Spec.GRF_ACK_LO then s.readGrfSeq 1
  else if r.is Spec.GRF_RX_SEQ_LO then s.readGrfSeq 2
  else if r.is Spec.NVM_RUN_SEQ_LO then s.readRunSeq
  else if r.is Spec.TRW_IMEM_DATA then s.readImem
  else if r.is Spec.TRL_MDC_RX then s.readMdcRx i
  else if Spec.PRT_ST_RX_FRAMES.base ≤ r.base ∧ r.base ≤ Spec.PRT_ST_TX_SIZE.base then
    s.readStat i ((r.at ix).addr - 0x400000 - i * 0x1000)
  else
    let s := (s.showReg r ix).showManaged r ix
    let v := s.rd (r.at ix)
    let (v, s) := (s.wr (r.at ix) (BitVec.ofNat 32 (r.afterRead v.toNat))).readOpen r v
    let k := if r.is Spec.KTL_TEMP then some i else if r.is Spec.KTL_VMON then some (16 + i) else none
    match k with
    | some k => (v, { s with ktl := { s.ktl with seen := s.ktl.seen.filter fun j => j != k } })
    | none => (v, s)

/-! ## Accesses by address -/

/-- The register copy an access reaches, or none when it gets the error response of R10: an address that is not aligned,
where no register is, that the requester may not reach, or in the window of a slice that is out of service (R629). (DESIGN
CHOICE, log 62) -/
def State.reach (s : State) (q : Requester) (addr : Nat) : Option (RegSpec × List Nat) :=
  if addr % 4 ≠ 0 then none
  else
    match Spec.find? addr with
    | none => none
    | some (r, ix) =>
      if !s.mayReach q r then none
      else match r.sliceOf ix with
        | some n => if (s.slice n).inService then some (r, ix) else none
        | none => some (r, ix)

/-- A sleeping slice whose registers are reached is woken (R466, R629). (DESIGN CHOICE, log 62) -/
def State.wakeRegs (s : State) (r : RegSpec) (ix : List Nat) : State :=
  match r.sliceOf ix with
  | some n => if s.power n = 0 then s else s.wake n
  | none => s

/-- Whether an access is an aligned one of JTAG, unlocked, to the context memory or the shared SRAM of the Glasshouse (R628, R629). -/
def State.jtagMemory (s : State) (q : Requester) (addr : Nat) : Bool :=
  q == .jtag && s.mayAccess q && addr % 4 == 0
    && (decide (0x10000000 ≤ addr ∧ addr < 0x10200000) || decide (0x11000000 ≤ addr ∧ addr < 0x11800000))

/-- A write of the control space. -/
def State.ctlWrite (s : State) (q : Requester) (addr v : Nat) : State :=
  match s.reach q addr with
  | none => if s.jtagMemory q addr then s.setMemBytes addr (beBytes 4 v) else s.errorResponse
  | some (r, ix) => (s.wakeRegs r ix).writeReg q r ix (v % 2 ^ 32)

/-- A read of the control space: none where the requester gets the error response. -/
def State.ctlRead (s : State) (q : Requester) (addr : Nat) : Option Word × State :=
  match s.reach q addr with
  | none => if s.jtagMemory q addr then (some (BitVec.ofNat 32 (beNat (s.memBytes addr 4))), s) else (none, s.errorResponse)
  | some (r, ix) =>
    let (v, s) := (s.wakeRegs r ix).readReg r ix
    (some v, s)

/-- Whether a command has been turned down since a state: an error response or a rejection was put out (R18). -/
def State.refusal (s : State) (before : Nat) : Option Nat :=
  (s.out.drop before).findSome? fun o => match o with | .errorResponse => some 0 | .rejected k => some k | _ => none

/-- What an access puts out beside the answer to its requester. -/
def sideOuts (os : List Out) : List Out :=
  os.filter fun o => match o with | .errorResponse => false | .rejected _ => false | _ => true

/-- A write by the device's own kernel or loader: why it was turned down, if it was. The answer goes to nobody outside. -/
def State.innerWrite (s : State) (q : Requester) (addr v : Nat) : Option Nat × State :=
  let n := s.out.length
  let t := s.ctlWrite q addr v
  (t.refusal n, { t with out := s.out ++ sideOuts (t.out.drop n) })

/-- A read by the device's own kernel or loader. -/
def State.innerRead (s : State) (q : Requester) (addr : Nat) : Option Word × State :=
  let n := s.out.length
  let (v, t) := s.ctlRead q addr
  (v, { t with out := s.out ++ sideOuts (t.out.drop n) })

/-- REGISTER_WRITE. -/
def execRegisterWrite (req : Requester) (addr : BitVec 40) (value : Word) (s : State) : Res :=
  .next (s.begin.ctlWrite req addr.toNat value.toNat)

end Sys2Proof.Machine
end

