-- ==== Sys2Proof/Machine/Start.lean ====
section
/-! DEFINITION. The start stages (R499–R504, R549), the loading of sections (R495, R507), the live apply (R506, R509) and the
slice restart (R508). A stage's work is done when it starts, except what has to wait; its completion goes on with the
loading, checks what holds at its end, and journals it. -/

namespace Sys2Proof.Machine

/-! ## The loading of sections -/

/-- How a section is loaded: at a start, in a live apply, or when an apply is rolled back. -/
inductive LoadMode where
  | start | live | back
  deriving DecidableEq, Repr

/-- What a step of a load leads to: further steps, a wait, or a failure. -/
inductive LoadEnd where
  | on (more : List LoadStep)
  | hold (x : LoadStep)
  | fail
  deriving DecidableEq, Repr

/-- A write by the loader, and whether it was rejected (R495). For a forwarding INSERT or DELETE, a STATUS other than 0 counts as a
rejection. -/
def State.loadWrite (s : State) (addr v : Nat) : Bool × State :=
  let (no, t) := s.innerWrite .loader addr v
  (no.isSome || (addr == Reg.FWD_CMD.addr && bitAt v 31 && (bitsOf v 30 28 == 2 || bitsOf v 30 28 == 3)
    && t.fb Fld.FWD_CMD_STAT_STATUS), t)

/-- A wait of the loader (R495): it ends when the masked register has the value, and fails at its limit. -/
def State.loadWait (s : State) (addr mask value limit : Nat) (since : Option Nat) : LoadEnd × State :=
  let (v, t) := s.innerRead .loader addr
  match v with
  | none => (.fail, t)
  | some w =>
    if w.toNat &&& mask = value then (.on [], t)
    else
      let from' := since.getD s.aon
      if from' + limit ≤ s.aon then (.fail, t) else (.hold (.wait addr mask value limit (some from')), t)

/-- The steps of a NAT section that change a register: only those are applied (R507). -/
def State.natChanges (s : State) (steps : List LoadStep) : List LoadStep :=
  steps.filter fun x => match x with
    | .write a v => match Spec.find? a with | some (r, ix) => (s.rd (r.at ix)).toNat != v | none => true
    | _ => true

/-- Whether any of some writes would be rejected. -/
def State.natRefused (s : State) (steps : List LoadStep) : Bool :=
  (steps.foldl (fun (x : Bool × State) y =>
    match y with
    | .write a v => let (no, t) := x.2.loadWrite a v; (x.1 || no, t)
    | _ => x) (false, s)).1

/-- Whether a section of a live apply is deferred to the next start (R507): Programs for the running half, and NAT pools with a
change that R233 does not accept. -/
def State.defers (s : State) (ty : Nat) (steps : List LoadStep) : Bool :=
  if ty = 0x16 then s.nvm.half == some (programsHalf steps)
  else if ty = 0x12 then s.natRefused (s.natChanges steps)
  else false

/-- Notes a part that an apply has changed. -/
def State.noteChanged (s : State) (k : Nat) : State :=
  { s with nvm := { s.nvm with apply := s.nvm.apply.map fun (r : ApplyRun) => if r.rolling then r else { r with changed := r.changed ++ [k] } } }

/-- Takes a section apart after checking its digest again (R506). A refused patch logs event 0x0805 with the reason (R222). -/
def State.loadSection (s : State) (mode : LoadMode) (c ty : Nat) : LoadEnd × State :=
  match s.section? c ty with
  | none => (.on [], s)
  | some x =>
    let bs := s.body c x
    if sm3Of bs ≠ x.digest then (.fail, s)
    else
      match (if ty = 0x17 then s.patchRefused bs else none) with
      | some why => (.fail, (s.fs Fld.TRW_PATCH_STAT_REASON why).log 0x0805 (d1 why))
      | none =>
        match typeSteps (mode != .start) ty bs with
        | none => (.fail, s)
        | some steps =>
          let plain := if ty = 0x16 then (bodySteps bs).getD [] else steps
          if mode = .live ∧ s.defers ty plain then (.on [], (s.fs Fld.NVM_STATUS_START_PEND 1).log 0x0307)
          else (.on (if mode = .live ∧ ty = 0x12 then s.natChanges steps else steps), s.noteChanged ty)

/-- Whether the Ports and Parser sections of the copy being applied still match their digests, read again before a slice takes them
(R506). -/
def State.portsReadBack (s : State) : Bool :=
  match s.nvm.apply with
  | some r => [8, 9].all fun ty => match s.section? r.copy ty with
    | some x => sm3Of (s.body r.copy x) == x.digest
    | none => true
  | none => true

/-- One step of a load. -/
def State.loadStep (s : State) (mode : LoadMode) (x : LoadStep) : LoadEnd × State :=
  match x with
  | .body c ty => s.loadSection mode c ty
  | .write a v => let (no, t) := s.loadWrite a v; (if no then .fail else .on [], t)
  | .wait a m v limit since => s.loadWait a m v limit since
  | .bothBanks =>
    (.on [], if s.ruleShadow = 0 then { s with rul := { s.rul with bank1 := s.rul.bank0 } }
      else { s with rul := { s.rul with bank0 := s.rul.bank1 } })
  | .clearShadow =>
    (.on [], if s.ruleShadow = 0 then { s with rul := { s.rul with bank0 := {} } } else { s with rul := { s.rul with bank1 := {} } })
  | .half n => (.on [], { s with nvm := { s.nvm with half := some n } })
  | .version n => (.on [], { s with trw := { s.trw with stagedVersion := some n, staged := [] } })
  | .restart n => if mode = .live ∧ !s.portsReadBack then (.fail, s) else (.on [], (s.noteChanged (0x100 + n)).startRestart n)
  | .restarted n => (if s.nvm.restarts.contains n then .hold x else .on [], s)
  | .failed => (.fail, s)

/-- Goes on with a load as far as it gets: whether it is done, has failed, or waits. During a supply warning an apply stops at the
next step (R510). A failing step of a rollback is passed over. -/
def State.load (mode : LoadMode) : Nat → State → Option Bool × State
  | 0, s => (none, s)
  | fuel + 1, s =>
    match s.nvm.steps with
    | [] => (some true, s)
    | x :: rest =>
      if mode ≠ .start ∧ s.fb Fld.KTL_PWR_STAT_WARN then (none, s)
      else
        let (e, t) := s.loadStep mode x
        match e with
        | .on more => State.load mode fuel { t with nvm := { t.nvm with steps := more ++ rest } }
        | .hold y => (none, { t with nvm := { t.nvm with steps := y :: rest } })
        | .fail =>
          if mode = .back then State.load mode fuel { t with nvm := { t.nvm with steps := rest } }
          else (some false, { t with nvm := { t.nvm with steps := [] } })

/-- More steps than any caddy of 24 MiB has. -/
def loadFuel : Nat := 2 ^ 24

/-- Puts steps before those of a load. -/
def State.setSteps (s : State) (steps : List LoadStep) : State := { s with nvm := { s.nvm with steps := steps } }

/-! ## The journal of a stage -/

/-- Carries out what waits for the flash: entries are appended before a reset that follows them (R500). -/
def State.flDrain (s : State) : State :=
  { s with nvm := { s.nvm with flash := s.nvm.ops.foldl flApply s.nvm.flash, ops := [], opAt := none } }

/-- The slice or lane group a stage is at; 0xFF is the whole of stage 7 or 8, and a stage without units is at 0. -/
def State.unit (s : State) : Nat := s.nvm.units.headD 0xFF

/-- The failure count of the stage that is due or running (R500). -/
def State.fails (s : State) : Nat := failCount s.history s.nvm.stage s.unit

/-- A failure of the stage: journalled, logged, and followed by a warm reset (R500). -/
def State.failStage (s : State) (cause : Nat) : State :=
  let e : JEntry := { kind := 3, stage := s.nvm.stage, method := s.nvm.running.getD 0, fails := s.fails + 1, event := 0x1701,
                      unit := s.unit, detail := cause % 2 ^ 32 }
  ((s.journalEvent e).flDrain).warmReset 0

/-- The time limit of a stage, in AON_CLK cycles (R501). -/
def State.stageLimit (s : State) : Option Nat :=
  match s.nvm.stage with
  | 1 => some (100 * msCycles)
  | 2 => some (2 * secCycles)
  | 3 => some (3 * secCycles)
  | 4 => some (15 * secCycles)
  | 5 => some (2 * secCycles)
  | 6 | 8 => some secCycles
  | 7 => some (if s.fb Fld.NVM_STATUS_SINGLE then 4 * secCycles else secCycles)
  | 9 => some (3 * secCycles)
  | _ => none

/-- How many alternate methods a stage has (R501). -/
def alternates (n : Nat) : Nat := if n = 2 then 1 else if 3 ≤ n ∧ n ≤ 6 then 2 else 0

/-- The lane groups, by their first lanes: the assigned front ports (R50). -/
def State.laneGroups (s : State) : List Nat := (List.range 64).filter s.assigned

/-- The next stage is due, with its units. With no lane group, stage 8 has none and is passed over. -/
def State.nextStage (s : State) (n : Nat) : State :=
  let n := if n = 8 ∧ s.laneGroups = [] then 9 else n
  let units := if n = 7 then [0, 1, 2, 3] else if n = 8 then s.laneGroups else [0]
  { s with nvm := { s.nvm with stage := n, units := units, lost := 0, running := none } }

/-! ## Fallback and halt (R503, R504) -/

/-- The start halts: every lane is powered off, and 60 s later the device warm resets. -/
def State.haltStart (s : State) : State :=
  let s := (List.range 4).foldl (fun (s : State) n =>
    let s := (List.range 16).foldl (fun (s : State) i => if s.assigned (16 * n + i) then s.forceDown (16 * n + i) else s) s
    ((s.emptySlice n).modSlice n fun x => { x with inService := false }).setPower n 3) s
  let s := s.fs Fld.PRT_SLICE_MODE_ACTIVE 0xFFFF
  let s := s.journalEvent { kind := 7, stage := s.nvm.stage, event := 0x1706 }
  { s with nvm := { s.nvm with running := none, haltAt := some s.aon } }

/-- Fallback: stages 0 to 3 halt the start; the others reject a copy by the table of R503, and the device warm resets. -/
def State.fallback (s : State) : State :=
  let reject := fun (seq : Nat) =>
    let e : JEntry := { kind := 6, stage := s.nvm.stage, fails := s.fails, event := 0x1705, unit := seq / 2 ^ 32, detail := seq % 2 ^ 32 }
    ((s.journalEvent e).flDrain).warmReset 0
  if s.nvm.stage ≤ 3 then s.haltStart
  else
    match rejections s.history with
    | ([], _) => reject s.nvm.caddySeq
    | (_, none) => reject s.nvm.bootSeq
    | _ => s.haltStart

/-! ## The work of the stages (R501) -/

/-- Stage 1: context memory and shared SRAM are zero (R630). -/
def State.clearGlh (s : State) : State :=
  { s with glh := { s.glh with mem := s.glh.mem.filter fun c => !decide (0x10000000 ≤ c.1 ∧ c.1 < 0x11800000) } }

/-- The copies of two that may be selected, the one with the higher sequence number first; an invalid one is logged (R497). -/
def State.chooseCopies (s : State) (a b : Nat) (rejected : List Nat) : List Nat × State :=
  let s := [a, b].foldl (fun (s : State) c => match s.imageFails c with | some k => s.logInvalid c k | none => s) s
  let order := if s.imgSeq a < s.imgSeq b then [b, a] else [a, b]
  (order, { s with nvm := { s.nvm with verified := [a, b].filter fun c => (s.imageFails c).isNone && !rejected.contains (s.imgSeq c) } })

/-- The copy a method takes: the first that may be selected, or with an alternate the other copy than that (R501). -/
def State.pick (s : State) (order : List Nat) (m : Nat) : Option Nat :=
  let usable := s.nvm.verified
  match order.filter usable.contains with
  | [] => none
  | c :: _ => if m = 0 then some c else (order.filter fun x => x != c).find? usable.contains

/-- The boot firmware is loaded into the kernel's part of shared SRAM (R501, R518, R549); where, and that it is the body, is not
stated. -/
def State.loadBoot (s : State) (c : Nat) : State :=
  let body := s.flBytes (copyBase c + 256) (s.imgLen c - 320)
  s.setMemBytes (0x11000000 + Config.bootPlace % (0x400000 - body.length)) body

/-- Stage 3: boot firmware (R501), measured whole (R595). -/
def State.stage3 (s : State) (m : Nat) : Option Nat × State :=
  let (order, s) := s.chooseCopies 2 3 (match (rejections s.history).2 with | some q => [q] | none => [])
  let c := s.pick order m
  let s := { s with nvm := { s.nvm with verified := [] } }
  match c with
  | none => (some 1, s)
  | some c =>
    let s := ({ s with nvm := { s.nvm with boot := some (c - 2), bootSeq := s.imgSeq c } }).loadBoot c
    (none, (s.fs Fld.NVM_STATUS_BOOT_COPY (c - 2)).measure 0 (sm3Of (s.flBytes (copyBase c) (s.imgLen c))))

/-- What measurement 1 takes of a caddy: its header, section table and signature (R595). -/
def State.caddyMeasure (s : State) (c : Nat) : List Byte :=
  sm3Of (s.flBytes (copyBase c) (256 + 64 * s.imgCount c) ++ s.flBytes (copyBase c + s.imgLen c - 64) 64)

/-- Takes a caddy copy into use. -/
def State.useCaddy (s : State) (c : Nat) : State := { s with nvm := { s.nvm with caddy := some c, caddySeq := s.imgSeq c } }

/-- Stage 4: the caddy. -/
def State.stage4 (s : State) (m : Nat) : Option Nat × State :=
  let (order, s) := s.chooseCopies 0 1 (rejections s.history).1
  let c := s.pick order m
  let s := { s with nvm := { s.nvm with verified := [] } }
  match c with
  | none => (some 2, s)
  | some c => (none, (s.useCaddy c).measure 1 (s.caddyMeasure c))

/-- The items of a Graft section that are not registers (R419, R450). (DESIGN CHOICE, log 69) -/
def State.graftSetup (s : State) (c : Nat) : State :=
  match s.section? c 6 with
  | none => s
  | some x =>
    let g := Config.graftSetup (s.body c x)
    let s := s.fs Fld.GRF_STATUS_SIDE g.side.toNat
    { s with grf := { s.grf with peerKey := g.peerKey, ids := g.ids, annList := g.anns, annCount := g.annCount, annMs := g.annMs } }

/-- The body of the security section, which holds items that are not registers (R587, R599). (DESIGN CHOICE, log 112) -/
def State.securitySetup (s : State) (c : Nat) : State :=
  { s with sec := { s.sec with secBody := ((s.section? c 2).map (s.body c)).getD [] } }

/-- The retirement list with the pages of the rows that the self-test of stage 6 finds failing, with no spare row left (R511), up to
the 4,096 pages of the reserve (R176). (DESIGN CHOICE, log 118) -/
def State.listPages (s : State) (failing : List Nat) : State :=
  let pages := failing.foldl (fun (ps : List Nat) p => if ps.contains p || decide (4096 ≤ ps.length) then ps else ps ++ [p]) s.nvm.pages
  { s with nvm := { s.nvm with pages := pages } }

/-- Stage 6 on a caddy: the legality check, the region plan (R178, R324, R496), empty package memory (R143), the retirement remap
(R176, R511), and the start-only sections. (DESIGN CHOICE, log 84, DESIGN CHOICE, log 108) -/
def State.stage6Load (s : State) (c : Nat) (failing : List Nat) : Option Nat × State :=
  match s.legalFails c, ((s.section? c 1).map (s.body c)).bind regionPlan with
  | some k, _ => (some (checkShown (16 + k)), s)
  | none, none => (some (checkShown 17), s)
  | none, some (f, sp, bits) =>
    let s := s.fs Fld.FLE_CFG_REGION (if f = 4 then 0 else if f = 8 then 1 else 2)
    let s := (s.fs Fld.BUF_SPILL_CFG_EN (bits % 2)).fs Fld.BUF_SPILL_CFG_EXT (bits / 2)
    let s := s.listPages failing
    let pages := s.nvm.pages
    let s := { s with
      buf := { s.buf with spillGiB := sp }
      fle := { s.fle with slots := [], overflow := [],
                          remap := (List.range pages.length).foldl (fun (t : Table Nat) i => t.ins (pages.getD i 0) i) [] }
      xlb := { s.xlb with subs := [], grans := [], fwd := [], rev := [] }
      fwd := { s.fwd with l2 := [], lpm := [] }
      glh := { s.glh with mem := s.glh.mem.filter fun x => decide (x.1 < 0x1000000000) } }
    let s := ((s.fs Fld.PMEM_RETIRE_STAT_USED pages.length).graftSetup c).securitySetup c
    (none, s.setSteps ([2, 4, 5, 6].map (LoadStep.body c)))

/-- Stage 6: with an alternate method, on the other caddy. -/
def State.stage6 (s : State) (m : Nat) (failing : List Nat) : Option Nat × State :=
  let c := s.nvm.caddy.getD 0
  if m = 0 then s.stage6Load c failing
  else
    let other := 1 - c
    if (s.imageFails other).isSome || (rejections s.history).1.contains (s.imgSeq other) then (some 2, s)
    else (s.useCaddy other).stage6Load other failing

/-- A slice's mode goes into force, and its part of the Ports and Parser sections is due, without the writes of PRT_CFG `cfg`
leaves out (R52, R508). A start and an apply take the mode that the copy writes; with `kept`, MODE is taken as software left it
(R52). (DEDUCED, log 101) -/
def State.sliceLoad (s : State) (n : Nat) (copy : Option Nat) (kept : Bool) (cfg : Nat → Bool) : List LoadStep × State :=
  let steps := match copy with | some c => slicePart n (s.sliceSteps c) | none => []
  let mode := if kept then none else lastWrite steps Reg.PRT_SLICE_MODE.addr
  let modes := mode.getD (s.fg Fld.PRT_SLICE_MODE_MODE)
  let active := withBits (s.fg Fld.PRT_SLICE_MODE_ACTIVE) (4 * n + 3) (4 * n) (bitsOf modes (4 * n + 3) (4 * n))
  let steps := steps.filter fun x => match x.address with
    | some a => !(kept && a == Reg.PRT_SLICE_MODE.addr) && (match cfgPort a with | some p => cfg p | none => true)
    | none => true
  (steps, s.fs Fld.PRT_SLICE_MODE_ACTIVE active)

/-- A slice comes into service, in Run. -/
def State.putInService (s : State) (n : Nat) : State :=
  (s.modSlice n fun x => { x with inService := true, restarting := false, idleSince := s.aon }).setPower n 0

/-- What stage 7 loads beside the slices: the seeds and the live sections. -/
def deviceSections (c : Nat) : List LoadStep := (3 :: (List.range 15).map (· + 0x10)).map (LoadStep.body c)

/-- Stage 7: a slice; with the last one, the sections that every slice shares. (DESIGN CHOICE, log 84) -/
def State.stage7 (s : State) : State :=
  let n := s.unit
  let c := s.nvm.caddy.getD 0
  let (steps, s) := (s.putInService n).sliceLoad n (some c) false fun _ => false
  s.setSteps (steps ++ (if s.nvm.units.length = 1 then deviceSections c else []))

/-! ### Stage 10: ports and control threads -/

/-- Whether a customer segment may lie at an address, with a length (R549). -/
def State.segmentOk (s : State) (a n : Nat) : Bool :=
  let inside := fun lo hi => decide (lo ≤ a ∧ a + n ≤ hi)
  inside 0x10040000 0x10200000 || inside 0x11400000 0x117C0000 || inside s.glhBase (s.glhBase + 2 ^ 30)

/-- Loads the segments of a control-threads body; answers the thread tables, or none where the body is not as R549 states. -/
def State.loadSegments : Nat → State → List Byte → Option (List Task × State)
  | 0, _, _ => none
  | fuel + 1, s, bs =>
    let a := beAt bs 0 5
    let kind := beAt bs 5 1
    let n := beAt bs 8 4
    let padded := (n + 15) / 16 * 16
    let data := (bs.drop 16).take n
    if bs.length < 16 ∨ beAt bs 6 2 ≠ 0 ∨ beAt bs 12 4 ≠ 0 then none
    else if kind = 3 then (if a = 0 ∧ n = 0 ∧ bs.length = 16 then some ([], s) else none)
    else if kind = 1 then
      if s.segmentOk a n then State.loadSegments fuel (s.setMemBytes a (List.replicate n 0)) (bs.drop 16) else none
    else if bs.length < 16 + padded then none
    else if kind = 0 then
      if s.segmentOk a n then State.loadSegments fuel (s.setMemBytes a data) (bs.drop (16 + padded)) else none
    else if kind = 2 then
      let tasks := (List.range (n / 32)).map fun i => taskOf (sliceBytes data (32 * i) 32)
      if n % 32 ≠ 0 ∨ !(tasks.all fun t => match t with | some x => decide (x.level ≤ 30) | none => false) then none
      else (State.loadSegments fuel s (bs.drop (16 + padded))).map fun r => (tasks.filterMap id ++ r.1, r.2)
    else none

/-- The control threads of a caddy: its segments are loaded and its thread table posted in order. -/
def State.startThreads (s : State) (c : Nat) : Option State :=
  match s.section? c 7 with
  | none => some s
  | some x =>
    let bs := s.body c x
    (State.loadSegments (bs.length / 16 + 1) s bs).map fun r => r.1.foldl (fun (s : State) t => (s.addTask t).2) r.2

/-- Stage 10: the ports are enabled and the control threads released. -/
def State.stage10 (s : State) : Option Nat × State :=
  let c := s.nvm.caddy.getD 0
  let cfgs := (s.sliceSteps c).filter fun x => match x with
    | .write a _ => (match cfgPort a with | some p => (s.slice (p / 16)).inService && !s.laneOff p | none => false)
    | _ => false
  let s := s.setSteps cfgs
  match s.startThreads c with
  | some s => (none, s)
  | none => (some 3, s)

/-- The work of a stage with a method: why it fails at once, if it does. -/
def State.stageWork (s : State) (n m : Nat) (failing : List Nat) : Option Nat × State :=
  match n with
  | 1 => (none, s.clearGlh)
  | 2 => (none, if m = 1 then (s.fs Fld.NVM_STATUS_SINGLE 1).log 0x0303 else s)
  | 3 => s.stage3 m
  | 4 => s.stage4 m
  | 5 => (none, if m = 2 then s.fs Fld.NVM_STATUS_SLOW_PM 1 else s)
  | 6 => s.stage6 m failing
  | 7 => (none, s.stage7)
  | 10 => s.stage10
  | _ => (none, s)

/-! ## START_STAGE -/

/-- A unit of stage 7 or 8, or stage 9, is left out (R501): journalled, logged and shown. When the last slice is left out, the
shared sections are loaded with no slice running; when everything is left out, the whole stage fails. -/
def State.leaveOut (s : State) : State :=
  let n := s.nvm.stage
  let u := s.unit
  let s := s.journalEvent { kind := 4, stage := n, fails := s.fails, event := 0x1703, unit := if n = 9 then 0 else u }
  let s := s.fs Fld.NVM_STATUS_DEGRADED 1
  if n = 9 then (s.setPair 0).nextStage 10
  else
    let s := if n = 7 then s.for Fld.NVM_STATUS_SLICE_SKIP (2 ^ u)
      else (List.range (modeLanes (s.sliceMode (u / 16)))).foldl (fun (s : State) i =>
        let r := Reg.NVM_LANE_OFF ((u + i) / 32)
        s.wr r (s.rd r ||| BitVec.ofNat 32 (2 ^ ((u + i) % 32)))) s
    let lost := s.nvm.lost + 1
    let rest := s.nvm.units.tail
    let all := if n = 7 then 4 else s.laneGroups.length
    let s := { s with nvm := { s.nvm with lost := lost, units := rest } }
    if rest ≠ [] then s
    else if lost = all then s.failStage (Config.failCause 4).toNat
    else if n = 7 then
      let s := s.setSteps (deviceSections (s.nvm.caddy.getD 0))
      { s with nvm := { s.nvm with running := some 0, since := s.aon } }
    else s.nextStage 9

/-- The stage that is due begins with its method (R500). (DESIGN CHOICE, log 83) -/
def State.beginStage (s : State) (failing : List Nat) : State :=
  let n := s.nvm.stage
  let f := s.fails
  let m := if f = 0 then 0 else min f (alternates n)
  let s := if n = 0 then
      { s with nvm := { s.nvm with startNo := (s.nvm.held.foldl (fun k (e : JEntry) => max k e.start) 0) + 1 } }
    else s
  let s := { s with nvm := { s.nvm with running := some m, since := s.aon } }.fs Fld.NVM_STATUS_STAGE n
  let e : JEntry := { kind := 1, stage := n, method := m, fails := f, unit := s.unit, event := if m = 0 then 0 else 0x1702 }
  let s := if m = 0 then s.journal e else s.journalEvent e
  match s.stageWork n m failing with
  | (some k, s) => s.failStage (if n = 6 then k else (Config.failCause k).toNat)
  | (none, s) =>
    match State.load .start loadFuel s with
    | (some false, s) => s.failStage (Config.failCause 5).toNat
    | (_, s) => s

/-- The conditions that keep the device in reset are those that still hold (R613). -/
def State.keepHolds (s : State) (still : List Hold) : State :=
  { s with nvm := { s.nvm with holds := s.nvm.holds.filter still.contains } }

/-- START_STAGE: the next stage begins; one that has failed three times is left out or leads to a fallback (R500). `still` are the
conditions of R613 that hold now: while one that caused the reset does, the device stays in it. A thermal reset holds the start (R479),
and so does a halt. `failing` are the pages of failing rows with no spare row left that a self-test of stage 6 finds (R511). -/
def execStartStage (still : List Hold) (failing : List Nat) (s : State) : Res :=
  let s := s.begin.keepHolds still
  let n := s.nvm.stage
  if !s.nvm.holds.isEmpty then .next s
  else if s.nvm.running.isSome || s.nvm.haltAt.isSome || s.nvm.done || s.ktl.thermalHeld then .next s
  else if (n = 7 ∨ n = 8) ∧ 3 ≤ failCount s.history n 0xFF then .next s.fallback
  else if 3 ≤ s.fails then .next (if 7 ≤ n ∧ n ≤ 9 then s.leaveOut else s.fallback)
  else .next (s.beginStage failing)

/-! ## STAGE_COMPLETE -/

/-- Closes the last start marker of an earlier start that nothing follows (R499). -/
def State.closeMarker (s : State) : State :=
  let past := s.history.filter fun e => e.start != s.nvm.startNo
  let openOne := past.foldl (fun (o : Option JEntry) e =>
    if e.kind = 1 then some e
    else if e.kind = 2 ∨ e.kind = 3 then
      match o with | some x => if x.stage = e.stage ∧ x.unit = e.unit then none else o | none => none
    else o) none
  match openOne with
  | none => s
  | some x =>
    let e : JEntry := { kind := 3, stage := x.stage, method := x.method, event := 0x1701, unit := x.unit,
                        fails := failCount s.history x.stage x.unit + 1, detail := (Config.failCause 0).toNat }
    (s.journal e).putEvent 0x1701 e.detailBytes [] true

/-- The end of stage 2 (R499): the journal and the log are opened, the held entries are written, the reset cause follows, and an
open marker of an earlier start is closed. Events of the reset are marked as those of an earlier start. -/
def State.openFlash (s : State) : State :=
  let held := s.nvm.held
  let rel := s.nvm.startNo
  let s := s.openJournal.openLog
  let base := match s.history.getLast? with | some e => e.start | none => 0
  let s := held.foldl (fun (s : State) e => s.journalPut { e with start := (base + e.start) % 2 ^ 32 }) s
  let s := { s with nvm := { s.nvm with held := [], startNo := (base + rel) % 2 ^ 32 } }
  let cause := (s.rd Reg.KTL_RESET_CAUSE).toNat
  let event := if bitAt cause 5 then 0x0103 else if bitAt cause 4 then 0x0112 else 0
  let s := s.journal { kind := 5, detail := cause, event := event }
  let s := if bitAt cause 5 then s.putEvent 0x0103 (d1 (cause % 8)) [] true else s
  let s := if bitAt cause 4 then s.putEvent 0x0112 [] [] true else s
  s.closeMarker

/-- A completion entry of the unit at hand. -/
def State.completion (s : State) (event : Nat) : State :=
  let e : JEntry := { kind := 2, stage := s.nvm.stage, method := s.nvm.running.getD 0, fails := s.fails, unit := s.unit, event := event }
  if event = 0 then s.journal e else s.journalEvent e

/-- Stage 10 completes (R501): the caddy in use becomes the running one. -/
def State.finishStart (s : State) : State :=
  let s := s.completion 0x1704
  let s := { s with nvm := { s.nvm with running := none, done := true, runSeq := s.nvm.caddySeq } }
  (s.fs Fld.NVM_STATUS_STAGE 10).fs Fld.NVM_STATUS_CADDY_COPY (s.nvm.caddy.getD 0)

/-- What a stage ends with, once all is loaded. (DESIGN CHOICE, log 83) -/
def State.endStage (s : State) : State :=
  let n := s.nvm.stage
  if n = 2 then ((s.completion 0).openFlash).nextStage 3
  else if n = 6 then
    if s.bufIllegal ≠ 0 then s.failStage (checkShown 18) else (s.completion 0).nextStage 7
  else if n = 7 ∨ n = 8 then
    let t := if s.nvm.units = [] then s else s.completion 0
    let rest := s.nvm.units.tail
    if rest = [] then t.nextStage (n + 1) else { t with nvm := { t.nvm with units := rest, running := none } }
  else if n = 9 then
    let reason := s.fg Fld.GRF_STATUS_REASON
    if !s.fb Fld.GRF_CFG_EN ∨ s.pairing = 2 then (s.completion 0).nextStage 10
    else if reason = 1 ∨ reason = 2 ∨ reason = 4 then s.failStage (Config.failCause 6).toNat
    else if s.nvm.since + 2 * secCycles ≤ s.aon then (s.completion 0).nextStage 10
    else s
  else if n = 10 then (if s.nvm.since + 10 * secCycles ≤ s.aon then s.finishStart else s)
  else (s.completion 0).nextStage (n + 1)

/-- STAGE_COMPLETE: a running stage ends when its loading is done; past its time limit it fails (R501). -/
def execStageComplete (s : State) : Res :=
  let s := s.begin
  if s.nvm.running.isNone then .next s
  else if (match s.stageLimit with | some l => decide (s.nvm.since + l < s.aon) | none => false) then
    .next (s.failStage (Config.failCause 7).toNat)
  else
    match State.load .start loadFuel s with
    | (some false, s) => .next (s.failStage (Config.failCause 5).toNat)
    | (none, s) => .next s
    | (some true, s) => .next s.endStage

/-- STAGE_FAILURE: a running stage has failed, with a cause. -/
def execStageFailure (cause : BitVec 32) (s : State) : Res :=
  let s := s.begin
  .next (if s.nvm.running.isSome then s.failStage cause.toNat else s)

/-- START_HALT_EXPIRY: 60 s after a halt the device warm resets; the halt entry has cleared the counts (R504). -/
def execStartHaltExpiry (s : State) : Res :=
  let s := s.begin
  match s.nvm.haltAt with
  | some t => .next (if t + 60 * secCycles ≤ s.aon then s.flDrain.warmReset 0 else s)
  | none => .next s

/-! ## SLICE_RESTART_COMPLETE -/

/-- Whether packets of a slice are between its parser and its queues (R508: in flight). -/
def State.inFlight (s : State) (n : Nat) : Bool :=
  (s.trw.ctxs.any fun e => e.1 / 128 == n) ||
    s.packets.any fun e => e.2.slice == n &&
      (e.2.stage == .parsed || e.2.stage == .inContext || e.2.stage == .endGate || e.2.stage == .issueWait)

/-- Whether another slice can give a slice its banks and programs: one that is in service and not Dormant (R120, R468). -/
def State.hasSource (s : State) (n : Nat) : Bool :=
  (List.range 4).any fun m => m != n && (s.slice m).inService && s.power m != 3

/-- With no slice to copy from, both rule banks, the program table and the instruction memory are reloaded from the kernel's copy:
the sections of the running caddy. The epochs and the patch in force stay as they are (R120, R468). (DEDUCED, log 101) -/
def State.reloadShared (s : State) : State :=
  match s.nvm.caddy with
  | none => s
  | some c =>
    let t : State := { s with
      rul := { s.rul with bank0 := {}, bank1 := {} }, trw := { s.trw with progs := [], imem := [] }, epochRefs := [],
      nvm := { s.nvm with apply := none, steps := [LoadStep.body c 0x16, LoadStep.body c 0x18] } }
    let t := (State.load .start loadFuel t).2
    { t with epochRefs := s.epochRefs, nvm := { t.nvm with apply := s.nvm.apply, steps := s.nvm.steps } }

/-- The parser memories of a slice that wakes from Dormant are reloaded from the kernel's copy of the Parser section (R120).
(DEDUCED, log 101) -/
def State.reloadParser (s : State) (n : Nat) : State :=
  let lo := Reg.PAR_PORT_ZONE n 0
  let gone := { s with regs := s.regs.filter fun e => !decide (lo.addr ≤ e.1 ∧ e.1 < lo.addr + 0x3EF00) }
  let steps := match s.nvm.caddy with
    | some c => (match s.section? c 9 with | some x => (bodySteps (s.body c x)).getD [] | none => [])
    | none => []
  (slicePart n steps).foldl (fun (s : State) x =>
    match x with
    | .write a v => if sliceOf a = some n then (s.loadWrite a v).2 else s
    | _ => s) gone

/-- WAKE_COMPLETE: a wake ends with the slice in Run. One from Dormant reloads the parser memories, and what the slices share when
no other slice can be copied from (R120, R468). -/
def execWakeComplete (slice : Nat) (s : State) : Res :=
  let s := s.begin
  if 4 ≤ slice ∨ !s.waking slice then .next s
  else
    let from' := s.power slice
    let s := ((s.setPower slice 0).fsbit Fld.KTL_PWR_STAT_WAKING slice false).touch slice
    let s := if from' = 3 then (if s.hasSource slice then s else s.reloadShared).reloadParser slice else s
    .next (if 2 ≤ from' then s.inc (Reg.KTL_WAKES slice) else s)

/-- SLICE_RESTART_COMPLETE: the slice is loaded from the Ports and Parser sections of the copy being applied, or of the running
caddy, its mode goes into force, and it forwards again. A port that the mode does not allow as it is set is disabled (R54, R66). A
slice that was out of service takes what the slices share from another, or from the kernel's copy (R120). -/
def execSliceRestartComplete (slice : Nat) (s : State) : Res :=
  let s := s.begin
  if !s.nvm.restarts.contains slice || s.inFlight slice then .next s
  else
    let copy := match s.nvm.apply with | some r => if r.rolling then s.nvm.caddy else some r.copy | none => s.nvm.caddy
    let s := if (s.slice slice).inService || s.hasSource slice then s else s.reloadShared
    let s := { s with nvm := { s.nvm with restarts := s.nvm.restarts.erase slice } }
    let s := (s.putInService slice).fs (Fld.TRW_ENG_STAT_QUAR slice) 0
    let (steps, s) := s.sliceLoad slice copy s.nvm.apply.isNone fun p => !s.laneOff p
    let (bad, s) := steps.foldl (fun (x : Bool × State) y =>
      match y with
      | .write a v => let (no, t) := x.2.loadWrite a v; (x.1 || no, t)
      | _ => x) (false, s)
    let s := (List.range 16).foldl (fun (s : State) i => s.recheckPort (16 * slice + i)) s
    let s := if bad && s.nvm.apply.isSome then s.setSteps (.failed :: s.nvm.steps) else s
    let e : JEntry := { kind := 0, unit := slice }
    let s := s.log 0x1707 e.detailBytes
    .next (if s.nvm.apply.isNone && s.nvm.restarts.isEmpty then s.fs Fld.NVM_STATUS_APPLYING 0 else s)

/-! ## APPLY_COMPLETE -/

/-- The end of an apply, one way or the other: its result is shown (R509). -/
def State.closeApply (s : State) (result kind event stage copy : Nat) : State :=
  let seq := s.imgSeq copy
  let s := s.journal { kind := kind, stage := stage, unit := seq / 2 ^ 32, detail := seq % 2 ^ 32, event := event }
  let s := (s.log event).fs Fld.NVM_STATUS_APPLY_RESULT result
  let s := { s with nvm := { s.nvm with apply := none, steps := [], verified := s.nvm.verified.erase copy } }
  if s.nvm.restarts.isEmpty then s.fs Fld.NVM_STATUS_APPLYING 0 else s

/-- Every section has been handled: the applied copy becomes the running caddy (R509, R595). -/
def State.applied (s : State) (copy : Nat) : State :=
  let s := ((s.useCaddy copy).closeApply 1 9 0x0305 0xFF copy).measure 1 (s.caddyMeasure copy)
  { s with nvm := { s.nvm with runSeq := s.nvm.caddySeq } }.fs Fld.NVM_STATUS_CADDY_COPY copy

/-- The apply has failed: the running caddy's versions of what was changed are due, in reverse order. -/
def State.startRollback (s : State) (r : ApplyRun) : State :=
  let old := s.nvm.caddy.getD 0
  let steps := r.changed.reverse.flatMap fun k =>
    if 0x100 ≤ k then [LoadStep.restart (k - 0x100), LoadStep.restarted (k - 0x100)] else [LoadStep.body old k]
  { s with nvm := { s.nvm with apply := some { r with rolling := true }, steps := steps } }

/-- Goes on with a rollback. -/
def State.rollBack (s : State) (copy : Nat) : State :=
  match State.load .back loadFuel s with
  | (some _, s) => s.closeApply 2 6 0x0306 0xFF copy
  | (none, s) => s

/-- APPLY_COMPLETE: the apply goes on as far as it gets, and ends when nothing is left. -/
def execApplyComplete (s : State) : Res :=
  let s := s.begin
  match s.nvm.apply with
  | none => .next s
  | some r =>
    if r.rolling then .next (s.rollBack r.copy)
    else
      match State.load .live loadFuel s with
      | (none, s) => .next s
      | (some true, s) => .next (s.applied r.copy)
      | (some false, s) => .next ((s.startRollback (s.nvm.apply.getD r)).rollBack r.copy)

end Sys2Proof.Machine
end

