-- ==== Sys2Proof/Machine/GrixCommands.lean ====
section
/-! DEFINITION. Grix sessions and operations (R585–R593), the frames of the management port (R583, R584), and the commands that
bring one datagram each. -/

namespace Sys2Proof.Machine

/-! ## Sessions (R587, R588) -/

/-- An operator key entry: its hash and its role (R596, R600). -/
def State.opKey (s : State) (k : Nat) : List Byte × Nat :=
  ((List.range 8).flatMap (fun w => beBytes 4 (s.rd (Reg.SEC_OPKEY k w)).toNat), s.fg (Fld.SEC_OPKEY_ROLE_ROLE k))

/-- The highest role a key hash holds, if it may open a session: owner keys and any key in provisioning 3, an operator key
its own. An entry of zeros is empty. -/
def State.roleOf (s : State) (hash : List Byte) : Option Nat :=
  if s.ownerKey hash || s.provisioning then some 3
  else
    (List.range 16).foldl (fun (r : Option Nat) k =>
      let (h, role) := s.opKey k
      if h == hash && h.any (· != 0) then some (max (r.getD 0) role) else r) none

/-- A session set-up that is refused: counted, logged at most once per second, and answered with an ERROR. -/
def State.refuseSession (s : State) (p : Peer) (session code : Nat) : State :=
  (((s.inc Reg.MGT_AUTH_FAIL).logLimited 0x1402 0 1 0 fun _ _ => []).grixError p session code)

/-- The lowest session place that is free; identifier − 1 modulo 16 is a session's place. (DESIGN CHOICE, log 89) -/
def State.sessionPlace (s : State) : Option Nat :=
  (List.range 8).find? fun p => !(s.mgt.sessions.any fun e => e.2.isSome && (e.1 - 1) % 16 == p)

/-- How many sessions are half-open. -/
def State.halfOpen (s : State) : Nat :=
  (s.mgt.sessions.filter fun e => match e.2 with | some x => !x.opened | none => false).length

/-- An INIT: at most 20 in a second; the key must be allowed and a place free. The identifier above a session's place is a
free value. (DESIGN CHOICE, log 89) -/
def State.takeInit (s : State) (p : Peer) (session : Nat) (body : List Byte) : State :=
  let recent := s.mgt.inits.filter fun t => decide (s.aon < t + secCycles)
  if 20 ≤ recent.length then s.inc Reg.MGT_AUTH_FAIL
  else
    let s := { s with mgt := { s.mgt with inits := recent ++ [s.aon] } }
    let hash := sm3Of (sliceBytes body 0 64)
    if body.length ≠ 161 ∨ 32 < beAt body 128 1 ∨ session ≠ 0 then s.refuseSession p 0 4
    else
      match s.roleOf hash, s.sessionPlace with
      | none, _ => s.refuseSession p 0 1
      | some _, none => s.refuseSession p 0 2
      | some role, some place =>
        if 4 ≤ s.halfOpen then s.refuseSession p 0 2
        else
          let eph := s.fresh
          let (v, s) := s.free
          let id := v.toNat % 2 ^ 28 * 16 + place + 1
          let k := fun i => sliceBytes (sliceBytes (Config.grixExchange Config.identitySecret (Config.deviceIdentifier s.sec.secBody) eph body) (32 * i) 32) 0 32
          let s := s.setSession id (some { peer := p, keyHash := hash, role := role, kC := k 0, kD := k 1, confirm := k 3, lastAt := s.aon })
          s.sendPeer p (datagram 2 id 0
            (beBytes 4 id ++ sliceBytes (Config.ephemeralPoint eph) 0 64 ++ k 2 ++ s.certificate) none)

/-- A FINISH: the right confirmation opens the session; a wrong one frees it. -/
def State.takeFinish (s : State) (p : Peer) (id : Nat) (body : List Byte) : State :=
  match s.session id with
  | none => s.grixError p id 5
  | some x =>
    if x.opened then s
    else if body.length ≠ 32 then s.grixError p id 4
    else if body ≠ x.confirm then (s.setSession id none).refuseSession p id 3
    else
      let s := s.setSession id (some { x with opened := true, peer := p, lastAt := s.aon })
      s.log 0x1401 (x.keyHash.take 4 ++ d1 x.role)

/-! ## Operations (R589, R591) -/

/-- The role an operation needs; none for an unknown one. -/
def opRole (op : Nat) : Option Nat :=
  match op with
  | 1 | 3 | 8 | 9 | 10 | 11 | 17 => some 0
  | 2 => some 1
  | 4 | 5 | 6 | 7 | 12 | 13 | 14 | 18 => some 2
  | 15 | 16 => some 3
  | _ => none

/-- Reads words one at a time, in address order; none when one gets the error response. -/
def State.readWords (s : State) (addr : Nat) : Nat → Option (List Byte) × State
  | 0 => (some [], s)
  | n + 1 =>
    match s.innerRead .kernel addr with
    | (none, s) => (none, s)
    | (some w, s) =>
      let (r, s) := s.readWords (addr + 4) n
      (r.map fun bs => beBytes 4 w.toNat ++ bs, s)

/-- Writes words one at a time, in address order, until one is rejected; the words before it stay written. -/
def State.writeWords (s : State) (addr : Nat) : List Nat → Option Nat × State
  | [] => (none, s)
  | v :: r =>
    match s.innerWrite .kernel addr v with
    | (some k, s) => (some k, s)
    | (none, s) => s.writeWords (addr + 4) r

/-- Runs a command of a block: whether it was turned down, with its reason. -/
def State.tryBlock (s : State) (f : State → State) : Option Nat × State :=
  let n := s.out.length
  let t := f s
  (t.refusal n, { t with out := s.out ++ sideOuts (t.out.drop n) })

/-- EVENT_READ (R593): the records from a sequence number on. -/
def State.eventRead (s : State) (first count : Nat) : List Byte :=
  let newest := if s.nvm.logSeq ≤ 1 then 2 ^ 32 - 1 else s.nvm.logSeq - 1
  let age := fun (q : Nat) => (newest + 2 ^ 32 - q % 2 ^ 32) % 2 ^ 32
  let all := s.logRecords.map (·.2)
  let head := fun (lost : Bool) q => d1 (128 * ofBool lost) ++ d1 0 ++ d2 0 ++ beBytes 4 q
  if all = [] ∨ 2 ^ 31 ≤ age first then head false first
  else
    let oldest := all.foldl (fun k (r : Nat × List Byte) => max k (age r.1)) 0
    let start := min (age first) oldest
    let from' := (newest + 2 ^ 32 - start) % 2 ^ 32
    let recs := (List.range (min count 21)).filterMap fun i =>
      if i ≤ start then (all.find? fun (r : Nat × List Byte) => age r.1 == start - i).map (·.2) else none
    head (decide (oldest < age first)) from' ++ recs.flatten

/-- Answers a request. -/
def State.answer (s : State) (id seq op : Nat) (r : Option (Nat × Nat) ⊕ List Byte) : State :=
  match r with
  | .inl none => s.respond id seq op 0 0 []
  | .inl (some (status, detail)) => s.respond id seq op status detail []
  | .inr data => s.respond id seq op 0 0 data

/-- FLASH_WRITE and FLASH_ERASE through NVM_FL_CMD: a refusal is answered with its REASON; otherwise the answer follows when the flash
has finished. -/
def State.grixFlash (s : State) (id seq op addr : Nat) (data : List Byte) (cmd : Nat) : State :=
  let (no, s) := s.tryBlock fun s => ((s.fs Fld.NVM_FL_ADDR_ADDR addr).setFlBuf data).writeFlCmd true (.grix id) (2 ^ 31 + cmd)
  match no with
  | some k => s.answer id seq op (.inl (some (4, k)))
  | none => s

/-- Serves the operations on registers, flash and images. -/
def State.serveDevice (s : State) (id seq op : Nat) (args : List Byte) : State :=
  let n := args.length
  let bad := s.answer id seq op (.inl (some (3, 0)))
  let done := fun (x : Option Nat × State) (data : State → List Byte) =>
    match x with
    | (some k, s) => s.answer id seq op (.inl (some (4, k)))
    | (none, s) => s.answer id seq op (.inr (data s))
  let off := beAt args 0 4
  match op with
  | 1 =>
    let count := beAt args 5 2
    if n ≠ 7 ∨ count < 1 ∨ 256 < count then bad
    else
      match s.readWords (beAt args 0 5) count with
      | (some bs, s) => s.answer id seq op (.inr bs)
      | (none, s) => s.answer id seq op (.inl (some (4, 0)))
  | 2 =>
    let addr := beAt args 0 5
    let count := beAt args 5 2
    let closed := (List.range count).any fun i => [2, 3, 0x11, 0x16].contains ((addr + 4 * i) / 2 ^ 20)
    if count < 1 ∨ 256 < count ∨ n ≠ 7 + 4 * count then bad
    else if closed then s.answer id seq op (.inl (some (6, 0)))
    else done (s.writeWords addr ((List.range count).map fun i => wordAt args (7 + 4 * i))) fun _ => []
  | 3 =>
    let len := beAt args 4 2
    if n ≠ 6 ∨ len < 1 ∨ 1024 < len ∨ 2 ^ 26 < off + len then bad
    else
      let (bs, s) := s.flRead off len
      s.answer id seq op (.inr bs)
  | 4 =>
    let len := beAt args 4 2
    if len < 1 ∨ 1024 < len ∨ n ≠ 6 + len ∨ 256 < off % 256 + len ∨ 2 ^ 26 ≤ off then bad
    else s.grixFlash id seq op off (args.drop 6) (2 ^ 28 + len)
  | 5 => if n ≠ 4 ∨ off % 4096 ≠ 0 ∨ 2 ^ 26 ≤ off then bad else s.grixFlash id seq op off [] (2 * 2 ^ 28 + 256)
  | 6 =>
    let o := beAt args 0 1
    let target := beAt args 1 1
    if n ≠ 2 ∨ 2 < o ∨ 3 < target then bad
    else done (s.tryBlock fun s => s.writeImgCmd true (2 ^ 31 + o * 2 ^ 28 + target)) fun s => beBytes 4 (s.rd Reg.NVM_IMG_STAT).toNat
  | _ =>
    let slice := beAt args 0 1
    if n ≠ 1 ∨ 3 < slice then bad else done (s.tryBlock fun s => s.writeSliceCtl (2 ^ 31 + slice)) fun _ => []

/-- Serves the operations on events, identity, debug and owner keys. `otpOk` tells how a read-back of OTP ends (R597). -/
def State.serveSecurity (s : State) (id seq op : Nat) (args : List Byte) (otpOk : Bool) : State :=
  let n := args.length
  let say := fun (s : State) (status : Nat) => s.answer id seq op (.inl (some (status, 0)))
  let bad := say s 3
  match op with
  | 8 =>
    let count := beAt args 4 2
    if n ≠ 6 ∨ count < 1 ∨ 32 < count then bad else s.answer id seq op (.inr (s.eventRead (beAt args 0 4) count))
  | 9 =>
    if n ≠ 1 ∨ 1 < beAt args 0 1 then bad
    else
      match s.session id with
      | some x => (s.setSession id (some { x with sub := beAt args 0 1 == 1 })).answer id seq op (.inl none)
      | none => s
  | 10 =>
    if n ≠ 32 then bad
    else
      let (bs, s) := s.quote args
      s.answer id seq op (.inr bs)
  | 11 => if n ≠ 0 then bad else s.answer id seq op (.inr s.certificate)
  | 12 =>
    if n ≠ 0 then bad
    else
      match s.issueChallenge with
      | (some bs, s) => s.answer id seq op (.inr bs)
      | (none, s) => say s 6
  | 13 =>
    if n ≠ 192 then bad
    else
      let (ok, s) := s.checkResponse args
      say s (if ok then 0 else 4)
  | 14 => if n ≠ 0 then bad else s.relock.answer id seq op (.inl none)
  | 15 =>
    let mine := match s.session id with | some x => s.ownerKey x.keyHash | none => false
    if n ≠ 64 then bad
    else if !(s.provisioning || mine) then say s 6
    else
      match s.ownerAdd (sm3Of args) otpOk with
      | (none, s) => say s 6
      | (some (k, ok), s) => if ok then s.answer id seq op (.inr (d1 k)) else say s 4
  | 16 =>
    let k := beAt args 0 1
    if n ≠ 1 ∨ 3 < k then bad
    else if !s.mayRevoke k then say s 6
    else
      let hash := (s.slot k).hash
      let s := (s.modSlot k fun x => { x with revoked := true }).log 0x0205 (d1 k)
      let s := s.answer id seq op (.inl none)
      s.mgt.sessions.foldl (fun (s : State) e =>
        match e.2 with | some x => if x.keyHash == hash then s.endSession e.1 2 else s | none => s) s
  | 17 => if n ≠ 0 then bad else (s.answer id seq op (.inl none)).endSession id 0
  | _ => if n ≠ 0 then bad else (s.answer id seq op (.inl none)).warmReset 0

/-- Serves a request of a session (R589, R591). -/
def State.serve (s : State) (id seq role : Nat) (body : List Byte) (otpOk : Bool) : State :=
  let op := beAt body 0 2
  let args := body.drop 4
  match opRole op with
  | none => s.answer id seq op (.inl (some (1, 0)))
  | some r =>
    if role < r then s.answer id seq op (.inl (some (2, 0)))
    else if op ≤ 7 then s.serveDevice id seq op args
    else s.serveSecurity id seq op args otpOk

/-! ## Datagrams (R585, R590) -/

/-- A REQUEST: its tag is checked, and then its sequence number against the highest one accepted. -/
def State.takeRequest (s : State) (p : Peer) (otpOk : Bool) (bs : List Byte) : State :=
  let id := beAt bs 4 4
  let seq := beAt bs 8 8
  let n := bs.length - 16
  match s.session id with
  | none => s.grixError p id 5
  | some x =>
    if !x.opened then s.grixError p id 5
    else if bs.length < 36 then s.grixError p id 4
    else if tagBytes x.kC (bs.take n) ≠ bs.drop n then (s.inc Reg.MGT_TAG_FAIL).logLimited 0x1404 0 1 0 fun _ _ => []
    else
      let x := { x with peer := p, lastAt := s.aon }
      let s := s.setSession id (some x)
      if x.high < seq then
        if x.busy.isSome then s.inc Reg.MGT_BUSY_DROP
        else
          let body := (bs.take n).drop 16
          (s.setSession id (some { x with high := seq, response := [], busy := some (beAt body 0 2, seq) })).serve id seq x.role body otpOk
      else if seq < x.high then s.inc Reg.MGT_REPLAY
      else if x.busy.isSome then s
      else if x.response = [] then s.inc Reg.MGT_REPLAY
      else s.sendPeer p x.response

/-- A datagram (R585): its length and its type are checked. -/
def State.takeDatagram (s : State) (p : Peer) (otpOk : Bool) (bs : List Byte) : State :=
  let id := beAt bs 4 4
  if bs.length < 20 ∨ 1400 < bs.length ∨ beAt bs 2 2 ≠ bs.length ∨ beAt bs 0 1 ≠ 1 then s.mgtDrop
  else
    match beAt bs 1 1 with
    | 1 => s.takeInit p id (bs.drop 16)
    | 3 => s.takeFinish p id (bs.drop 16)
    | 0x10 => s.takeRequest p otpOk bs
    | _ => s.mgtDrop

/-- Whether the port is enabled and up. -/
def State.mgtUp (s : State) : Bool := s.fb Fld.MGT_CFG_EN && s.fb Fld.MGT_STATUS_LINK

/-- MGT_FRAME: a frame of 64–1,518 bytes, untagged and with a good FCS, is answered, taken as a Grix datagram, or handed to the
threads (R583, R584); any other is dropped and counted. -/
def execMgtFrame (frame : List Byte) (otpOk : Bool) (s : State) : Res :=
  let s := s.begin
  let tag := beAt frame 12 2
  if !s.mgtUp then .next s
  else if frame.length < 64 ∨ 1518 < frame.length ∨ !fcsGood frame ∨ tag = 0x8100 ∨ tag = 0x88A8 then .next s.mgtDrop
  else
    let s := s.raiseLine 23
    match s.mgtTake frame with
    | .drop => .next s.mgtDrop
    | .answered t => .next t
    | .udp u =>
      if u.dport = s.fg Fld.MGT_CFG_GRIX_PORT then .next (s.takeDatagram u.peer otpOk u.payload)
      else if s.fb Fld.MGT_CFG_PASS && !isDhcp u.dport then .next s
      else .next s.mgtDrop

/-- A Grix datagram that reaches the port. -/
def State.grixIn (s : State) (p : Peer) (otpOk : Bool) (bs : List Byte) : State :=
  if s.mgtUp then s.takeDatagram p otpOk bs else s

/-- INIT. -/
def execInit (peer : Peer) (body : List Byte) (s : State) : Res := .next (s.begin.grixIn peer true (datagram 1 0 0 body none))

/-- FINISH. -/
def execFinish (peer : Peer) (session : BitVec 32) (confirm : List Byte) (s : State) : Res :=
  .next (s.begin.grixIn peer true (datagram 3 session.toNat 0 confirm none))

/-- FINISH_TIMEOUT: a session whose FINISH has not come within 2 s is freed (R587). -/
def execFinishTimeout (session : BitVec 32) (s : State) : Res :=
  let s := s.begin
  match s.session session.toNat with
  | some x => .next (if !x.opened && decide (x.lastAt + 2 * secCycles ≤ s.aon) then s.setSession session.toNat none else s)
  | none => .next s

/-- SESSION_IDLE_TIMEOUT: a session without a verified request for IDLE_S ends (R588). -/
def execSessionIdleTimeout (session : BitVec 32) (s : State) : Res :=
  let s := s.begin
  match s.session session.toNat with
  | some x =>
    .next (if x.opened && decide (x.lastAt + s.fg Fld.MGT_IDLE_IDLE_S * secCycles ≤ s.aon) then s.endSession session.toNat 1 else s)
  | none => .next s

/-! ## One command for each operation -/

/-- The bytes of a REQUEST before its tag. -/
def requestHead (session : BitVec 32) (seq : BitVec 64) (op : Nat) (args : List Byte) : List Byte :=
  d1 1 ++ d1 0x10 ++ d2 (36 + args.length) ++ beBytes 4 session.toNat ++ beBytes 8 seq.toNat ++ d2 op ++ d2 0 ++ args

/-- A REQUEST with its tag reaches the port. -/
def State.request (s : State) (p : Peer) (session : BitVec 32) (seq : BitVec 64) (op : Nat) (args : List Byte) (otpOk : Bool)
    (tag : List Byte) : State :=
  s.begin.grixIn p otpOk (requestHead session seq op args ++ tag)

/-- READ_REG. -/
def execReadReg (peer : Peer) (session : BitVec 32) (seq : BitVec 64) (addr : BitVec 40) (count : BitVec 16) (tag : List Byte)
    (s : State) : Res := .next (s.request peer session seq 1 (d5 addr.toNat ++ d2 count.toNat) true tag)

/-- WRITE_REG. -/
def execWriteReg (peer : Peer) (session : BitVec 32) (seq : BitVec 64) (addr : BitVec 40) (words : List Word) (tag : List Byte)
    (s : State) : Res :=
  .next (s.request peer session seq 2 (d5 addr.toNat ++ d2 words.length ++ words.flatMap fun w => beBytes 4 w.toNat) true tag)

/-- FLASH_READ. -/
def execFlashRead (peer : Peer) (session : BitVec 32) (seq : BitVec 64) (offset : BitVec 32) (len : BitVec 16) (tag : List Byte)
    (s : State) : Res := .next (s.request peer session seq 3 (beBytes 4 offset.toNat ++ d2 len.toNat) true tag)

/-- FLASH_WRITE. -/
def execFlashWrite (peer : Peer) (session : BitVec 32) (seq : BitVec 64) (offset : BitVec 32) (data tag : List Byte)
    (s : State) : Res := .next (s.request peer session seq 4 (beBytes 4 offset.toNat ++ d2 data.length ++ data) true tag)

/-- FLASH_ERASE. -/
def execFlashErase (peer : Peer) (session : BitVec 32) (seq : BitVec 64) (offset : BitVec 32) (tag : List Byte) (s : State) : Res :=
  .next (s.request peer session seq 5 (beBytes 4 offset.toNat) true tag)

/-- IMAGE. -/
def execImage (peer : Peer) (session : BitVec 32) (seq : BitVec 64) (op target : Byte) (tag : List Byte) (s : State) : Res :=
  .next (s.request peer session seq 6 [op, target] true tag)

/-- SLICE_RESTART. -/
def execSliceRestart (peer : Peer) (session : BitVec 32) (seq : BitVec 64) (slice : Byte) (tag : List Byte) (s : State) : Res :=
  .next (s.request peer session seq 7 [slice] true tag)

/-- EVENT_READ. -/
def execEventRead (peer : Peer) (session : BitVec 32) (seq : BitVec 64) (first : BitVec 32) (count : BitVec 16) (tag : List Byte)
    (s : State) : Res := .next (s.request peer session seq 8 (beBytes 4 first.toNat ++ d2 count.toNat) true tag)

/-- EVENT_SUB. -/
def execEventSub (peer : Peer) (session : BitVec 32) (seq : BitVec 64) (on : Byte) (tag : List Byte) (s : State) : Res :=
  .next (s.request peer session seq 9 [on] true tag)

/-- QUOTE. -/
def execQuote (peer : Peer) (session : BitVec 32) (seq : BitVec 64) (nonce tag : List Byte) (s : State) : Res :=
  .next (s.request peer session seq 10 nonce true tag)

/-- IDENTITY. -/
def execIdentity (peer : Peer) (session : BitVec 32) (seq : BitVec 64) (tag : List Byte) (s : State) : Res :=
  .next (s.request peer session seq 11 [] true tag)

/-- DEBUG_CHAL. -/
def execDebugChal (peer : Peer) (session : BitVec 32) (seq : BitVec 64) (tag : List Byte) (s : State) : Res :=
  .next (s.request peer session seq 12 [] true tag)

/-- DEBUG_RESP. -/
def execDebugResp (peer : Peer) (session : BitVec 32) (seq : BitVec 64) (response tag : List Byte) (s : State) : Res :=
  .next (s.request peer session seq 13 response true tag)

/-- DEBUG_RELOCK. -/
def execDebugRelock (peer : Peer) (session : BitVec 32) (seq : BitVec 64) (tag : List Byte) (s : State) : Res :=
  .next (s.request peer session seq 14 [] true tag)

/-- OWNER_ADD. -/
def execOwnerAdd (peer : Peer) (session : BitVec 32) (seq : BitVec 64) (key : List Byte) (ok : Bool) (tag : List Byte)
    (s : State) : Res := .next (s.request peer session seq 15 key ok tag)

/-- OWNER_REVOKE. -/
def execOwnerRevoke (peer : Peer) (session : BitVec 32) (seq : BitVec 64) (slot : Byte) (tag : List Byte) (s : State) : Res :=
  .next (s.request peer session seq 16 [slot] true tag)

/-- CLOSE. -/
def execClose (peer : Peer) (session : BitVec 32) (seq : BitVec 64) (tag : List Byte) (s : State) : Res :=
  .next (s.request peer session seq 17 [] true tag)

/-- RESET. -/
def execReset (peer : Peer) (session : BitVec 32) (seq : BitVec 64) (tag : List Byte) (s : State) : Res :=
  .next (s.request peer session seq 18 [] true tag)

end Sys2Proof.Machine
end

