-- ==== Sys2Proof/Machine/Operands.lean ====
section
/-! DEFINITION. How instructions take their operands (R192–R206, R520–R526): instruction words, the issue of an instruction on
an engine and on a core, the context window, the Glasshouse memory map, loads and stores. -/

namespace Sys2Proof.Machine

/-! ## Constants (R195) -/

/-- A constant, sign-extended or zero-extended. -/
def sext (imm : BitVec 16) : DWord := imm.signExtend 64
@[inherit_doc sext] def zext (imm : BitVec 16) : DWord := imm.setWidth 64

/-! ## Registers of a packet context (R192) -/

/-- A general register; g0 reads as zero. -/
def Ctx.reg (x : Ctx) (r : BitVec 5) : DWord := if r = 0 then 0 else x.g.get r.toNat 0

/-- Writes a general register; writes to g0 are discarded. -/
def Ctx.setReg (x : Ctx) (r : BitVec 5) (v : DWord) : Ctx := if r = 0 then x else { x with g := x.g.put r.toNat 0 v }

/-- An instruction commits: its restarts no longer count (R218), and IA goes on. -/
def Ctx.advance (x : Ctx) : Ctx := { x with ia := x.ia + 4, restarts := 0, lastFault := none }

/-! ## Issue (R203, R206, R516, R526) -/

/-- Counts an instruction that an engine issues (R558, R559, R563). -/
def State.countEngine (s : State) (slice eng : Nat) : State :=
  ((s.evc (48 + 4 * slice + 3)).evc (64 + 16 * slice + eng)).fcCount { kind := 4, priv := some 2, masters := 2 ^ slice }

/-- Whether a context of an engine waits with YIELD = 0: then the engine issues nothing else (R213). -/
def State.engineHeld (s : State) (slice eng : Nat) : Bool :=
  s.trw.ctxs.any fun e => e.1 / 8 == slice * 16 + eng && e.2.wait.isSome && match e.2.micro with | some m => m.holds | none => false

/-- Issues an instruction in a context of an engine, unless it cannot issue now: the context is free or waits, its engine
is quarantined or held by a wait with YIELD = 0. Its clock is charged, and cause 5 is raised once BUDGET clocks are (R203). `f` is
given the context's key and its state. (DESIGN CHOICE, log 75, DEDUCED, log 80) -/
def State.runEngine (s : State) (slice eng c : Nat) (bad : ReadFault) (f : Nat → Ctx → State → State) : State :=
  let k := ctxKey slice eng c
  if 4 ≤ slice ∨ 16 ≤ eng ∨ 8 ≤ c ∨ s.quarantined slice eng then s
  else
    match s.ctx? k with
    | none => s
    | some x =>
      if x.wait.isSome ∨ s.engineHeld slice eng then s
      else if !x.within s.coreNow then s.raise k 5
      else
        let x := x.issues s.coreNow
        let s := (s.setCtx k x).countEngine slice eng
        if bad = .fetch then s.raise k 7
        else if 0xFFFFC < x.ia then s.raise k 4
        else f k x s

/-- An exception on a core. The fault value of a cause that has no faulting address and is not 0 is a free value: the spec
names only these two (R525). (DEDUCED, log 73) -/
def State.coreFault (s : State) (c cause : Nat) (val : Option Nat) : State :=
  match val with
  | some v => s.coreException c cause v
  | none =>
    let (v, s) := s.free
    s.coreException c cause v.toNat

/-- A window of the Glasshouse memory map (R520). -/
inductive Window where
  | own (ctx : Nat)
  | sram | slots | region | control
  deriving DecidableEq, Repr

/-- The window that `n` bytes from an address lie wholly in. (DESIGN CHOICE, log 72) -/
def State.windowOf (s : State) (a n : Nat) : Option Window :=
  if 0x10000000 ≤ a ∧ a < 0x10200000 then
    if (a + n - 1) / 65536 = a / 65536 then some (.own ((a - 0x10000000) / 65536)) else none
  else if 0x11000000 ≤ a ∧ a + n ≤ 0x117C0000 then some .sram
  else if 0x117C0000 ≤ a ∧ a + n ≤ 0x11800000 then some .slots
  else if s.glhBase ≤ a ∧ a + n ≤ s.glhBase + 2 ^ 30 then some .region
  else if a + n ≤ 0x10000000 then some .control
  else none

/-- Whether bytes lie inside one of a context's user windows (R525). (DESIGN CHOICE, log 72) -/
def Core.inUserWindow (x : Core) (a n : Nat) : Bool :=
  let inside := fun base size => decide (size ≠ 0 ∧ base ≤ a ∧ a + n ≤ base + size)
  inside x.uwin0Base x.uwin0Size || inside x.uwin1Base x.uwin1Size

/-- The channel and the number of the slot an address lies in (R535). -/
def slotOf (a : Nat) : Nat × Nat := ((a - 0x117C0000) / 0x400, (a - 0x117C0000) % 0x400 / 0x40)

/-- Whether a context holds the slot an address lies in: RESERVED for a store, RECEIVED for a load (R535). -/
def State.holdsSlot (s : State) (c : Nat) (store : Bool) (a : Nat) : Bool :=
  let (ch, k) := slotOf a
  match (s.chan ch).slots.get k .free with
  | .reserved d => store && d == c
  | .received d _ => !store && d == c
  | _ => false

/-- The window an access of a context goes to, or the cause of its fault (R520, R524, R535). -/
def State.coreAccess (s : State) (c : Nat) (x : Core) (store : Bool) (a n : Nat) : Nat ⊕ Window :=
  let no := if store then 3 else 2
  match s.windowOf a n with
  | none => .inl no
  | some w =>
    let may := match w with
      | .own d => x.kern || d == c
      | .sram | .region => x.kern || x.inUserWindow a n
      | .slots => s.holdsSlot c store a && s.holdsSlot c store (a + n - 1)
      | .control => x.kern && n == 4 && a % 4 == 0
    if may then .inr w else .inl (if w = .control ∧ !x.kern then 8 else no)

/-- Whether a context can fetch an instruction at an address (R520). The boot ROM's addresses are not given: IA 0 stands for
its entry (R518). (DESIGN CHOICE, log 74) -/
def State.fetchable (s : State) (c : Nat) (x : Core) (a : Nat) : Bool :=
  match s.windowOf a 4 with
  | some (.own d) => x.kern || d == c
  | some .sram | some .region => x.kern || x.inUserWindow a 4
  | _ => c == 0 && x.kern && (a == 0 || Config.bootRom a)

/-- An uncorrectable word in Glasshouse memory: cause 7 on a fetch, else cause 10; in the Glasshouse region it is also
logged (R521). -/
def State.memError (s : State) (c : Nat) (fetch : Bool) (a : Nat) : State :=
  let s := if s.windowOf a 1 = some .region then s.log 0x1502 (d5 a) else s
  s.coreFault c (if fetch then 7 else 10) (some a)

/-- Counts the package-memory access of a context (R559, R563). -/
def State.coreMem (s : State) (c : Nat) (x : Core) (write : Bool) (a : Nat) : State :=
  s.pmTouch 3 write 1 { kind := 0, priv := some (ofBool x.kern), masters := coreMaster c, addr := some a }

/-- Counts an instruction that a context of the Glasshouse issues (R563). -/
def State.countCore (s : State) (c : Nat) : State :=
  s.fcCount { kind := 4, priv := some (ofBool (s.core c).kern), masters := coreMaster c }

/-- Fetches the instruction of a context: a fetch from the Glasshouse region is an access of package memory. -/
def State.fetchCore (s : State) (c : Nat) (x : Core) : State :=
  if s.windowOf x.ia 4 = some .region then s.coreMem c x false x.ia else s

/-- Issues an instruction in a context of the Glasshouse that is in RUN. (DESIGN CHOICE, log 75) -/
def State.runCore (s : State) (c : Nat) (bad : ReadFault) (f : Core → State → State) : State :=
  let x := s.core c
  if 32 ≤ c ∨ x.state ≠ 2 then s
  else
    let s := s.countCore c
    if !s.fetchable c x x.ia then s.coreFault c 4 (some x.ia)
    else
      let s := s.fetchCore c x
      if bad = .fetch then s.memError c true x.ia else f x s

/-- An instruction of a context completes: its result, its next IA, and HALT after a step (R547). -/
def State.retire (s : State) (c : Nat) (rd : BitVec 5) (v : DWord) (ia : Nat) : State :=
  (s.modCore c fun x =>
    { (x.setReg rd.toNat v) with ia := ia % 2 ^ 40, state := if x.stepping then 5 else 2, stepping := false }).evc (128 + c)

/-- A context waits: in WAIT (3) or STALL (4), with the register its instruction will write. -/
def State.stall (s : State) (c : Nat) (rd : BitVec 5) (st : Nat) (w : CoreWait) : State :=
  s.modCore c fun x => { x with state := st, wait := w, rd := rd.toNat }

/-- Whether the data an access reads is uncorrectable. (DESIGN CHOICE, log 79) -/
def badData (b : ReadFault) : Bool := match b with | .data _ => true | _ => false

/-! ## Instructions of one kind of processor, and of both (R195) -/

/-- A packet instruction: illegal on a core. `illegal` says that a field that must be zero is not, or is out of range. -/
def State.packetInstr (s : State) (a : Agent) (word : Word) (illegal : Bool) (f : Nat → Ctx → State → State) : State :=
  match a with
  | .engine slice eng c bad => s.runEngine slice eng c bad fun k x s => if illegal then s.raise k 0 else f k x s
  | .core c bad => s.runCore c bad fun _ s => s.coreFault c 0 (some word.toNat)

/-- A system instruction: cause 1 on an engine. `f` is also given the context's number and whether a word it reads is
uncorrectable. (DESIGN CHOICE, log 79) -/
def State.systemInstr (s : State) (a : Agent) (word : Word) (illegal : Bool) (f : Nat → Bool → Core → State → State) : State :=
  match a with
  | .engine slice eng c bad => s.runEngine slice eng c bad fun k _ s => s.raise k 1
  | .core c bad => s.runCore c bad fun x s =>
    if illegal then s.coreFault c 0 (some word.toNat)
    else f c (badData bad) x s

/-- What an instruction of both processors asks of its context: a result, a jump that links rd, the next instruction, or
nothing because it is illegal. -/
inductive Effect where
  | value (rd : BitVec 5) (v : DWord)
  | jump (rd : BitVec 5) (target : DWord)
  | next
  | illegal
  deriving DecidableEq, Repr

/-- Runs an effect in a context of an engine. -/
def State.onEngine (s : State) (k : Nat) (x : Ctx) : Effect → State
  | .value rd v => s.setCtx k (x.setReg rd v).advance
  | .next => s.setCtx k x.advance
  | .jump rd t =>
    if t.toNat % 4 ≠ 0 ∨ 0xFFFFC < t.toNat then s.raise k 4
    else s.setCtx k { (x.setReg rd (BitVec.ofNat 64 (x.ia + 4))) with ia := t.toNat, restarts := 0, lastFault := none }
  | .illegal => s.raise k 0

/-- Runs an effect in a context of a core. -/
def State.onCore (s : State) (c : Nat) (x : Core) (word : Word) : Effect → State
  | .value rd v => s.retire c rd v (x.ia + 4)
  | .next => s.retire c 0 0 (x.ia + 4)
  | .jump rd t =>
    if t.toNat % 4 ≠ 0 ∨ !s.fetchable c x t.toNat then s.coreFault c 4 (some t.toNat)
    else s.retire c rd (BitVec.ofNat 64 (x.ia + 4)) t.toNat
  | .illegal => s.coreFault c 0 (some word.toNat)

/-- An instruction that both processors run: `f` is given the registers and IA. -/
def State.plainInstr (s : State) (a : Agent) (word : Word) (f : (BitVec 5 → DWord) → Nat → Effect) : State :=
  match a with
  | .engine slice eng c bad => s.runEngine slice eng c bad fun k x s => s.onEngine k x (f x.reg x.ia)
  | .core c bad => s.runCore c bad fun x s => s.onCore c x word (f (fun r => x.reg r.toNat) x.ia)

/-! ## The context window (R197, R198) -/

/-- The first address of the row of the window that `n` bytes lie wholly in. (DEDUCED, log 95) -/
def windowRow (a n : Nat) : Option Nat :=
  ([(0x000, 0x040), (0x040, 0x080), (0x080, 0x0C0), (0x0C0, 0x180), (0x180, 0x190), (0x190, 0x1A0), (0x1A0, 0x2A0)].find?
    fun r => decide (r.1 ≤ a ∧ a + n ≤ r.2)).map (·.1)

/-- The bytes of the record copy, 128 of them: those of no record, and of the second slot of an IPv4 record, are zero.
(DEDUCED, log 95) -/
def Ctx.copyBytes (x : Ctx) : List Byte := match x.copy with | some r => padTo 128 r.bytes | none => List.replicate 128 0

/-- A load from the window: none where it faults. -/
def State.windowLoad (s : State) (x : Ctx) (a n : Nat) : Option (List Byte) :=
  let p := s.pkt x.pid
  (windowRow a n).map fun row =>
    match row with
    | 0x000 => sliceBytes p.head.key a n
    | 0x040 | 0x080 => sliceBytes x.copyBytes (a - 0x40) n
    | 0x0C0 => sliceBytes (p.bytes.take 192) (a - 0xC0) n
    | 0x180 => sliceBytes (if p.pass = 1 then [] else p.scratch) (a - 0x180) n
    | 0x190 => (List.range n).map fun i => x.next.get (a - 0x190 + i) 0
    | _ => (List.range n).map fun i => x.scratch.get (a - 0x1A0 + i) 0

/-- Whether a byte of the record copy, by its offset from the copy's start, may not be stored to (R198). -/
def readOnlyByte (v6 : Bool) (o : Nat) : Bool :=
  if v6 then o < 37 || (37 < o && o < 64) || o == 71 || 91 < o
  else o < 13 || o == 14 || o == 15 || o == 23 || 31 < o

/-- Whether a byte of the record copy is one of those that COUNT_ONLY makes read-only (R154). -/
def countedByte (v6 : Bool) (o : Nat) : Bool :=
  if v6 then decide (64 ≤ o ∧ o < 92) else decide (16 ≤ o ∧ o < 32)

/-- The byte that a store leaves in the record copy: in the key flags only PINNED changes (R198), and the reserved bits of the
record flags (2:0) and of the policer (22:17) stay zero (R11, R139–R141). -/
def storedByte (r : Record) (o : Nat) (b : Byte) : Byte :=
  if o = (if r.key.v6 then 37 else 13) then
    BitVec.ofNat 8 (withBits r.keyFlags 5 5 (bitsOf b.toNat 5 5))
  else if o = (if r.key.v6 then 65 else 17) then b &&& 0xF8
  else if o = (if r.key.v6 then 68 else 20) then b &&& 0x81
  else b

/-- Counts an instruction whose record writes are discarded under COUNT_ONLY (R154). -/
def State.roDiscard (s : State) (yes : Bool) : State := if yes then s.inc Reg.FLE_RO_DISCARD else s

/-- Writes bytes of the record copy through the write mask, each an offset and a byte; under COUNT_ONLY, and after FDELETE,
they are discarded. The answer says whether COUNT_ONLY discarded any. -/
def Ctx.writeCopy (x : Ctx) (r : Record) (bs : List (Nat × Byte)) : Bool × Ctx :=
  let kept := if x.countOnly then bs.filter fun e => !countedByte r.key.v6 e.1 else bs
  (decide (kept.length < bs.length),
    if x.deleted then x
    else { x with writes := kept.foldl (fun (t : Table Byte) e => Table.ins t (0x40 + e.1) (storedByte r e.1 e.2)) x.writes })

/-- A store to the window: none where it faults. -/
def State.windowStore (s : State) (x : Ctx) (a : Nat) (bs : List Byte) : Option (Ctx × State) :=
  let put := fun (t : Table Byte) base => ((List.range bs.length).zip bs).foldl (fun (t : Table Byte) e =>
    t.put (a - base + e.1) 0 e.2) t
  match windowRow a bs.length with
  | some 0x040 | some 0x080 =>
    match x.copy with
    | none => none
    | some r =>
      let es := ((List.range bs.length).zip bs).map fun e => (a - 0x40 + e.1, e.2)
      if es.any fun e => readOnlyByte r.key.v6 e.1 then none
      else
        let (d, x) := x.writeCopy r es
        some (x, s.roDiscard d)
  | some 0x190 => some ({ x with next := put x.next 0x190 }, s)
  | some 0x1A0 => some ({ x with scratch := put x.scratch 0x1A0 }, s)
  | _ => none

/-! ## Loads and stores (R197, R520–R522) -/

/-- A read of a context in the control space: an error response raises cause 10. -/
def State.coreCtlRead (s : State) (c : Nat) (rd : BitVec 5) (a ia : Nat) : State :=
  match s.innerRead .kernel a with
  | (some v, t) => t.retire c rd (v.setWidth 64) ia
  | (none, _) => s.coreFault c 10 (some a)

/-- A write of a context in the control space. The instruction completes before what it writes takes effect on the
context. -/
def State.coreCtlWrite (s : State) (c a v ia : Nat) : State :=
  match s.reach .kernel a with
  | none => s.coreFault c 10 (some a)
  | some _ => ((s.retire c 0 0 ia).innerWrite .kernel a v).2

/-- A load of a context of the Glasshouse. The result of a load from package memory arrives later (R520). (DESIGN CHOICE, log
76) -/
def State.coreLoad (s : State) (c : Nat) (bad : Bool) (x : Core) (rd : BitVec 5) (a n : Nat) : State :=
  match s.coreAccess c x false a n with
  | .inl cause => s.coreFault c cause (some a)
  | .inr .control => s.coreCtlRead c rd a (x.ia + 4)
  | .inr w =>
    if bad then s.memError c false a
    else
      let v := BitVec.ofNat 64 (beNat (s.memBytes a n))
      if w = .region then (s.coreMem c x false a).stall c rd 4 (.memory v) else s.retire c rd v (x.ia + 4)

/-- A store of a context of the Glasshouse. (DESIGN CHOICE, log 76) -/
def State.coreStore (s : State) (c : Nat) (bad : Bool) (x : Core) (v : DWord) (a n : Nat) : State :=
  match s.coreAccess c x true a n with
  | .inl cause => s.coreFault c cause (some a)
  | .inr .control => s.coreCtlWrite c a (v.toNat % 2 ^ 32) (x.ia + 4)
  | .inr w =>
    if bad then s.memError c false a
    else
      let s := if w = .region then s.coreMem c x true a else s
      (s.setMemBytes a (beBytes n v.toNat)).retire c 0 0 (x.ia + 4)

/-- A load of `n` bytes at rs1 + sext(imm). -/
def State.loadInstr (s : State) (a : Agent) (n : Nat) (rd rs1 : BitVec 5) (imm : BitVec 16) : State :=
  match a with
  | .engine slice eng c bad => s.runEngine slice eng c bad fun k x s =>
    match s.windowLoad x (x.reg rs1 + sext imm).toNat n with
    | some bs => s.setCtx k (x.setReg rd (BitVec.ofNat 64 (beNat bs))).advance
    | none => s.raise k 2
  | .core c bad => s.runCore c bad fun x s => s.coreLoad c (badData bad) x rd (x.reg rs1.toNat + sext imm).toNat n

/-- A store of the low `n` bytes of rs2 at rs1 + sext(imm). -/
def State.storeInstr (s : State) (a : Agent) (n : Nat) (rs1 rs2 : BitVec 5) (imm : BitVec 16) : State :=
  match a with
  | .engine slice eng c bad => s.runEngine slice eng c bad fun k x s =>
    match s.windowStore x (x.reg rs1 + sext imm).toNat (beBytes n (x.reg rs2).toNat) with
    | some (x, s) => s.setCtx k x.advance
    | none => s.raise k 3
  | .core c bad => s.runCore c bad fun x s =>
    s.coreStore c (badData bad) x (x.reg rs2.toNat) (x.reg rs1.toNat + sext imm).toNat n

end Sys2Proof.Machine
end

