-- ==== Sys2Proof/Machine/Trowel.lean ====
section
/-! DEFINITION. The instructions that engines and cores share (R192–R198): arithmetic, loads and stores, branches, and the
packet-context registers. -/

namespace Sys2Proof.Machine

/-! ## Arithmetic (R195, R196) -/

/-- An instruction of the ALU group. -/
def State.alu (s : State) (fn : Nat) (a : Agent) (rd rs1 rs2 : BitVec 5) (f : DWord → DWord → DWord) : State :=
  s.plainInstr a (wordA 0x00 fn rd rs1 rs2) fun r _ => .value rd (f (r rs1) (r rs2))

/-- An instruction of the ALU group with one operand: rs2 is zero. -/
def State.alu1 (s : State) (fn : Nat) (a : Agent) (rd rs1 rs2 : BitVec 5) (f : DWord → DWord) : State :=
  s.plainInstr a (wordA 0x00 fn rd rs1 rs2) fun r _ => if rs2 = 0 then .value rd (f (r rs1)) else .illegal

/-- An instruction with a constant. -/
def State.aluK (s : State) (op : Nat) (a : Agent) (rd rs1 : BitVec 5) (imm : BitVec 16) (f : DWord → DWord) : State :=
  s.plainInstr a (wordK op imm rs1 rd) fun r _ => .value rd (f (r rs1))

/-- A shift by a constant: imm[15:6] is zero. -/
def State.shiftK (s : State) (op : Nat) (a : Agent) (rd rs1 : BitVec 5) (imm : BitVec 16) (f : DWord → Nat → DWord) : State :=
  s.plainInstr a (wordK op imm rs1 rd) fun r _ => if imm.toNat < 64 then .value rd (f (r rs1) imm.toNat) else .illegal

/-- The amount of a shift by a register: its low 6 bits (R192). -/
def shiftOf (v : DWord) : Nat := v.toNat % 64

/-- One when a condition holds, else zero. -/
def flagWord (b : Bool) : DWord := if b then 1 else 0

/-- The high 64 bits of an unsigned product. -/
def mulHigh (x y : DWord) : DWord := BitVec.ofNat 64 (x.toNat * y.toNat / 2 ^ 64)

/-- The number of leading zeros, 0–64. -/
def leadingZeros (v : DWord) : DWord := BitVec.ofNat 64 (if v = 0 then 64 else 63 - Nat.log2 v.toNat)

/-- The number of ones. -/
def onesIn (v : DWord) : DWord := BitVec.ofNat 64 ((List.range 64).filter fun i => bitAt v.toNat i).length

/-- ADD (R196). -/
def execAdd (a : Agent) (rd rs1 rs2 : BitVec 5) (s : State) : Res :=
  .next (s.begin.alu 0x000 a rd rs1 rs2 (fun x y => x + y))

/-- SUB (R196). -/
def execSub (a : Agent) (rd rs1 rs2 : BitVec 5) (s : State) : Res :=
  .next (s.begin.alu 0x001 a rd rs1 rs2 (fun x y => x - y))

/-- AND (R196). -/
def execAnd (a : Agent) (rd rs1 rs2 : BitVec 5) (s : State) : Res :=
  .next (s.begin.alu 0x002 a rd rs1 rs2 (fun x y => x &&& y))

/-- OR (R196). -/
def execOr (a : Agent) (rd rs1 rs2 : BitVec 5) (s : State) : Res :=
  .next (s.begin.alu 0x003 a rd rs1 rs2 (fun x y => x ||| y))

/-- XOR (R196). -/
def execXor (a : Agent) (rd rs1 rs2 : BitVec 5) (s : State) : Res :=
  .next (s.begin.alu 0x004 a rd rs1 rs2 (fun x y => x ^^^ y))

/-- SHL (R196). -/
def execShl (a : Agent) (rd rs1 rs2 : BitVec 5) (s : State) : Res :=
  .next (s.begin.alu 0x005 a rd rs1 rs2 (fun x y => x <<< shiftOf y))

/-- SHR (R196). -/
def execShr (a : Agent) (rd rs1 rs2 : BitVec 5) (s : State) : Res :=
  .next (s.begin.alu 0x006 a rd rs1 rs2 (fun x y => x >>> shiftOf y))

/-- SAR (R196). -/
def execSar (a : Agent) (rd rs1 rs2 : BitVec 5) (s : State) : Res :=
  .next (s.begin.alu 0x007 a rd rs1 rs2 (fun x y => x.sshiftRight (shiftOf y)))

/-- CLT (R196). -/
def execClt (a : Agent) (rd rs1 rs2 : BitVec 5) (s : State) : Res :=
  .next (s.begin.alu 0x008 a rd rs1 rs2 (fun x y => flagWord (x.slt y)))

/-- CLTU (R196). -/
def execCltu (a : Agent) (rd rs1 rs2 : BitVec 5) (s : State) : Res :=
  .next (s.begin.alu 0x009 a rd rs1 rs2 (fun x y => flagWord (x.ult y)))

/-- MUL (R196). -/
def execMul (a : Agent) (rd rs1 rs2 : BitVec 5) (s : State) : Res :=
  .next (s.begin.alu 0x00A a rd rs1 rs2 (fun x y => x * y))

/-- MULHI (R196). -/
def execMulhi (a : Agent) (rd rs1 rs2 : BitVec 5) (s : State) : Res :=
  .next (s.begin.alu 0x00B a rd rs1 rs2 mulHigh)

/-- UMIN (R196). -/
def execUmin (a : Agent) (rd rs1 rs2 : BitVec 5) (s : State) : Res :=
  .next (s.begin.alu 0x00C a rd rs1 rs2 (fun x y => if x.ult y then x else y))

/-- UMAX (R196). -/
def execUmax (a : Agent) (rd rs1 rs2 : BitVec 5) (s : State) : Res :=
  .next (s.begin.alu 0x00D a rd rs1 rs2 (fun x y => if x.ult y then y else x))

/-- LZC (R196). -/
def execLzc (a : Agent) (rd rs1 rs2 : BitVec 5) (s : State) : Res :=
  .next (s.begin.alu1 0x00E a rd rs1 rs2 leadingZeros)

/-- POPCNT (R196). -/
def execPopcnt (a : Agent) (rd rs1 rs2 : BitVec 5) (s : State) : Res :=
  .next (s.begin.alu1 0x00F a rd rs1 rs2 onesIn)

/-- ADDK (R195). -/
def execAddk (a : Agent) (rd rs1 : BitVec 5) (imm : BitVec 16) (s : State) : Res :=
  .next (s.begin.aluK 0x01 a rd rs1 imm fun x => x + sext imm)

/-- ANDK (R195). -/
def execAndk (a : Agent) (rd rs1 : BitVec 5) (imm : BitVec 16) (s : State) : Res :=
  .next (s.begin.aluK 0x02 a rd rs1 imm fun x => x &&& zext imm)

/-- ORK (R195). -/
def execOrk (a : Agent) (rd rs1 : BitVec 5) (imm : BitVec 16) (s : State) : Res :=
  .next (s.begin.aluK 0x03 a rd rs1 imm fun x => x ||| zext imm)

/-- XORK (R195). -/
def execXork (a : Agent) (rd rs1 : BitVec 5) (imm : BitVec 16) (s : State) : Res :=
  .next (s.begin.aluK 0x04 a rd rs1 imm fun x => x ^^^ zext imm)

/-- SHLK (R195). -/
def execShlk (a : Agent) (rd rs1 : BitVec 5) (imm : BitVec 16) (s : State) : Res :=
  .next (s.begin.shiftK 0x05 a rd rs1 imm fun x n => x <<< n)

/-- SHRK (R195). -/
def execShrk (a : Agent) (rd rs1 : BitVec 5) (imm : BitVec 16) (s : State) : Res :=
  .next (s.begin.shiftK 0x06 a rd rs1 imm fun x n => x >>> n)

/-- SARK (R195). -/
def execSark (a : Agent) (rd rs1 : BitVec 5) (imm : BitVec 16) (s : State) : Res :=
  .next (s.begin.shiftK 0x07 a rd rs1 imm fun x n => x.sshiftRight n)

/-- CLTK (R195). -/
def execCltk (a : Agent) (rd rs1 : BitVec 5) (imm : BitVec 16) (s : State) : Res :=
  .next (s.begin.aluK 0x08 a rd rs1 imm fun x => flagWord (x.slt (sext imm)))

/-- CLTUK (R195). -/
def execCltuk (a : Agent) (rd rs1 : BitVec 5) (imm : BitVec 16) (s : State) : Res :=
  .next (s.begin.aluK 0x09 a rd rs1 imm fun x => flagWord (x.ult (sext imm)))

/-! ## Fields (R195) -/

/-- INSH (R195): inserts a half-word. -/
def execInsh (a : Agent) (rd : BitVec 5) (sh : BitVec 2) (imm : BitVec 16) (s : State) : Res :=
  .next (s.begin.plainInstr a (wordH 0x0A imm sh rd) fun r _ =>
    .value rd (BitVec.ofNat 64 (withBits (r rd).toNat (16 * sh.toNat + 15) (16 * sh.toNat) imm.toNat)))

/-- FXT (R195): extracts a field of lenM1 + 1 bits. -/
def execFxt (a : Agent) (rd rs1 : BitVec 5) (pos lenM1 : BitVec 6) (s : State) : Res :=
  .next (s.begin.plainInstr a (wordF 0x0B pos lenM1 rs1 rd) fun r _ =>
    if 64 ≤ pos.toNat + lenM1.toNat then .illegal
    else .value rd (BitVec.ofNat 64 (bitsOf (r rs1).toNat (pos.toNat + lenM1.toNat) pos.toNat)))

/-- FDP (R195): deposits a field of lenM1 + 1 bits. -/
def execFdp (a : Agent) (rd rs1 : BitVec 5) (pos lenM1 : BitVec 6) (s : State) : Res :=
  .next (s.begin.plainInstr a (wordF 0x0C pos lenM1 rs1 rd) fun r _ =>
    if 64 ≤ pos.toNat + lenM1.toNat then .illegal
    else .value rd (BitVec.ofNat 64 (withBits (r rd).toNat (pos.toNat + lenM1.toNat) pos.toNat (r rs1).toNat)))

/-! ## Packet-context registers (R193) -/

/-- pc_status. (DEDUCED, log 42) -/
def State.pcStatus (s : State) (x : Ctx) : Nat :=
  let p := s.pkt x.pid
  let w := p.rule.getD 0
  let v6 := match x.record with | some r => r.key.v6 | none => false
  ofBool x.present + 2 * ofBool v6 + 4 * ofBool (bitAt w 59) + 8 * ofBool (bitAt w 60) + 16 * ofBool p.ended
    + 32 * ofBool (p.ended && p.good) + 64 * ofBool (s.opCreated x) + 128 * ofBool x.countOnly

/-- The clocks charged to a program now, a free value between its bounds, and the context that has been charged them: what a
program costs beyond one clock for each instruction the spec does not fix (R203). -/
def State.chargedNow (s : State) (x : Ctx) : Ctx × State :=
  let (v, s) := s.free
  let top := min x.budget (x.chargedHigh s.coreNow)
  ({ x with charged := x.charged + v.toNat % (top - x.charged + 1) }, s)

/-- A packet-context register, and the context after its read. pc_left counts down the charged clocks (R203). (DEDUCED, log 80) -/
def State.pcReg (s : State) (x : Ctx) (i : Nat) : Option (Nat × Ctx × State) :=
  let p := s.pkt x.pid
  match i with
  | 0 => some (p.inPort, x, s)
  | 1 => some (p.pass, x, s)
  | 2 => some (s.pcStatus x, x, s)
  | 3 => some (if p.ended then p.len else 0, x, s)
  | 4 => some (p.rule.getD 0, x, s)
  | 5 => some (p.head.hash, x, s)
  | 6 => some (p.rx.sec % 2 ^ 32 * 2 ^ 32 + p.rx.ns, x, s)
  | 7 => some (x.arg, x, s)
  | 8 => some (x.prog, x, s)
  | 9 => some (ofBool x.dir, x, s)
  | 10 => some (p.epochs.rule, x, s)
  | 11 => some (x.tc, x, s)
  | 12 => some (x.pol, x, s)
  | 13 =>
    let (x, s) := s.chargedNow x
    some (x.budget - x.charged, x, s)
  | _ => none

/-- MFPC (R193). -/
def execMfpc (a : Agent) (rd rs1 : BitVec 5) (imm : BitVec 16) (s : State) : Res :=
  .next (s.begin.packetInstr a (wordK 0x0D imm rs1 rd) (rs1 != 0) fun k x s =>
    match s.pcReg x imm.toNat with
    | some (v, x, s) => s.setCtx k (x.setReg rd (BitVec.ofNat 64 v)).advance
    | none => s.raise k 0)

/-- MTPC (R193): only pc_tc can be written. -/
def execMtpc (a : Agent) (rd rs1 : BitVec 5) (imm : BitVec 16) (s : State) : Res :=
  .next (s.begin.packetInstr a (wordK 0x0E imm rs1 rd) (rd != 0 || imm != 11) fun k x s =>
    s.setCtx k { x with tc := (x.reg rs1).toNat % 8 }.advance)

/-! ## Loads and stores (R197, R198, R520) -/

/-- LDB (R197, R520). -/
def execLdb (a : Agent) (rd rs1 : BitVec 5) (imm : BitVec 16) (s : State) : Res :=
  .next (s.begin.loadInstr a 1 rd rs1 imm)

/-- LDH (R197, R520). -/
def execLdh (a : Agent) (rd rs1 : BitVec 5) (imm : BitVec 16) (s : State) : Res :=
  .next (s.begin.loadInstr a 2 rd rs1 imm)

/-- LDW (R197, R520). -/
def execLdw (a : Agent) (rd rs1 : BitVec 5) (imm : BitVec 16) (s : State) : Res :=
  .next (s.begin.loadInstr a 4 rd rs1 imm)

/-- LDD (R197, R520). -/
def execLdd (a : Agent) (rd rs1 : BitVec 5) (imm : BitVec 16) (s : State) : Res :=
  .next (s.begin.loadInstr a 8 rd rs1 imm)

/-- STB (R197, R198, R520). -/
def execStb (a : Agent) (rs1 rs2 : BitVec 5) (imm : BitVec 16) (s : State) : Res :=
  .next (s.begin.storeInstr a 1 rs1 rs2 imm)

/-- STH (R197, R198, R520). -/
def execSth (a : Agent) (rs1 rs2 : BitVec 5) (imm : BitVec 16) (s : State) : Res :=
  .next (s.begin.storeInstr a 2 rs1 rs2 imm)

/-- STW (R197, R198, R520). -/
def execStw (a : Agent) (rs1 rs2 : BitVec 5) (imm : BitVec 16) (s : State) : Res :=
  .next (s.begin.storeInstr a 4 rs1 rs2 imm)

/-- STD (R197, R198, R520). -/
def execStd (a : Agent) (rs1 rs2 : BitVec 5) (imm : BitVec 16) (s : State) : Res :=
  .next (s.begin.storeInstr a 8 rs1 rs2 imm)

/-! ## Branches and jumps (R195, R206) -/

/-- A compare and branch: the target is the branch's own IA + 4 × sext(off16). -/
def State.branch (s : State) (op : Nat) (a : Agent) (rs1 rs2 : BitVec 5) (off : BitVec 16) (f : DWord → DWord → Bool) : State :=
  s.plainInstr a (wordK op off rs1 rs2) fun r ia =>
    if f (r rs1) (r rs2) then .jump 0 (BitVec.ofNat 64 ia + 4 * sext off) else .next

/-- BR.EQ (R195). -/
def execBrEq (a : Agent) (rs1 rs2 : BitVec 5) (off : BitVec 16) (s : State) : Res :=
  .next (s.begin.branch 0x18 a rs1 rs2 off fun x y => x == y)

/-- BR.NE (R195). -/
def execBrNe (a : Agent) (rs1 rs2 : BitVec 5) (off : BitVec 16) (s : State) : Res :=
  .next (s.begin.branch 0x19 a rs1 rs2 off fun x y => x != y)

/-- BR.LTS (R195). -/
def execBrLts (a : Agent) (rs1 rs2 : BitVec 5) (off : BitVec 16) (s : State) : Res :=
  .next (s.begin.branch 0x1A a rs1 rs2 off fun x y => x.slt y)

/-- BR.GES (R195). -/
def execBrGes (a : Agent) (rs1 rs2 : BitVec 5) (off : BitVec 16) (s : State) : Res :=
  .next (s.begin.branch 0x1B a rs1 rs2 off fun x y => !x.slt y)

/-- BR.LTU (R195). -/
def execBrLtu (a : Agent) (rs1 rs2 : BitVec 5) (off : BitVec 16) (s : State) : Res :=
  .next (s.begin.branch 0x1C a rs1 rs2 off fun x y => x.ult y)

/-- BR.GEU (R195). -/
def execBrGeu (a : Agent) (rs1 rs2 : BitVec 5) (off : BitVec 16) (s : State) : Res :=
  .next (s.begin.branch 0x1D a rs1 rs2 off fun x y => !x.ult y)

/-- CALL (R195): g31 takes the return address. -/
def execCall (a : Agent) (off : BitVec 26) (s : State) : Res :=
  .next (s.begin.plainInstr a (wordL 0x1E off) fun _ ia => .jump 31 (BitVec.ofNat 64 ia + 4 * off.signExtend 64))

/-- JMPR (R195). -/
def execJmpr (a : Agent) (rd rs1 : BitVec 5) (imm : BitVec 16) (s : State) : Res :=
  .next (s.begin.plainInstr a (wordK 0x1F imm rs1 rd) fun r _ => .jump rd (r rs1 + sext imm))

end Sys2Proof.Machine
end

