-- ==== Sys2Proof/Machine/Units.lean ====
section
/-! DEFINITION. What the units do for the unit instructions (R199–R202): creation and deletion, the policers, the table lookups,
NATMAP, NATREL and LBSEL, and what a program asks of the egress side. -/

namespace Sys2Proof.Machine

/-- A unit instruction commits a result. (DESIGN CHOICE, log 53) -/
def State.unitDone (s : State) (k : Nat) (x : Ctx) (rd : BitVec 5) (v : Nat) : State :=
  s.setCtx k (x.setReg rd (BitVec.ofNat 64 v)).advance

/-- What a unit makes of a request: its reply with the context and the state it leaves, a unit error, or nothing yet. -/
inductive UnitResult where
  | done (v : Nat) (x : Ctx) (s : State)
  | error (s : State)
  | later

/-- A result commits in its instruction (R199, R214): a unit error raises cause 6, and an instruction whose answer must be
waited for does not issue: `s` is the state before it. -/
def UnitResult.commit (s : State) (k : Nat) (rd : BitVec 5) : UnitResult → State
  | .done v x t => t.unitDone k x rd v
  | .error t => t.raise k 6
  | .later => s

/-! ## FCREATE and FDELETE (R151, R156, R202) -/

/-- The bucket unit's creation queue takes 4,096 requests (R156). -/
def creationPlaces : Nat := 4096

/-- The checks of R156 that are decided at the request, and the request: the status, or none where it waits in the creation
queue. (DEDUCED, log 41) -/
def State.askCreation (s : State) (x : Ctx) : Option Nat × State :=
  let p := s.pkt x.pid
  let w := p.rule.getD 0
  match p.op with
  | none => (some 1, s)
  | some id =>
    if !bitAt w 60 then (some 1, s)
    else if x.present then (some 7, s)
    else if !bitAt w 59 then (some 1, s)
    else if p.flow = .refused 1 then (some 5, s)
    else
      match (s.op id).creation with
      | .status n => (some n, s)
      | .queued => (none, s)
      | .none =>
        if creationPlaces ≤ s.fle.creations.length then
          (some 6, (s.modOp id fun o => { o with creation := .status 6 }).inc Reg.FLE_CREATE_FAIL)
        else
          let s := s.modOp id fun o => { o with creation := .queued }
          (none, { s with fle := { s.fle with creations := s.fle.creations ++ [id] } })

/-- Status 0 shows the new record to its program (R198). -/
def State.showCreated (s : State) (x : Ctx) : Ctx :=
  match (s.pkt x.pid).op with
  | some id => { x with created := true, record := if x.created then x.record else some (s.newRecord (s.op id)).blank }
  | none => x

/-- FCREATE commits its status, or waits for it. -/
def State.creationReply (s : State) (k : Nat) (x : Ctx) (rd : BitVec 5) : State :=
  match s.askCreation x with
  | (some 0, s) => s.setCtx k (s.showCreated (x.setReg rd 0).advance)
  | (some n, s) => s.unitDone k x rd n
  | (none, s) => s.setCtx k { x with wait := some (0, s.coreNow), rd := rd.toNat }

/-- FDELETE (R199, R202). -/
def State.unitDelete (s : State) (x : Ctx) : UnitResult :=
  if x.record.isNone then .error s else .done 0 { x with deleted := true } s

/-! ## POLICE (R250, R251) -/

/-- The metered length of a packet; none while it must be waited for (R251). (DESIGN CHOICE, log 51) -/
def State.meteredLength (s : State) (p : Packet) : Option Nat :=
  if p.ended then some p.len
  else
    let win := p.bytes.take 192
    let d := (s.classify p.slice (localPort p) win (decide (p.bytes.length ≤ 192))).1
    match d.l3, d.outer with
    | some o, some i => some (max 64 (if i.v6 then o + 40 + beAt win (o + 4) 2 + 4 else o + beAt win (o + 2) 2 + 4))
    | _, _ => none

/-- The policer that POLICE meters: the effective one where it names none. -/
def Ctx.policerOf (x : Ctx) (none' : Bool) (a : DWord) : Option Nat :=
  if none' then (if bitAt x.pol 17 then some (x.pol % 2 ^ 17) else none) else some a.toNat

/-- POLICE (R199, R250, R251) of context k. It waits while another tentative use holds the policer (R252). `fixed` is the length and
the clock of the tentative use that a confirm makes permanent; a configuration write since then has set the buckets after it. -/
def State.unitPolice (s : State) (k : Nat) (x : Ctx) (i : Option Nat) (colour : Nat) (fixed : Option (Nat × Nat) := none) :
    UnitResult :=
  if 2 < colour then .error s
  else
    match i with
    | none => .done 0 x s
    | some i =>
      if 131071 < i then .error s
      else
        match fixed with
        | some (n, t) =>
          if t < (s.policer i).last then .done 0 x s else .done (s.policeAt i n colour t).1 x (s.policeAt i n colour t).2
        | none =>
          if s.claimed (some k) [claimPolicer i] then .later
          else
            match s.meteredLength (s.pkt x.pid) with
            | none => .later
            | some n => .done (s.police i n colour).1 x (s.police i n colour).2

/-! ## Table lookups (R262, R266, R277–R279, R542) -/

/-- What a lookup is given: rs1, the epochs it reads under, the flow hash, the 16 bytes at the address in rs1, and which of
its reads is uncorrectable. (DESIGN CHOICE, log 52) -/
structure Lookup where
  v : Nat
  epochs : Option Epochs
  hash : Nat
  bytes : Option (List Byte)
  bad : Option Nat

/-- Which read of a lookup is uncorrectable. -/
def badRead (b : ReadFault) : Option Nat := match b with | .data n => some n | _ => none

/-- What an engine's lookup is given. -/
def State.lookupOf (s : State) (x : Ctx) (bad : Option Nat) (a : DWord) : Lookup :=
  let p := s.pkt x.pid
  { v := a.toNat, epochs := some p.epochs, hash := p.head.hash, bytes := s.windowLoad x a.toNat 16, bad := bad }

/-- A lookup of an engine. -/
def unitLookup (x : Ctx) (r : Option Nat × State) : UnitResult :=
  match r with
  | (some n, s) => .done n x s
  | (none, s) => .error s

/-- L2 (R266). -/
def State.lookL2 (q : Lookup) (s : State) : Option Nat × State :=
  if q.v < 2 ^ 60 then s.l2Lookup q.epochs (q.v / 2 ^ 48) (q.v % 2 ^ 48) q.bad else (none, s)

/-- LPM4 (R277). -/
def State.lookLpm4 (q : Lookup) (s : State) : Option Nat × State :=
  if q.v < 2 ^ 32 then s.lpmLookup q.epochs 0 q.v q.bad else (none, s)

/-- LPM6 (R277). -/
def State.lookLpm6 (q : Lookup) (s : State) : Option Nat × State :=
  match q.bytes with | some bs => s.lpmLookup q.epochs 1 (beNat bs) q.bad | none => (none, s)

/-- NHOP (R278): none, which is the error flag, when the entry's word reads uncorrectable (R285). -/
def State.lookNhop (q : Lookup) (s : State) : Option Nat × State :=
  (if q.v ≤ 65535 ∧ q.bad = none then some (s.nextHop q.v).word else none, s)

/-- ECMP (R279, R542): none when the group's word reads uncorrectable (R285). -/
def State.lookEcmp (q : Lookup) (s : State) : Option Nat × State :=
  (if q.v ≤ 4095 ∧ q.bad = none then some (s.ecmpWord q.v (hashHi q.hash) (hashLo q.hash)) else none, s)

/-! ## Translation and balancing (R236–R240, R246, R247) -/

/-- Offsets in the record copy of the flags byte, the translated address, the translated port and the link (R139, R141). -/
def flagsAt (v6 : Bool) : Nat := if v6 then 65 else 17
@[inherit_doc flagsAt] def xaddrAt (v6 : Bool) : Nat := if v6 then 72 else 24
@[inherit_doc flagsAt] def xportAt (v6 : Bool) : Nat := if v6 then 88 else 28
@[inherit_doc flagsAt] def memberAt (v6 : Bool) : Nat := if v6 then 90 else 30

/-- Bytes with their offsets. -/
def bytesAt (o n v : Nat) : List (Nat × Byte) := ((List.range n).zip (beBytes n v)).map fun e => (o + e.1, e.2)

/-- The writes of a flags byte, a translated address, a translated port and a link; none leaves a field alone. -/
def xlateWrites (r : Record) (flags : Nat) (addr port : Option Nat) (link : Nat) : List (Nat × Byte) :=
  let v6 := r.key.v6
  bytesAt (flagsAt v6) 1 flags
    ++ (match addr with | some a => bytesAt (xaddrAt v6) (if v6 then 16 else 4) a | none => [])
    ++ (match port with | some q => bytesAt (xportAt v6) 2 q | none => [])
    ++ bytesAt (memberAt v6) 2 link

/-- Writes record bytes of a unit's request. -/
def State.written (s : State) (x : Ctx) (r : Record) (bs : List (Nat × Byte)) (v : Nat) : UnitResult :=
  .done v (x.writeCopy r bs).2 (s.roDiscard (x.writeCopy r bs).1)

/-- A unit instruction that writes record bytes commits. -/
def State.unitWrites (s : State) (k : Nat) (x : Ctx) (r : Record) (bs : List (Nat × Byte)) (rd : BitVec 5) (v : Nat) : State :=
  (s.roDiscard (x.writeCopy r bs).1).unitDone k (x.writeCopy r bs).2 rd v

/-- The source and the destination endpoint of a packet, in its key vector after R106. -/
def Parsed.ends (h : Parsed) : (Nat × Nat) × (Nat × Nat) :=
  let a := (h.flowKey.addrA, h.flowKey.portA)
  let b := (h.flowKey.addrB, h.flowKey.portB)
  if h.srcIsA then (a, b) else (b, a)

/-- Whether an outbound NATMAP of a record answers the mapping it has (R236). -/
def Record.keepsMapping (r : Record) (inbound : Bool) : Bool := !inbound && r.hasRef && !bitAt r.member 15

/-- The mapping that NATMAP answers for a record's packet, and what becomes of the tables (R236, R237, R242). -/
def State.natSide (s : State) (x : Ctx) (r : Record) (inbound : Bool) (pool : Nat) (fixed : Option NatReply) : NatReply × State :=
  let h := (s.pkt x.pid).head
  let key := h.flowKey
  let ((sa, sp), (da, dp)) := h.ends
  let ok := (key.proto == 6 || key.proto == 17) && !bitAt (beAt h.key 2 2) 13 && beAt h.key 7 1 == 16
  if r.keepsMapping inbound then ({ addr := r.xaddr, port := r.xport, hairpin := s.isPublic da }, s)
  else if inbound then s.natIn ok key.zone sa da dp key.proto pool fixed
  else s.natOut ok key.zone sa sp da key.proto pool fixed

/-- What NATMAP holds reserved from its tentative answer on (R237, R238). -/
def State.natClaims (s : State) (x : Ctx) (r : Record) (inbound : Bool) (pool : Nat) : List (Nat × Nat) :=
  let h := (s.pkt x.pid).head
  let key := h.flowKey
  let ((sa, sp), (da, dp)) := h.ends
  if r.keepsMapping inbound then []
  else if inbound then s.inClaims da dp pool
  else
    let v := s.natSide x r inbound pool none
    s.outClaims v.2 key.zone sa sp key.proto pool v.1

/-- NATMAP with a record (R236, R237, R242). -/
def State.natMap (s : State) (x : Ctx) (r : Record) (inbound : Bool) (pool : Nat) (fixed : Option NatReply) : UnitResult :=
  let dp := (s.pkt x.pid).head.ends.2.2
  let flags := setBit r.flags bXlated true
  let (v, s) := s.natSide x r inbound pool fixed
  if r.keepsMapping inbound then s.written x r (xlateWrites r flags (some r.xaddr) (some r.xport) r.member) v.word
  else if v.status ≠ 0 then .done v.word x s
  else
    let x := { x with natTaken := x.natTaken ++ [(v.idx, if inbound then dp else v.port)] }
    s.written x r (xlateWrites r flags (some v.addr) (some v.port) (32768 * ofBool inbound + 16384 + v.idx)) v.word

/-- NATMAP (R236) of context k. It waits while another tentative request holds what it needs (R237, R238). -/
def State.unitNatmap (s : State) (k : Nat) (x : Ctx) (a : DWord) (fixed : Option NatReply := none) : UnitResult :=
  let v := a.toNat
  match x.copy with
  | none => .error s
  | some r =>
    if 511 < v ∨ r.flag bBalanced ∨ !s.fb (Fld.XLB_POOL_CFG_EN (v % 256)) then .error s
    else if fixed.isNone && s.claimed (some k) (s.natClaims x r (bitAt v 8) (v % 256)) then .later
    else s.natMap x r (bitAt v 8) (v % 256) fixed

/-- NATREL (R240): it names the endpoint that the record's translation fields hold. -/
def State.unitNatrel (s : State) (x : Ctx) (a : DWord) : UnitResult :=
  let v := a.toNat
  match x.copy with
  | none => .error s
  | some r =>
    if !r.hasRef ∨ r.xaddr ≠ v / 2 ^ 32 ∨ r.xport ≠ v / 2 ^ 16 % 2 ^ 16 then .error s
    else
      s.written { x with natRelease := x.natRelease ++ [r] } r
        (xlateWrites r (setBit r.flags bXlated false) (some 0) (some 0) 0) 0

/-- LBSEL (R246, R247). -/
def State.unitLbsel (s : State) (x : Ctx) (a : DWord) : UnitResult :=
  let g := a.toNat
  let wrong : Bool := match x.copy with
    | some r => r.key.v6 != (s.lbGroup g).v6 || r.flag bXlated
    | none => false
  if 4095 < g ∨ !(s.lbGroup g).en ∨ wrong then .error s
  else
    let p := s.pkt x.pid
    let pinned := match x.copy with | some r => if r.flag bBalanced then some (r.member % 256) else none | none => none
    let v := s.lbSelect g p.head.hash pinned
    let s := s.tableReads 2
    let w := s.lbWord g v
    if v.status ≠ 0 then .done w x ((s.inc Reg.XLB_LB_EMPTY).logLimited 0x0902 g 1 0 fun _ _ => [])
    else
      match x.copy with
      | none => .done w x s
      | some r =>
        if v.keptDown then .done w x s
        else
          let m := s.lbMember g v.member
          let tr := (s.lbGroup g).translate
          let port := if m.port = 0 then p.head.ends.2.2 else m.port
          s.written x r (xlateWrites r (setBit r.flags bBalanced true) (if tr then some m.addr else none)
            (if tr then some port else none) v.member) w

/-! ## The egress side (R199–R201, R333, R377) -/

/-- How many queues a port has. -/
def State.queueCount (s : State) (port : Nat) : Nat := s.fg (Fld.SCH_PORT_CFG_QCOUNT port)

/-- SETQ (R199, R333). -/
def State.unitSetq (s : State) (x : Ctx) (a b : DWord) : UnitResult :=
  if 66 < a.toNat ∨ s.queueCount a.toNat ≤ b.toNat then .error s else .done 0 { x with dest := .queue a.toNat b.toNat } s

/-- RECIRC (R42, R199). -/
def State.unitRecirc (s : State) (x : Ctx) (a : DWord) : UnitResult :=
  if 3 < a.toNat then .error s else .done 0 { x with dest := .recirc a.toNat } s

/-- TOCPU (R199, R333). -/
def State.unitTocpu (s : State) (x : Ctx) (a : DWord) : UnitResult :=
  if s.queueCount 66 ≤ a.toNat then .error s else .done 0 { x with dest := .queue 66 a.toNat } s

/-- DROP (R199, R200). -/
def State.unitDrop (s : State) (x : Ctx) : UnitResult := .done 0 { x with dest := .drop } s

/-- MIRROR (R199, R200): a session already added is ignored. -/
def State.unitMirror (s : State) (x : Ctx) (a : DWord) : UnitResult :=
  if 7 < a.toNat then .error s
  else .done 0 { x with mirrors := if x.mirrors.contains a.toNat then x.mirrors else x.mirrors ++ [a.toNat] } s

/-- TSREQ (R377): the first of a program takes the slice's count. -/
def State.unitTsreq (s : State) (k : Nat) (x : Ctx) (a : DWord) : UnitResult :=
  let v := a.toNat
  if 1 < v then .error s
  else
    match x.tsreq with
    | some (id, _) => .done id { x with tsreq := some (id, v == 1) } s
    | none =>
      let slice := k / 128
      let n := s.trw.tsCount.get slice 0
      let id := slice * 16384 + n
      .done id { x with tsreq := some (id, v == 1) }
        { s with trw := { s.trw with tsCount := s.trw.tsCount.put slice 0 ((n + 1) % 16384) } }

/-- The values an edit takes: those below this bound (R201). -/
def editBound (code : Nat) : Nat :=
  match code with
  | 1 => 2 ^ 12
  | 2 => 2 ^ 3
  | 3 | 0xB => 2 ^ 16
  | 5 | 7 | 0xA => 2 ^ 8
  | 4 | 6 | 8 | 9 => 1
  | _ => 0

/-- The bytes an edit list makes of growth and change (R201). (DEDUCED, log 35) -/
def editsCost (v6 : Bool) (es : List (Nat × Nat)) : Nat := es.foldl (fun n e => n + editCost v6 e.1) 0

/-- EDIT (R201). -/
def State.unitEdit (s : State) (x : Ctx) (a b : DWord) : UnitResult :=
  let code := a.toNat
  let v := b.toNat
  let v6 := match x.record with | some r => r.key.v6 | none => false
  let es := x.edits ++ [(code, v)]
  let needs := (code == 8 || code == 9) && x.record.isNone && !s.opCreated x
  if editBound code ≤ v ∨ needs ∨ 8 < es.length ∨ 64 < editsCost v6 es then .error s
  else .done 0 { x with edits := es } s

end Sys2Proof.Machine
end

