-- ==== Sys2Proof/Machine/GlasshouseInstr.lean ====
section
/-! DEFINITION. The system instructions of the Glasshouse (R522–R541): control registers, waits, tasks, channels, flow requests,
atomics and calls. -/

namespace Sys2Proof.Machine

/-! ## Context control registers (R525) -/

/-- The number of CCRs, the ones that kernel privilege reads and writes, and the read-only ones. -/
def ccrCount : Nat := 19
@[inherit_doc ccrCount] def ccrKernel : List Nat := [1, 2, 3, 4, 5, 13, 14, 15, 16]
@[inherit_doc ccrCount] def ccrReadOnly : List Nat := [0, 8, 9, 10, 17, 18]

/-- The value of a CCR; `now` is the time that the copy of the counter holds (R370, R373), and `open'` what the write-only SIGNAL reads
as, which is not stated. -/
def State.ccr (s : State) (c : Nat) (x : Core) (n : Nat) (now : NetTime) (open' : DWord) : Nat :=
  match n with
  | 0 => c
  | 1 => ofBool x.kern + 2 * ofBool x.pkern + 4 * ofBool x.exc
  | 2 => x.xia
  | 3 => x.xcause
  | 4 => x.xval
  | 5 => x.xentry
  | 6 => x.tmS
  | 7 => x.tmNs
  | 8 => x.nowS
  | 9 => now.frac / 2 ^ 32 * 2 ^ 32 + now.ns
  | 10 => x.evpend
  | 11 => open'.toNat
  | 12 => x.hash.toNat
  | 13 => x.uwin0Base
  | 14 => x.uwin0Size
  | 15 => x.uwin1Base
  | 16 => x.uwin1Size
  | 17 => s.coreCycles
  | 18 => (x.tag.getD 0) * 2 ^ 32 + 2 ^ 31 * ofBool x.tag.isSome + x.task.getD 0
  | _ => 0

/-- Whether a user window may have a base and a size (R525). -/
def State.windowOk (s : State) (base size : Nat) : Bool :=
  decide (base % 4096 = 0 ∧ size % 4096 = 0) && (size == 0 || s.bufferAddr base size)

/-- A write of a CCR that may be written: none where the value raises cause 6. -/
def State.writeCcr (s : State) (c : Nat) (x : Core) (n v : Nat) : Option State :=
  let set := fun (f : Core → Core) => some (s.modCore c f)
  match n with
  | 1 => set fun x => { x with pkern := bitAt v 1, exc := bitAt v 2 }
  | 2 => set fun x => { x with xia := v % 2 ^ 40 / 4 * 4 }
  | 3 => set fun x => { x with xcause := v % 16 }
  | 4 => set fun x => { x with xval := v }
  | 5 => set fun x => { x with xentry := v % 2 ^ 40 / 4 * 4 }
  | 6 => set fun x => { x with tmS := v % 2 ^ 48, armed := false }
  | 7 => if 999999999 < v then none else set fun x => { x with tmNs := v, armed := true }
  | 11 => some (s.pend (v % 32) (2 ^ (32 + bitsOf v 9 5)))
  | 12 => set fun x => { x with hash := BitVec.ofNat 64 v }
  | 13 => if s.windowOk v x.uwin0Size then set fun x => { x with uwin0Base := v } else none
  | 14 => if s.windowOk x.uwin0Base v then set fun x => { x with uwin0Size := v } else none
  | 15 => if s.windowOk v x.uwin1Size then set fun x => { x with uwin1Base := v } else none
  | 16 => if s.windowOk x.uwin1Base v then set fun x => { x with uwin1Size := v } else none
  | _ => some s

/-- An instruction of the CCR group: `f` gives the new value from the old one and rs1, or is absent for a read. -/
def State.ccrInstr (s : State) (fn : Nat) (a : Agent) (rd rs1 rs2 : BitVec 5) (f : Option (Nat → Nat → Nat)) : State :=
  let n := rs2.toNat
  let illegal := decide (ccrCount ≤ n) || (f.isSome && ccrReadOnly.contains n) || (f.isNone && rs1 != 0)
  s.systemInstr a (wordA 0x38 fn rd rs1 rs2) illegal fun c _ x s =>
    if ccrKernel.contains n ∧ !x.kern then s.coreFault c 8 none
    else
      let (now, s) := if n = 9 then s.sampleTime else (s.net, s)
      let (w, s) := if n = 11 then s.free else (0, s)
      let old := s.ccr c x n now w
      match f with
      | none =>
        let s := if n = 9 then s.modCore c fun x => { x with nowS := now.sec } else s
        s.retire c rd (BitVec.ofNat 64 old) (x.ia + 4)
      | some f =>
        match s.writeCcr c x n (f old (x.reg rs1.toNat).toNat) with
        | some s => s.retire c rd (BitVec.ofNat 64 old) (x.ia + 4)
        | none => s.coreFault c 6 none

/-- RDCR (R525). -/
def execRdcr (a : Agent) (rd rs1 rs2 : BitVec 5) (s : State) : Res := .next (s.begin.ccrInstr 0 a rd rs1 rs2 none)

/-- WRCR (R525). -/
def execWrcr (a : Agent) (rd rs1 rs2 : BitVec 5) (s : State) : Res :=
  .next (s.begin.ccrInstr 1 a rd rs1 rs2 (some fun _ v => v))

/-- SETCR (R525). -/
def execSetcr (a : Agent) (rd rs1 rs2 : BitVec 5) (s : State) : Res :=
  .next (s.begin.ccrInstr 2 a rd rs1 rs2 (some fun o v => o ||| v))

/-- CLRCR (R525). -/
def execClrcr (a : Agent) (rd rs1 rs2 : BitVec 5) (s : State) : Res :=
  .next (s.begin.ccrInstr 3 a rd rs1 rs2 (some fun o v => o ^^^ (o &&& v)))

/-! ## Waits (R527, R528) -/

/-- WAITT (R527): a compare that is met ends the wait at TIMER_COMPARE_MET. -/
def execWaitt (a : Agent) (rd rs1 rs2 : BitVec 5) (s : State) : Res :=
  .next (s.begin.systemInstr a (wordA 0x39 0 rd rs1 rs2) (rs1 != 0 || rs2 != 0) fun c _ x s =>
    if x.armed then s.stall c rd 3 .timer else s.retire c rd 1 (x.ia + 4))

/-- WAITE (R528). -/
def execWaite (a : Agent) (rd rs1 rs2 : BitVec 5) (s : State) : Res :=
  .next (s.begin.systemInstr a (wordA 0x39 1 rd rs1 rs2) (rs2 != 0) fun c _ x s =>
    let m := (x.reg rs1.toNat).toNat
    let hit := x.evpend &&& m
    if hit ≠ 0 then
      (s.modCore c fun x => { x with evpend := x.evpend ^^^ hit }).retire c rd (BitVec.ofNat 64 hit) (x.ia + 4)
    else if m = 0 ∧ !x.armed then s.coreFault c 6 none
    else s.stall c rd 3 (.events m))

/-! ## Tasks (R530–R533) -/

/-- POST (R531): with every place held the context waits in STALL. -/
def execPost (a : Agent) (rd rs1 rs2 : BitVec 5) (s : State) : Res :=
  .next (s.begin.systemInstr a (wordA 0x3A 0 rd rs1 rs2) (rs2 != 0) fun c bad x s =>
    let d := (x.reg rs1.toNat).toNat
    if d % 8 ≠ 0 then s.coreFault c 6 none
    else
      match s.coreAccess c x false d 32 with
      | .inl cause => s.coreFault c cause (some d)
      | .inr _ =>
        if bad then s.memError c false d
        else
          let bs := s.memBytes d 32
          match taskOf bs with
          | none => s.coreFault c 6 none
          | some t =>
            if !x.kern && (!t.user || t.level == 31) then s.coreFault c 8 none
            else if s.dispatcherFull then
              { s with glh := { s.glh with postWaits := s.glh.postWaits ++ [c] } }.stall c rd 4 (.post (beNat bs) s.aon)
            else
              let (n, s) := s.addTask t
              s.retire c rd (BitVec.ofNat 64 n) (x.ia + 4))

/-- TASKEND (R533). -/
def execTaskend (a : Agent) (rd rs1 rs2 : BitVec 5) (s : State) : Res :=
  .next (s.begin.systemInstr a (wordA 0x3A 1 rd rs1 rs2) (rd != 0 || rs1 != 0 || rs2 != 0) fun c _ x s =>
    let (n, s) := (s.retire c 0 0 (x.ia + 4)).releaseHolds c
    (s.inc Reg.GLH_TASKEND_REL n).endTask c)

/-! ## Channels (R535–R537) -/

/-- How many slots a context holds RESERVED, or RECEIVED. -/
def State.slotsHeld (s : State) (c : Nat) (received : Bool) : Nat :=
  (s.glh.channels.flatMap fun e => e.2.slots.filter fun x =>
    match x.2 with | .reserved d => !received && d == c | .received d _ => received && d == c | _ => false).length

/-- Why a context may not use a channel, if it may not: the cause of the fault (R524, R536). -/
def State.chanFault (s : State) (x : Core) (ch : Nat) : Option Nat :=
  if 255 < ch then some 6
  else if !x.kern && !s.fb (Fld.GLH_CHAN_CFG_USER ch) then some 8
  else if !s.fb (Fld.GLH_CHAN_CFG_EN ch) then some 6
  else none

/-- CHRES (R536). -/
def execChres (a : Agent) (rd rs1 rs2 : BitVec 5) (s : State) : Res :=
  .next (s.begin.systemInstr a (wordA 0x3B 0 rd rs1 rs2) false fun c _ x s =>
    let ch := (x.reg rs1.toNat).toNat
    let flags := (x.reg rs2.toNat).toNat
    match s.chanFault x ch with
    | some cause => s.coreFault c cause none
    | none =>
      if 1 < flags ∨ 4 ≤ s.slotsHeld c false then s.coreFault c 6 none
      else
        match s.takeSlot ch c with
        | some (v, s) => s.retire c rd (BitVec.ofNat 64 v) (x.ia + 4)
        | none =>
          if flags = 1 then s.retire c rd 0 (x.ia + 4)
          else (s.modChan ch fun y => { y with resWait := y.resWait ++ [c] }).stall c rd 3 (.slot ch))

/-- The channel and the slot that an address names exactly. -/
def slotNamed (a : Nat) : Option (Nat × Nat) :=
  if 0x117C0000 ≤ a ∧ a < 0x11800000 ∧ a % 0x40 = 0 then some (slotOf a) else none

/-- CHCOM (R536, R537): the message is served to the contexts that wait for one, and its commit is signalled. -/
def execChcom (a : Agent) (rd rs1 rs2 : BitVec 5) (s : State) : Res :=
  .next (s.begin.systemInstr a (wordA 0x3B 1 rd rs1 rs2) (rd != 0) fun c _ x s =>
    let len := (x.reg rs2.toNat).toNat
    match slotNamed (x.reg rs1.toNat).toNat with
    | none => s.coreFault c 6 none
    | some (ch, k) =>
      match s.chanFault x ch with
      | some cause => s.coreFault c cause none
      | none =>
        if (s.chan ch).slots.get k .free ≠ .reserved c ∨ len = 0 ∨ 64 < len then s.coreFault c 6 none
        else
          let s := s.modChan ch fun y => { y with slots := y.slots.put k .free (.committed len), order := y.order ++ [k] }
          let s := (s.retire c 0 0 (x.ia + 4)).serveMessages ch 32
          if s.fb (Fld.GLH_CHAN_CFG_SIG ch) then
            s.pend (s.fg (Fld.GLH_CHAN_CFG_SIG_CTX ch)) (2 ^ (32 + s.fg (Fld.GLH_CHAN_CFG_SIG_BIT ch)))
          else s)

/-- CHRCV (R536). -/
def execChrcv (a : Agent) (rd rs1 rs2 : BitVec 5) (s : State) : Res :=
  .next (s.begin.systemInstr a (wordA 0x3B 2 rd rs1 rs2) false fun c _ x s =>
    let ch := (x.reg rs1.toNat).toNat
    let flags := (x.reg rs2.toNat).toNat
    match s.chanFault x ch with
    | some cause => s.coreFault c cause none
    | none =>
      if 1 < flags ∨ 4 ≤ s.slotsHeld c true then s.coreFault c 6 none
      else
        match s.takeOldest ch c with
        | some (v, s) => s.retire c rd (BitVec.ofNat 64 v) (x.ia + 4)
        | none =>
          if flags = 1 then s.retire c rd 0 (x.ia + 4)
          else (s.modChan ch fun y => { y with rcvWait := y.rcvWait ++ [c] }).stall c rd 3 (.message ch))

/-- CHREL (R536): the freed slot serves the contexts that wait for one. -/
def execChrel (a : Agent) (rd rs1 rs2 : BitVec 5) (s : State) : Res :=
  .next (s.begin.systemInstr a (wordA 0x3B 3 rd rs1 rs2) (rd != 0 || rs2 != 0) fun c _ x s =>
    match slotNamed (x.reg rs1.toNat).toNat with
    | none => s.coreFault c 6 none
    | some (ch, k) =>
      match s.chanFault x ch with
      | some cause => s.coreFault c cause none
      | none =>
        match (s.chan ch).slots.get k .free with
        | .received d _ =>
          if d = c then (s.retire c 0 0 (x.ia + 4)).freeSlotOf ch k else s.coreFault c 6 none
        | _ => s.coreFault c 6 none)

/-! ## Flow requests (R538–R541) -/

/-- The key a key block of 48 bytes names, ordered as R111 states, or none where the block is not legal (R538). (DESIGN CHOICE, log 77) -/
def blockKey (bs : List Byte) : Option FlowKey :=
  let n := fun o k => beAt bs o k
  let l3 := n 3 1 / 16
  let kind := n 3 1 % 16
  if n 4 4 ≠ 0 ∨ n 44 4 ≠ 0 ∨ (l3 ≠ 1 ∧ l3 ≠ 2) ∨ 2 < kind then none
  else
    let v6 := l3 == 2
    let addr := fun o => if v6 then n o 16 else n (o + 12) 4
    let port := fun o => if kind = 0 then n o 2 else 0
    some (canonicalKey v6 kind (n 0 2) (if kind = 2 then 0 else n 2 1) (addr 8) (addr 24) (port 40) (port 42)).2

/-- Why a flow buffer may not be used, if it may not: aligned to 64 in context memory or shared SRAM (R539). (DESIGN CHOICE,
log 77) -/
def State.bufferFault (s : State) (c : Nat) (x : Core) (store : Bool) (a n : Nat) : Option Nat :=
  if a % 64 ≠ 0 then some 6
  else
    match s.windowOf a n with
    | some (.own _) | some .sram => match s.coreAccess c x store a n with | .inl cause => some cause | .inr _ => none
    | _ => some 6

/-- FGET (R539): the result arrives later. -/
def execFget (a : Agent) (rd rs1 rs2 : BitVec 5) (s : State) : Res :=
  .next (s.begin.systemInstr a (wordA 0x3C 0 rd rs1 rs2) false fun c bad x s =>
    let kb := (x.reg rs1.toNat).toNat
    let buf := (x.reg rs2.toNat).toNat
    if kb % 8 ≠ 0 then s.coreFault c 6 none
    else
      match s.coreAccess c x false kb 48, s.bufferFault c x true buf 128 with
      | .inl cause, _ => s.coreFault c cause (some kb)
      | .inr _, some cause => s.coreFault c cause (some buf)
      | .inr _, none =>
        if bad then s.memError c false kb
        else
          match blockKey (s.memBytes kb 48) with
          | none => s.coreFault c 6 none
          | some key =>
            if x.flow.isSome then s.retire c rd 2 (x.ia + 4)
            else
              let h := s.keyHash key
              let s := (s.stall c rd 4 (.flowGet key h buf)).modCore c fun x => { x with hash := BitVec.ofNat 64 h }
              (s.requestFlow key h noSlice (.glasshouse c) none none []).getD s)

/-- FPUT returns a status, and the flow is released. -/
def State.fputDone (s : State) (c id : Nat) (rd : BitVec 5) (status ia : Nat) : State :=
  ((s.modCore c fun x => { x with flow := none }).retire c rd (BitVec.ofNat 64 status) ia).endOp id

/-- FPUT of a held flow (R540). -/
def State.fput (s : State) (c id : Nat) (x : Core) (rd : BitVec 5) (buf flags : Nat) : State :=
  let o := s.op id
  let ia := x.ia + 4
  if o.role = some false then s.fputDone c id rd 8 ia
  else
    match o.base, o.loc with
    | some r, some (b, k) =>
      if bitAt flags 0 then (s.deleteRecord b k (some 4)).fputDone c id rd 0 ia
      else
        let n := if r.key.v6 then 128 else 64
        (s.commit b k (some r) (r.fput (s.memBytes buf n))).fputDone c id rd 0 ia
    | _, _ =>
      if !bitAt flags 1 then s.fputDone c id rd 9 ia
      else if bitAt flags 0 then s.fputDone c id rd 0 ia
      else if creationPlaces ≤ s.fle.creations.length then (s.inc Reg.FLE_CREATE_FAIL).fputDone c id rd 6 ia
      else
        let s := s.modOp id fun o => { o with creation := .queued }
        { s with fle := { s.fle with creations := s.fle.creations ++ [id] } }.stall c rd 4 (.flowPut buf flags)

/-- FPUT (R540). -/
def execFput (a : Agent) (rd rs1 rs2 : BitVec 5) (s : State) : Res :=
  .next (s.begin.systemInstr a (wordA 0x3C 1 rd rs1 rs2) false fun c bad x s =>
    let buf := (x.reg rs1.toNat).toNat
    let flags := (x.reg rs2.toNat).toNat
    if 3 < flags then s.coreFault c 6 none
    else
      match x.flow with
      | none =>
        (s.modCore c fun x => { x with expired := false }).retire c rd (if x.expired then 7 else 9) (x.ia + 4)
      | some h =>
        match s.bufferFault c x false buf (if (s.op h.op).key.v6 then 128 else 64) with
        | some cause => s.coreFault c cause (some buf)
        | none => if bad then s.memError c false buf else s.fput c h.op x rd buf flags)

/-- FREL (R541). -/
def execFrel (a : Agent) (rd rs1 rs2 : BitVec 5) (s : State) : Res :=
  .next (s.begin.systemInstr a (wordA 0x3C 2 rd rs1 rs2) (rd != 0 || rs1 != 0 || rs2 != 0) fun c _ x s =>
    let s := (s.retire c 0 0 (x.ia + 4)).modCore c fun x => { x with expired := false }
    if x.flow.isSome then s.dropFlow c else s)

/-! ## Atomics (R523) -/

/-- An atomic: `f` gives the new value from the old one, rs2 and rd. -/
def State.atomic (s : State) (fn : Nat) (a : Agent) (rd rs1 rs2 : BitVec 5) (f : DWord → DWord → DWord → DWord) : State :=
  s.systemInstr a (wordA 0x3D fn rd rs1 rs2) false fun c bad x s =>
    let p := (x.reg rs1.toNat).toNat
    let ok : Bool := match s.coreAccess c x false p 8 with | .inr .sram | .inr .region => p % 8 == 0 | _ => false
    if !ok then s.coreFault c 2 (some p)
    else if bad then s.memError c false p
    else
      let old := BitVec.ofNat 64 (beNat (s.memBytes p 8))
      let s := if s.windowOf p 8 = some .region then (s.coreMem c x false p).coreMem c x true p else s
      (s.setMemBytes p (beBytes 8 (f old (x.reg rs2.toNat) (x.reg rd.toNat)).toNat)).retire c rd old (x.ia + 4)

/-- ATADD (R523). -/
def execAtadd (a : Agent) (rd rs1 rs2 : BitVec 5) (s : State) : Res :=
  .next (s.begin.atomic 0 a rd rs1 rs2 fun m v _ => m + v)

/-- ATXCH (R523). -/
def execAtxch (a : Agent) (rd rs1 rs2 : BitVec 5) (s : State) : Res :=
  .next (s.begin.atomic 1 a rd rs1 rs2 fun _ v _ => v)

/-- ATCMPX (R523). -/
def execAtcmpx (a : Agent) (rd rs1 rs2 : BitVec 5) (s : State) : Res :=
  .next (s.begin.atomic 2 a rd rs1 rs2 fun m v d => if m = d then v else m)

/-! ## Calls, returns, ordering and HALT (R522, R524, R526) -/

/-- Whether an operand field of an instruction without operands is not zero. -/
def anyField (rd rs1 rs2 : BitVec 5) : Bool := rd != 0 || rs1 != 0 || rs2 != 0

/-- KCALL raises cause 9 (R526). -/
def execKcall (a : Agent) (rd rs1 rs2 : BitVec 5) (s : State) : Res :=
  .next (s.begin.systemInstr a (wordA 0x3E 0 rd rs1 rs2) (anyField rd rs1 rs2) fun c _ _ s => s.coreFault c 9 none)

/-- KRET (R526). -/
def execKret (a : Agent) (rd rs1 rs2 : BitVec 5) (s : State) : Res :=
  .next (s.begin.systemInstr a (wordA 0x3E 1 rd rs1 rs2) (anyField rd rs1 rs2) fun c _ x s =>
    if !x.kern then s.coreFault c 8 none
    else (s.modCore c fun x => { x with kern := x.pkern, exc := false }).retire c 0 0 x.xia)

/-- ORDER (R522): every access of the model takes effect when its instruction does, so that it only goes on. -/
def execOrder (a : Agent) (rd rs1 rs2 : BitVec 5) (s : State) : Res :=
  .next (s.begin.systemInstr a (wordA 0x3E 2 rd rs1 rs2) (anyField rd rs1 rs2) fun c _ x s => s.retire c 0 0 (x.ia + 4))

/-- HALT (R517, R524). -/
def execHalt (a : Agent) (rd rs1 rs2 : BitVec 5) (s : State) : Res :=
  .next (s.begin.systemInstr a (wordA 0x3E 3 rd rs1 rs2) (anyField rd rs1 rs2) fun c _ x s =>
    if !x.kern then s.coreFault c 8 none
    else (s.retire c 0 0 (x.ia + 4)).modCore c fun x => { x with state := 0 })

end Sys2Proof.Machine
end

