-- ==== Sys2Proof/Machine/Micro.lean ====
section
/-! DEFINITION. The micro-sequencer of the engines (R209–R218): micro-words, the routine of a micro instruction that a patch
changes, its commit, and UNIT_REPLY. -/

namespace Sys2Proof.Machine

/-! ## Micro-words and matches (R209–R212) -/

/-- The word at a micro-address, of ROM or of the patch memory. -/
def State.microWord (s : State) (addr : Nat) : Nat :=
  if addr < 0x2000 then Config.microRom addr else s.trw.patchWords.get (addr - 0x2000) 0

/-- The patch address that the lowest-numbered enabled match register puts in place of a ROM address. -/
def State.microMatch (s : State) (addr : Nat) : Option Nat :=
  (s.trw.patchMatch.find? fun e => bitAt e.2.toNat 31 && bitsOf e.2.toNat 30 18 == addr).map fun e =>
    0x2000 + bitsOf e.2.toNat 8 0

/-- The entry of the ROM routine of a micro instruction. -/
def microEntry (op fn : Nat) : Nat := (Config.microEntry (op * 4096 + fn)).toNat

/-- Whether the patch in force replaces a word of the routine of a micro instruction. (DESIGN CHOICE, log 94) -/
def State.patched (s : State) (op fn : Nat) : Bool :=
  s.trw.patchMatch.any fun e =>
    bitAt e.2.toNat 31 && (bitsOf e.2.toNat 30 18 == microEntry op fn
      || (Config.microRest (op * 4096 + fn)).any fun a => a.toNat == bitsOf e.2.toNat 30 18)

/-- The micro-address the sequencer goes to (R212): none where it leaves ROM or patch memory. A ROM address passes through the
match registers. -/
def State.microGoto (s : State) (next : Nat) : Option Nat :=
  if next = 0x2000 ∨ 0x21FF < next then none
  else if next < 0x2000 then some ((s.microMatch next).getD next)
  else some next

/-- The address after a word that is not the last: the branch target, or the next one (R212). -/
def State.microNext (s : State) (addr w : Nat) (taken : Bool) : Option Nat :=
  s.microGoto (if taken then bitsOf w 47 34 else addr + 1)

/-- A micro-register: m0 and m21–m31 read as zero. -/
def Micro.reg (m : Micro) (r : Nat) : DWord := if r = 0 ∨ 20 < r then 0 else m.regs.get r 0

/-- Writes a micro-register. -/
def Micro.set (m : Micro) (r : Nat) (v : DWord) : Micro := if r = 0 ∨ 20 < r then m else { m with regs := m.regs.put r 0 v }

/-- The ALU function of a micro-word (R196, R210); none where R196 lists no such fn. -/
def microAlu (fn : Nat) (x y : DWord) : Option DWord :=
  match fn with
  | 0 => some (x + y)
  | 1 => some (x - y)
  | 2 => some (x &&& y)
  | 3 => some (x ||| y)
  | 4 => some (x ^^^ y)
  | 5 => some (x <<< shiftOf y)
  | 6 => some (x >>> shiftOf y)
  | 7 => some (x.sshiftRight (shiftOf y))
  | 8 => some (flagWord (x.slt y))
  | 9 => some (flagWord (x.ult y))
  | 10 => some (x * y)
  | 11 => some (mulHigh x y)
  | 12 => some (if x.ult y then x else y)
  | 13 => some (if x.ult y then y else x)
  | 14 => some (leadingZeros x)
  | 15 => some (onesIn x)
  | _ => none

/-- Whether the condition of a branch holds; none for a reserved one. -/
def microCond (cond : Nat) (x y : DWord) (err : Bool) : Option Bool :=
  match cond with
  | 0 => some true
  | 1 => some (x == y)
  | 2 => some (x != y)
  | 3 => some (x.ult y)
  | 4 => some !(x.ult y)
  | 5 => some (x == 0)
  | 6 => some (x != 0)
  | 7 => some err
  | _ => none

/-! ## Requests (R211, R214–R216) -/

/-- What a unit makes of a request. The code of an operation is not in the spec: Config.unitOp gives its place in R199, and a
code of none has a free value for its reply and no effect. -/
def State.unitAnswer (s : State) (k : Nat) (x : Ctx) (q : UnitRequest) : UnitResult :=
  let look := s.lookupOf x none q.a
  match Config.unitOp q.unit q.code with
  | 1 => s.unitDelete x
  | 2 => s.unitPolice k x (x.policerOf q.noPolicer q.a) q.b.toNat q.meter
  | 3 => unitLookup x (s.lookL2 look)
  | 4 => unitLookup x (s.lookLpm4 look)
  | 5 => unitLookup x (s.lookLpm6 look)
  | 6 => unitLookup x (s.lookNhop look)
  | 7 => unitLookup x (s.lookEcmp look)
  | 8 => s.unitNatmap k x q.a q.nat
  | 9 => s.unitNatrel x q.a
  | 10 => s.unitLbsel x q.a
  | 11 => s.unitSetq x q.a q.b
  | 12 => s.unitRecirc x q.a
  | 13 => s.unitTocpu x q.a
  | 14 => s.unitDrop x
  | 15 => s.unitMirror x q.a
  | 16 => s.unitTsreq k x q.a
  | 17 => s.unitEdit x q.a q.b
  | 18 => .done 0 x s
  | _ => .done s.free.1.toNat x s.free.2

/-- What a unit holds for a tentative request that it answers (R237, R238, R252): the mapping or the use that it has answered, and what
is reserved for it. -/
def State.reserved (s : State) (x : Ctx) (q : UnitRequest) : UnitRequest :=
  match Config.unitOp q.unit q.code with
  | 2 =>
    match x.policerOf q.noPolicer q.a with
    | some i => { q with meter := (s.meteredLength (s.pkt x.pid)).map fun n => (n, s.coreNow), claims := [claimPolicer i] }
    | none => q
  | 8 =>
    match x.copy with
    | some r =>
      let ib := bitAt q.a.toNat 8
      let pool := q.a.toNat % 256
      { q with nat := some (s.natSide x r ib pool none).1, claims := s.natClaims x r ib pool }
    | none => q
  | _ => q

/-- The answer of a unit to a tentative request: its value and the ERR flag, which goes with a free value. The unit holds every
change of state until the commit; a creation is reserved at once. -/
def State.askUnit (s : State) (k : Nat) (x : Ctx) (q : UnitRequest) : UnitRequest × State :=
  let q := { q with since := s.coreNow }
  if Config.unitOp q.unit q.code = 0 then
    let r := s.askCreation x
    ({ q with answer := r.1.map fun n => (n, false) }, r.2)
  else
    match s.unitAnswer k x q with
    | .done v _ _ => ({ s.reserved x q with answer := some (v, false) }, s)
    | .error _ => ({ q with answer := some (s.free.1.toNat, true) }, s.free.2)
    | .later => (q, s)

/-- Whether a request still holds a place of its unit: it has not been held for 256 core clocks (R215). -/
def State.holdsPlace (s : State) (q : UnitRequest) : Bool := decide (s.coreNow < q.since + 256)

/-- The tentative requests of a slice's contexts to a unit; it keeps 256 places for each slice (R216). An FCREATE that waits without a
patched routine has one with the flow engine. -/
def State.tentative (s : State) (slice unit : Nat) : Nat :=
  (s.trw.ctxs.filter fun e => e.1 / 128 == slice).foldl (fun n e =>
    match e.2.micro with
    | some m => n + (m.requests.filter fun q => q.unit == unit && s.holdsPlace q).length
    | none => n + ofBool (unit == 0 && e.2.creating)) 0

/-! ## The commit (R214) -/

/-- A unit applies a confirmed request; the answer is the error flag. One that it has held for 256 core clocks is discarded already, and
its confirm is answered with the error flag (R215). -/
def State.confirm (s : State) (k : Nat) (q : UnitRequest) : Bool × State :=
  match s.ctx? k with
  | none => (false, s)
  | some x =>
    if Config.unitOp q.unit q.code = 0 then
      match (s.pkt x.pid).op with
      | some id =>
        if (s.op id).creation = .status 0 ∧ s.holdsPlace q then (false, s.setCtx k (s.showCreated x))
        else if x.created ∨ s.creationShared id k then (!s.holdsPlace q, s)
        else
          let s := { s with fle := { s.fle with creations := s.fle.creations.erase id } }
          if (s.op id).creation = .status 0 ∨ (s.op id).creation = .queued then
            (true, (s.releaseReservation id).modOp id fun o => { o with creation := .none })
          else (!s.holdsPlace q, s)
      | none => (!s.holdsPlace q, s)
    else if !s.holdsPlace q then (true, s)
    else
      match s.unitAnswer k x q with
      | .done _ x t => (false, t.setCtx k x)
      | _ => (false, s)

/-- A staged store is written. One to a byte that the program may not store to is discarded. -/
def State.writeStaged (s : State) (k : Nat) (e : Nat × List Byte) : State :=
  match s.ctx? k with
  | none => s
  | some x => match s.windowStore x e.1 e.2 with | some (x, s) => s.setCtx k x | none => s

/-- The requests of a routine are confirmed in the order they were sent; the answer says whether one came back with the error
flag. -/
def State.confirmAll (s : State) (k : Nat) (qs : List UnitRequest) : Bool × State :=
  qs.foldl (fun (r : Bool × State) q => (r.1 || (r.2.confirm k q).1, (r.2.confirm k q).2)) (false, s)

/-- The commit point of a routine: its requests are confirmed, its staged stores are written, m20 goes to rd, and the restarts no
longer count. The routine goes on with the error flag of its last reply, or of a confirm (R215). -/
def State.commitMicro (s : State) (k : Nat) (m : Micro) : Micro × State :=
  let (err, s) := s.confirmAll k m.requests
  let s := m.staged.foldl (fun s e => s.writeStaged k e) s
  let m := { m with err := m.err || err }
  match s.ctx? k with
  | none => (m, s)
  | some x =>
    (m, s.setCtx k { (x.setReg (BitVec.ofNat 5 m.rd) (m.reg 20)) with
      micro := none, wait := none, reply := none, restarts := 0, lastFault := none })

/-- Whether a routine's confirmed requests end its program: EXIT. -/
def Micro.ends (m : Micro) : Bool := m.requests.any fun q => Config.unitOp q.unit q.code == 18

/-- The routine is done: IA goes on, or the program ends. -/
def State.endMicro (s : State) (k : Nat) (m : Micro) : State :=
  if m.ends then s.finishProgram k
  else match s.ctx? k with | some x => s.setCtx k { x with ia := x.ia + 4 } | none => s

/-- A micro-fault after the commit point quarantines the engine at once (R218). -/
def State.postFault (s : State) (k : Nat) : State := (s.log 0x0804).quarantine (k / 128) (k % 128 / 8)

/-! ## Running a routine (R211–R213, R217) -/

/-- What a micro-word on micro-registers does: the registers after it, and whether a branch is taken; none for a reserved
condition. -/
def State.microRegs (s : State) (m : Micro) (w : Nat) : Option (Micro × Bool) × State :=
  let x := m.reg (bitsOf w 85 81)
  let y := m.reg (bitsOf w 80 76)
  let dst := bitsOf w 75 71
  match bitsOf w 95 92 with
  | 0 =>
    match microAlu (bitsOf w 91 86) x y with
    | some v => (some (m.set dst v, false), s)
    | none => (some (m.set dst s.free.1, false), s.free.2)
  | 1 => (some (m.set dst (BitVec.ofNat 64 (bitsOf w 70 55)), false), s)
  | _ => ((microCond (bitsOf w 51 48) x y m.err).map fun t => (m, t), s)

/-- The words after the commit point, at most as many as the budget gives clocks: ALU, LIT and BR only. -/
def State.microTail (k : Nat) : Nat → State → Micro → State
  | 0, s, _ => s.raise k 5
  | n + 1, s, m =>
    let w := s.microWord m.addr
    let u := bitsOf w 95 92
    if u ≠ 0 ∧ u ≠ 1 ∧ u ≠ 6 then s.postFault k
    else
      match s.microRegs m w with
      | (none, s) => s.postFault k
      | (some (m, taken), s) =>
        if bitAt w 33 then s.endMicro k m
        else
          match s.microNext m.addr w taken with
          | some a => State.microTail k n s { m with addr := a }
          | none => s.postFault k

/-- What one word before the commit point does. -/
inductive MicroStep where
  | go (m : Micro) (taken : Bool) (s : State)
  | stop (s : State)

/-- The units whose requests can wait on package memory: the flow engine, the forwarding tables, NAT and balancing (R203). -/
def readsPackage (unit : Nat) : Bool := unit == 0 || unit == 2 || unit == 3

/-- A context waits for the reply to its last request (R211); with YIELD = 0 its engine issues nothing meanwhile (R213). -/
def State.microWait (s : State) (k : Nat) (x : Ctx) (m : Micro) (w : Nat) : State :=
  let asks := match m.requests.getLast? with | some q => Config.unitOp q.unit q.code == 0 | none => false
  let reads := match m.requests.getLast? with | some q => readsPackage q.unit | none => false
  s.setCtx k { x with micro := some { m with holds := !bitAt w 31 }, wait := some (if asks then 0 else 2, s.coreNow), rd := m.rd,
                      missFrom := if reads then some s.coreNow else x.missFrom }

/-- A micro-word before the commit point (R211). -/
def State.microAct (s : State) (k : Nat) (x : Ctx) (m : Micro) (w : Nat) : MicroStep :=
  let a := m.reg (bitsOf w 85 81)
  let b := m.reg (bitsOf w 80 76)
  let addr := (a + BitVec.ofNat 64 (bitsOf w 70 55)).toNat
  let width := 2 ^ bitsOf w 30 28
  match bitsOf w 95 92 with
  | 0 | 1 | 6 =>
    match s.microRegs m w with
    | (some (m, taken), s) => .go m taken s
    | (none, s) => .stop (s.restartRoutine k (some m.addr))
  | 2 =>
    if 3 < bitsOf w 30 28 then .stop (s.restartRoutine k (some m.addr))
    else
      match s.windowLoad x addr width with
      | some bs => .go (m.set (bitsOf w 75 71) (BitVec.ofNat 64 (beNat bs))) false s
      | none => .stop (s.raise k 2)
  | 3 =>
    if 3 < bitsOf w 30 28 then .stop (s.restartRoutine k (some m.addr))
    else if (windowRow addr width).isNone then .stop (s.raise k 3)
    else .go { m with staged := m.staged ++ [(addr, beBytes width b.toNat)] } false s
  | 4 =>
    let q : UnitRequest := { unit := bitsOf w 54 52, code := bitsOf w 27 20, a := a, b := b, noPolicer := bitsOf w 85 81 == 0 }
    if 256 ≤ (s.setCtx k { x with micro := some m }).tentative (k / 128) q.unit then
      .stop (s.restartRoutine k (some m.addr))
    else
      let r := s.askUnit k x q
      let m := { m with requests := m.requests ++ [r.1] }
      .go m false (r.2.setCtx k { x with micro := some m })
  | 5 =>
    match m.requests.getLast? with
    | some q =>
      match q.answer with
      | some (v, err) => .go { (m.set 19 (BitVec.ofNat 64 v)) with err := err } false s
      | none => .stop (s.microWait k x m w)
    | none => .stop (s.microWait k x m w)
  | 7 => .stop (s.raise k (bitsOf w 57 55))
  | _ => .stop (s.restartRoutine k (some m.addr))

/-- A routine up to its commit point, for at most as many micro-words as the limit of R217 leaves, and on from there. -/
def State.microRun (k : Nat) : Nat → State → Micro → State
  | 0, s, m => s.restartRoutine k (some m.addr)
  | n + 1, s, m =>
    match s.ctx? k with
    | none => s
    | some x =>
      let w := s.microWord m.addr
      match s.microAct k x { m with left := n + 1 } w with
      | .stop s => s
      | .go m taken s =>
        let last := bitAt w 33
        let next := s.microNext m.addr w taken
        if last then (s.commitMicro k m).2.endMicro k m
        else if bitAt w 32 then
          let (m, s) := s.commitMicro k m
          match next with
          | some a => State.microTail k x.budget s { m with addr := a, committed := true }
          | none => s.postFault k
        else
          match next with
          | some a => State.microRun k n s { m with addr := a, left := n }
          | none => s.restartRoutine k (some m.addr)

/-- Enters the routine of a micro instruction that the patch in force changes: m16 and m17 take the operands, m18 the fn.
(DESIGN CHOICE, log 94) -/
def State.enterMicro (s : State) (k op fn : Nat) (rd : BitVec 5) (a b : DWord) : State :=
  let m : Micro := { rd := rd.toNat }
  let m := ((m.set 16 a).set 17 b).set 18 (BitVec.ofNat 64 fn)
  match s.microGoto (microEntry op fn) with
  | some e => State.microRun k m.left s { m with addr := e }
  | none => s.restartRoutine k (some (microEntry op fn))

/-- The micro-words and wait clocks that a routine has left when its wait ends: the clocks of a wait with YIELD = 0 count (R213,
R217). -/
def State.leftAfter (s : State) (x : Ctx) (m : Micro) : Nat :=
  match m.holds, x.wait with | true, some (_, t) => m.left - (s.coreNow - t) | _, _ => m.left

/-- The reply that a routine waits for arrives: the UWAIT goes on. A request that the unit has discarded comes with the error
flag (R215), and one that has waited too long with YIELD = 0 is a micro-fault (R217). -/
def State.resumeMicro (s : State) (k : Nat) (x : Ctx) (m : Micro) : State :=
  match m.requests.getLast? with
  | none => s
  | some q =>
    let r : UnitRequest × State :=
      if Config.unitOp q.unit q.code = 0 then
        ({ q with answer := x.reply.map fun n => (n, match x.wait with | some (1, _) => true | _ => false) }, s)
      else s.askUnit k x q
    if s.leftAfter x m = 0 then s.restartRoutine k (some m.addr)
    else if r.1.answer.isNone then s
    else
      let m := { m with requests := m.requests.dropLast ++ [r.1], left := s.leftAfter x m, holds := false }
      State.microRun k m.left (r.2.setCtx k { (x.endMiss s.coreNow) with micro := some m, wait := none, reply := none }) m

/-! ## Micro instructions (R195, R199) -/

/-- The unit that an instruction's ROM routine asks (R199, R210): the flow engine, the policers, the forwarding tables, NAT and
balancing, or the descriptor. -/
def unitOf (op : Nat) : Nat := match op with | 0x20 => 0 | 0x21 => 1 | 0x22 => 2 | 0x23 => 3 | _ => 4

/-- Whether an instruction's request can wait on package memory: FCREATE, TLOOK, NATMAP and LBSEL (R203). -/
def mayMiss (op fn : Nat) : Bool := (op == 0x20 && fn == 0) || op == 0x22 || (op == 0x23 && fn != 1)

/-- Notes that package memory may be read for an instruction (R203). -/
def Ctx.noteMiss (x : Ctx) (op fn now : Nat) : Ctx := if mayMiss op fn then { x with missFrom := some now } else x

/-- A packet instruction that is a routine of micro-words: `f` is what the rule of the instruction gives its ROM routine. Where the unit
has no tentative place left for the slice, its reply carries RETRY and the routine restarts (R216). -/
def State.microInstr (s : State) (a : Agent) (op fn : Nat) (rd rs1 rs2 : BitVec 5) (illegal : Bool)
    (f : Nat → Ctx → State → State) : State :=
  s.packetInstr a (wordA op fn rd rs1 rs2) illegal fun k x t =>
    if !t.patched op fn && decide (256 ≤ t.tentative (k / 128) (unitOf op)) then t.restartRoutine k (some (microEntry op fn))
    else
      let y := x.noteMiss op fn t.coreNow
      let u := if mayMiss op fn then t.setCtx k y else t
      if t.patched op fn then u.enterMicro k op fn rd (x.reg rs1) (x.reg rs2) else f k y u

/-- A unit instruction whose result commits with it. -/
def State.unitInstr (s : State) (a : Agent) (op fn : Nat) (rd rs1 rs2 : BitVec 5) (illegal : Bool)
    (f : Nat → Ctx → State → UnitResult) : State :=
  s.microInstr a op fn rd rs1 rs2 illegal fun k x t => (f k x t).commit s k rd

/-- UNIT_REPLY: what comes of the routine a context runs (R214–R218). -/
def execUnitReply (slice engine ctx : Nat) (outcome : UnitOutcome) (s : State) : Res :=
  let s := s.begin
  let k := ctxKey slice engine ctx
  if 4 ≤ slice ∨ 16 ≤ engine ∨ 8 ≤ ctx then .next s
  else
    match s.ctx? k with
    | none => .next s
    | some x =>
      match outcome with
      | .reply =>
        let others := s.engineHeld slice engine && !(match x.micro with | some m => m.holds | none => false)
        .next (if others then s else match x.micro with | some m => s.resumeMicro k x m | none => s.commitCreate k)
      | .retry a | .microFault a => .next (s.restartRoutine k (some a))
      | .postCommit _ => .next (s.postFault k)
      | .corrected => .next (s.inc (Reg.TRW_CS_CORR slice))

end Sys2Proof.Machine
end

