-- ==== Sys2Proof/Machine/UnitInstr.lean ====
section
/-! DEFINITION. The unit instructions (R199–R202) and EXIT. -/

namespace Sys2Proof.Machine

/-- FCREATE (R156, R199): the status arrives with CREATION_SERVICE and UNIT_REPLY where it is decided there. -/
def execFcreate (a : Agent) (rd rs1 rs2 : BitVec 5) (s : State) : Res :=
  .next (s.begin.microInstr a 0x20 0 rd rs1 rs2 (rs1 != 0 || rs2 != 0) fun k x s => s.creationReply k x rd)

/-- FDELETE (R199, R202). -/
def execFdelete (a : Agent) (rd rs1 rs2 : BitVec 5) (s : State) : Res :=
  .next (s.begin.unitInstr a 0x20 1 rd rs1 rs2 (rd != 0 || rs1 != 0 || rs2 != 0) fun _ x s => s.unitDelete x)

/-- POLICE (R199, R250, R251). With rs1 = g0 it meters the effective policer, if there is one. -/
def execPolice (a : Agent) (rd rs1 rs2 : BitVec 5) (s : State) : Res :=
  .next (s.begin.unitInstr a 0x21 0 rd rs1 rs2 false fun k x s =>
    s.unitPolice k x (x.policerOf (rs1 == 0) (x.reg rs1)) (x.reg rs2).toNat)

/-- A lookup: `f` answers its result, or none for a unit error. On a core it holds the context in STALL until the result
arrives. (DESIGN CHOICE, log 53) -/
def State.lookupInstr (s : State) (fn : Nat) (a : Agent) (rd rs1 rs2 : BitVec 5) (f : Lookup → State → Option Nat × State) :
    State :=
  match a with
  | .engine _ _ _ bad => s.unitInstr a 0x22 fn rd rs1 rs2 (rs2 != 0) fun _ x s =>
    unitLookup x (f (s.lookupOf x (badRead bad) (x.reg rs1)) s)
  | .core c bad => s.runCore c bad fun x s =>
    if rs2 ≠ 0 then s.coreFault c 0 (some (wordA 0x22 fn rd rs1 rs2).toNat)
    else
      let v := (x.reg rs1.toNat).toNat
      let bytes := match s.coreAccess c x false v 16 with
        | .inr .control | .inl _ => none
        | .inr _ => some (s.memBytes v 16)
      match f { v := v, epochs := none, hash := x.hash.toNat, bytes := bytes, bad := badRead bad } s with
      | (some n, s) => s.stall c rd 4 (.lookup (BitVec.ofNat 64 n))
      | (none, s) => s.coreFault c 6 none

/-- L2 (R266). -/
def execL2 (a : Agent) (rd rs1 rs2 : BitVec 5) (s : State) : Res :=
  .next (s.begin.lookupInstr 0 a rd rs1 rs2 fun q s => s.lookL2 q)

/-- LPM4 (R277). -/
def execLpm4 (a : Agent) (rd rs1 rs2 : BitVec 5) (s : State) : Res :=
  .next (s.begin.lookupInstr 1 a rd rs1 rs2 fun q s => s.lookLpm4 q)

/-- LPM6 (R277). -/
def execLpm6 (a : Agent) (rd rs1 rs2 : BitVec 5) (s : State) : Res :=
  .next (s.begin.lookupInstr 2 a rd rs1 rs2 fun q s => s.lookLpm6 q)

/-- NHOP (R278). -/
def execNhop (a : Agent) (rd rs1 rs2 : BitVec 5) (s : State) : Res :=
  .next (s.begin.lookupInstr 3 a rd rs1 rs2 fun q s => s.lookNhop q)

/-- ECMP (R279, R542). -/
def execEcmp (a : Agent) (rd rs1 rs2 : BitVec 5) (s : State) : Res :=
  .next (s.begin.lookupInstr 4 a rd rs1 rs2 fun q s => s.lookEcmp q)

/-- NATMAP (R236). -/
def execNatmap (a : Agent) (rd rs1 rs2 : BitVec 5) (s : State) : Res :=
  .next (s.begin.unitInstr a 0x23 0 rd rs1 rs2 (rs2 != 0) fun k x s => s.unitNatmap k x (x.reg rs1))

/-- NATREL (R240). -/
def execNatrel (a : Agent) (rd rs1 rs2 : BitVec 5) (s : State) : Res :=
  .next (s.begin.unitInstr a 0x23 1 rd rs1 rs2 (rd != 0 || rs2 != 0) fun _ x s => s.unitNatrel x (x.reg rs1))

/-- LBSEL (R246, R247). -/
def execLbsel (a : Agent) (rd rs1 rs2 : BitVec 5) (s : State) : Res :=
  .next (s.begin.unitInstr a 0x23 2 rd rs1 rs2 (rs2 != 0) fun _ x s => s.unitLbsel x (x.reg rs1))

/-- SETQ (R199, R333). -/
def execSetq (a : Agent) (rd rs1 rs2 : BitVec 5) (s : State) : Res :=
  .next (s.begin.unitInstr a 0x24 0 rd rs1 rs2 (rd != 0) fun _ x s => s.unitSetq x (x.reg rs1) (x.reg rs2))

/-- RECIRC (R42, R199). -/
def execRecirc (a : Agent) (rd rs1 rs2 : BitVec 5) (s : State) : Res :=
  .next (s.begin.unitInstr a 0x24 1 rd rs1 rs2 (rd != 0 || rs2 != 0) fun _ x s => s.unitRecirc x (x.reg rs1))

/-- TOCPU (R199, R333). -/
def execTocpu (a : Agent) (rd rs1 rs2 : BitVec 5) (s : State) : Res :=
  .next (s.begin.unitInstr a 0x24 2 rd rs1 rs2 (rd != 0 || rs2 != 0) fun _ x s => s.unitTocpu x (x.reg rs1))

/-- DROP (R199, R200). -/
def execDrop (a : Agent) (rd rs1 rs2 : BitVec 5) (s : State) : Res :=
  .next (s.begin.unitInstr a 0x24 3 rd rs1 rs2 (rd != 0 || rs1 != 0 || rs2 != 0) fun _ x s => s.unitDrop x)

/-- MIRROR (R199, R200). -/
def execMirror (a : Agent) (rd rs1 rs2 : BitVec 5) (s : State) : Res :=
  .next (s.begin.unitInstr a 0x24 4 rd rs1 rs2 (rd != 0 || rs2 != 0) fun _ x s => s.unitMirror x (x.reg rs1))

/-- TSREQ (R377). -/
def execTsreq (a : Agent) (rd rs1 rs2 : BitVec 5) (s : State) : Res :=
  .next (s.begin.unitInstr a 0x24 5 rd rs1 rs2 (rs2 != 0) fun k x s => s.unitTsreq k x (x.reg rs1))

/-- EDIT (R201). -/
def execEdit (a : Agent) (rd rs1 rs2 : BitVec 5) (s : State) : Res :=
  .next (s.begin.unitInstr a 0x24 6 rd rs1 rs2 (rd != 0) fun _ x s => s.unitEdit x (x.reg rs1) (x.reg rs2))

/-- EXIT (R202): all fields are zero. -/
def execExit (a : Agent) (rd rs1 rs2 : BitVec 5) (s : State) : Res :=
  .next (s.begin.microInstr a 0x2F 0 rd rs1 rs2 (rd != 0 || rs1 != 0 || rs2 != 0) fun k _ s => s.finishProgram k)

end Sys2Proof.Machine
end

