-- ==== Sys2Proof/Machine/Dispatch.lean ====
section
/-! DEFINITION. One arm per command: a direct call of its meaning. -/

namespace Sys2Proof.Machine

/-- The effect of a command on everything but the queue. -/
def exec (i : Instr) (s : State) : Host.Outcome State Fault Refusal :=
  match i with
  | .frameStartReceived port frame => Sys2Proof.Machine.execFrameStartReceived port frame s
  | .frameEnd port pcsErr fecCorr fecUncorr => Sys2Proof.Machine.execFrameEnd port pcsErr fecCorr fecUncorr s
  | .cozyDrain slice => Sys2Proof.Machine.execCozyDrain slice s
  | .wakeComplete slice => Sys2Proof.Machine.execWakeComplete slice s
  | .dozeEntry slice => Sys2Proof.Machine.execDozeEntry slice s
  | .restEntry slice => Sys2Proof.Machine.execRestEntry slice s
  | .dormantEntry slice => Sys2Proof.Machine.execDormantEntry slice s
  | .earlyWake src => Sys2Proof.Machine.execEarlyWake src s
  | .parseHead slice reserved => Sys2Proof.Machine.execParseHead slice reserved s
  | .flowRequest pid errors => Sys2Proof.Machine.execFlowRequest pid errors s
  | .ruleLookup pid => Sys2Proof.Machine.execRuleLookup pid s
  | .cacheMissService op errors => Sys2Proof.Machine.execCacheMissService op errors s
  | .repairTimeout op => Sys2Proof.Machine.execRepairTimeout op s
  | .tagLineRebuild bucket errors => Sys2Proof.Machine.execTagLineRebuild bucket errors s
  | .dispatch pid => Sys2Proof.Machine.execDispatch pid s
  | .creationService => Sys2Proof.Machine.execCreationService s
  | .batchWriteBack op => Sys2Proof.Machine.execBatchWriteBack op s
  | .schedulerSelection port fault => Sys2Proof.Machine.execSchedulerSelection port fault s
  | .frameTransmit port fault => Sys2Proof.Machine.execFrameTransmit port fault s
  | .ageSweep => Sys2Proof.Machine.execAgeSweep s
  | .shaperRefill => Sys2Proof.Machine.execShaperRefill s
  | .gateEntryBoundary port => Sys2Proof.Machine.execGateEntryBoundary port s
  | .gateSwitch port => Sys2Proof.Machine.execGateSwitch port s
  | .macControlFrame port frame pcsErr fecCorr fecUncorr => Sys2Proof.Machine.execMacControlFrame port frame pcsErr fecCorr fecUncorr s
  | .pauseExpiry port pri => Sys2Proof.Machine.execPauseExpiry port pri s
  | .xoffRepeat port pri => Sys2Proof.Machine.execXoffRepeat port pri s
  | .pauseWatchdog port pri => Sys2Proof.Machine.execPauseWatchdog port pri s
  | .pauseWatchdogEnd port pri => Sys2Proof.Machine.execPauseWatchdogEnd port pri s
  | .lpiEntry port partner => Sys2Proof.Machine.execLpiEntry port partner s
  | .lpiWakeDone port partner => Sys2Proof.Machine.execLpiWakeDone port partner s
  | .modulePinChange site pin level => Sys2Proof.Machine.execModulePinChange site pin level s
  | .pcsLockChange port pcs fec => Sys2Proof.Machine.execPcsLockChange port pcs fec s
  | .linkDownDeclared port => Sys2Proof.Machine.execLinkDownDeclared port s
  | .linkUpDeclared port => Sys2Proof.Machine.execLinkUpDeclared port s
  | .holdExpiry port => Sys2Proof.Machine.execHoldExpiry port s
  | .prtCfgWrite req port value => Sys2Proof.Machine.execPrtCfgWrite req port value s
  | .i2cTransaction req master value => Sys2Proof.Machine.execI2cTransaction req master value s
  | .i2cDone master count nack data => Sys2Proof.Machine.execI2cDone master count nack data s
  | .i2cTimeout master => Sys2Proof.Machine.execI2cTimeout master s
  | .hashTest req value => Sys2Proof.Machine.execHashTest req value s
  | .ruleRead target slice shadow index => Sys2Proof.Machine.execRuleRead target slice shadow index s
  | .writeShadow target index => Sys2Proof.Machine.execWriteShadow target index s
  | .copyActiveToShadow => Sys2Proof.Machine.execCopyActiveToShadow s
  | .ruleCopyComplete => Sys2Proof.Machine.execRuleCopyComplete s
  | .readAndClearHitCounter target slice index => Sys2Proof.Machine.execReadAndClearHitCounter target slice index s
  | .swap => Sys2Proof.Machine.execSwap s
  | .flowClockTick => Sys2Proof.Machine.execFlowClockTick s
  | .creationTokenRefill => Sys2Proof.Machine.execCreationTokenRefill s
  | .pruneVisit => Sys2Proof.Machine.execPruneVisit s
  | .pruneDelete op => Sys2Proof.Machine.execPruneDelete op s
  | .weederVisit block errors => Sys2Proof.Machine.execWeederVisit block errors s
  | .correctionEntryExpiry page => Sys2Proof.Machine.execCorrectionEntryExpiry page s
  | .pageRetirement errors => Sys2Proof.Machine.execPageRetirement errors s
  | .retire bank => Sys2Proof.Machine.execRetire bank s
  | .bankRetirementComplete errors => Sys2Proof.Machine.execBankRetirementComplete errors s
  | .zoneEntryRead zone => Sys2Proof.Machine.execZoneEntryRead zone s
  | .zoneEntryWrite zone => Sys2Proof.Machine.execZoneEntryWrite zone s
  | .fleClockLoRead => Sys2Proof.Machine.execFleClockLoRead s
  | .add a rd rs1 rs2 => Sys2Proof.Machine.execAdd a rd rs1 rs2 s
  | .sub a rd rs1 rs2 => Sys2Proof.Machine.execSub a rd rs1 rs2 s
  | .and a rd rs1 rs2 => Sys2Proof.Machine.execAnd a rd rs1 rs2 s
  | .or a rd rs1 rs2 => Sys2Proof.Machine.execOr a rd rs1 rs2 s
  | .xor a rd rs1 rs2 => Sys2Proof.Machine.execXor a rd rs1 rs2 s
  | .shl a rd rs1 rs2 => Sys2Proof.Machine.execShl a rd rs1 rs2 s
  | .shr a rd rs1 rs2 => Sys2Proof.Machine.execShr a rd rs1 rs2 s
  | .sar a rd rs1 rs2 => Sys2Proof.Machine.execSar a rd rs1 rs2 s
  | .clt a rd rs1 rs2 => Sys2Proof.Machine.execClt a rd rs1 rs2 s
  | .cltu a rd rs1 rs2 => Sys2Proof.Machine.execCltu a rd rs1 rs2 s
  | .mul a rd rs1 rs2 => Sys2Proof.Machine.execMul a rd rs1 rs2 s
  | .mulhi a rd rs1 rs2 => Sys2Proof.Machine.execMulhi a rd rs1 rs2 s
  | .umin a rd rs1 rs2 => Sys2Proof.Machine.execUmin a rd rs1 rs2 s
  | .umax a rd rs1 rs2 => Sys2Proof.Machine.execUmax a rd rs1 rs2 s
  | .lzc a rd rs1 rs2 => Sys2Proof.Machine.execLzc a rd rs1 rs2 s
  | .popcnt a rd rs1 rs2 => Sys2Proof.Machine.execPopcnt a rd rs1 rs2 s
  | .addk a rd rs1 imm => Sys2Proof.Machine.execAddk a rd rs1 imm s
  | .andk a rd rs1 imm => Sys2Proof.Machine.execAndk a rd rs1 imm s
  | .ork a rd rs1 imm => Sys2Proof.Machine.execOrk a rd rs1 imm s
  | .xork a rd rs1 imm => Sys2Proof.Machine.execXork a rd rs1 imm s
  | .shlk a rd rs1 imm => Sys2Proof.Machine.execShlk a rd rs1 imm s
  | .shrk a rd rs1 imm => Sys2Proof.Machine.execShrk a rd rs1 imm s
  | .sark a rd rs1 imm => Sys2Proof.Machine.execSark a rd rs1 imm s
  | .cltk a rd rs1 imm => Sys2Proof.Machine.execCltk a rd rs1 imm s
  | .cltuk a rd rs1 imm => Sys2Proof.Machine.execCltuk a rd rs1 imm s
  | .insh a rd sh imm => Sys2Proof.Machine.execInsh a rd sh imm s
  | .fxt a rd rs1 pos lenM1 => Sys2Proof.Machine.execFxt a rd rs1 pos lenM1 s
  | .fdp a rd rs1 pos lenM1 => Sys2Proof.Machine.execFdp a rd rs1 pos lenM1 s
  | .mfpc a rd rs1 imm => Sys2Proof.Machine.execMfpc a rd rs1 imm s
  | .mtpc a rd rs1 imm => Sys2Proof.Machine.execMtpc a rd rs1 imm s
  | .ldb a rd rs1 imm => Sys2Proof.Machine.execLdb a rd rs1 imm s
  | .ldh a rd rs1 imm => Sys2Proof.Machine.execLdh a rd rs1 imm s
  | .ldw a rd rs1 imm => Sys2Proof.Machine.execLdw a rd rs1 imm s
  | .ldd a rd rs1 imm => Sys2Proof.Machine.execLdd a rd rs1 imm s
  | .stb a rs1 rs2 imm => Sys2Proof.Machine.execStb a rs1 rs2 imm s
  | .sth a rs1 rs2 imm => Sys2Proof.Machine.execSth a rs1 rs2 imm s
  | .stw a rs1 rs2 imm => Sys2Proof.Machine.execStw a rs1 rs2 imm s
  | .std a rs1 rs2 imm => Sys2Proof.Machine.execStd a rs1 rs2 imm s
  | .brEq a rs1 rs2 off => Sys2Proof.Machine.execBrEq a rs1 rs2 off s
  | .brNe a rs1 rs2 off => Sys2Proof.Machine.execBrNe a rs1 rs2 off s
  | .brLts a rs1 rs2 off => Sys2Proof.Machine.execBrLts a rs1 rs2 off s
  | .brGes a rs1 rs2 off => Sys2Proof.Machine.execBrGes a rs1 rs2 off s
  | .brLtu a rs1 rs2 off => Sys2Proof.Machine.execBrLtu a rs1 rs2 off s
  | .brGeu a rs1 rs2 off => Sys2Proof.Machine.execBrGeu a rs1 rs2 off s
  | .call a off => Sys2Proof.Machine.execCall a off s
  | .jmpr a rd rs1 imm => Sys2Proof.Machine.execJmpr a rd rs1 imm s
  | .fcreate a rd rs1 rs2 => Sys2Proof.Machine.execFcreate a rd rs1 rs2 s
  | .fdelete a rd rs1 rs2 => Sys2Proof.Machine.execFdelete a rd rs1 rs2 s
  | .police a rd rs1 rs2 => Sys2Proof.Machine.execPolice a rd rs1 rs2 s
  | .l2 a rd rs1 rs2 => Sys2Proof.Machine.execL2 a rd rs1 rs2 s
  | .lpm4 a rd rs1 rs2 => Sys2Proof.Machine.execLpm4 a rd rs1 rs2 s
  | .lpm6 a rd rs1 rs2 => Sys2Proof.Machine.execLpm6 a rd rs1 rs2 s
  | .nhop a rd rs1 rs2 => Sys2Proof.Machine.execNhop a rd rs1 rs2 s
  | .ecmp a rd rs1 rs2 => Sys2Proof.Machine.execEcmp a rd rs1 rs2 s
  | .natmap a rd rs1 rs2 => Sys2Proof.Machine.execNatmap a rd rs1 rs2 s
  | .natrel a rd rs1 rs2 => Sys2Proof.Machine.execNatrel a rd rs1 rs2 s
  | .lbsel a rd rs1 rs2 => Sys2Proof.Machine.execLbsel a rd rs1 rs2 s
  | .setq a rd rs1 rs2 => Sys2Proof.Machine.execSetq a rd rs1 rs2 s
  | .recirc a rd rs1 rs2 => Sys2Proof.Machine.execRecirc a rd rs1 rs2 s
  | .tocpu a rd rs1 rs2 => Sys2Proof.Machine.execTocpu a rd rs1 rs2 s
  | .drop a rd rs1 rs2 => Sys2Proof.Machine.execDrop a rd rs1 rs2 s
  | .mirror a rd rs1 rs2 => Sys2Proof.Machine.execMirror a rd rs1 rs2 s
  | .tsreq a rd rs1 rs2 => Sys2Proof.Machine.execTsreq a rd rs1 rs2 s
  | .edit a rd rs1 rs2 => Sys2Proof.Machine.execEdit a rd rs1 rs2 s
  | .exit a rd rs1 rs2 => Sys2Proof.Machine.execExit a rd rs1 rs2 s
  | .budgetExceeded slice engine ctx => Sys2Proof.Machine.execBudgetExceeded slice engine ctx s
  | .unitReply slice engine ctx outcome => Sys2Proof.Machine.execUnitReply slice engine ctx outcome s
  | .tentativeTimeout slice engine ctx => Sys2Proof.Machine.execTentativeTimeout slice engine ctx s
  | .programEntryRead slice index => Sys2Proof.Machine.execProgramEntryRead slice index s
  | .programEntryWrite index => Sys2Proof.Machine.execProgramEntryWrite index s
  | .imemDataWrite value => Sys2Proof.Machine.execImemDataWrite value s
  | .imemDataRead => Sys2Proof.Machine.execImemDataRead s
  | .mark => Sys2Proof.Machine.execMark s
  | .engineQuarantine slice engine => Sys2Proof.Machine.execEngineQuarantine slice engine s
  | .engineRelease slice engine => Sys2Proof.Machine.execEngineRelease slice engine s
  | .patchDataWrite req value => Sys2Proof.Machine.execPatchDataWrite req value s
  | .install req => Sys2Proof.Machine.execInstall req s
  | .patchInstalled => Sys2Proof.Machine.execPatchInstalled s
  | .clear req => Sys2Proof.Machine.execClear req s
  | .poolEnWrite req pool addrReg value => Sys2Proof.Machine.execPoolEnWrite req pool addrReg value s
  | .xlbSweep => Sys2Proof.Machine.execXlbSweep s
  | .lbRead target group index => Sys2Proof.Machine.execLbRead target group index s
  | .lbWrite target group index => Sys2Proof.Machine.execLbWrite target group index s
  | .build group => Sys2Proof.Machine.execBuild group s
  | .buildComplete => Sys2Proof.Machine.execBuildComplete s
  | .mappingFind addr pport => Sys2Proof.Machine.execMappingFind addr pport s
  | .mappingFree addr pport => Sys2Proof.Machine.execMappingFree addr pport s
  | .policerRead index => Sys2Proof.Machine.execPolicerRead index s
  | .policerWrite index => Sys2Proof.Machine.execPolicerWrite index s
  | .learnRequest bad => Sys2Proof.Machine.execLearnRequest bad s
  | .l2AgeVisit bucket bad => Sys2Proof.Machine.execL2AgeVisit bucket bad s
  | .flushWalk bad => Sys2Proof.Machine.execFlushWalk bad s
  | .search table bank index bad => Sys2Proof.Machine.execSearch table bank index bad s
  | .next table bank index bad => Sys2Proof.Machine.execNext table bank index bad s
  | .insert table bank index bad => Sys2Proof.Machine.execInsert table bank index bad s
  | .delete table bank index bad => Sys2Proof.Machine.execDelete table bank index bad s
  | .fwdFlush table bank index => Sys2Proof.Machine.execFwdFlush table bank index s
  | .fwdCopy table bank index => Sys2Proof.Machine.execFwdCopy table bank index s
  | .fwdCopyComplete bad => Sys2Proof.Machine.execFwdCopyComplete bad s
  | .fwdRead table bank index => Sys2Proof.Machine.execFwdRead table bank index s
  | .flip tables => Sys2Proof.Machine.execFlip tables s
  | .cellFree slice code cell gen => Sys2Proof.Machine.execCellFree slice code cell gen s
  | .freeListWalk => Sys2Proof.Machine.execFreeListWalk s
  | .auditCycle => Sys2Proof.Machine.execAuditCycle s
  | .spillRunWrite pool => Sys2Proof.Machine.execSpillRunWrite pool s
  | .spillReadBack queue errors => Sys2Proof.Machine.execSpillReadBack queue errors s
  | .ownerRead owner => Sys2Proof.Machine.execOwnerRead owner s
  | .ownerWrite owner => Sys2Proof.Machine.execOwnerWrite owner s
  | .queueRead queue => Sys2Proof.Machine.execQueueRead queue s
  | .queueWrite queue => Sys2Proof.Machine.execQueueWrite queue s
  | .nodeRead node => Sys2Proof.Machine.execNodeRead node s
  | .nodeWrite node => Sys2Proof.Machine.execNodeWrite node s
  | .configChange port => Sys2Proof.Machine.execConfigChange port s
  | .gateEnWrite req port value => Sys2Proof.Machine.execGateEnWrite req port value s
  | .listEntryRead port oper index => Sys2Proof.Machine.execListEntryRead port oper index s
  | .listEntryWrite port oper index => Sys2Proof.Machine.execListEntryWrite port oper index s
  | .timeStepGo mode => Sys2Proof.Machine.execTimeStepGo mode s
  | .timeStepApplied => Sys2Proof.Machine.execTimeStepApplied s
  | .timNowNsRead => Sys2Proof.Machine.execTimNowNsRead s
  | .tsqW0Read slice => Sys2Proof.Machine.execTsqW0Read slice s
  | .ppsOutRise => Sys2Proof.Machine.execPpsOutRise s
  | .ppsOutFall => Sys2Proof.Machine.execPpsOutFall s
  | .ppsInCapture => Sys2Proof.Machine.execPpsInCapture s
  | .trellisEnWrite req value => Sys2Proof.Machine.execTrellisEnWrite req value s
  | .trellisFrameSent => Sys2Proof.Machine.execTrellisFrameSent s
  | .trellisFrameReceived lane frame corrected uncorrectable => Sys2Proof.Machine.execTrellisFrameReceived lane frame corrected uncorrectable s
  | .laneInFrame lane stream => Sys2Proof.Machine.execLaneInFrame lane stream s
  | .laneOutOfFrame lane => Sys2Proof.Machine.execLaneOutOfFrame lane s
  | .superframeAlignmentChange => Sys2Proof.Machine.execSuperframeAlignmentChange s
  | .degWindowEnd counts => Sys2Proof.Machine.execDegWindowEnd counts s
  | .defectDeclared kind => Sys2Proof.Machine.execDefectDeclared kind s
  | .defectCleared kind => Sys2Proof.Machine.execDefectCleared kind s
  | .mdcByteReceived channel byte stop => Sys2Proof.Machine.execMdcByteReceived channel byte stop s
  | .mdcByteSent channel => Sys2Proof.Machine.execMdcByteSent channel s
  | .mdcTxWrite channel byte => Sys2Proof.Machine.execMdcTxWrite channel byte s
  | .mdcRxRead channel => Sys2Proof.Machine.execMdcRxRead channel s
  | .mdcEnWrite req channel value => Sys2Proof.Machine.execMdcEnWrite req channel value s
  | .graftEnWrite req value => Sys2Proof.Machine.execGraftEnWrite req value s
  | .hello message => Sys2Proof.Machine.execHello message s
  | .reply message => Sys2Proof.Machine.execReply message s
  | .confirm message => Sys2Proof.Machine.execConfirm message s
  | .authTimeout => Sys2Proof.Machine.execAuthTimeout s
  | .authRetry => Sys2Proof.Machine.execAuthRetry s
  | .claims message => Sys2Proof.Machine.execClaims message s
  | .deltas message => Sys2Proof.Machine.execDeltas message s
  | .repairReq message => Sys2Proof.Machine.execRepairReq message s
  | .repairRsp message => Sys2Proof.Machine.execRepairRsp message s
  | .resyncBegin message => Sys2Proof.Machine.execResyncBegin message s
  | .purged message => Sys2Proof.Machine.execPurged message s
  | .resyncWalk => Sys2Proof.Machine.execResyncWalk s
  | .resyncEnd message => Sys2Proof.Machine.execResyncEnd message s
  | .handover message => Sys2Proof.Machine.execHandover message s
  | .heartbeatMissing => Sys2Proof.Machine.execHeartbeatMissing s
  | .retransmitTimeout => Sys2Proof.Machine.execRetransmitTimeout s
  | .suspendTimeout => Sys2Proof.Machine.execSuspendTimeout s
  | .witnessFrameSend group => Sys2Proof.Machine.execWitnessFrameSend group s
  | .witnessFrameReceived port frame pcsErr fecCorr fecUncorr => Sys2Proof.Machine.execWitnessFrameReceived port frame pcsErr fecCorr fecUncorr s
  | .witnessAbsent group => Sys2Proof.Machine.execWitnessAbsent group s
  | .announcement => Sys2Proof.Machine.execAnnouncement s
  | .graftFlush => Sys2Proof.Machine.execGraftFlush s
  | .retry => Sys2Proof.Machine.execRetry s
  | .unpair => Sys2Proof.Machine.execUnpair s
  | .zoneModeRead zone => Sys2Proof.Machine.execZoneModeRead zone s
  | .zoneModeWrite zone paired home group => Sys2Proof.Machine.execZoneModeWrite zone paired home group s
  | .handOver zone => Sys2Proof.Machine.execHandOver zone s
  | .take zone => Sys2Proof.Machine.execTake zone s
  | .grfSeqLoRead which => Sys2Proof.Machine.execGrfSeqLoRead which s
  | .selfRefreshEntry => Sys2Proof.Machine.execSelfRefreshEntry s
  | .selfRefreshBatch => Sys2Proof.Machine.execSelfRefreshBatch s
  | .supplyWarning mv => Sys2Proof.Machine.execSupplyWarning mv s
  | .supplyWarningCleared mv => Sys2Proof.Machine.execSupplyWarningCleared mv s
  | .brownOut supply mv provLow => Sys2Proof.Machine.execBrownOut supply mv provLow s
  | .throttleRaise sensor temp => Sys2Proof.Machine.execThrottleRaise sensor temp s
  | .throttleLower sensor temp => Sys2Proof.Machine.execThrottleLower sensor temp s
  | .thermalReset => Sys2Proof.Machine.execThermalReset s
  | .thermalResetRelease sensor temp => Sys2Proof.Machine.execThermalResetRelease sensor temp s
  | .wakeCompareArm req k value => Sys2Proof.Machine.execWakeCompareArm req k value s
  | .coldReset cause provLow => Sys2Proof.Machine.execColdReset cause provLow s
  | .warmReset => Sys2Proof.Machine.execWarmReset s
  | .startStage still failing => Sys2Proof.Machine.execStartStage still failing s
  | .stageComplete => Sys2Proof.Machine.execStageComplete s
  | .stageFailure cause => Sys2Proof.Machine.execStageFailure cause s
  | .startHaltExpiry => Sys2Proof.Machine.execStartHaltExpiry s
  | .flashCmdRead req len => Sys2Proof.Machine.execFlashCmdRead req len s
  | .pageProgram req len => Sys2Proof.Machine.execPageProgram req len s
  | .sectorErase req len => Sys2Proof.Machine.execSectorErase req len s
  | .flashOpDone ok => Sys2Proof.Machine.execFlashOpDone ok s
  | .flashOpTimeout => Sys2Proof.Machine.execFlashOpTimeout s
  | .verify req target => Sys2Proof.Machine.execVerify req target s
  | .apply req target => Sys2Proof.Machine.execApply req target s
  | .applyComplete => Sys2Proof.Machine.execApplyComplete s
  | .invalidate req target => Sys2Proof.Machine.execInvalidate req target s
  | .restart req slice => Sys2Proof.Machine.execRestart req slice s
  | .sliceRestartComplete slice => Sys2Proof.Machine.execSliceRestartComplete slice s
  | .nvmRunSeqLoRead => Sys2Proof.Machine.execNvmRunSeqLoRead s
  | .contextRelease req ctx toIdle user => Sys2Proof.Machine.execContextRelease req ctx toIdle user s
  | .rdcr a rd rs1 rs2 => Sys2Proof.Machine.execRdcr a rd rs1 rs2 s
  | .wrcr a rd rs1 rs2 => Sys2Proof.Machine.execWrcr a rd rs1 rs2 s
  | .setcr a rd rs1 rs2 => Sys2Proof.Machine.execSetcr a rd rs1 rs2 s
  | .clrcr a rd rs1 rs2 => Sys2Proof.Machine.execClrcr a rd rs1 rs2 s
  | .waitt a rd rs1 rs2 => Sys2Proof.Machine.execWaitt a rd rs1 rs2 s
  | .waite a rd rs1 rs2 => Sys2Proof.Machine.execWaite a rd rs1 rs2 s
  | .timerCompareMet ctx => Sys2Proof.Machine.execTimerCompareMet ctx s
  | .post a rd rs1 rs2 => Sys2Proof.Machine.execPost a rd rs1 rs2 s
  | .postWaitExpiry ctx => Sys2Proof.Machine.execPostWaitExpiry ctx s
  | .taskend a rd rs1 rs2 => Sys2Proof.Machine.execTaskend a rd rs1 rs2 s
  | .taskBind => Sys2Proof.Machine.execTaskBind s
  | .chres a rd rs1 rs2 => Sys2Proof.Machine.execChres a rd rs1 rs2 s
  | .chcom a rd rs1 rs2 => Sys2Proof.Machine.execChcom a rd rs1 rs2 s
  | .chrcv a rd rs1 rs2 => Sys2Proof.Machine.execChrcv a rd rs1 rs2 s
  | .chrel a rd rs1 rs2 => Sys2Proof.Machine.execChrel a rd rs1 rs2 s
  | .fget a rd rs1 rs2 => Sys2Proof.Machine.execFget a rd rs1 rs2 s
  | .fput a rd rs1 rs2 => Sys2Proof.Machine.execFput a rd rs1 rs2 s
  | .frel a rd rs1 rs2 => Sys2Proof.Machine.execFrel a rd rs1 rs2 s
  | .flowHoldExpiry ctx => Sys2Proof.Machine.execFlowHoldExpiry ctx s
  | .atadd a rd rs1 rs2 => Sys2Proof.Machine.execAtadd a rd rs1 rs2 s
  | .atxch a rd rs1 rs2 => Sys2Proof.Machine.execAtxch a rd rs1 rs2 s
  | .atcmpx a rd rs1 rs2 => Sys2Proof.Machine.execAtcmpx a rd rs1 rs2 s
  | .kcall a rd rs1 rs2 => Sys2Proof.Machine.execKcall a rd rs1 rs2 s
  | .kret a rd rs1 rs2 => Sys2Proof.Machine.execKret a rd rs1 rs2 s
  | .order a rd rs1 rs2 => Sys2Proof.Machine.execOrder a rd rs1 rs2 s
  | .halt a rd rs1 rs2 => Sys2Proof.Machine.execHalt a rd rs1 rs2 s
  | .cpuTxEntry => Sys2Proof.Machine.execCpuTxEntry s
  | .ringEnWrite req ring log2 => Sys2Proof.Machine.execRingEnWrite req ring log2 s
  | .stallWatchdog => Sys2Proof.Machine.execStallWatchdog s
  | .debugHalt ctx => Sys2Proof.Machine.execDebugHalt ctx s
  | .debugResume ctx => Sys2Proof.Machine.execDebugResume ctx s
  | .debugStep ctx => Sys2Proof.Machine.execDebugStep ctx s
  | .debugKill ctx => Sys2Proof.Machine.execDebugKill ctx s
  | .pmuEvcLoRead n => Sys2Proof.Machine.execPmuEvcLoRead n s
  | .pmuFcCntLoRead n => Sys2Proof.Machine.execPmuFcCntLoRead n s
  | .fcRunWrite req value => Sys2Proof.Machine.execFcRunWrite req value s
  | .fcFullWrite req value => Sys2Proof.Machine.execFcFullWrite req value s
  | .queueCountsRead queue clear => Sys2Proof.Machine.execQueueCountsRead queue clear s
  | .harvestEnWrite req value => Sys2Proof.Machine.execHarvestEnWrite req value s
  | .messageClose => Sys2Proof.Machine.execMessageClose s
  | .templateRefresh => Sys2Proof.Machine.execTemplateRefresh s
  | .mgtFrame frame otpOk => Sys2Proof.Machine.execMgtFrame frame otpOk s
  | .init peer body => Sys2Proof.Machine.execInit peer body s
  | .finish peer session confirm => Sys2Proof.Machine.execFinish peer session confirm s
  | .finishTimeout session => Sys2Proof.Machine.execFinishTimeout session s
  | .sessionIdleTimeout session => Sys2Proof.Machine.execSessionIdleTimeout session s
  | .readReg peer session seq addr count tag => Sys2Proof.Machine.execReadReg peer session seq addr count tag s
  | .writeReg peer session seq addr words tag => Sys2Proof.Machine.execWriteReg peer session seq addr words tag s
  | .flashRead peer session seq offset len tag => Sys2Proof.Machine.execFlashRead peer session seq offset len tag s
  | .flashWrite peer session seq offset data tag => Sys2Proof.Machine.execFlashWrite peer session seq offset data tag s
  | .flashErase peer session seq offset tag => Sys2Proof.Machine.execFlashErase peer session seq offset tag s
  | .image peer session seq op target tag => Sys2Proof.Machine.execImage peer session seq op target tag s
  | .sliceRestart peer session seq slice tag => Sys2Proof.Machine.execSliceRestart peer session seq slice tag s
  | .eventRead peer session seq first count tag => Sys2Proof.Machine.execEventRead peer session seq first count tag s
  | .eventSub peer session seq on tag => Sys2Proof.Machine.execEventSub peer session seq on tag s
  | .quote peer session seq nonce tag => Sys2Proof.Machine.execQuote peer session seq nonce tag s
  | .identity peer session seq tag => Sys2Proof.Machine.execIdentity peer session seq tag s
  | .debugChal peer session seq tag => Sys2Proof.Machine.execDebugChal peer session seq tag s
  | .debugResp peer session seq response tag => Sys2Proof.Machine.execDebugResp peer session seq response tag s
  | .debugRelock peer session seq tag => Sys2Proof.Machine.execDebugRelock peer session seq tag s
  | .ownerAdd peer session seq key ok tag => Sys2Proof.Machine.execOwnerAdd peer session seq key ok tag s
  | .ownerRevoke peer session seq slot tag => Sys2Proof.Machine.execOwnerRevoke peer session seq slot tag s
  | .close peer session seq tag => Sys2Proof.Machine.execClose peer session seq tag s
  | .reset peer session seq tag => Sys2Proof.Machine.execReset peer session seq tag s
  | .chal req => Sys2Proof.Machine.execChal req s
  | .resp req => Sys2Proof.Machine.execResp req s
  | .relock req => Sys2Proof.Machine.execRelock req s
  | .challengeLapse => Sys2Proof.Machine.execChallengeLapse s
  | .challengeBlockEnd => Sys2Proof.Machine.execChallengeBlockEnd s
  | .pop => Sys2Proof.Machine.execPop s
  | .registerWrite req addr value => Sys2Proof.Machine.execRegisterWrite req addr value s
  | .timeCounterIncrement edges => Sys2Proof.Machine.execTimeCounterIncrement edges s
  | .laneSignalDetectChange lane on locked => Sys2Proof.Machine.execLaneSignalDetectChange lane on locked s
  | .breakEnd channel => Sys2Proof.Machine.execBreakEnd channel s
  | .lagBoundExceeded => Sys2Proof.Machine.execLagBoundExceeded s
  | .managementLinkChange up => Sys2Proof.Machine.execManagementLinkChange up s
  | .managementTransmitDone => Sys2Proof.Machine.execManagementTransmitDone s
  | .stackTemperatureChange stack temp => Sys2Proof.Machine.execStackTemperatureChange stack temp s
  | .spillWriteCapHold => Sys2Proof.Machine.execSpillWriteCapHold s
  | .rateLimitHold => Sys2Proof.Machine.execRateLimitHold s
  | .glasshouseResultArrival ctx => Sys2Proof.Machine.execGlasshouseResultArrival ctx s

end Sys2Proof.Machine
end

