-- ==== Sys2Proof/Machine/Step.lean ====
section
/-! DEFINITION. A step of the device: the command at the front of the queue. -/

namespace Sys2Proof.Machine

/-- Takes the command at the front of the queue and runs it with the queue's rest. On an empty queue the device idles (DESIGN
CHOICE, log 1, DESIGN CHOICE, log 2) -/
def step (s : State) : Host.Outcome State Fault Refusal :=
  match s.pending with
  | [] => .next s
  | c :: rest => exec c { s with pending := rest }

/-- The state with the command that a word spells at the front of the queue; unchanged where it spells none. (DESIGN CHOICE,
log 2) -/
def State.withFetchWord (s : State) (nbits w : Nat) : State :=
  match decodeTableWord nbits w with
  | some c => { s with pending := c :: s.pending }
  | none => s

end Sys2Proof.Machine
end

