-- ==== Sys2Proof/WellFormed.lean ====
section
/-! DEFINITION. Well-formed commands: every operand that names a unit of the device names one it has. A command that is not
well formed names nothing. -/

namespace Sys2Proof

/-- What executes an instruction exists: 4 slices of 16 engines of 8 contexts, and 32 Glasshouse contexts (R187, R516). -/
def Agent.wf : Agent → Bool
  | .engine slice eng ctx _ => decide (slice < 4 ∧ eng < 16 ∧ ctx < 8)
  | .core ctx _ => decide (ctx < 32)

/-- There are 16 wake compares and 64 gate lists (R350, R472). -/
def WakeSource.wf : WakeSource → Bool
  | .compare k => decide (k < 16)
  | .gate port => decide (port < 64)

/-- A priority is 0–7 (R61). -/
def priWf : Option Nat → Bool
  | some p => decide (p < 8)
  | none => true

/-- Whether a command is well formed. -/
def Instr.wf : Instr → Bool
  | .frameStartReceived port _ => decide (port < 64)
  | .frameEnd port _ _ _ => decide (port < 64)
  | .cozyDrain slice => decide (slice < 4)
  | .wakeComplete slice => decide (slice < 4)
  | .dozeEntry slice => decide (slice < 4)
  | .restEntry slice => decide (slice < 4)
  | .dormantEntry slice => decide (slice < 4)
  | .earlyWake src => src.wf
  | .parseHead slice _ => decide (slice < 4)
  | .flowRequest _ _ => true
  | .ruleLookup _ => true
  | .cacheMissService _ _ => true
  | .repairTimeout _ => true
  | .tagLineRebuild _ _ => true
  | .dispatch _ => true
  | .creationService => true
  | .batchWriteBack _ => true
  | .schedulerSelection port _ => decide (port < 67)
  | .frameTransmit port _ => decide (port < 65)
  | .ageSweep => true
  | .shaperRefill => true
  | .gateEntryBoundary port => decide (port < 64)
  | .gateSwitch port => decide (port < 64)
  | .macControlFrame port _ _ _ _ => decide (port < 64)
  | .pauseExpiry port pri => decide (port < 64) && priWf pri
  | .xoffRepeat port pri => decide (port < 64) && priWf pri
  | .pauseWatchdog port pri => decide (port < 64) && priWf pri
  | .pauseWatchdogEnd port pri => decide (port < 64) && priWf pri
  | .lpiEntry port _ => decide (port < 64)
  | .lpiWakeDone port _ => decide (port < 64)
  | .modulePinChange site _ _ => decide (site < 65)
  | .pcsLockChange port _ _ => decide (port < 64)
  | .linkDownDeclared port => decide (port < 64)
  | .linkUpDeclared port => decide (port < 64)
  | .holdExpiry port => decide (port < 64)
  | .prtCfgWrite _ port _ => decide (port < 64)
  | .i2cTransaction _ master _ => decide (master < 4)
  | .i2cDone master _ _ _ => decide (master < 4)
  | .i2cTimeout master => decide (master < 4)
  | .hashTest _ _ => true
  | .ruleRead _ _ _ _ => true
  | .writeShadow _ _ => true
  | .copyActiveToShadow => true
  | .ruleCopyComplete => true
  | .readAndClearHitCounter _ _ _ => true
  | .swap => true
  | .flowClockTick => true
  | .creationTokenRefill => true
  | .pruneVisit => true
  | .pruneDelete _ => true
  | .weederVisit _ _ => true
  | .correctionEntryExpiry _ => true
  | .pageRetirement _ => true
  | .retire _ => true
  | .bankRetirementComplete _ => true
  | .zoneEntryRead _ => true
  | .zoneEntryWrite _ => true
  | .fleClockLoRead => true
  | .add a _ _ _ => a.wf
  | .sub a _ _ _ => a.wf
  | .and a _ _ _ => a.wf
  | .or a _ _ _ => a.wf
  | .xor a _ _ _ => a.wf
  | .shl a _ _ _ => a.wf
  | .shr a _ _ _ => a.wf
  | .sar a _ _ _ => a.wf
  | .clt a _ _ _ => a.wf
  | .cltu a _ _ _ => a.wf
  | .mul a _ _ _ => a.wf
  | .mulhi a _ _ _ => a.wf
  | .umin a _ _ _ => a.wf
  | .umax a _ _ _ => a.wf
  | .lzc a _ _ _ => a.wf
  | .popcnt a _ _ _ => a.wf
  | .addk a _ _ _ => a.wf
  | .andk a _ _ _ => a.wf
  | .ork a _ _ _ => a.wf
  | .xork a _ _ _ => a.wf
  | .shlk a _ _ _ => a.wf
  | .shrk a _ _ _ => a.wf
  | .sark a _ _ _ => a.wf
  | .cltk a _ _ _ => a.wf
  | .cltuk a _ _ _ => a.wf
  | .insh a _ _ _ => a.wf
  | .fxt a _ _ _ _ => a.wf
  | .fdp a _ _ _ _ => a.wf
  | .mfpc a _ _ _ => a.wf
  | .mtpc a _ _ _ => a.wf
  | .ldb a _ _ _ => a.wf
  | .ldh a _ _ _ => a.wf
  | .ldw a _ _ _ => a.wf
  | .ldd a _ _ _ => a.wf
  | .stb a _ _ _ => a.wf
  | .sth a _ _ _ => a.wf
  | .stw a _ _ _ => a.wf
  | .std a _ _ _ => a.wf
  | .brEq a _ _ _ => a.wf
  | .brNe a _ _ _ => a.wf
  | .brLts a _ _ _ => a.wf
  | .brGes a _ _ _ => a.wf
  | .brLtu a _ _ _ => a.wf
  | .brGeu a _ _ _ => a.wf
  | .call a _ => a.wf
  | .jmpr a _ _ _ => a.wf
  | .fcreate a _ _ _ => a.wf
  | .fdelete a _ _ _ => a.wf
  | .police a _ _ _ => a.wf
  | .l2 a _ _ _ => a.wf
  | .lpm4 a _ _ _ => a.wf
  | .lpm6 a _ _ _ => a.wf
  | .nhop a _ _ _ => a.wf
  | .ecmp a _ _ _ => a.wf
  | .natmap a _ _ _ => a.wf
  | .natrel a _ _ _ => a.wf
  | .lbsel a _ _ _ => a.wf
  | .setq a _ _ _ => a.wf
  | .recirc a _ _ _ => a.wf
  | .tocpu a _ _ _ => a.wf
  | .drop a _ _ _ => a.wf
  | .mirror a _ _ _ => a.wf
  | .tsreq a _ _ _ => a.wf
  | .edit a _ _ _ => a.wf
  | .exit a _ _ _ => a.wf
  | .budgetExceeded slice engine ctx => decide (slice < 4) && decide (engine < 16) && decide (ctx < 8)
  | .unitReply slice engine ctx _ => decide (slice < 4) && decide (engine < 16) && decide (ctx < 8)
  | .tentativeTimeout slice engine ctx => decide (slice < 4) && decide (engine < 16) && decide (ctx < 8)
  | .programEntryRead _ _ => true
  | .programEntryWrite _ => true
  | .imemDataWrite _ => true
  | .imemDataRead => true
  | .mark => true
  | .engineQuarantine slice _ => decide (slice < 4)
  | .engineRelease slice _ => decide (slice < 4)
  | .patchDataWrite _ _ => true
  | .install _ => true
  | .patchInstalled => true
  | .clear _ => true
  | .poolEnWrite _ pool _ _ => decide (pool < 256)
  | .xlbSweep => true
  | .lbRead _ _ _ => true
  | .lbWrite _ _ _ => true
  | .build _ => true
  | .buildComplete => true
  | .mappingFind _ _ => true
  | .mappingFree _ _ => true
  | .policerRead _ => true
  | .policerWrite _ => true
  | .learnRequest _ => true
  | .l2AgeVisit bucket _ => decide (bucket < 65536)
  | .flushWalk _ => true
  | .search _ _ _ _ => true
  | .next _ _ _ _ => true
  | .insert _ _ _ _ => true
  | .delete _ _ _ _ => true
  | .fwdFlush _ _ _ => true
  | .fwdCopy _ _ _ => true
  | .fwdCopyComplete _ => true
  | .fwdRead _ _ _ => true
  | .flip _ => true
  | .cellFree slice code cell _ => decide (slice < 4) && decide (code < 64) && decide (cell < 262144)
  | .freeListWalk => true
  | .auditCycle => true
  | .spillRunWrite pool => decide (pool < 16)
  | .spillReadBack queue _ => decide (queue < 16384)
  | .ownerRead _ => true
  | .ownerWrite _ => true
  | .queueRead _ => true
  | .queueWrite _ => true
  | .nodeRead _ => true
  | .nodeWrite _ => true
  | .configChange port => decide (port < 64)
  | .gateEnWrite _ port _ => decide (port < 64)
  | .listEntryRead port _ _ => decide (port < 64)
  | .listEntryWrite port _ _ => decide (port < 64)
  | .timeStepGo _ => true
  | .timeStepApplied => true
  | .timNowNsRead => true
  | .tsqW0Read slice => decide (slice < 4)
  | .ppsOutRise => true
  | .ppsOutFall => true
  | .ppsInCapture => true
  | .trellisEnWrite _ _ => true
  | .trellisFrameSent => true
  | .trellisFrameReceived _ _ _ _ => true
  | .laneInFrame _ _ => true
  | .laneOutOfFrame _ => true
  | .superframeAlignmentChange => true
  | .degWindowEnd _ => true
  | .defectDeclared kind => decide (kind < 6)
  | .defectCleared kind => decide (kind < 6)
  | .mdcByteReceived channel _ _ => decide (channel < 2)
  | .mdcByteSent channel => decide (channel < 2)
  | .mdcTxWrite channel _ => decide (channel < 2)
  | .mdcRxRead channel => decide (channel < 2)
  | .mdcEnWrite _ channel _ => decide (channel < 2)
  | .graftEnWrite _ _ => true
  | .hello _ => true
  | .reply _ => true
  | .confirm _ => true
  | .authTimeout => true
  | .authRetry => true
  | .claims _ => true
  | .deltas _ => true
  | .repairReq _ => true
  | .repairRsp _ => true
  | .resyncBegin _ => true
  | .purged _ => true
  | .resyncWalk => true
  | .resyncEnd _ => true
  | .handover _ => true
  | .heartbeatMissing => true
  | .retransmitTimeout => true
  | .suspendTimeout => true
  | .witnessFrameSend group => decide (group < 8)
  | .witnessFrameReceived port _ _ _ _ => decide (port < 64)
  | .witnessAbsent group => decide (group < 8)
  | .announcement => true
  | .graftFlush => true
  | .retry => true
  | .unpair => true
  | .zoneModeRead _ => true
  | .zoneModeWrite _ _ _ _ => true
  | .handOver _ => true
  | .take _ => true
  | .grfSeqLoRead which => decide (which < 3)
  | .selfRefreshEntry => true
  | .selfRefreshBatch => true
  | .supplyWarning _ => true
  | .supplyWarningCleared _ => true
  | .brownOut supply _ _ => decide (supply < 8)
  | .throttleRaise sensor _ => decide (sensor < 8)
  | .throttleLower sensor _ => decide (sensor < 8)
  | .thermalReset => true
  | .thermalResetRelease sensor _ => decide (sensor < 8)
  | .wakeCompareArm _ k _ => decide (k < 16)
  | .coldReset _ _ => true
  | .warmReset => true
  | .startStage _ _ => true
  | .stageComplete => true
  | .stageFailure _ => true
  | .startHaltExpiry => true
  | .flashCmdRead _ _ => true
  | .pageProgram _ _ => true
  | .sectorErase _ _ => true
  | .flashOpDone _ => true
  | .flashOpTimeout => true
  | .verify _ _ => true
  | .apply _ _ => true
  | .applyComplete => true
  | .invalidate _ _ => true
  | .restart _ _ => true
  | .sliceRestartComplete slice => decide (slice < 4)
  | .nvmRunSeqLoRead => true
  | .contextRelease _ _ _ _ => true
  | .rdcr a _ _ _ => a.wf
  | .wrcr a _ _ _ => a.wf
  | .setcr a _ _ _ => a.wf
  | .clrcr a _ _ _ => a.wf
  | .waitt a _ _ _ => a.wf
  | .waite a _ _ _ => a.wf
  | .timerCompareMet ctx => decide (ctx < 32)
  | .post a _ _ _ => a.wf
  | .postWaitExpiry ctx => decide (ctx < 32)
  | .taskend a _ _ _ => a.wf
  | .taskBind => true
  | .chres a _ _ _ => a.wf
  | .chcom a _ _ _ => a.wf
  | .chrcv a _ _ _ => a.wf
  | .chrel a _ _ _ => a.wf
  | .fget a _ _ _ => a.wf
  | .fput a _ _ _ => a.wf
  | .frel a _ _ _ => a.wf
  | .flowHoldExpiry ctx => decide (ctx < 32)
  | .atadd a _ _ _ => a.wf
  | .atxch a _ _ _ => a.wf
  | .atcmpx a _ _ _ => a.wf
  | .kcall a _ _ _ => a.wf
  | .kret a _ _ _ => a.wf
  | .order a _ _ _ => a.wf
  | .halt a _ _ _ => a.wf
  | .cpuTxEntry => true
  | .ringEnWrite _ ring _ => decide (ring < 17)
  | .stallWatchdog => true
  | .debugHalt _ => true
  | .debugResume _ => true
  | .debugStep _ => true
  | .debugKill _ => true
  | .pmuEvcLoRead n => decide (n < 512)
  | .pmuFcCntLoRead n => decide (n < 64)
  | .fcRunWrite _ _ => true
  | .fcFullWrite _ _ => true
  | .queueCountsRead _ _ => true
  | .harvestEnWrite _ _ => true
  | .messageClose => true
  | .templateRefresh => true
  | .mgtFrame _ _ => true
  | .init _ _ => true
  | .finish _ _ _ => true
  | .finishTimeout _ => true
  | .sessionIdleTimeout _ => true
  | .readReg _ _ _ _ _ _ => true
  | .writeReg _ _ _ _ _ _ => true
  | .flashRead _ _ _ _ _ _ => true
  | .flashWrite _ _ _ _ _ _ => true
  | .flashErase _ _ _ _ _ => true
  | .image _ _ _ _ _ _ => true
  | .sliceRestart _ _ _ _ _ => true
  | .eventRead _ _ _ _ _ _ => true
  | .eventSub _ _ _ _ _ => true
  | .quote _ _ _ _ _ => true
  | .identity _ _ _ _ => true
  | .debugChal _ _ _ _ => true
  | .debugResp _ _ _ _ _ => true
  | .debugRelock _ _ _ _ => true
  | .ownerAdd _ _ _ _ _ _ => true
  | .ownerRevoke _ _ _ _ _ => true
  | .close _ _ _ _ => true
  | .reset _ _ _ _ => true
  | .chal _ => true
  | .resp _ => true
  | .relock _ => true
  | .challengeLapse => true
  | .challengeBlockEnd => true
  | .pop => true
  | .registerWrite _ _ _ => true
  | .timeCounterIncrement _ => true
  | .laneSignalDetectChange _ _ _ => true
  | .breakEnd channel => decide (channel < 2)
  | .lagBoundExceeded => true
  | .managementLinkChange _ => true
  | .managementTransmitDone => true
  | .stackTemperatureChange stack _ => decide (stack < 2)
  | .spillWriteCapHold => true
  | .rateLimitHold => true
  | .glasshouseResultArrival ctx => decide (ctx < 32)

end Sys2Proof
end

