-- ==== Sys2Proof/Safety.lean ====
section
/-! DEFINITION. The terms in which statements about runs are made: what goes on, and the canonical forms that every step
keeps. -/

namespace Sys2Proof

open Sys2Proof.Machine

/-- An outcome goes on when it is a next state. -/
def GoesOn (o : Host.Outcome State Fault Refusal) : Prop := ∃ t, o = .next t

/-- The registers are in canonical form: rising addresses, and no entry for a register at its reset value. -/
abbrev RegsCanonical (s : State) : Prop := Table.wf s.regs (fun _ => 0) = true

/-- The Glasshouse memory is in canonical form: rising addresses, and no entry for a byte of zero. -/
abbrev Memory.wf (s : State) : Prop := Table.wf s.glh.mem (fun _ => 0) = true

/-- Every command that waits is well formed. -/
abbrev QueueWf (s : State) : Prop := s.pending.all Instr.wf = true

/-- The invariant of the device's stored data. -/
abbrev Canonical (s : State) : Prop := RegsCanonical s ∧ Memory.wf s ∧ QueueWf s

/-! ## Contexts that can issue (R203, R206, R516, R520) -/

/-- Context `c` of engine `eng` of a slice, in state `x`, can issue an instruction. -/
structure EngineCan (s : State) (slice eng c : Nat) (x : Ctx) : Prop where
  sliceOk : slice < 4
  engOk : eng < 16
  ctxOk : c < 8
  serving : s.quarantined slice eng = false
  held : s.ctx? (ctxKey slice eng c) = some x
  ready : x.wait = none
  free : s.engineHeld slice eng = false
  budget : x.within s.coreNow = true
  fetch : x.ia ≤ 0xFFFFC

/-- A context that has issued an instruction: its clock is charged (R203). -/
def issue (s : State) (x : Ctx) : Ctx := x.issues s.coreNow

/-- The state in which an engine executes an instruction: the context has issued it, and it is counted. -/
def engineIssued (s : State) (slice eng c : Nat) (x : Ctx) : State :=
  (s.begin.setCtx (ctxKey slice eng c) (issue s x)).countEngine slice eng

/-- The routine of a packet instruction runs in ROM, and its unit has a tentative place left for the slice (R209, R216). -/
def RomRuns (t : State) (slice op fn : Nat) : Prop := t.patched op fn = false ∧ t.tentative slice (unitOf op) < 256

/-- A context that has issued an instruction whose unit may read package memory: from this clock on it may wait for it, uncharged
(R203). -/
def issueWaits (s : State) (x : Ctx) : Ctx := { issue s x with missFrom := some s.coreNow }

/-- The state in which an engine executes such an instruction. -/
def engineWaits (s : State) (slice eng c : Nat) (x : Ctx) : State :=
  (engineIssued s slice eng c x).setCtx (ctxKey slice eng c) (issueWaits s x)

/-- Context `c` of the Glasshouse runs and can fetch its instruction. -/
structure CoreCan (s : State) (c : Nat) : Prop where
  ctxOk : c < 32
  running : (s.core c).state = 2
  fetch : (s.begin.countCore c).fetchable c (s.core c) (s.core c).ia = true

/-- The state in which a context of the Glasshouse executes an instruction: it is counted and fetched. -/
def coreIssued (s : State) (c : Nat) : State := (s.begin.countCore c).fetchCore c (s.core c)

/-- What an engine does with an instruction: it goes on in the state `f` gives, from the context as it issued and the
state that counts it. -/
def OnEngine (i : Agent → Instr) (f : Nat → Ctx → State → State) : Prop :=
  ∀ s slice eng c x, EngineCan s slice eng c x →
    exec (i (.engine slice eng c .none)) s = .next (f (ctxKey slice eng c) (issue s x) (engineIssued s slice eng c x))

/-- What a context of the Glasshouse does with an instruction. -/
def OnCore (i : Agent → Instr) (f : Nat → Core → State → State) : Prop :=
  ∀ s c, CoreCan s c → exec (i (.core c .none)) s = .next (f c (s.core c) (coreIssued s c))

/-- An instruction of both processors gives register `rd` the value `f` of the registers, and goes on (R195, R196). -/
def Computes (i : Agent → Instr) (rd : BitVec 5) (f : (BitVec 5 → DWord) → DWord) : Prop :=
  (OnEngine i fun k x t => t.setCtx k (x.setReg rd (f x.reg)).advance)
    ∧ OnCore i fun c x t => t.retire c rd (f fun r => x.reg r.toNat) (x.ia + 4)

/-- `n` bytes from an address are memory that a context reaches at once (R520): its own, or shared SRAM for the kernel. -/
def PlainMemory (s : State) (c a n : Nat) : Prop :=
  (0x10000000 + c * 0x10000 ≤ a ∧ a + n ≤ 0x10000000 + (c + 1) * 0x10000)
    ∨ ((s.core c).kern = true ∧ 0x11000000 ≤ a ∧ a + n ≤ 0x117C0000)

end Sys2Proof
end

