-- ==== Sys2Proof/Certificates/Slice0/Obligations.lean ====
section
/-! DEFINITION. The statements about the model, one for each group of commands and for the machine as a whole. -/

open Sys2Proof Sys2Proof.Machine

/-! ## The machine as a whole -/

/-- A step takes the command at the front of the queue and is exec of it in the state that holds the queue's rest; with no
command waiting the device idles (the model's own choice, log entry 1). -/
def Obligations.StepRunsTheFrontCommand : Prop :=
  (∀ (c : Instr) (s : State) (r : List Instr), s.pending = c :: r → step s = exec c { s with pending := r })
    ∧ ∀ s : State, s.pending = [] → step s = .next s

/-- The state after reset (R145, R369, R518, R630): no command waits, time, ADJ and the flow clock are zero, every register
reads its reset value, context 0 runs and the other 31 are off, no slice is in service, and nothing is queued or held.
Clauses that rest on a choice of the model: log entries 2, 9. -/
def Obligations.ResetLeavesTheResetValues : Prop :=
  let s := State.reset
  s.pending = [] ∧ (∀ r : Reg, s.rd r = r.reset) ∧ s.net.sec = 0 ∧ s.net.ns = 0 ∧ s.net.frac = 0
    ∧ s.rd Reg.TIM_ADJ = 0 ∧ s.fle.clockMs = 0 ∧ (s.core 0).state = 2 ∧ (∀ c, 0 < c → (s.core c).state = 0)
    ∧ (∀ c r, (s.core c).reg r = 0) ∧ s.packets = [] ∧ s.events = [] ∧ (∀ p, s.fb (Fld.PRT_STATUS_LINK p) = false)
    ∧ s.power 0 = 3 ∧ s.power 1 = 3 ∧ s.power 2 = 3 ∧ s.power 3 = 3
    ∧ (∀ q, (s.queue q).items = [] ∧ (s.queue q).tc = q % 8) ∧ (∀ z, (s.zone z).live = 0) ∧ s.pairing = 0
    ∧ (∀ a, s.memByte a = 0)

/-- The state after reset is in canonical form: its registers and the Glasshouse's memory list only what differs from reset,
in rising order, and no ill-formed command waits. -/
def Obligations.ResetIsCanonical : Prop := Canonical State.reset

/-- Every step keeps the canonical form, in every state: of the registers, of the Glasshouse's memory, and of the queue. -/
def Obligations.EveryStepKeepsTheCanonicalForm : Prop := ∀ s t : State, Canonical s → step s = .next t → Canonical t

/-- Decoding the word of an instruction gives the instruction back, with every operand, for whichever context issues it
(R194–R196, R199). -/
def Obligations.DecodingUndoesTheEncoding : Prop :=
  ∀ (i : Instr) (a : Agent) (w : Word), i.agent? = some a → instrWord i = some w → decodeInstr a w = some i

/-- Every command goes on in every state: none of them ends the run (R17). -/
def Obligations.EveryCommandGoesOn : Prop := ∀ (c : Instr) (s : State), GoesOn (exec c s)

/-- Writes of the control space (R10, R18, R628): an address that is not aligned, holds no register, or may not be reached by
the requester gets the error response and changes no register; a plain register of a start-only or live setting takes the
value of its fields. Completes, each by its own effect under conditions of the state and operands alone: registerWrite.
Clauses that rest on a choice of the model: log entries 62, 92, 99. -/
def Obligations.RegisterWrites : Prop :=
  ∀ (s : State) (q : Requester) (addr : BitVec 40) (v : Word),
    (addr.toNat % 4 ≠ 0 → exec (.registerWrite q addr v) s = .next s.begin.errorResponse)
    ∧ (Spec.find? addr.toNat = none → exec (.registerWrite q addr v) s = .next s.begin.errorResponse)
    ∧ (∀ r ix, addr.toNat % 4 = 0 → Spec.find? addr.toNat = some (r, ix) → s.mayReach q r = false →
        exec (.registerWrite q addr v) s = .next s.begin.errorResponse)
    ∧ (∀ r ix, addr.toNat % 4 = 0 → Spec.find? addr.toNat = some (r, ix) → s.mayReach q r = true → r.sliceOf ix = none →
        exec (.registerWrite q addr v) s = .next (s.begin.writeReg q r ix v.toNat))
    ∧ (∀ p, p < 64 → addr.toNat = (Reg.PRT_TIMERS p).addr → Spec.PRT_TIMERS.inRange v.toNat = true → ∃ t,
        exec (.registerWrite .kernel addr v) s = .next t
        ∧ t.fg (Fld.PRT_TIMERS_HOLD_MS p) = bitsOf v.toNat 9 0)

/-- R84: PRT_TIMERS of a port, at offset 0x00C of its registers. Its fields take a value inside their ranges, its reserved
bits stay 0, and a write with a field outside its range changes nothing. At reset DN_DELAY_MS is 0, UP_DELAY_MS 1 and HOLD_MS
20. -/
def Obligations.PortTimersRegister : Prop :=
  ∀ p < 64, (Reg.PRT_TIMERS p).addr = 0x0040000C + 0x1000 * p
    ∧ State.reset.fg (Fld.PRT_TIMERS_DN_DELAY_MS p) = 0 ∧ State.reset.fg (Fld.PRT_TIMERS_UP_DELAY_MS p) = 1
    ∧ State.reset.fg (Fld.PRT_TIMERS_HOLD_MS p) = 20 ∧ bitsOf (State.reset.rd (Reg.PRT_TIMERS p)).toNat 31 27 = 0
    ∧ ∀ (s : State) (v : Word),
      let ok := bitsOf v.toNat 26 20 ≤ 100 ∧ bitsOf v.toNat 19 10 ≤ 1000 ∧ bitsOf v.toNat 9 0 ≤ 1000
      ∃ t, exec (.registerWrite .kernel (BitVec.ofNat 40 (0x0040000C + 0x1000 * p)) v) s = .next t
        ∧ (ok → t.fg (Fld.PRT_TIMERS_DN_DELAY_MS p) = bitsOf v.toNat 26 20 ∧ t.fg (Fld.PRT_TIMERS_UP_DELAY_MS p) = bitsOf v.toNat 19 10
            ∧ t.fg (Fld.PRT_TIMERS_HOLD_MS p) = bitsOf v.toNat 9 0
            ∧ bitsOf (t.rd (Reg.PRT_TIMERS p)).toNat 31 27 = bitsOf (s.rd (Reg.PRT_TIMERS p)).toNat 31 27)
        ∧ (¬ok → t.rd (Reg.PRT_TIMERS p) = s.rd (Reg.PRT_TIMERS p))

/-! ## Instructions -/

/-- The ALU group (R196): rd takes the result of rs1 and rs2, on an engine and on a core; LZC and POPCNT take rs1 alone. The
instructions with a constant, and the field instructions (R195): ADDK, CLTK and CLTUK extend the sign of their constant,
ANDK, ORK and XORK fill it with zeros; a shift takes 0–63; INSH, FXT and FDP take and place bit fields. Completes, each by
its own effect under conditions of the state and operands alone: add, sub, and, or, xor, shl, shr, sar, clt, cltu, mul,
mulhi, umin, umax, lzc, popcnt, addk, andk, ork, xork, shlk, shrk, sark, cltk, cltuk, insh, fxt, fdp. Clauses that rest on a
choice of the model: log entries 75, 79. -/
def Obligations.AluAndConstantsGiveTheirResult : Prop :=
  (∀ rd rs1 rs2 : BitVec 5,
      (Computes (fun a => .add a rd rs1 rs2) rd fun r => r rs1 + r rs2)
      ∧ (Computes (fun a => .sub a rd rs1 rs2) rd fun r => r rs1 - r rs2)
      ∧ (Computes (fun a => .and a rd rs1 rs2) rd fun r => r rs1 &&& r rs2)
      ∧ (Computes (fun a => .or a rd rs1 rs2) rd fun r => r rs1 ||| r rs2)
      ∧ (Computes (fun a => .xor a rd rs1 rs2) rd fun r => r rs1 ^^^ r rs2)
      ∧ (Computes (fun a => .shl a rd rs1 rs2) rd fun r => r rs1 <<< ((r rs2).toNat % 64))
      ∧ (Computes (fun a => .shr a rd rs1 rs2) rd fun r => r rs1 >>> ((r rs2).toNat % 64))
      ∧ (Computes (fun a => .sar a rd rs1 rs2) rd fun r => (r rs1).sshiftRight ((r rs2).toNat % 64))
      ∧ (Computes (fun a => .clt a rd rs1 rs2) rd fun r => if (r rs1).toInt < (r rs2).toInt then 1 else 0)
      ∧ (Computes (fun a => .cltu a rd rs1 rs2) rd fun r => if (r rs1).toNat < (r rs2).toNat then 1 else 0)
      ∧ (Computes (fun a => .mul a rd rs1 rs2) rd fun r => BitVec.ofNat 64 ((r rs1).toNat * (r rs2).toNat))
      ∧ (Computes (fun a => .mulhi a rd rs1 rs2) rd fun r => BitVec.ofNat 64 ((r rs1).toNat * (r rs2).toNat / 2 ^ 64))
      ∧ (Computes (fun a => .umin a rd rs1 rs2) rd fun r => BitVec.ofNat 64 (min (r rs1).toNat (r rs2).toNat))
      ∧ (Computes (fun a => .umax a rd rs1 rs2) rd fun r => BitVec.ofNat 64 (max (r rs1).toNat (r rs2).toNat))
      ∧ (Computes (fun a => .lzc a rd rs1 0) rd fun r => leadingZeros (r rs1))
      ∧ (Computes (fun a => .popcnt a rd rs1 0) rd fun r => onesIn (r rs1)))
  ∧ (∀ (rd rs1 : BitVec 5) (imm : BitVec 16) (sh : BitVec 2) (pos lenM1 : BitVec 6),
      (Computes (fun a => .addk a rd rs1 imm) rd fun r => r rs1 + imm.signExtend 64)
      ∧ (Computes (fun a => .andk a rd rs1 imm) rd fun r => r rs1 &&& imm.setWidth 64)
      ∧ (Computes (fun a => .ork a rd rs1 imm) rd fun r => r rs1 ||| imm.setWidth 64)
      ∧ (Computes (fun a => .xork a rd rs1 imm) rd fun r => r rs1 ^^^ imm.setWidth 64)
      ∧ (Computes (fun a => .cltk a rd rs1 imm) rd fun r => if (r rs1).toInt < imm.toInt then 1 else 0)
      ∧ (Computes (fun a => .cltuk a rd rs1 imm) rd fun r => if (r rs1).toNat < (imm.signExtend 64).toNat then 1 else 0)
      ∧ (imm.toNat < 64 →
          (Computes (fun a => .shlk a rd rs1 imm) rd fun r => r rs1 <<< imm.toNat)
          ∧ (Computes (fun a => .shrk a rd rs1 imm) rd fun r => r rs1 >>> imm.toNat)
          ∧ (Computes (fun a => .sark a rd rs1 imm) rd fun r => (r rs1).sshiftRight imm.toNat))
      ∧ (Computes (fun a => .insh a rd sh imm) rd fun r =>
          BitVec.ofNat 64 (withBits (r rd).toNat (16 * sh.toNat + 15) (16 * sh.toNat) imm.toNat))
      ∧ (pos.toNat + lenM1.toNat < 64 →
          (Computes (fun a => .fxt a rd rs1 pos lenM1) rd fun r =>
            BitVec.ofNat 64 ((r rs1).toNat / 2 ^ pos.toNat % 2 ^ (lenM1.toNat + 1)))
          ∧ (Computes (fun a => .fdp a rd rs1 pos lenM1) rd fun r =>
            BitVec.ofNat 64 (withBits (r rd).toNat (pos.toNat + lenM1.toNat) pos.toNat (r rs1).toNat))))

/-- What an instruction that computes a register on an engine leaves as it was (R192, R195, R196): every other register and
field of its own context but its instruction address, every other context, every packet, the flow records, the forwarding and
translation tables, the buffers, the queues, network time, the Glasshouse with its memory, and every control register outside
the counter and event blocks. Clauses that rest on a choice of the model: log entry 75. -/
def Obligations.ComputingLeavesTheRest : Prop :=
  ∀ (rd rs1 rs2 : BitVec 5) (imm : BitVec 16) (sh : BitVec 2), ∀ i ∈ ([(fun a => .add a rd rs1 rs2),
      (fun a => .sub a rd rs1 rs2), (fun a => .and a rd rs1 rs2), (fun a => .or a rd rs1 rs2), (fun a => .xor a rd rs1 rs2),
      (fun a => .shl a rd rs1 rs2), (fun a => .shr a rd rs1 rs2), (fun a => .sar a rd rs1 rs2), (fun a => .clt a rd rs1 rs2),
      (fun a => .cltu a rd rs1 rs2), (fun a => .mul a rd rs1 rs2), (fun a => .mulhi a rd rs1 rs2),
      (fun a => .umin a rd rs1 rs2), (fun a => .umax a rd rs1 rs2), (fun a => .lzc a rd rs1 0), (fun a => .popcnt a rd rs1 0),
      (fun a => .addk a rd rs1 imm), (fun a => .andk a rd rs1 imm), (fun a => .ork a rd rs1 imm), (fun a => .xork a rd rs1 imm),
      (fun a => .cltk a rd rs1 imm), (fun a => .cltuk a rd rs1 imm), (fun a => .insh a rd sh imm)] : List (Agent → Instr)),
    (∀ s slice eng c x, EngineCan s slice eng c x → ∃ t y, exec (i (.engine slice eng c .none)) s = .next t
      ∧ t.ctx? (ctxKey slice eng c) = some y
      ∧ (∀ r, r ≠ rd → y.reg r = x.reg r) ∧ y.reg 0 = 0 ∧ x.charged < y.charged
      ∧ y = { x with g := y.g, ia := x.ia + 4, restarts := 0, charged := y.charged, waited := y.waited, missFrom := y.missFrom }
      ∧ (∀ k, k ≠ ctxKey slice eng c → t.ctx? k = s.ctx? k)
      ∧ t.packets = s.packets ∧ t.fle = s.fle ∧ t.fwd = s.fwd ∧ t.xlb = s.xlb ∧ t.buf = s.buf ∧ t.sch = s.sch
      ∧ t.rul = s.rul ∧ t.net = s.net ∧ t.aon = s.aon ∧ t.glh = s.glh ∧ t.pending = s.pending ∧ t.out = []
      ∧ ∀ r : Reg, (r.addr < 0x01200000 ∨ (0x01300000 ≤ r.addr ∧ r.addr < 0x01600000)) → t.rd r = s.rd r)
    ∧ ∀ s c, CoreCan s c → ∃ t, exec (i (.core c .none)) s = .next t
      ∧ (∀ r, r ≠ rd.toNat → (t.core c).reg r = (s.core c).reg r)
      ∧ (∀ d, d ≠ c → t.core d = s.core d) ∧ (∀ b, t.memByte b = s.memByte b)
      ∧ (t.core c).evpend = (s.core c).evpend ∧ (t.core c).kern = (s.core c).kern
      ∧ t.glh.tasks = s.glh.tasks ∧ t.glh.channels = s.glh.channels ∧ t.packets = s.packets ∧ t.fle = s.fle
      ∧ t.trw = s.trw ∧ t.net = s.net ∧ t.pending = s.pending

/-- MFPC and MTPC (R193): MFPC reads a packet-context register into rd; pc_left is what the clocks charged, one or more for
this instruction, leave of the budget; MTPC writes bits 2:0 of pc_tc. Completes, each by its own effect under conditions of
the state and operands alone: mfpc, mtpc. Clauses that rest on a choice of the model: log entries 79, 80, 111. -/
def Obligations.PacketContextRegisters : Prop :=
  ∀ (rd rs1 : BitVec 5) (s : State) (slice eng c : Nat) (x : Ctx), EngineCan s slice eng c x →
    let p := s.pkt x.pid
    let reads := fun (i : BitVec 16) (v : Nat) =>
      exec (.mfpc (.engine slice eng c .none) rd 0 i) s = .next ((engineIssued s slice eng c x).setCtx (ctxKey slice eng c)
        ((issue s x).setReg rd (BitVec.ofNat 64 v)).advance)
    reads 0 p.inPort ∧ reads 1 p.pass ∧ reads 2 ((engineIssued s slice eng c x).pcStatus (issue s x)) ∧ reads 3 (if p.ended then p.len else 0)
      ∧ reads 4 (p.rule.getD 0) ∧ reads 5 p.head.hash ∧ reads 6 (p.rx.sec % 2 ^ 32 * 2 ^ 32 + p.rx.ns) ∧ reads 7 x.arg
      ∧ reads 8 x.prog ∧ reads 9 (ofBool x.dir) ∧ reads 10 p.epochs.rule ∧ reads 11 x.tc ∧ reads 12 x.pol
      ∧ (∃ v, ∃ y : Ctx, ∃ t, v + y.charged = x.budget ∧ x.charged < y.charged ∧ y = { issue s x with charged := y.charged }
          ∧ exec (.mfpc (.engine slice eng c .none) rd 0 13) s = .next t
          ∧ t.ctx? (ctxKey slice eng c) = some (y.setReg rd (BitVec.ofNat 64 v)).advance)
      ∧ exec (.mtpc (.engine slice eng c .none) 0 rs1 11) s = .next ((engineIssued s slice eng c x).setCtx (ctxKey slice eng c)
          { issue s x with tc := (x.reg rs1).toNat % 8 }.advance)

/-- Loads (R197, R520): big-endian bytes of the context window, or of the context's own memory and, for the kernel, shared
SRAM; rd takes them with zeros above. A load of the window that is not wholly inside one row raises cause 2. Stores of a
context of the Glasshouse (R520): the `n` bytes of rs2 from the address up, most significant first, and no other byte of
memory; no register changes, and IA goes on. Completes, each by its own effect under conditions of the state and operands
alone: ldb, ldh, ldw, ldd, stb, sth, stw, std. Clauses that rest on a choice of the model: log entries 10, 72, 76. -/
def Obligations.LoadsAndCoreStores : Prop :=
  (∀ (rd rs1 : BitVec 5) (imm : BitVec 16), ∀ p ∈ ([(1, fun a => .ldb a rd rs1 imm), (2, fun a => .ldh a rd rs1 imm),
        (4, fun a => .ldw a rd rs1 imm), (8, fun a => .ldd a rd rs1 imm)] : List (Nat × (Agent → Instr))),
      (∀ s slice eng c x, EngineCan s slice eng c x →
        (∀ bs, s.windowLoad x (x.reg rs1 + imm.signExtend 64).toNat p.1 = some bs →
          exec (p.2 (.engine slice eng c .none)) s = .next ((engineIssued s slice eng c x).setCtx (ctxKey slice eng c)
            ((issue s x).setReg rd (BitVec.ofNat 64 (beNat bs))).advance))
        ∧ (windowRow (x.reg rs1 + imm.signExtend 64).toNat p.1 = none →
          exec (p.2 (.engine slice eng c .none)) s = .next ((engineIssued s slice eng c x).raise (ctxKey slice eng c) 2)))
      ∧ ∀ s c, CoreCan s c → PlainMemory s c ((s.core c).reg rs1.toNat + imm.signExtend 64).toNat p.1 →
        exec (p.2 (.core c .none)) s = .next ((coreIssued s c).retire c rd
          (BitVec.ofNat 64 (beNat (s.memBytes ((s.core c).reg rs1.toNat + imm.signExtend 64).toNat p.1))) ((s.core c).ia + 4)))
  ∧ (∀ (rs1 rs2 : BitVec 5) (imm : BitVec 16), ∀ p ∈ ([(1, fun a => .stb a rs1 rs2 imm), (2, fun a => .sth a rs1 rs2 imm),
        (4, fun a => .stw a rs1 rs2 imm), (8, fun a => .std a rs1 rs2 imm)] : List (Nat × (Agent → Instr))),
      ∀ s c, CoreCan s c →
        let a := ((s.core c).reg rs1.toNat + imm.signExtend 64).toNat
        PlainMemory s c a p.1 → ∃ t, exec (p.2 (.core c .none)) s = .next t
          ∧ (∀ j < p.1, t.memByte (a + j) = BitVec.ofNat 8 (((s.core c).reg rs2.toNat).toNat / 256 ^ (p.1 - 1 - j)))
          ∧ (∀ b, b < a ∨ a + p.1 ≤ b → t.memByte b = s.memByte b)
          ∧ (∀ d r, (t.core d).reg r = (s.core d).reg r)
          ∧ (t.core c).ia = ((s.core c).ia + 4) % 2 ^ 40
          ∧ ∀ d, d ≠ c → t.core d = s.core d)

/-- What a load of the context window reads (R197, R198). Stores on an engine (R197, R198): the bytes of rs2 enter the
window, or cause 3 is raised. Clauses that rest on a choice of the model: log entries 10, 95. -/
def Obligations.ContextWindowOfAnEngine : Prop :=
  (∀ (s : State) (x : Ctx) (a n : Nat), 0 < n →
      (a + n ≤ 0x40 → s.windowLoad x a n = some (sliceBytes (s.pkt x.pid).head.key a n))
      ∧ (0x40 ≤ a → a + n ≤ 0x80 → x.record = none → s.windowLoad x a n = some (List.replicate n 0))
      ∧ (0x80 ≤ a → a + n ≤ 0xC0 → x.record = none → s.windowLoad x a n = some (List.replicate n 0))
      ∧ (∀ r, 0x40 ≤ a → a + n ≤ 0x80 → x.copy = some r → s.windowLoad x a n = some (sliceBytes (padTo 128 r.bytes) (a - 0x40) n))
      ∧ (0xC0 ≤ a → a + n ≤ 0x180 → s.windowLoad x a n = some (sliceBytes ((s.pkt x.pid).bytes.take 192) (a - 0xC0) n))
      ∧ (0x180 ≤ a → a + n ≤ 0x190 → (s.pkt x.pid).pass = 1 → s.windowLoad x a n = some (List.replicate n 0))
      ∧ (0x180 ≤ a → a + n ≤ 0x190 → (s.pkt x.pid).pass ≠ 1 →
          s.windowLoad x a n = some (sliceBytes (s.pkt x.pid).scratch (a - 0x180) n))
      ∧ (0x190 ≤ a → a + n ≤ 0x1A0 → s.windowLoad x a n = some ((List.range n).map fun i => x.next.get (a - 0x190 + i) 0))
      ∧ (0x1A0 ≤ a → a + n ≤ 0x2A0 → s.windowLoad x a n = some ((List.range n).map fun i => x.scratch.get (a - 0x1A0 + i) 0))
      ∧ (0x2A0 < a + n → s.windowLoad x a n = none))
  ∧ (∀ (rs1 rs2 : BitVec 5) (imm : BitVec 16), ∀ p ∈ ([(1, fun a => .stb a rs1 rs2 imm), (2, fun a => .sth a rs1 rs2 imm),
        (4, fun a => .stw a rs1 rs2 imm), (8, fun a => .std a rs1 rs2 imm)] : List (Nat × (Agent → Instr))),
      ∀ s slice eng c x, EngineCan s slice eng c x →
        let a := (x.reg rs1 + imm.signExtend 64).toNat
        let k := ctxKey slice eng c
        let i := p.2 (.engine slice eng c .none)
        (0x1A0 ≤ a → a + p.1 ≤ 0x2A0 → ∃ t y, exec i s = .next t ∧ t.ctx? k = some y
          ∧ (∀ j < p.1, y.scratch.get (a - 0x1A0 + j) 0 = BitVec.ofNat 8 ((x.reg rs2).toNat / 256 ^ (p.1 - 1 - j)))
          ∧ (∀ b, b < a - 0x1A0 ∨ a - 0x1A0 + p.1 ≤ b → y.scratch.get b 0 = x.scratch.get b 0)
          ∧ y = { issue s x with scratch := y.scratch }.advance)
        ∧ (0x190 ≤ a → a + p.1 ≤ 0x1A0 → ∃ t y, exec i s = .next t ∧ t.ctx? k = some y
          ∧ (∀ j < p.1, y.next.get (a - 0x190 + j) 0 = BitVec.ofNat 8 ((x.reg rs2).toNat / 256 ^ (p.1 - 1 - j)))
          ∧ (∀ b, b < a - 0x190 ∨ a - 0x190 + p.1 ≤ b → y.next.get b 0 = x.next.get b 0)
          ∧ y = { issue s x with next := y.next }.advance)
        ∧ (a < 0x40 ∨ (0xC0 ≤ a ∧ a < 0x190) ∨ 0x2A0 ≤ a ∨ windowRow a p.1 = none →
            exec i s = .next ((engineIssued s slice eng c x).raise k 3))
        ∧ (x.record = none → a < 0x190 → exec i s = .next ((engineIssued s slice eng c x).raise k 3)))

/-- Branches and jumps (R195, R206): a branch whose compare holds goes to its own IA + 4 × sext(off), else to the next
instruction; CALL and JMPR leave the next IA in a register. Completes, each by its own effect under conditions of the state
and operands alone: brEq, brNe, brLts, brGes, brLtu, brGeu, call, jmpr. Clauses that rest on a choice of the model: log
entries 75, 79. -/
def Obligations.BranchesAndJumps : Prop :=
  ∀ (rd rs1 rs2 : BitVec 5) (off imm : BitVec 16) (far : BitVec 26),
    (∀ p ∈ ([(fun a => .brEq a rs1 rs2 off, fun u v => u == v), (fun a => .brNe a rs1 rs2 off, fun u v => u != v),
        (fun a => .brLts a rs1 rs2 off, fun u v => decide (u.toInt < v.toInt)),
        (fun a => .brGes a rs1 rs2 off, fun u v => decide (v.toInt ≤ u.toInt)),
        (fun a => .brLtu a rs1 rs2 off, fun u v => decide (u.toNat < v.toNat)),
        (fun a => .brGeu a rs1 rs2 off, fun u v => decide (v.toNat ≤ u.toNat))] :
        List ((Agent → Instr) × (DWord → DWord → Bool))),
      (∀ s slice eng c x, EngineCan s slice eng c x →
        let k := ctxKey slice eng c
        let dest := (BitVec.ofNat 64 x.ia + 4 * off.signExtend 64).toNat
        (p.2 (x.reg rs1) (x.reg rs2) = false →
          exec (p.1 (.engine slice eng c .none)) s = .next ((engineIssued s slice eng c x).setCtx k (issue s x).advance))
        ∧ (p.2 (x.reg rs1) (x.reg rs2) = true → dest % 4 = 0 → dest ≤ 0xFFFFC →
          exec (p.1 (.engine slice eng c .none)) s =
            .next ((engineIssued s slice eng c x).setCtx k { issue s x with ia := dest, restarts := 0 }))
        ∧ (p.2 (x.reg rs1) (x.reg rs2) = true → (dest % 4 ≠ 0 ∨ 0xFFFFC < dest) →
          exec (p.1 (.engine slice eng c .none)) s = .next ((engineIssued s slice eng c x).raise k 4)))
      ∧ ∀ s c, CoreCan s c →
        let x := s.core c
        let dest := (BitVec.ofNat 64 x.ia + 4 * off.signExtend 64).toNat
        (p.2 (x.reg rs1.toNat) (x.reg rs2.toNat) = false →
          exec (p.1 (.core c .none)) s = .next ((coreIssued s c).retire c 0 0 (x.ia + 4)))
        ∧ (p.2 (x.reg rs1.toNat) (x.reg rs2.toNat) = true → dest % 4 = 0 → (coreIssued s c).fetchable c x dest = true →
          exec (p.1 (.core c .none)) s = .next ((coreIssued s c).retire c 0 0 dest)))
    ∧ (∀ s slice eng c x, EngineCan s slice eng c x →
      let k := ctxKey slice eng c
      let ret := BitVec.ofNat 64 (x.ia + 4)
      let dest := (BitVec.ofNat 64 x.ia + 4 * far.signExtend 64).toNat
      let at' := (x.reg rs1 + imm.signExtend 64).toNat
      (dest % 4 = 0 → dest ≤ 0xFFFFC → exec (.call (.engine slice eng c .none) far) s =
        .next ((engineIssued s slice eng c x).setCtx k { ((issue s x).setReg 31 ret) with ia := dest, restarts := 0 }))
      ∧ (at' % 4 = 0 → at' ≤ 0xFFFFC → exec (.jmpr (.engine slice eng c .none) rd rs1 imm) s =
        .next ((engineIssued s slice eng c x).setCtx k { ((issue s x).setReg rd ret) with ia := at', restarts := 0 })))
    ∧ ∀ s c, CoreCan s c →
      let x := s.core c
      let ret := BitVec.ofNat 64 (x.ia + 4)
      let dest := (BitVec.ofNat 64 x.ia + 4 * far.signExtend 64).toNat
      let at' := (x.reg rs1.toNat + imm.signExtend 64).toNat
      (dest % 4 = 0 → (coreIssued s c).fetchable c x dest = true →
        exec (.call (.core c .none) far) s = .next ((coreIssued s c).retire c 31 ret dest))
      ∧ (at' % 4 = 0 → (coreIssued s c).fetchable c x at' = true →
        exec (.jmpr (.core c .none) rd rs1 imm) s = .next ((coreIssued s c).retire c rd ret at'))

/-- FCREATE and FDELETE (R156, R199, R202): the request of a creation waits in the bucket unit's queue for its status, a
packet with a record is answered 7, and one whose rule does not allow a record 1; FDELETE marks the record of the packet.
POLICE (R250, R251): with rs1 = g0 and no effective policer the colour is 0; else the policer's state and the length of an
ended packet decide it. A policer or a colour out of range raises cause 6. Completes, each by its own effect under conditions
of the state and operands alone: fcreate, fdelete, police. Clauses that rest on a choice of the model: log entries 38, 41,
51, 53. -/
def Obligations.CreationAndMetering : Prop :=
  (∀ (rd : BitVec 5) (s : State) (slice eng c : Nat) (x : Ctx), EngineCan s slice eng c x →
      let k := ctxKey slice eng c
      let p := s.pkt x.pid
      let w := p.rule.getD 0
      let create := exec (.fcreate (.engine slice eng c .none) rd 0 0) s
      let t := engineIssued s slice eng c x
      let answers := fun (n : Nat) => RomRuns t slice 0x20 0 → create =
        .next ((engineWaits s slice eng c x).setCtx k ((issueWaits s x).setReg rd (BitVec.ofNat 64 n)).advance)
      (p.op = none ∨ bitAt w 60 = false → answers 1)
      ∧ (∀ id, p.op = some id → bitAt w 60 = true →
          (x.present = true → answers 7)
          ∧ (x.present = false → bitAt w 59 = false → answers 1)
          ∧ (x.present = false → bitAt w 59 = true → p.flow = .refused 1 → answers 5)
          ∧ (x.present = false → bitAt w 59 = true → p.flow ≠ .refused 1 → (s.op id).creation = .none →
              s.fle.creations.length < 4096 → RomRuns t slice 0x20 0 →
              ∃ t, create = .next t ∧ t.fle.creations = s.fle.creations ++ [id]
                ∧ t.ctx? k = some { issueWaits s x with wait := some (0, s.coreNow), rd := rd.toNat }))
      ∧ (x.record.isSome → RomRuns t slice 0x20 1 → exec (.fdelete (.engine slice eng c .none) 0 0 0) s =
          .next (t.setCtx k { issue s x with deleted := true }.advance))
      ∧ (x.record = none → RomRuns t slice 0x20 1 → exec (.fdelete (.engine slice eng c .none) 0 0 0) s =
          .next (t.raise k 6)))
  ∧ (∀ (rd rs1 rs2 : BitVec 5) (s : State) (slice eng c : Nat) (x : Ctx), EngineCan s slice eng c x →
      let k := ctxKey slice eng c
      let t := engineIssued s slice eng c x
      let i := (x.reg rs1).toNat
      let colour := (x.reg rs2).toNat
      (bitAt x.pol 17 = false → colour ≤ 2 → RomRuns t slice 0x21 0 → exec (.police (.engine slice eng c .none) rd 0 rs2) s =
        .next (t.setCtx k ((issue s x).setReg rd 0).advance))
      ∧ (rs1 ≠ 0 → i ≤ 131071 → colour ≤ 2 → (s.pkt x.pid).ended = true →
          RomRuns t slice 0x21 0 → exec (.police (.engine slice eng c .none) rd rs1 rs2) s =
            .next ((t.police i (s.pkt x.pid).len colour).2.setCtx k
              ((issue s x).setReg rd (BitVec.ofNat 64 (t.police i (s.pkt x.pid).len colour).1)).advance))
      ∧ (2 < colour ∨ (rs1 ≠ 0 ∧ 131071 < i) →
          RomRuns t slice 0x21 0 → exec (.police (.engine slice eng c .none) rd rs1 rs2) s = .next (t.raise k 6)))

/-- The table lookups of an engine (R262, R266, R277–R279): rd takes the word of the entry found in the bank of the packet's
epoch, or 0 where there is none and no default route; an operand out of range raises cause 6. The lookups of a core (R542):
the context is in STALL until the result arrives, and then goes on with it in rd. Completes, each by its own effect under
conditions of the state and operands alone: l2, lpm4, lpm6, nhop, ecmp. Clauses that rest on a choice of the model: log
entries 52, 53. -/
def Obligations.TableLookups : Prop :=
  (∀ (rd rs1 : BitVec 5) (s : State) (slice eng c : Nat) (x : Ctx), EngineCan s slice eng c x →
      let k := ctxKey slice eng c
      let p := s.pkt x.pid
      let v := (x.reg rs1).toNat
      let gives := fun (i : Instr) (n : Nat) => ∃ u, exec i s = .next u
        ∧ u.ctx? k = some ((issueWaits s x).setReg rd (BitVec.ofNat 64 n)).advance
      let t := engineIssued s slice eng c x
      let faults := fun (i : Instr) => exec i s = .next ((engineWaits s slice eng c x).raise k 6)
      let a := Agent.engine slice eng c .none
      (v < 2 ^ 60 → RomRuns t slice 0x22 0 → gives (.l2 a rd rs1 0)
        (match s.l2Find (s.lookupBank 0 (some p.epochs)) (v / 2 ^ 48) (v % 2 ^ 48) with | some h => h.2.word | none => 0))
      ∧ (2 ^ 60 ≤ v → RomRuns t slice 0x22 0 → faults (.l2 a rd rs1 0))
      ∧ (∀ e n, v < 2 ^ 32 → s.lpmProbe 0 (s.lookupBank 1 (some p.epochs)) v 32 0 = .found e n →
          RomRuns t slice 0x22 1 → gives (.lpm4 a rd rs1 0) (e.word n))
      ∧ (∀ n, v < 2 ^ 32 → s.lpmProbe 0 (s.lookupBank 1 (some p.epochs)) v 32 0 = .none n →
          RomRuns t slice 0x22 1 → gives (.lpm4 a rd rs1 0)
            (match (s.lpmBank 0 (s.lookupBank 1 (some p.epochs))).dflt with | some e => e.word n | none => 0))
      ∧ (2 ^ 32 ≤ v → RomRuns t slice 0x22 1 → faults (.lpm4 a rd rs1 0))
      ∧ (∀ bs e n, s.windowLoad x v 16 = some bs →
          s.lpmProbe 1 (s.lookupBank 2 (some p.epochs)) (beNat bs) 128 0 = .found e n →
          RomRuns t slice 0x22 2 → gives (.lpm6 a rd rs1 0) (e.word n))
      ∧ (s.windowLoad x v 16 = none → RomRuns t slice 0x22 2 → faults (.lpm6 a rd rs1 0))
      ∧ (v ≤ 65535 → RomRuns t slice 0x22 3 → gives (.nhop a rd rs1 0) (s.nextHop v).word)
      ∧ (65535 < v → RomRuns t slice 0x22 3 → faults (.nhop a rd rs1 0))
      ∧ (v ≤ 4095 → RomRuns t slice 0x22 4 → gives (.ecmp a rd rs1 0) (s.ecmpWord v (hashHi p.head.hash) (hashLo p.head.hash)))
      ∧ (4095 < v → RomRuns t slice 0x22 4 → faults (.ecmp a rd rs1 0)))
  ∧ (∀ (rd rs1 : BitVec 5) (s : State) (c : Nat), CoreCan s c →
      let x := s.core c
      let v := (x.reg rs1.toNat).toNat
      let waits := fun (i : Instr) (n : Nat) => ∃ t, exec i s = .next t ∧ (t.core c).state = 4
        ∧ (t.core c).wait = .lookup (BitVec.ofNat 64 n) ∧ (t.core c).rd = rd.toNat ∧ (t.core c).ia = x.ia
      let a := Agent.core c .none
      (v ≤ 65535 → waits (.nhop a rd rs1 0) (s.nextHop v).word)
      ∧ (v ≤ 4095 → waits (.ecmp a rd rs1 0) (s.ecmpWord v (hashHi x.hash.toNat) (hashLo x.hash.toNat))))

/-- NATMAP, NATREL and LBSEL (R236, R240, R246): NATMAP on a record whose link is an inside mapping gives that mapping and
takes no reference; NATREL clears the translation of the record copy and releases the reference at the write-back; LBSEL of a
packet with no record gives the word of the member selected. Completes, each by its own effect under conditions of the state
and operands alone: natmap, natrel, lbsel. Clauses that rest on a choice of the model: log entries 37, 52, 53. -/
def Obligations.TranslationInstructions : Prop :=
  ∀ (rd rs1 : BitVec 5) (s : State) (slice eng c : Nat) (x : Ctx), EngineCan s slice eng c x →
    let k := ctxKey slice eng c
    let t := engineIssued s slice eng c x
    let u := engineWaits s slice eng c x
    let v := (x.reg rs1).toNat
    (∀ r, x.copy = some r → v < 256 → r.flag bBalanced = false → r.hasRef = true → bitAt r.member 15 = false →
      s.fb (Fld.XLB_POOL_CFG_EN v) = true →
      RomRuns t slice 0x23 0 → exec (.natmap (.engine slice eng c .none) rd rs1 0) s = .next (u.unitWrites k (issueWaits s x) r
        (xlateWrites r (setBit r.flags bXlated true) (some r.xaddr) (some r.xport) r.member) rd
        (NatReply.word { addr := r.xaddr, port := r.xport, hairpin := u.isPublic (s.pkt x.pid).head.ends.2.1 })))
    ∧ (∀ r, x.copy = some r → r.hasRef = true → r.xaddr = v / 2 ^ 32 → r.xport = v / 2 ^ 16 % 2 ^ 16 →
      RomRuns t slice 0x23 1 → exec (.natrel (.engine slice eng c .none) 0 rs1 0) s = .next (t.unitWrites k
        { issue s x with natRelease := x.natRelease ++ [r] } r
        (xlateWrites r (setBit r.flags bXlated false) (some 0) (some 0) 0) 0 0))
    ∧ (x.record = none → v ≤ 4095 → (s.lbGroup v).en = true →
      (s.lbSelect v (s.pkt x.pid).head.hash none).status = 0 →
      RomRuns t slice 0x23 2 → ∃ w, exec (.lbsel (.engine slice eng c .none) rd rs1 0) s = .next w ∧ w.ctx? k = some ((issueWaits s x).setReg rd
        (BitVec.ofNat 64 (s.lbWord v (s.lbSelect v (s.pkt x.pid).head.hash none)))).advance)
    ∧ (x.copy = none → RomRuns t slice 0x23 0 → exec (.natmap (.engine slice eng c .none) rd rs1 0) s = .next (u.raise k 6))
    ∧ (x.copy = none → RomRuns t slice 0x23 1 → exec (.natrel (.engine slice eng c .none) 0 rs1 0) s = .next (t.raise k 6))

/-- What a program asks of the egress side (R42, R199–R201, R333, R377): a destination, a mirror session, a timestamp, an
edit; an operand out of range raises cause 6. Completes, each by its own effect under conditions of the state and operands
alone: setq, recirc, tocpu, drop, mirror, tsreq, edit. Clauses that rest on a choice of the model: log entry 35. -/
def Obligations.EgressRequests : Prop :=
  ∀ (rd rs1 rs2 : BitVec 5) (s : State) (slice eng c : Nat) (x : Ctx), EngineCan s slice eng c x →
    let k := ctxKey slice eng c
    let t := engineIssued s slice eng c x
    let v := (x.reg rs1).toNat
    let q := (x.reg rs2).toNat
    let a := Agent.engine slice eng c .none
    (v ≤ 66 → q < t.queueCount v →
      RomRuns t slice 0x24 0 → exec (.setq a 0 rs1 rs2) s = .next (t.setCtx k { issue s x with dest := .queue v q }.advance))
    ∧ (66 < v ∨ t.queueCount v ≤ q → RomRuns t slice 0x24 0 → exec (.setq a 0 rs1 rs2) s = .next (t.raise k 6))
    ∧ (v ≤ 3 → RomRuns t slice 0x24 1 → exec (.recirc a 0 rs1 0) s = .next (t.setCtx k { issue s x with dest := .recirc v }.advance))
    ∧ (3 < v → RomRuns t slice 0x24 1 → exec (.recirc a 0 rs1 0) s = .next (t.raise k 6))
    ∧ (v < t.queueCount 66 → RomRuns t slice 0x24 2 → exec (.tocpu a 0 rs1 0) s = .next (t.setCtx k { issue s x with dest := .queue 66 v }.advance))
    ∧ (t.queueCount 66 ≤ v → RomRuns t slice 0x24 2 → exec (.tocpu a 0 rs1 0) s = .next (t.raise k 6))
    ∧ (RomRuns t slice 0x24 3 → exec (.drop a 0 0 0) s = .next (t.setCtx k { issue s x with dest := .drop }.advance))
    ∧ (v ≤ 7 → x.mirrors.contains v = false →
        RomRuns t slice 0x24 4 → exec (.mirror a 0 rs1 0) s = .next (t.setCtx k { issue s x with mirrors := x.mirrors ++ [v] }.advance))
    ∧ (v ≤ 7 → x.mirrors.contains v = true → RomRuns t slice 0x24 4 → exec (.mirror a 0 rs1 0) s = .next (t.setCtx k (issue s x).advance))
    ∧ (7 < v → RomRuns t slice 0x24 4 → exec (.mirror a 0 rs1 0) s = .next (t.raise k 6))
    ∧ (v ≤ 1 → x.tsreq = none → RomRuns t slice 0x24 5 → ∃ u, exec (.tsreq a rd rs1 0) s = .next u
        ∧ u.ctx? k = some (({ issue s x with tsreq := some (slice * 16384 + s.trw.tsCount.get slice 0, v == 1) } : Ctx).setReg rd
            (BitVec.ofNat 64 (slice * 16384 + s.trw.tsCount.get slice 0))).advance
        ∧ u.trw.tsCount.get slice 0 = (s.trw.tsCount.get slice 0 + 1) % 16384)
    ∧ (1 < v → RomRuns t slice 0x24 5 → exec (.tsreq a rd rs1 0) s = .next (t.raise k 6))
    ∧ (q < editBound v → v ≠ 8 → v ≠ 9 → x.edits.length < 8 →
        editsCost (match x.record with | some r => r.key.v6 | none => false) (x.edits ++ [(v, q)]) ≤ 64 →
        RomRuns t slice 0x24 6 → exec (.edit a 0 rs1 rs2) s = .next (t.setCtx k { issue s x with edits := x.edits ++ [(v, q)] }.advance))
    ∧ (editBound v ≤ q ∨ 8 ≤ x.edits.length → RomRuns t slice 0x24 6 → exec (.edit a 0 rs1 rs2) s = .next (t.raise k 6))

/-- EXIT (R32, R39, R202): the context is free again, and the packet takes over what its program asked for. Instructions that
the processor or the privilege does not allow (R195, R199, R203, R524): packet instructions are illegal on a core, system
instructions on an engine, and an engine that has used its budget raises cause 5. Completes, each by its own effect under
conditions of the state and operands alone: exit. Clauses that rest on a choice of the model: log entries 79, 80, 97. -/
def Obligations.ExitAndWrongPlaces : Prop :=
  (∀ (s : State) (slice eng c : Nat) (x : Ctx), EngineCan s slice eng c x →
      RomRuns (engineIssued s slice eng c x) slice 0x2F 0 → exec (.exit (.engine slice eng c .none) 0 0 0) s =
        .next ((engineIssued s slice eng c x).finishProgram (ctxKey slice eng c)))
  ∧ (∀ (rd rs1 rs2 : BitVec 5) (s : State) (slice eng c : Nat) (x : Ctx),
      (EngineCan s slice eng c x → ∀ i ∈ ([fun a => .rdcr a rd rs1 rs2, fun a => .wrcr a rd rs1 rs2, fun a => .setcr a rd rs1 rs2,
          fun a => .clrcr a rd rs1 rs2, fun a => .waitt a rd rs1 rs2, fun a => .waite a rd rs1 rs2, fun a => .post a rd rs1 rs2,
          fun a => .taskend a rd rs1 rs2, fun a => .chres a rd rs1 rs2, fun a => .chcom a rd rs1 rs2, fun a => .chrcv a rd rs1 rs2,
          fun a => .chrel a rd rs1 rs2, fun a => .fget a rd rs1 rs2, fun a => .fput a rd rs1 rs2, fun a => .frel a rd rs1 rs2,
          fun a => .atadd a rd rs1 rs2, fun a => .atxch a rd rs1 rs2, fun a => .atcmpx a rd rs1 rs2, fun a => .kcall a rd rs1 rs2,
          fun a => .kret a rd rs1 rs2, fun a => .order a rd rs1 rs2, fun a => .halt a rd rs1 rs2] : List (Agent → Instr)),
        exec (i (.engine slice eng c .none)) s = .next ((engineIssued s slice eng c x).raise (ctxKey slice eng c) 1))
      ∧ (CoreCan s c → ∀ e ∈ ([fun a => (.fcreate a rd rs1 rs2, wordA 0x20 0 rd rs1 rs2),
          fun a => (.fdelete a rd rs1 rs2, wordA 0x20 1 rd rs1 rs2), fun a => (.police a rd rs1 rs2, wordA 0x21 0 rd rs1 rs2),
          fun a => (.natmap a rd rs1 rs2, wordA 0x23 0 rd rs1 rs2), fun a => (.natrel a rd rs1 rs2, wordA 0x23 1 rd rs1 rs2),
          fun a => (.lbsel a rd rs1 rs2, wordA 0x23 2 rd rs1 rs2), fun a => (.setq a rd rs1 rs2, wordA 0x24 0 rd rs1 rs2),
          fun a => (.recirc a rd rs1 rs2, wordA 0x24 1 rd rs1 rs2), fun a => (.tocpu a rd rs1 rs2, wordA 0x24 2 rd rs1 rs2),
          fun a => (.drop a rd rs1 rs2, wordA 0x24 3 rd rs1 rs2), fun a => (.mirror a rd rs1 rs2, wordA 0x24 4 rd rs1 rs2),
          fun a => (.tsreq a rd rs1 rs2, wordA 0x24 5 rd rs1 rs2), fun a => (.edit a rd rs1 rs2, wordA 0x24 6 rd rs1 rs2),
          fun a => (.exit a rd rs1 rs2, wordA 0x2F 0 rd rs1 rs2)] : List (Agent → Instr × Word)),
        exec (e (.core c .none)).1 s = .next ((coreIssued s c).coreFault c 0 (some (e (.core c .none)).2.toNat)))
      ∧ (slice < 4 → eng < 16 → c < 8 → s.quarantined slice eng = false → s.ctx? (ctxKey slice eng c) = some x →
          x.wait = none → s.engineHeld slice eng = false → x.within s.coreNow = false →
          exec (.add (.engine slice eng c .none) rd rs1 rs2) s = .next (s.begin.raise (ctxKey slice eng c) 5)))

/-- The context control registers (R525): RDCR reads one into rd, the NOW pair at one instant; WRCR, SETCR and CLRCR write
the new value and give the old one, a write of SIGNAL pends its event and gives a value that nothing states; one that is the
kernel's raises cause 8 at user privilege; a write of TMCMP_S disarms the compare and one of TMCMP_NS arms it. Completes,
each by its own effect under conditions of the state and operands alone: rdcr, wrcr, setcr, clrcr. Clauses that rest on a
choice of the model: log entry 72. -/
def Obligations.ControlRegisters : Prop :=
  ∀ (rd rs1 n : BitVec 5) (s : State) (c : Nat), CoreCan s c →
    let x := s.core c
    let t := coreIssued s c
    let v := (x.reg rs1.toNat).toNat
    let old := t.ccr c x n.toNat t.net 0
    let a := Agent.core c .none
    let may := n.toNat ∈ ccrKernel → x.kern = true
    (n.toNat < 19 → n.toNat ≠ 9 → n.toNat ≠ 11 → may →
      exec (.rdcr a rd 0 n) s = .next (t.retire c rd (BitVec.ofNat 64 old) (x.ia + 4)))
    ∧ exec (.rdcr a rd 0 9) s = .next ((t.sampleTime.2.modCore c fun x => { x with nowS := t.sampleTime.1.sec }).retire c rd
        (BitVec.ofNat 64 (t.sampleTime.1.frac / 2 ^ 32 * 2 ^ 32 + t.sampleTime.1.ns)) (x.ia + 4))
    ∧ exec (.rdcr a rd 0 11) s = .next (t.free.2.retire c rd t.free.1 (x.ia + 4))
    ∧ exec (.wrcr a rd rs1 11) s = .next ((t.free.2.pend (v % 32) (2 ^ (32 + bitsOf v 9 5))).retire c rd t.free.1 (x.ia + 4))
    ∧ (∀ e ∈ ([(.wrcr a rd rs1 n, v), (.setcr a rd rs1 n, old ||| v), (.clrcr a rd rs1 n, old ^^^ (old &&& v))] :
        List (Instr × Nat)),
        (n.toNat < 19 → n.toNat ≠ 11 → n.toNat ∉ ccrReadOnly → may →
          (∀ u, t.writeCcr c x n.toNat e.2 = some u →
            exec e.1 s = .next (u.retire c rd (BitVec.ofNat 64 old) (x.ia + 4))))
        ∧ (n.toNat ∈ ccrKernel → x.kern = false →
            exec e.1 s = .next (t.coreFault c 8 none) ∧ exec (.rdcr a rd 0 n) s = .next (t.coreFault c 8 none))
        ∧ (n.toNat ∈ ccrReadOnly ∨ 19 ≤ n.toNat →
            ∃ w, exec e.1 s = .next (t.coreFault c 0 (some w))))
    ∧ (∀ w, ∃ u, t.writeCcr c x 6 w = some u ∧ (u.core c).tmS = w % 2 ^ 48 ∧ (u.core c).armed = false)
    ∧ (∀ w, w ≤ 999999999 → ∃ u, t.writeCcr c x 7 w = some u ∧ (u.core c).tmNs = w ∧ (u.core c).armed = true)
    ∧ ∀ w, ∃ u, t.writeCcr c x 5 w = some u ∧ (u.core c).xentry = w % 2 ^ 40 / 4 * 4

/-- R524: at user privilege KRET and HALT, the context control registers of the kernel, the control space, a POST of a task
of the kernel or of level 31, and a channel with USER = 0 raise cause 8; at kernel privilege none of them raises it. -/
def Obligations.UserPrivilege : Prop :=
  ∀ (s : State) (c : Nat), CoreCan s c →
    let x := s.core c
    let t := coreIssued s c
    let a := Agent.core c .none
    (x.kern = false → ∀ (rd rs1 rs2 : BitVec 5) (imm : BitVec 16),
      let r := fun (b : BitVec 5) => (x.reg b.toNat).toNat
      let at' := (x.reg rs1.toNat + imm.signExtend 64).toNat
      exec (.kret a 0 0 0) s = .next (t.coreFault c 8 none)
      ∧ exec (.halt a 0 0 0) s = .next (t.coreFault c 8 none)
      ∧ (rs2.toNat ∈ ccrKernel →
          ∀ i ∈ [Instr.rdcr a rd 0 rs2, .wrcr a rd rs1 rs2, .setcr a rd rs1 rs2, .clrcr a rd rs1 rs2],
            exec i s = .next (t.coreFault c 8 none))
      ∧ (∀ e ∈ ([(1, .ldb a rd rs1 imm), (2, .ldh a rd rs1 imm), (4, .ldw a rd rs1 imm), (8, .ldd a rd rs1 imm),
            (1, .stb a rs1 rs2 imm), (2, .sth a rs1 rs2 imm), (4, .stw a rs1 rs2 imm), (8, .std a rs1 rs2 imm)] : List (Nat × Instr)),
          at' + e.1 ≤ 0x10000000 → exec e.2 s = .next (t.coreFault c 8 (some at')))
      ∧ (∀ k, PlainMemory s c (r rs1) 32 → r rs1 % 8 = 0 → taskOf (s.memBytes (r rs1) 32) = some k →
          k.user = false ∨ k.level = 31 → exec (.post a rd rs1 0) s = .next (t.coreFault c 8 none))
      ∧ (r rs1 ≤ 255 → s.fb (Fld.GLH_CHAN_CFG_USER (r rs1)) = false →
          exec (.chres a rd rs1 rs2) s = .next (t.coreFault c 8 none)
          ∧ exec (.chrcv a rd rs1 rs2) s = .next (t.coreFault c 8 none))
      ∧ (∀ ch k, slotNamed (r rs1) = some (ch, k) → s.fb (Fld.GLH_CHAN_CFG_USER ch) = false →
          exec (.chcom a 0 rs1 rs2) s = .next (t.coreFault c 8 none)
          ∧ exec (.chrel a 0 rs1 0) s = .next (t.coreFault c 8 none)))
    ∧ (x.kern = true → ∀ (rd : BitVec 5) (n : BitVec 5) (ch : Nat),
      exec (.kret a 0 0 0) s = .next ((t.modCore c fun x => { x with kern := x.pkern, exc := false }).retire c 0 0 x.xia)
      ∧ (∃ u, exec (.halt a 0 0 0) s = .next u ∧ (u.core c).state = 0)
      ∧ (n.toNat ∈ ccrKernel → exec (.rdcr a rd 0 n) s = .next (t.retire c rd (BitVec.ofNat 64 (t.ccr c x n.toNat t.net 0)) (x.ia + 4)))
      ∧ t.chanFault x ch ≠ some 8)

/-- Waits (R527, R528): WAITT waits for an armed compare and answers 1 without one; WAITE takes the pending events of its
mask, or waits; the compare that is met ends either wait with rd = 0 and disarms. The compare of a waiting context is met
(R527, R372): the context runs again with 0 in its register, after its instruction, and the compare is disarmed; one that is
not reached changes nothing. Completes, each by its own effect under conditions of the state and operands alone: waitt,
waite, timerCompareMet. Clauses that rest on a choice of the model: log entries 3, 4, 78. -/
def Obligations.WaitsOfAContext : Prop :=
  (∀ (rd rs1 : BitVec 5) (s : State) (c : Nat), CoreCan s c →
      let x := s.core c
      let t := coreIssued s c
      let m := (x.reg rs1.toNat).toNat
      let a := Agent.core c .none
      (x.armed = false → exec (.waitt a rd 0 0) s = .next (t.retire c rd 1 (x.ia + 4)))
      ∧ (x.armed = true → ∃ u, exec (.waitt a rd 0 0) s = .next u ∧ (u.core c).state = 3 ∧ (u.core c).wait = .timer
          ∧ (u.core c).rd = rd.toNat ∧ (u.core c).ia = x.ia)
      ∧ (x.evpend &&& m ≠ 0 → exec (.waite a rd rs1 0) s =
          .next ((t.modCore c fun x => { x with evpend := x.evpend ^^^ (s.core c).evpend &&& m }).retire c rd
            (BitVec.ofNat 64 (x.evpend &&& m)) (x.ia + 4)))
      ∧ (x.evpend &&& m = 0 → m ≠ 0 → ∃ u, exec (.waite a rd rs1 0) s = .next u ∧ (u.core c).state = 3
          ∧ (u.core c).wait = .events m)
      ∧ (x.evpend &&& m = 0 → m = 0 → x.armed = false → exec (.waite a rd rs1 0) s = .next (t.coreFault c 6 none)))
  ∧ (∀ (s : State) (c : Nat), c < 32 →
      let x := s.core c
      let now := s.net.sec % 2 ^ 48 * 1000000000 + s.net.ns
      (x.state = 3 → x.armed = true → x.tmS * 1000000000 + x.tmNs ≤ now → (x.wait = .timer ∨ ∃ m, x.wait = .events m) →
        ∃ t, exec (.timerCompareMet c) s = .next t ∧ (t.core c).armed = false ∧ (t.core c).wait = .none
          ∧ (t.core c).state = (if x.stepping then 5 else 2) ∧ (t.core c).ia = (x.ia + 4) % 2 ^ 40)
      ∧ (x.armed = false ∨ now < x.tmS * 1000000000 + x.tmNs → exec (.timerCompareMet c) s = .next s.begin))

/-- Tasks (R530–R533): POST of a legal descriptor in the context's own memory adds its task and answers its number, or waits
when every place is held; TASK_BIND gives the first ready task of the highest level to the lowest IDLE context; TASKEND
releases what the context holds and leaves it IDLE. POST_WAIT_EXPIRY (R531): a POST that has waited POST_WAIT_US is counted
and ends with bits 63:60 = 1. Completes, each by its own effect under conditions of the state and operands alone: post,
postWaitExpiry, taskend, taskBind. Clauses that rest on a choice of the model: log entries 3, 77, 78. -/
def Obligations.TasksArePostedBoundAndEnded : Prop :=
  (∀ (rd rs1 : BitVec 5) (s : State) (c : Nat),
      (CoreCan s c →
        let x := s.core c
        let t := coreIssued s c
        let d := (x.reg rs1.toNat).toNat
        let a := Agent.core c .none
        (∀ k, PlainMemory s c d 32 → d % 8 = 0 → taskOf (s.memBytes d 32) = some k →
          (x.kern = true ∨ (k.user = true ∧ k.level ≠ 31)) →
          (t.dispatcherFull = false → exec (.post a rd rs1 0) s =
            .next ((t.addTask k).2.retire c rd (BitVec.ofNat 64 (t.addTask k).1) (x.ia + 4)))
          ∧ (t.dispatcherFull = true → ∃ u, exec (.post a rd rs1 0) s = .next u ∧ (u.core c).state = 4
              ∧ u.glh.postWaits = s.glh.postWaits ++ [c]))
        ∧ exec (.taskend a 0 0 0) s =
            .next ((((t.retire c 0 0 (x.ia + 4)).releaseHolds c).2.inc Reg.GLH_TASKEND_REL
              ((t.retire c 0 0 (x.ia + 4)).releaseHolds c).1).endTask c))
      ∧ (∀ k, s.idleCore = some c → k ∈ s.glh.tasks → s.bindable k = true →
          ((s.glh.tasks.filter s.bindable).find? fun t => (s.glh.tasks.filter s.bindable).all fun u =>
            decide (u.level ≤ t.level)) = some k →
          ∃ t, exec .taskBind s = .next t ∧ (t.core c).state = 2 ∧ (t.core c).ia = k.entry ∧ (t.core c).task = some k.num
            ∧ (t.core c).kern = (!k.user) ∧ (t.core c).reg 1 = k.arg ∧ (t.core c).reg 2 = BitVec.ofNat 64 k.num))
  ∧ (∀ (s : State) (c d since : Nat), (s.core c).wait = .post d since →
      (since + s.fg Fld.GLH_CFG2_POST_WAIT_US * usCycles ≤ s.aon → exec (.postWaitExpiry c) s =
        .next ((({ s.begin with glh := { s.glh with postWaits := s.glh.postWaits.erase c } }.wakeCore c (2 ^ 60)).inc
          Reg.GLH_POST_FULL).logLimited 0x1102 0 1 0 fun _ _ => []))
      ∧ (s.aon < since + s.fg Fld.GLH_CFG2_POST_WAIT_US * usCycles → exec (.postWaitExpiry c) s = .next s.begin))

/-- Channels (R536, R537): CHRES takes a slot and CHRCV the oldest message, or each waits unless its flags are 1; CHCOM
commits a RESERVED slot and CHREL frees a RECEIVED one; a channel that is not enabled raises cause 6. The transmit ring of
the CPU port (R544): an entry whose OWN is set and whose fields are legal is taken, its frame gets its FCS and goes to a
queue of its port, and the entry shows 0, or 2 where the port had no room; an illegal one shows 1; with the ring off, or OWN
clear, nothing is done. Completes, each by its own effect under conditions of the state and operands alone: chres, chcom,
chrcv, chrel, cpuTxEntry. Clauses that rest on a choice of the model: log entry 81. -/
def Obligations.ChannelsAndTransmitRing : Prop :=
  (∀ (rd rs1 rs2 : BitVec 5) (s : State) (c : Nat), CoreCan s c →
      let x := s.core c
      let t := coreIssued s c
      let ch := (x.reg rs1.toNat).toNat
      let n := (x.reg rs2.toNat).toNat
      let a := Agent.core c .none
      (∀ v u, t.chanFault x ch = none → n ≤ 1 → t.slotsHeld c false < 4 → t.takeSlot ch c = some (v, u) →
        exec (.chres a rd rs1 rs2) s = .next (u.retire c rd (BitVec.ofNat 64 v) (x.ia + 4)))
      ∧ (t.chanFault x ch = none → n = 1 → t.slotsHeld c false < 4 → t.takeSlot ch c = none →
        exec (.chres a rd rs1 rs2) s = .next (t.retire c rd 0 (x.ia + 4)))
      ∧ (t.chanFault x ch = none → n = 0 → t.slotsHeld c false < 4 → t.takeSlot ch c = none →
        exec (.chres a rd rs1 rs2) s =
          .next ((t.modChan ch fun y => { y with resWait := y.resWait ++ [c] }).stall c rd 3 (.slot ch)))
      ∧ (∀ v u, t.chanFault x ch = none → n ≤ 1 → t.slotsHeld c true < 4 → t.takeOldest ch c = some (v, u) →
        exec (.chrcv a rd rs1 rs2) s = .next (u.retire c rd (BitVec.ofNat 64 v) (x.ia + 4)))
      ∧ (t.chanFault x ch = none → n = 1 → t.slotsHeld c true < 4 → t.takeOldest ch c = none →
        exec (.chrcv a rd rs1 rs2) s = .next (t.retire c rd 0 (x.ia + 4)))
      ∧ (t.chanFault x ch = none → n = 0 → t.slotsHeld c true < 4 → t.takeOldest ch c = none →
        exec (.chrcv a rd rs1 rs2) s =
          .next ((t.modChan ch fun y => { y with rcvWait := y.rcvWait ++ [c] }).stall c rd 3 (.message ch)))
      ∧ (∀ f k, slotNamed (x.reg rs1.toNat).toNat = some (f, k) → t.chanFault x f = none →
          ((t.chan f).slots.get k .free = .reserved c → 1 ≤ n → n ≤ 64 →
            let u := ((t.modChan f fun y => { y with slots := y.slots.put k .free (.committed n), order := y.order ++ [k] }).retire
              c 0 0 (x.ia + 4)).serveMessages f 32
            exec (.chcom a 0 rs1 rs2) s = .next (if u.fb (Fld.GLH_CHAN_CFG_SIG f) then
              u.pend (u.fg (Fld.GLH_CHAN_CFG_SIG_CTX f)) (2 ^ (32 + u.fg (Fld.GLH_CHAN_CFG_SIG_BIT f))) else u))
          ∧ (∀ len, (t.chan f).slots.get k .free = .received c len →
            exec (.chrel a 0 rs1 0) s = .next ((t.retire c 0 0 (x.ia + 4)).freeSlotOf f k)))
      ∧ (∀ cause, t.chanFault x ch = some cause →
        exec (.chres a rd rs1 rs2) s = .next (t.coreFault c cause none)
        ∧ exec (.chrcv a rd rs1 rs2) s = .next (t.coreFault c cause none)))
  ∧ (∀ (s : State),
      let e := s.fg Fld.GLH_TXR_BASE_HI_BASE_HI * 2 ^ 32 + (s.rd Reg.GLH_TXR_BASE_LO).toNat + 32 * s.fg Fld.GLH_TXR_HEAD_HEAD
      let n := fun off k => beNat (s.memBytes (e + off) k)
      (s.fb Fld.GLH_TXR_CFG_EN = false ∨ n 5 1 < 128 → exec .cpuTxEntry s = .next s.begin)
      ∧ (s.fb Fld.GLH_TXR_CFG_EN = true → n 5 1 = 128 → n 8 1 = 0 → n 9 1 = 0 → n 13 19 = 0 → 60 ≤ n 6 2 → n 6 2 ≤ 10236 →
          n 0 5 % 64 = 0 → s.bufferAddr (n 0 5) (n 6 2) = true → (n 10 2 / 256 < 65 ∨ n 10 2 / 256 = 66) →
          let r := s.begin.sendOwn (n 10 2 / 256) (n 10 2 % 256) (finishFrame (s.memBytes (n 0 5) (n 6 2)))
          exec .cpuTxEntry s = .next (r.2.txDone e (if r.1 then 0 else 2)))
      ∧ (s.fb Fld.GLH_TXR_CFG_EN = true → 128 ≤ n 5 1 → n 8 1 = 0 → n 6 2 < 60 →
          exec .cpuTxEntry s = .next (s.begin.txDone e 1)))

/-- Flow requests (R538–R541): FGET asks the flow engine for the key it names and waits in STALL, FPUT with no flow answers 9
or, after a hold expired, 7; FREL gives the flow back. Completes, each by its own effect under conditions of the state and
operands alone: fget, fput. Clauses that rest on a choice of the model: log entry 77. -/
def Obligations.FlowRequestsOfAContext : Prop :=
  ∀ (rd rs1 rs2 : BitVec 5) (s : State) (c : Nat), CoreCan s c →
    let x := s.core c
    let t := coreIssued s c
    let kb := (x.reg rs1.toNat).toNat
    let buf := (x.reg rs2.toNat).toNat
    let a := Agent.core c .none
    (∀ w key, kb % 8 = 0 → t.coreAccess c x false kb 48 = .inr w → t.bufferFault c x true buf 128 = none →
      blockKey (s.memBytes kb 48) = some key →
      (x.flow.isSome → exec (.fget a rd rs1 rs2) s = .next (t.retire c rd 2 (x.ia + 4)))
      ∧ (x.flow = none →
        let u := (t.stall c rd 4 (.flowGet key (t.keyHash key) buf)).modCore c fun x =>
          { x with hash := BitVec.ofNat 64 (t.keyHash key) }
        exec (.fget a rd rs1 rs2) s =
          .next ((u.requestFlow key (t.keyHash key) noSlice (.glasshouse c) none none []).getD u)))
    ∧ (x.flow = none → buf ≤ 3 → exec (.fput a rd rs1 rs2) s =
        .next ((t.modCore c fun x => { x with expired := false }).retire c rd (if x.expired then 7 else 9) (x.ia + 4)))
    ∧ (∀ h, x.flow = some h → buf ≤ 3 →
        t.bufferFault c x false kb (if (t.op h.op).key.v6 then 128 else 64) = none →
        exec (.fput a rd rs1 rs2) s = .next (t.fput c h.op x rd kb buf))
    ∧ (3 < buf → exec (.fput a rd rs1 rs2) s = .next (t.coreFault c 6 none))
    ∧ (x.flow = none → ∃ u, exec (.frel a 0 0 0) s = .next u ∧ (u.core c).ia = (x.ia + 4) % 2 ^ 40
        ∧ (u.core c).expired = false ∧ u.fle = s.fle)
    ∧ (x.flow.isSome → exec (.frel a 0 0 0) s =
        .next (((t.retire c 0 0 (x.ia + 4)).modCore c fun x => { x with expired := false }).dropFlow c))

/-- Flow holds of a context (R540, R541): FREL releases the held flow without writing. A hold that lasts FHOLD_US (50 µs at
reset, range 10–1,000 µs) ends as if FREL had run, is counted in GLH_FLOW_EXPIRED, and event 0x1106 is logged at most once
per second; an FPUT that waits answers 7. Before that time, and without a hold, nothing happens. Completes, each by its own
effect under conditions of the state and operands alone: frel, flowHoldExpiry. Clauses that rest on a choice of the model:
log entries 3, 77. -/
def Obligations.FlowHoldsExpire : Prop :=
  State.reset.fg Fld.GLH_CFG_FHOLD_US = 50
    ∧ (∀ v, Spec.GLH_CFG.inRange v = true → 10 ≤ bitsOf v 25 16 ∧ bitsOf v 25 16 ≤ 1000)
    ∧ (∀ (s : State) (c : Nat), CoreCan s c → (s.core c).flow.isSome →
        exec (.frel (.core c .none) 0 0 0) s = .next ((((coreIssued s c).retire c 0 0 ((s.core c).ia + 4)).modCore c
          fun x => { x with expired := false }).dropFlow c))
    ∧ (∀ (s : State) (c : Nat), ((s.dropFlow c).core c).flow = none
        ∧ (s.fle.holds = [] → s.fle.intake = [] → ∀ b k, ((s.dropFlow c).fslot b k).record = (s.fslot b k).record))
    ∧ ∀ (s : State) (c : Nat),
      ((s.core c).flow = none → exec (.flowHoldExpiry c) s = .next s.begin)
      ∧ ∀ h, (s.core c).flow = some h →
        (s.aon < h.since + s.fg Fld.GLH_CFG_FHOLD_US * usCycles → exec (.flowHoldExpiry c) s = .next s.begin)
        ∧ (h.since + s.fg Fld.GLH_CFG_FHOLD_US * usCycles ≤ s.aon →
          let u := (s.begin.dropFlow c).modCore c fun x => { x with expired := true }
          let done := fun (t : State) => (t.inc Reg.GLH_FLOW_EXPIRED).logLimited 0x1106 0 1 0 fun _ _ => []
          (∀ b f, (u.core c).wait = .flowPut b f → exec (.flowHoldExpiry c) s = .next (done (u.wakeCore c 7)))
          ∧ ((∀ b f, (u.core c).wait ≠ .flowPut b f) → exec (.flowHoldExpiry c) s = .next (done u)))

/-- Results that arrive (R520, R539, R542): the context runs again with the value in its register, after its instruction. The
atomics (R523): in shared SRAM at kernel privilege, 8 bytes aligned to 8 take their new value, rd takes the old one, and no
other byte of memory changes; an address that is not aligned raises cause 2. Completes, each by its own effect under
conditions of the state and operands alone: atadd, atxch, atcmpx, glasshouseResultArrival. Clauses that rest on a choice of
the model: log entries 3, 76. -/
def Obligations.ResultsAndAtomics : Prop :=
  (∀ (s : State) (c : Nat) (v : DWord),
      (s.core c).wait = .lookup v ∨ (s.core c).wait = .memory v ∨ (s.core c).wait = .flowGot v →
      exec (.glasshouseResultArrival c) s = .next ((s.begin.modCore c fun x => x.resume v).evc (128 + c)))
  ∧ (∀ (rd rs1 rs2 : BitVec 5) (s : State) (c : Nat), CoreCan s c →
      let x := s.core c
      let p := (x.reg rs1.toNat).toNat
      let old := BitVec.ofNat 64 (beNat (s.memBytes p 8))
      let v := x.reg rs2.toNat
      let a := Agent.core c .none
      (x.kern = true → 0x11000000 ≤ p → p + 8 ≤ 0x117C0000 → p % 8 = 0 →
        ∀ e ∈ ([(.atadd a rd rs1 rs2, old + v), (.atxch a rd rs1 rs2, v),
            (.atcmpx a rd rs1 rs2, if old = x.reg rd.toNat then v else old)] : List (Instr × DWord)),
          ∃ t, exec e.1 s = .next t ∧ t.memBytes p 8 = beBytes 8 e.2.toNat ∧ (∀ b, b < p ∨ p + 8 ≤ b → t.memByte b = s.memByte b)
            ∧ (rd ≠ 0 → (t.core c).reg rd.toNat = old) ∧ (∀ r, r ≠ rd.toNat → (t.core c).reg r = x.reg r)
            ∧ (t.core c).ia = (x.ia + 4) % 2 ^ 40)
      ∧ (0x11000000 ≤ p → p + 8 ≤ 0x117C0000 → p % 8 ≠ 0 →
        exec (.atadd a rd rs1 rs2) s = .next ((coreIssued s c).coreFault c 2 (some p))
        ∧ exec (.atxch a rd rs1 rs2) s = .next ((coreIssued s c).coreFault c 2 (some p))
        ∧ exec (.atcmpx a rd rs1 rs2) s = .next ((coreIssued s c).coreFault c 2 (some p))))

/-- KCALL, KRET, ORDER and HALT (R517, R522, R524, R526): KCALL takes exception 9; KRET goes to XIA with the saved privilege;
ORDER goes on; HALT leaves the context OFF; KRET and HALT at user privilege raise cause 8. Taking an exception on a core
(R526): XIA, XCAUSE and XVAL take the address, the cause and the value, the privilege is saved and becomes kernel, EXC is
set, and the context goes to XENTRY; the general registers stay. With EXC set it is a double fault: the device is warm reset.
Completes, each by its own effect under conditions of the state and operands alone: kcall, kret, order, halt. Clauses that
rest on a choice of the model: log entries 73, 74, 76. -/
def Obligations.CallsAndExceptions : Prop :=
  (∀ (s : State) (c : Nat), CoreCan s c →
      let x := s.core c
      let t := coreIssued s c
      let a := Agent.core c .none
      exec (.kcall a 0 0 0) s = .next (t.coreFault c 9 none)
      ∧ (x.kern = true → ∃ u, exec (.kret a 0 0 0) s = .next u ∧ (u.core c).ia = x.xia % 2 ^ 40 ∧ (u.core c).kern = x.pkern
          ∧ (u.core c).exc = false ∧ (∀ r, (u.core c).reg r = x.reg r))
      ∧ (x.kern = false → exec (.kret a 0 0 0) s = .next (t.coreFault c 8 none))
      ∧ exec (.order a 0 0 0) s = .next (t.retire c 0 0 (x.ia + 4))
      ∧ (x.kern = true → ∃ u, exec (.halt a 0 0 0) s = .next u ∧ (u.core c).state = 0)
      ∧ (x.kern = false → exec (.halt a 0 0 0) s = .next (t.coreFault c 8 none)))
  ∧ (∀ (s : State) (c cause val : Nat),
      ((s.core c).exc = false →
        let t := s.coreException c cause val
        let x := s.core c
        (t.core c).xia = x.ia ∧ (t.core c).xcause = cause ∧ (t.core c).xval = val ∧ (t.core c).pkern = x.kern
          ∧ (t.core c).kern = true ∧ (t.core c).exc = true ∧ (t.core c).ia = x.xentry ∧ (∀ r, (t.core c).reg r = x.reg r)
          ∧ (∀ d, d ≠ c → t.core d = s.core d) ∧ ∀ b, t.memByte b = s.memByte b)
      ∧ ((s.core c).exc = true → ∀ d, (s.coreException c cause val).core d = coreDefault d))

/-- Debug of the Glasshouse and its control (R518, R547, R548, R554): with debug unlocked a context is halted, resumed,
stepped and killed; context 0 cannot be killed; RELEASE starts an OFF context; EN = 1 of a ring sets its HEAD to 0. The stall
watchdog (R545, R546): its conditions have held for WD_MS with a context IDLE; the stall is counted, and the lowest IDLE
context runs the recovery entry at kernel privilege. Before its time nothing happens. Completes, each by its own effect under
conditions of the state and operands alone: contextRelease, ringEnWrite, stallWatchdog, debugHalt, debugResume, debugStep,
debugKill. Clauses that rest on a choice of the model: log entries 3, 75, 78. -/
def Obligations.GlasshouseControl : Prop :=
  (∀ (c : BitVec 5) (s : State),
      let x := s.core c.toNat
      (s.fbit Fld.SEC_STATUS_SCOPE 0 = true →
        (x.state = 2 → ∃ t, exec (.debugHalt c) s = .next t ∧ (t.core c.toNat).state = 5 ∧ (t.core c.toNat).ia = x.ia)
        ∧ (x.state = 5 → ∃ t, exec (.debugResume c) s = .next t ∧ (t.core c.toNat).state = 2
            ∧ (t.core c.toNat).stepping = x.stepping)
        ∧ (x.state = 5 → ∃ t, exec (.debugStep c) s = .next t ∧ (t.core c.toNat).state = 2 ∧ (t.core c.toNat).stepping = true)
        ∧ (x.state ≠ 5 → ∃ t, exec (.debugResume c) s = .next t ∧ t.core c.toNat = x ∧ t.fg Fld.GLH_DBG_STAT_REASON = 3)
        ∧ (c ≠ 0 → ∃ t, exec (.debugKill c) s = .next t
            ∧ t = ((s.begin.store Spec.GLH_DBG_CMD [] (2 ^ 31 + 4 * 2 ^ 28 + c.toNat)).killCore c.toNat).done
                Fld.GLH_DBG_STAT_DONE))
      ∧ (s.fbit Fld.SEC_STATUS_SCOPE 0 = false → s.anyHalted = false →
          ∃ t, exec (.debugHalt c) s = .next t ∧ t.core c.toNat = x ∧ t.fg Fld.GLH_DBG_STAT_REASON = 1)
      ∧ (∀ toIdle user, x.state = 0 → ∃ t, exec (.contextRelease .kernel c toIdle user) s = .next t
          ∧ (t.core c.toNat).state = (if toIdle then 1 else 2) ∧ (t.core c.toNat).kern = (!user)
          ∧ (t.core c.toNat).ia = x.ia)
      ∧ (∀ log2 : BitVec 4, s.fb Fld.GLH_TXR_CFG_EN = false → 4 ≤ log2.toNat → log2.toNat ≤ 12 →
          ∃ t, exec (.ringEnWrite .kernel 16 log2) s = .next t ∧ t.fg Fld.GLH_TXR_HEAD_HEAD = 0
            ∧ t.fb Fld.GLH_TXR_CFG_EN = true))
  ∧ (∀ (s : State) (c at' : Nat), s.glh.stallSince = some at' →
      (s.stalled = true → at' + s.fg Fld.GLH_CFG_WD_MS * msCycles ≤ s.aon → s.idleCore = some c →
        ∃ t, exec .stallWatchdog s = .next t ∧ (t.core c).state = 2 ∧ (t.core c).kern = true
          ∧ (t.core c).ia = s.fg Fld.GLH_RECOV_HI_IA_HI * 2 ^ 32 + (s.rd Reg.GLH_RECOV_LO).toNat ∧ t.glh.stallSince = none)
      ∧ (s.stalled = false ∨ s.aon < at' + s.fg Fld.GLH_CFG_WD_MS * msCycles → exec .stallWatchdog s = .next s.begin))

/-! ## Ports and packets -/

/-- PAUSE and PFC (R61–R65): a good PAUSE frame to the port pauses it for its quanta of 512 bit times and is counted, a bad
one only counts, by its cause (R57), and so do its codewords (R56); the pause, its watchdog and the repeated XOFF act when
their time has come and not before. The link of a front port (R66–R77): the lock shows in PRT_STATUS, a declaration is made
when its conditions have stood for the delay, the hold timer flushes a port that is still down, a module pin shows with its
sense, low-power idle is entered after IDLE_US of quiet and left for transmission after TW_US, and LPI_RX shows the
partner's. Completes, each by its own effect under conditions of the state and operands alone: macControlFrame, pauseExpiry,
xoffRepeat, pauseWatchdog, pauseWatchdogEnd, lpiEntry, lpiWakeDone, modulePinChange, pcsLockChange, linkDownDeclared,
linkUpDeclared, holdExpiry. Clauses that rest on a choice of the model: log entries 3, 4, 22, 24, 102. -/
def Obligations.PausesAndLinks : Prop :=
  (∀ (s : State) (p : Nat) (pri : Option Nat),
      let k := pauseKey pri
      let x := (s.port p).pauses.get k {}
      let wd := s.fg (Fld.PRT_PAUSE_WD_WD_MS p) * msCycles
      (∀ f c, p < 64 → s.assigned p = true → s.fb (Fld.PRT_STATUS_LINK p) = true → beAt f 12 2 = 0x8808 →
        badCause f false = none →
        let b := (s.begin.inc (Reg.PRT_FEC_CORR p) c).inc (Reg.PRT_FEC_UNCORR p) 0
        (b.fg (Fld.PRT_CFG_FC_MODE p) = 1 → b.underWatchdog p 8 = false → beAt f 14 2 = 1 →
          (beAt f 0 6 = 0x0180C2000001 ∨ beAt f 0 6 = b.portMac p) →
          exec (.macControlFrame p f false c 0) s = .next ((b.inc (Reg.PRT_RX_MAC_CTL p)).setPause p 8 (beAt f 16 2)))
        ∧ (b.fg (Fld.PRT_CFG_FC_MODE p) = 0 →
          exec (.macControlFrame p f false c 0) s = .next (b.inc (Reg.PRT_RX_MAC_CTL_BAD p))))
      ∧ (∀ f c u pcs r, p < 64 → s.assigned p = true → s.fb (Fld.PRT_STATUS_LINK p) = true → beAt f 12 2 = 0x8808 →
        badCause f (pcs || decide (u ≠ 0)) = some r → exec (.macControlFrame p f pcs c u) s =
          .next (((s.begin.inc (Reg.PRT_FEC_CORR p) c).inc (Reg.PRT_FEC_UNCORR p) u).inc (r p)))
      ∧ (∀ t, x.till = some t → t ≤ s.aon → exec (.pauseExpiry p pri) s =
          .next ((s.begin.modPause p k fun y => { y with till := none, since := none }).refreshPort p))
      ∧ (∀ t, x.till = some t → s.aon < t → exec (.pauseExpiry p pri) s = .next s.begin)
      ∧ (∀ e, (s.port p).xoff.find? (fun e => e.1 == k) = some e → e.2 ≤ s.aon → s.xoffDue p k = true →
          exec (.xoffRepeat p pri) s =
            .next ((s.begin.sendPause p k (s.fg (Fld.PRT_PAUSE_PAUSE_TIME p))).modPort p fun y =>
              { y with xoff := y.xoff.ins k (s.aon + s.halfPause p) }))
      ∧ (∀ e, (s.port p).xoff.find? (fun e => e.1 == k) = some e → s.aon < e.2 → exec (.xoffRepeat p pri) s = .next s.begin)
      ∧ (∀ t since, x.till = some t → x.since = some since → wd ≠ 0 → s.aon ≤ t → since + wd < s.aon →
          exec (.pauseWatchdog p pri) s = .next ((((s.begin.modPause p k fun _ => { wdTill := some (s.aon + wd) }).portEvent
            (Fld.PRT_EVENT_PAUSE_WD p)).log 0x0406).refreshPort p))
      ∧ (wd = 0 → exec (.pauseWatchdog p pri) s = .next s.begin)
      ∧ (∀ t, x.wdTill = some t → t ≤ s.aon → exec (.pauseWatchdogEnd p pri) s =
          .next (s.begin.modPause p k fun y => { y with wdTill := none }))
      ∧ ∀ t, x.wdTill = some t → s.aon < t → exec (.pauseWatchdogEnd p pri) s = .next s.begin)
  ∧ (∀ (s : State) (p : Nat), p < 64 →
      let up := s.fb (Fld.PRT_STATUS_LINK p)
      let dn := s.fg (Fld.PRT_TIMERS_DN_DELAY_MS p) * msCycles
      let ud := s.fg (Fld.PRT_TIMERS_UP_DELAY_MS p) * msCycles
      (∀ pcs fec, s.assigned p = true → s.power (p / 16) ≠ 3 → exec (.pcsLockChange p pcs fec) s =
        .next ((((s.begin.fs (Fld.PRT_STATUS_PCS_LOCK p) (ofBool pcs)).fs (Fld.PRT_STATUS_FEC_LOCK p)
          (ofBool (fec && s.fb (Fld.PRT_CFG_FEC_MODE p)))).siteUnlock p).updateConds p))
      ∧ (∀ t, up = true → (s.port p).failSince = some t → t + dn ≤ s.aon →
          exec (.linkDownDeclared p) s = .next (s.begin.declareDown p))
      ∧ (∀ t, up = true → (s.port p).failSince = some t → s.downAtOnce p = false → s.aon < t + dn →
          exec (.linkDownDeclared p) s = .next s.begin)
      ∧ (∀ t, up = false → (s.port p).condsSince = some t → s.linkConds p = true → t + ud ≤ s.aon →
          exec (.linkUpDeclared p) s = .next (s.begin.declareUp p))
      ∧ (∀ t, up = false → (s.port p).condsSince = some t → (s.linkConds p = false ∨ s.aon < t + ud) →
          exec (.linkUpDeclared p) s = .next s.begin)
      ∧ (∀ t, (s.port p).holdTill = some t → t ≤ s.aon → s.portUp p = false →
          exec (.holdExpiry p) s = .next (s.begin.expireHold p))
      ∧ (∀ t, (s.port p).holdTill = some t → s.aon < t → exec (.holdExpiry p) s = .next s.begin)
      ∧ (s.fb (Fld.PRT_CFG_MOD_IGN p) = true → ∀ level, ∃ t, exec (.modulePinChange p .los level) s = .next t
          ∧ t.fb (Fld.PRT_STATUS_MOD_LOS p) = level ∧ t.events = s.events)
      ∧ (up = true → s.fb (Fld.PRT_CFG_LPI_EN p) = true → s.fb (Fld.PRT_STATUS_LPI_TX p) = false →
          ((s.portQueues p).all fun n => (s.queue n).items.isEmpty) = true →
          (s.fb (Fld.GTE_CFG_EN p) = false ∨ s.fb (Fld.GTE_CTL_OPER_VALID p) = false) →
          (s.psched p).tx = none → (s.port p).twTill = none → (∀ e ∈ (s.port p).xoff, s.aon < e.2) →
          (s.port p).idleSince + s.fg (Fld.PRT_LPI_IDLE_US p) * usCycles ≤ s.aon →
          exec (.lpiEntry p false) s = .next (s.begin.fs (Fld.PRT_STATUS_LPI_TX p) 1))
      ∧ (up = false → ∀ partner, exec (.lpiEntry p partner) s = .next s.begin)
      ∧ (up = true → s.fb (Fld.PRT_CFG_LPI_EN p) = true →
          exec (.lpiEntry p true) s = .next (s.begin.fs (Fld.PRT_STATUS_LPI_RX p) 1))
      ∧ exec (.lpiWakeDone p true) s = .next (s.begin.fs (Fld.PRT_STATUS_LPI_RX p) 0)
      ∧ (∀ t, (s.port p).twTill = some t → t ≤ s.aon → exec (.lpiWakeDone p false) s = .next (s.begin.endTw p))
      ∧ ∀ t, (s.port p).twTill = some t → s.aon < t → exec (.lpiWakeDone p false) s = .next s.begin)

/-- A link declaration (R72–R75): the port shows LINK = 0 and its event, and the hold timer runs for HOLD_MS; a write of
PRT_CFG that the mode does not allow is rejected and changes no register. The I2C masters (R70, R71, R89): a command of 1–128
bytes starts the transaction; its end shows COUNT and DONE, a NACK ends it with a STOP, and one that stretches the clock for
10 ms is aborted with TIMEOUT, nine clock pulses and a STOP; a length out of range is rejected. Completes, each by its own
effect under conditions of the state and operands alone: prtCfgWrite, i2cTransaction, i2cDone, i2cTimeout. Clauses that rest
on a choice of the model: log entries 3, 7, 26. -/
def Obligations.PortConfigurationAndI2c : Prop :=
  (∀ (s : State) (p : Nat) (v : Word), p < 64 →
      (s.cfgLegal p v.toNat = false → exec (.prtCfgWrite .kernel p v) s = .next (s.begin.denied Spec.PRT_CFG))
      ∧ (s.cfgLegal p v.toNat = true → ∃ t, exec (.prtCfgWrite .kernel p v) s = .next t ∧ t = s.begin.writePrtCfg p v.toNat)
      ∧ exec (.prtCfgWrite .user p v) s = .next s.begin.errorResponse)
  ∧ (∀ (s : State) (n : Nat) (v : Word), n < 4 →
      let len := bitsOf v.toNat 23 16
      (1 ≤ len → len ≤ 128 → bitAt v.toNat 31 = true → s.fb (Fld.PRT_I2C_STAT_BUSY n) = false →
        ∃ t, exec (.i2cTransaction .kernel n v) s = .next t ∧ t.fb (Fld.PRT_I2C_STAT_BUSY n) = true
          ∧ t.fg (Fld.PRT_I2C_STAT_COUNT n) = 0 ∧ (t.i2c.get n {}).startAt = some s.aon ∧ (t.i2c.get n {}).command = v.toNat ∧ t.out = [.i2c n v])
      ∧ (len = 0 ∨ 128 < len → exec (.i2cTransaction .kernel n v) s = .next (s.begin.denied Spec.PRT_I2C_CMD))
      ∧ (s.fb (Fld.PRT_I2C_STAT_BUSY n) = true → ∀ count data,
          let cmd := (s.i2c.get n {}).command
          let got := fun k => if bitAt cmd 30 then s.begin.i2cBytes n (sliceBytes data 0 k) else s.begin
          exec (.i2cDone n count false data) s = .next ((got (bitsOf cmd 23 16)).endI2c n (bitsOf cmd 23 16))
          ∧ exec (.i2cDone n count true data) s =
              .next ((((got (min count (bitsOf cmd 23 16))).fs (Fld.PRT_I2C_STAT_NACK n) 1).emit (.i2cStop n 0)).endI2c n
                (min count (bitsOf cmd 23 16))))
      ∧ (∀ t, (s.i2c.get n {}).startAt = some t → t + 10 * msCycles ≤ s.aon → ∃ u k, exec (.i2cTimeout n) s = .next u
          ∧ k ≤ bitsOf (s.i2c.get n {}).command 23 16
          ∧ u = (({ s.begin with fresh := s.fresh + 1 }.fs (Fld.PRT_I2C_STAT_TIMEOUT n) 1).emit (.i2cStop n 9)).endI2c n k)
      ∧ ∀ t, (s.i2c.get n {}).startAt = some t → s.aon < t + 10 * msCycles → exec (.i2cTimeout n) s = .next s.begin)

/-- A frame arrives (R22, R24, R32, R56, R57, R470): a front port whose link is up begins to receive it, its end counts the
FEC's words and judges the frame, and the head of Cozy enters the slice's queue while it has a place; a port that is down, or
receives nothing, does neither. The parser takes one head of a running slice whose later stages do not stall it (R25, R48,
R91, R102, R105, R108): it leaves the queue, becomes the parsed packet, and the event counter of that slice's heads counts
it; an empty queue changes nothing. Completes, each by its own effect under conditions of the state and operands alone:
frameStartReceived, frameEnd, cozyDrain, parseHead. Clauses that rest on a choice of the model: log entries 3, 16, 18, 100.
-/
def Obligations.FramesAndHeads : Prop :=
  (∀ (s : State) (p : Nat) (f : List Byte), p < 64 →
      (f ≠ [] → s.assigned p = true → s.fb (Fld.PRT_STATUS_LINK p) = true → (s.port p).rx = none →
          s.macConsumes p f = false →
          exec (.frameStartReceived p f) s = .next (s.begin.startRx p f))
      ∧ (s.fb (Fld.PRT_STATUS_LINK p) = false → exec (.frameStartReceived p f) s = .next s.begin)
      ∧ (∀ pcs corr uncorr pid, (s.port p).rx = some pid →
          exec (.frameEnd p pcs corr uncorr) s = .next (((s.begin.inc (Reg.PRT_FEC_CORR p) corr).inc (Reg.PRT_FEC_UNCORR p)
            uncorr).endRx p (pcs || decide (uncorr ≠ 0))))
      ∧ ((s.port p).rx = none → ∀ pcs corr uncorr, exec (.frameEnd p pcs corr uncorr) s = .next s.begin)
      ∧ ∀ slice pid r, (s.slice slice).cozy = pid :: r →
          (s.power slice = 0 → (s.slice slice).fifo.length < 2048 →
            exec (.cozyDrain slice) s = .next (((s.begin.cozyFree pid).touch slice).enterSlice pid))
          ∧ (2048 ≤ (s.slice slice).fifo.length → exec (.cozyDrain slice) s = .next s.begin))
  ∧ (∀ (s : State) (slice : Nat) (reserved : Bool), (s.slice slice).inService = true → s.power slice = 0 →
      s.sliceStalled slice = false →
      (∀ pid, s.nextHead slice reserved = some pid →
        let x := s.slice slice
        let last := if (s.pkt pid).isInternal then x.lastPort else (s.pkt pid).inPort % 16
        exec (.parseHead slice reserved) s = .next ((((((s.begin.modSlice slice fun x =>
          { x with fifo := x.fifo.erase pid, inner := x.inner.erase pid, lastPort := last }).touch slice).evc (48 + 4 * slice)).parse pid).issueWaiting)))
      ∧ (s.nextHead slice reserved = none → exec (.parseHead slice reserved) s = .next s.begin))

/-- The rule lookup of a parsed packet (R27, R115–R119, R188, R189): the word of the packet's bank becomes its rule and gives
its class, the entry's hit counter counts it up to its limit, and the verdict acts. A parsed packet whose record is answered
is dispatched (R27, R28, R188–R190): refused for its zone's policy it is dropped, without a valid program it is dropped and
counted, and else it starts its program in a free context, or waits while there is none. Completes, each by its own effect
under conditions of the state and operands alone: ruleLookup, dispatch. Clauses that rest on a choice of the model: log
entries 3, 31. -/
def Obligations.RulesAndDispatch : Prop :=
  (∀ (s : State) (pid : Nat), (s.pkt pid).stage = .parsed →
      let p := s.pkt pid
      let e := (s.ruleBank (s.bankOf 0 p.epochs.rule)).lookup p.head.key
      let t := s.begin.setHit p.slice e.1 (min 0xFFFFFFFF (s.begin.hitCount p.slice e.1 + 1))
      let tc := if bitAt e.2 54 then bitsOf e.2 53 51 else p.ing.owner % 8
      (p.rule = none → exec (.ruleLookup pid) s =
        .next ((((t.setPkt pid { p with rule := some e.2, tc := tc, runSlice := p.slice }).learnOffer pid
          (bitsOf e.2 62 61)).verdict pid e.2).issueWaiting))
      ∧ (p.rule.isSome = true → exec (.ruleLookup pid) s = .next s.begin))
  ∧ (∀ (s : State) (pid w : Nat),
      let p := s.pkt pid
      p.stage = .parsed → p.rule = some w →
      (p.flow = .refused 0 → exec (.dispatch pid) s = .next (s.begin.dropParsed pid))
      ∧ (p.flow = .waiting → exec (.dispatch pid) s = .next s.begin)
      ∧ (p.flow = .noRecord → bitAt w 60 = false → s.recordFor p = none →
          let prog := bitsOf w 47 32
          (bitAt (s.trw.progs.get prog 0) 63 = false →
            exec (.dispatch pid) s = .next ((s.begin.inc (Reg.TRW_NO_PROG p.slice)).dropParsed pid))
          ∧ (bitAt (s.trw.progs.get prog 0) 63 = true → s.dispatchPlace p.slice = none →
            exec (.dispatch pid) s = .next s.begin)
          ∧ (∀ e c, bitAt (s.trw.progs.get prog 0) 63 = true → s.dispatchPlace p.slice = some (e, c) →
            exec (.dispatch pid) s = .next (s.begin.startProgram pid w p.slice e c prog (s.trw.progs.get prog 0)))))

/-- The flow engine's work on parsed packets (R148, R150, R151, R156, R158, R171, R173): a tracked packet asks once for its
record, one that is not tracked goes on without, the read of a request that misses completes, a marker is deleted 100 µs
after its marking, a rebuilt tag line answers, the oldest creation is served, and a whole batch writes its record back.
Completes, each by its own effect under conditions of the state and operands alone: flowRequest, cacheMissService,
repairTimeout, tagLineRebuild, creationService, batchWriteBack. Clauses that rest on a choice of the model: log entries 3,
30, 36, 39, 41, 97, 100. -/
def Obligations.FlowEngineServes : Prop :=
  ∀ (s : State) (pid op : Nat),
    let p := s.pkt pid
    (∀ errors, s.nextAsk p.slice = some pid → s.sliceStalled p.slice = false →
      (p.needsFlow = false → exec (.flowRequest pid errors) s = .next (s.begin.noFlow pid).issueWaiting)
      ∧ (p.needsFlow = true →
          let r := ((s.begin.setPkt pid { p with flow := .waiting, asStandby := some (s.standby p.head.zone) }).asked pid).requestFlow
            p.head.flowKey p.head.hash p.slice .batch (some pid) none errors
          (∀ t, r = some t → exec (.flowRequest pid errors) s = .next t.issueWaiting)
          ∧ (r = none → exec (.flowRequest pid errors) s = .next s.begin)))
    ∧ (∀ errors, s.nextAsk p.slice ≠ some pid ∨ s.sliceStalled p.slice = true →
        exec (.flowRequest pid errors) s = .next s.begin)
    ∧ (∀ errors, s.hasOp op = true → (s.op op).state = .missing → s.waitsForTag op = false →
        exec (.cacheMissService op errors) s = .next (s.begin.serveMiss op errors))
    ∧ (∀ b k, s.hasOp op = true → (s.op op).state = .repairing → (s.op op).loc = some (b, k) →
        (s.fle.repairs.get (b * 8 + k) s.aon + 100 * usCycles ≤ s.aon →
          exec (.repairTimeout op) s = .next ((s.begin.deleteMarker op).settleOp op))
        ∧ ((s.fle.repairs.any fun e => e.1 == b * 8 + k) = true → s.aon < s.fle.repairs.get (b * 8 + k) s.aon + 100 * usCycles →
          exec (.repairTimeout op) s = .next s.begin))
    ∧ (∀ bucket bad, bucket < 2 ^ s.flowBits → exec (.tagLineRebuild bucket bad) s =
        .next ((s.begin.rebuildTagLine bucket bad).duePage (pageOf (tagLineAddr bucket))))
    ∧ (s.fle.creations = [] → exec .creationService s = .next s.begin)
    ∧ (∀ r, s.fle.creations = op :: r → s.hasOp op = true →
        let t : State := { s.begin with fle := { s.fle with creations := r } }
        exec .creationService s = .next ((t.serveCreation op).2.answerCreation op (t.serveCreation op).1))
    ∧ (s.writable op = true → exec (.batchWriteBack op) s = .next ((s.begin.writeBack op).issueWaiting))
    ∧ (s.writable op = false → exec (.batchWriteBack op) s = .next s.begin)

/-- The egress scheduler (R38, R338, R341, R343): a free, awake port takes the packet its tree chooses; a port that transmits
or is down takes none; a chosen packet's transmission starts once, a port without one transmits nothing. Ageing, shapers and
gates by the clock (R345, R346, R348, R352, R353): the sweep runs each millisecond over every assigned port that is up; the
refill gives every queue, node and port the cycles of 128 core clocks that have passed; the admin list becomes the operative
one at its change time, once. Completes, each by its own effect under conditions of the state and operands alone:
schedulerSelection, frameTransmit, ageSweep, shaperRefill, gateEntryBoundary, gateSwitch. Clauses that rest on a choice of
the model: log entries 3, 4, 91, 105. -/
def Obligations.SchedulingAndTransmission : Prop :=
  (∀ (s : State) (p : Nat), p ≤ 66 → s.assigned p = true →
      (s.portUp p = true → (s.psched p).tx = none → (s.psched p).shaper.holds = true → s.power (s.egressSlice p) = 0 →
        let t := (s.begin.touch (s.egressSlice p)).countDeferred p
        (∀ path n pid u, t.choose p (t.packets.length + 1) = (some (path, n, pid), u) →
          ∀ fault, exec (.schedulerSelection p fault) s = .next (u.take p path n pid fault))
        ∧ (∀ u, t.choose p (t.packets.length + 1) = (none, u) → ∀ fault, exec (.schedulerSelection p fault) s = .next u))
      ∧ ((s.psched p).tx.isSome = true ∨ s.portUp p = false → ∀ fault, exec (.schedulerSelection p fault) s = .next s.begin)
      ∧ (∀ pid, p < 64 → (s.psched p).tx = some pid → (s.pkt pid).txAt = none → s.portUp p = true →
          s.lpiWaits p = false →
          let t := s.begin.endTw p
          ((s.pkt pid).ended = true → exec (.frameTransmit p .none) s = .next (t.sendTx pid p))
          ∧ ((s.pkt pid).ended = false → exec (.frameTransmit p .none) s = .next (((t.txStamp p).2.tsOpen pid p (t.txStamp p).1).setPkt pid
              { s.pkt pid with txAt := some (t.txStamp p).1, copy := (s.pkt pid).copy.map fun c => { c with early := true } }))
          ∧ exec (.frameTransmit p (.data 0)) s = .next ((t.inc Reg.BUF_UNCORR).dropTx pid p))
      ∧ ((s.psched p).tx = none → ∀ fault, exec (.frameTransmit p fault) s = .next s.begin))
  ∧ (∀ (s : State) (p : Nat),
      (s.aon < s.sch.lastSweep + msCycles → exec .ageSweep s = .next s.begin)
      ∧ (s.sch.lastSweep + msCycles ≤ s.aon → exec .ageSweep s = .next ((List.range 67).foldl (fun (s : State) p =>
          if s.portUp p && s.assigned p then
            ((s.portQueues p).foldl (fun (s : State) n => s.dropAged p n (s.queue n).items.length) s).refreshPort p
          else s) { s.begin with sch := { s.sch with lastSweep := s.aon } }))
      ∧ (s.coreNow / 128 = s.sch.lastRefill → exec .shaperRefill s = .next s.begin)
      ∧ (s.sch.lastRefill < s.coreNow / 128 →
          let n := s.coreNow / 128 - s.sch.lastRefill
          let a : State := { s.begin with sch := { s.sch with lastRefill := s.coreNow / 128 } }
          let b := (a.sch.queues.map (·.1)).foldl (fun t k => t.modQueue k fun q => { q with shaper := q.shaper.refill n }) a
          let c := (b.sch.nodes.map (·.1)).foldl (fun t k => t.modNode k fun q => { q with shaper := q.shaper.refill n }) b
          let d := (c.sch.ports.map (·.1)).foldl (fun t k => t.modPsched k fun q => { q with shaper := q.shaper.refill n }) c
          exec .shaperRefill s = .next ((List.range 67).foldl (fun t p => t.refreshPort p) d))
      ∧ (p < 64 → exec (.gateEntryBoundary p) s = .next ((s.begin.refreshPort p).showGates p))
      ∧ (p < 64 → s.fb (Fld.GTE_CTL_PENDING p) = true → s.changeTime p ≤ s.gateNow →
          exec (.gateSwitch p) s = .next (s.begin.switchGates p))
      ∧ (s.fb (Fld.GTE_CTL_PENDING p) = false ∨ s.gateNow < s.changeTime p → exec (.gateSwitch p) s = .next s.begin))

/-! ## Tables -/

/-- The rule access commands (R119, R120, R131): a write puts the data words into the shadow bank and leaves the active one,
a read gives the data words, the hit counter is read and cleared, the copy makes the shadow equal to the active bank 16,512
core clocks later, and a busy unit, a live old epoch, a comparator above 127 and a slice out of service are rejected by
reason, which changes nothing else. SWAP (R121, R122): the shadow bank becomes the active one and CUR_EPOCH advances modulo
16; a swap while an old epoch is live or the unit is busy is refused, shows SWAP_REFUSED, logs event 0x0602 and leaves banks
and epochs as they are. Completes, each by its own effect under conditions of the state and operands alone: ruleRead,
writeShadow, copyActiveToShadow, ruleCopyComplete, readAndClearHitCounter, swap. Clauses that rest on a choice of the model:
log entries 3, 7, 29. -/
def Obligations.RuleAccessAndSwap : Prop :=
  (∀ (s : State) (tgt slice : BitVec 2) (shadow : Bool) (i : BitVec 14), tgt ≠ 3 →
      let busy := s.fb Fld.RUL_ACC_STAT_BUSY
      (busy = true →
        exec (.ruleRead tgt slice shadow i) s = .next (s.begin.rulReject 4)
        ∧ exec (.writeShadow tgt i) s = .next (s.begin.rulReject 4)
        ∧ (tgt ≠ 1 → exec (.readAndClearHitCounter tgt slice i) s = .next (s.begin.rulReject 4)))
      ∧ (busy = false → s.oldLive 0 = true → exec (.writeShadow tgt i) s = .next (s.begin.rulReject 1))
      ∧ (busy = false → s.oldLive 0 = false → tgt = 0 → ∃ t, exec (.writeShadow tgt i) s = .next t
          ∧ ((t.ruleBank s.ruleShadow).rules.get i.toNat {}).value = s.rulWide 0
          ∧ ((t.ruleBank s.ruleShadow).rules.get i.toNat {}).mask = s.rulWide 16
          ∧ ((t.ruleBank s.ruleShadow).rules.get i.toNat {}).action = s.rulData 33 * 2 ^ 32 + s.rulData 34
          ∧ t.ruleBank (1 - s.ruleShadow) = s.ruleBank (1 - s.ruleShadow)
          ∧ t.fb Fld.RUL_ACC_STAT_DONE = true)
      ∧ (busy = false → s.oldLive 0 = false → tgt = 2 → ∃ t, exec (.writeShadow tgt i) s = .next t
          ∧ (t.ruleBank s.ruleShadow).dflt = s.rulData 33 * 2 ^ 32 + s.rulData 34)
      ∧ (busy = false → (s.slice slice.toNat).inService = true → tgt = 2 → ∃ t,
          exec (.ruleRead tgt slice shadow i) s = .next t ∧ t.fb Fld.RUL_ACC_STAT_DONE = true
          ∧ t.rulData 33 = (s.ruleBank (if shadow then s.ruleShadow else 1 - s.ruleShadow)).dflt / 2 ^ 32 % 2 ^ 32
          ∧ t.rulData 34 = (s.ruleBank (if shadow then s.ruleShadow else 1 - s.ruleShadow)).dflt % 2 ^ 32)
      ∧ (busy = false → (s.slice slice.toNat).inService = false → tgt ≠ 1 →
          exec (.readAndClearHitCounter tgt slice i) s = .next (s.begin.rulReject 3))
      ∧ (busy = false → (s.slice slice.toNat).inService = true → tgt = 0 → ∃ t,
          exec (.readAndClearHitCounter tgt slice i) s = .next t ∧ t.hitCount slice.toNat i.toNat = 0
          ∧ t.rulData 0 = s.hitCount slice.toNat i.toNat % 2 ^ 32)
      ∧ (busy = false → s.oldLive 0 = false → ∃ t, exec .copyActiveToShadow s = .next t
          ∧ t.fb Fld.RUL_ACC_STAT_BUSY = true ∧ t.rul.copying = some s.aon)
      ∧ ∀ since, s.rul.copying = some since →
          (s.coreNow < since * 50 + 16512 → exec .ruleCopyComplete s = .next s.begin)
          ∧ (since * 50 + 16512 ≤ s.coreNow → ∃ t, exec .ruleCopyComplete s = .next t
              ∧ t.ruleBank s.ruleShadow = s.ruleBank (1 - s.ruleShadow) ∧ t.fb Fld.RUL_ACC_STAT_BUSY = false
              ∧ t.fb Fld.RUL_ACC_STAT_DONE = true ∧ t.rul.copying = none))
  ∧ (∀ s : State, s.epochBank.get 0 0 ≤ 1 →
      let busy := s.fb Fld.RUL_ACC_STAT_BUSY
      ((s.oldLive 0 || busy) = false → ∃ t, exec .swap s = .next t ∧ t.curEpoch 0 = (s.curEpoch 0 + 1) % 16
          ∧ t.fg Fld.RUL_EPOCH_CTL_OLD_EPOCH = s.curEpoch 0 ∧ t.epochBank.get 0 0 = 1 - s.epochBank.get 0 0
          ∧ t.epochRef 0 0 = 0 ∧ t.epochRef 0 1 = s.epochRef 0 0 ∧ (t.oldLive 0 = true ↔ s.epochRef 0 0 ≠ 0)
          ∧ t.rul = s.rul)
      ∧ ((s.oldLive 0 || busy) = true → exec .swap s = .next ((s.begin.fs Fld.RUL_EPOCH_CTL_SWAP_REFUSED 1).log 0x0602)))

/-- R122: a swap while an old epoch is live, or while a write or copy is in progress, is refused: the banks and CUR_EPOCH
stay, SWAP_REFUSED is set and event 0x0602 is logged. A write or copy to the shadow while the old epoch is live is rejected
and changes no bank, with REASON 1 (while the unit is busy R131 gives REASON 4). -/
def Obligations.SwapIsRefused : Prop :=
  ∀ (s : State) (tgt : BitVec 2) (i : BitVec 14),
    ((s.oldLive 0 || s.fb Fld.RUL_ACC_STAT_BUSY) = true →
      exec .swap s = .next ((s.begin.fs Fld.RUL_EPOCH_CTL_SWAP_REFUSED 1).log 0x0602)
      ∧ ∃ t, exec .swap s = .next t ∧ t.rul = s.rul ∧ t.epochBank = s.epochBank ∧ t.curEpoch 0 = s.curEpoch 0
          ∧ t.fb Fld.RUL_EPOCH_CTL_SWAP_REFUSED = true)
    ∧ (s.oldLive 0 = true → ∀ e ∈ ([.writeShadow tgt i, .copyActiveToShadow] : List Instr), tgt ≠ 3 →
      ∃ t, exec e s = .next t ∧ t.rul = s.rul ∧ t.epochBank = s.epochBank ∧ t.curEpoch 0 = s.curEpoch 0
        ∧ t.fb Fld.RUL_ACC_STAT_REJECTED = true
        ∧ (s.fb Fld.RUL_ACC_STAT_BUSY = false → t.fg Fld.RUL_ACC_STAT_REASON = 1))

/-- R180: FLE_CLOCK_LO and FLE_CLOCK_HI, at 0x0070_0010 and 0x0070_0014, hold the two halves of the flow clock; a read of LO
latches the upper half into HI; a write of either changes neither; both are 0 at cold reset, and a warm reset keeps them. -/
def Obligations.FlowClockRegisters : Prop :=
  Reg.FLE_CLOCK_LO.addr = 0x00700010 ∧ Reg.FLE_CLOCK_HI.addr = 0x00700014
    ∧ ∀ s : State,
      (∃ t, exec .fleClockLoRead s = .next t ∧ t.out = [.readData (BitVec.ofNat 32 (s.fle.clockMs % 2 ^ 32))]
        ∧ t.rd Reg.FLE_CLOCK_HI = BitVec.ofNat 32 (s.fle.clockMs / 2 ^ 32) ∧ t.fle = s.fle)
      ∧ (∀ v, ∃ t u, exec (.registerWrite .kernel 0x00700010 v) s = .next t ∧ exec (.registerWrite .kernel 0x00700014 v) s = .next u
        ∧ t.fle.clockMs = s.fle.clockMs ∧ u.fle.clockMs = s.fle.clockMs
        ∧ t.rd Reg.FLE_CLOCK_HI = s.rd Reg.FLE_CLOCK_HI ∧ u.rd Reg.FLE_CLOCK_HI = s.rd Reg.FLE_CLOCK_HI)
      ∧ (∀ cause low, coldHold cause = true → ∃ t, exec (.coldReset cause low) s = .next t ∧ t.fle.clockMs = 0 ∧ t.rd Reg.FLE_CLOCK_HI = 0)
      ∧ ∃ t, exec .warmReset s = .next t ∧ t.fle.clockMs = s.fle.clockMs ∧ t.rd Reg.FLE_CLOCK_HI = s.rd Reg.FLE_CLOCK_HI

/-- The flow engine's clock, zones and banks (R145, R157, R177, R180, R183): the clock counts milliseconds, its LO read
latches HI, a zone command reads the entry or writes its limit and profile, and RETIRE starts the retirement of a bank unless
it is the last one left. Completes, each by its own effect under conditions of the state and operands alone: flowClockTick,
retire, bankRetirementComplete, zoneEntryRead, zoneEntryWrite, fleClockLoRead. Clauses that rest on a choice of the model:
log entries 3, 4, 45, 116. -/
def Obligations.FlowClockZonesAndBanks : Prop :=
  ∀ (s : State) (z : BitVec 16) (bank : BitVec 3),
    (s.fle.clockAt + msCycles ≤ s.aon → ∃ t, exec .flowClockTick s = .next t
        ∧ t.fle.clockMs = (s.fle.clockMs + 1) % 2 ^ 64 ∧ t.fle.clockAt = s.fle.clockAt + msCycles ∧ t.regs = s.regs
        ∧ t.fle.slots = s.fle.slots)
    ∧ (s.aon < s.fle.clockAt + msCycles → exec .flowClockTick s = .next s.begin)
    ∧ (∃ t, exec .fleClockLoRead s = .next t ∧ t.out = [.readData (BitVec.ofNat 32 s.fle.clockMs)]
        ∧ t.rd Reg.FLE_CLOCK_HI = BitVec.ofNat 32 (s.fle.clockMs / 2 ^ 32) ∧ t.fle = s.fle)
    ∧ (∃ t, exec (.zoneEntryRead z) s = .next t ∧ t.fle = s.fle
        ∧ t.fg Fld.FLE_ZONE_DATA_LIMIT = (s.zone z.toNat).limit % 2 ^ 28
        ∧ t.fg Fld.FLE_ZONE_PROF_PROFILE = (s.zone z.toNat).profile % 2 ^ 8
        ∧ t.fg Fld.FLE_ZONE_COUNT_COUNT = min 0xFFFFFFF (s.zone z.toNat).live)
    ∧ (∃ t, exec (.zoneEntryWrite z) s = .next t
        ∧ (t.zone z.toNat).limit = s.fg Fld.FLE_ZONE_DATA_LIMIT ∧ (t.zone z.toNat).profile = s.fg Fld.FLE_ZONE_PROF_PROFILE
        ∧ (t.zone z.toNat).live = (s.zone z.toNat).live ∧ ∀ y, y ≠ z.toNat → t.zone y = s.zone y)
    ∧ (s.fb Fld.FLE_CACHE_CTL_RETIRING = true → exec (.retire bank) s = .next (s.begin.denied Spec.FLE_CACHE_CTL))
    ∧ (∀ b, b < 8 → b ≠ bank.toNat → s.fbit Fld.FLE_STATUS_BANK_RETIRED b = false →
        s.fb Fld.FLE_CACHE_CTL_RETIRING = false → ∃ t, exec (.retire bank) s = .next t
          ∧ t.fle.retiring = some bank.toNat ∧ t.fb Fld.FLE_CACHE_CTL_RETIRING = true
          ∧ t.fg Fld.FLE_CACHE_CTL_BANK = bank.toNat)
    ∧ (∀ b, s.fle.retiring = some b → (s.fle.ops.any fun e => e.2.bank == b) = true → ∀ bad,
        exec (.bankRetirementComplete bad) s = .next s.begin)
    ∧ ∀ b, s.fle.retiring = some b → s.fle.ops = [] → s.fle.holds.get b [] = [] → (∀ l ∈ s.fle.cache, l.bank ≠ b) →
        ∀ errors, exec (.bankRetirementComplete errors) s =
          .next (((({ s.begin with fle := { s.fle with retiring := none } }.fs Fld.FLE_CACHE_CTL_RETIRING 0).fsbit
            Fld.FLE_STATUS_BANK_RETIRED b true).log 0x0707).drain)

/-- Creation tokens, ageing and repair (R157, R158, R166, R168, R169, R174–R176): the zones' tokens refill each millisecond
up to their burst, Prune deletes an expired record and counts it, Weeder writes back, poisons or has rebuilt what it reads,
as the code reads it, entries of the correction table end after a day, and a page that is due goes to the next spare page.
Completes, each by its own effect under conditions of the state and operands alone: creationTokenRefill, pruneVisit,
pruneDelete, weederVisit, correctionEntryExpiry, pageRetirement. Clauses that rest on a choice of the model: log entries 3,
39, 40, 47, 107. -/
def Obligations.AgeingAndRepair : Prop :=
  ∀ (s : State) (op b k : Nat),
    (s.aon < s.fle.tokensAt + msCycles → exec .creationTokenRefill s = .next s.begin)
    ∧ (s.fle.tokensAt + msCycles ≤ s.aon → ∃ t, exec .creationTokenRefill s = .next t
        ∧ t.fle.tokensAt = s.fle.tokensAt + msCycles ∧ t.fle.slots = s.fle.slots ∧ t.regs = s.regs)
    ∧ (s.fb Fld.FLE_PRUNE_CTL_EN = false → exec .pruneVisit s = .next s.begin)
    ∧ (∀ t, s.fb Fld.FLE_PRUNE_CTL_EN = true →
        ((List.range 7).foldl (fun (r : Option State) k => r.bind fun u => u.pruneSlot (s.fle.pruneAt % 2 ^ s.flowBits) k)
          (some (s.begin.pmFlow false (s.fle.pruneAt % 2 ^ s.flowBits % 8) (tagLineAddr (s.fle.pruneAt % 2 ^ s.flowBits)))))
          = some t →
        ∃ u, exec .pruneVisit s = .next u ∧ u.fle.pruneAt = (s.fle.pruneAt % 2 ^ s.flowBits + 1) % 2 ^ t.flowBits
          ∧ u.fle.slots = t.fle.slots)
    ∧ (∀ r, s.hasOp op = true → (s.op op).kind = .prune b k → (s.op op).state = .inService →
        (s.fslot b k).record = some r → r.poisoned = false → r.key = (s.op op).key → r.pinned = false →
        let timeout := s.timeoutS r.key.zone (timeoutClass r.state)
        let age := (s.flowMs % 2 ^ 32 + 2 ^ 32 - r.lastSeen) % 2 ^ 32
        (timeout ≠ 0 → timeout * 1000 ≤ age → exec (.pruneDelete op) s =
          .next (((s.begin.deleteRecord b k (some 1)).inc Reg.FLE_AGED).endOp op))
        ∧ (age < timeout * 1000 → exec (.pruneDelete op) s =
          .next ((s.begin.setStamp b k ((bitsOf r.lastSeen 25 10 + s.ticksOf r) % 65536)).endOp op)))
    ∧ (∀ block errors, s.fb Fld.PMEM_WEEDER_CTL_EN = false → exec (.weederVisit block errors) s = .next s.begin)
    ∧ (∀ errors, s.fb Fld.PMEM_WEEDER_CTL_EN = true → b < 2 ^ s.flowBits → k < 7 →
        let r := s.begin.readBlock (slotAddr b k) errors
        let l := s.begin.readBlock (tagLineAddr b) errors
        (r.1.seen = .clean → exec (.weederVisit (.slot b k) errors) s = .next r.2)
        ∧ (r.1.seen = .corrected → exec (.weederVisit (.slot b k) errors) s = .next (r.2.weederWrite b k r.1))
        ∧ (r.1.seen = .uncorrectable → exec (.weederVisit (.slot b k) errors) s = .next (r.2.poison b (r.2.headSlot b k)))
        ∧ exec (.weederVisit (.tagLine b) errors) s = .next (if l.1.seen = .uncorrectable then l.2.wantRebuild b else l.2))
    ∧ (∀ a errors, s.fb Fld.PMEM_WEEDER_CTL_EN = true → s.tablesBase ≤ a →
        let r := s.begin.readBlock a errors
        exec (.weederVisit (.other a) errors) s = .next (if r.1.seen = .uncorrectable then r.2.lostBlock a else r.2))
    ∧ (∀ l errors, s.fb Fld.PMEM_WEEDER_CTL_EN = true → s.line b k = some l →
        let r := s.begin.readCacheBlock errors
        exec (.weederVisit (.cacheLine b k) errors) s = .next (if r.1.seen ≠ .uncorrectable then r.2
          else if l.dirty then r.2.poison b k else r.2.dropLine b k))
    ∧ (∀ page, ∃ t, exec (.correctionEntryExpiry page) s = .next t ∧ t.fle.corr = s.fle.corr.filter fun e =>
        !(e.page == page && decide (e.last + 86400 * secCycles ≤ s.aon)))
    ∧ (s.fle.duePages = [] → ∀ bad, exec (.pageRetirement bad) s = .next s.begin)
    ∧ (s.fb Fld.PMEM_RETIRE_CFG_AUTO = false → ∀ bad, exec (.pageRetirement bad) s = .next s.begin)
    ∧ ∀ page r, s.fle.duePages = page :: r → s.fb Fld.PMEM_RETIRE_CFG_AUTO = true →
        s.fg Fld.PMEM_RETIRE_STAT_USED < 4096 → ∃ t,
        exec (.pageRetirement []) s = .next t ∧ t.fle.duePages = r
        ∧ t.fle.remap.get page 4096 = s.fg Fld.PMEM_RETIRE_STAT_USED
        ∧ t.fg Fld.PMEM_RETIRE_STAT_USED = s.fg Fld.PMEM_RETIRE_STAT_USED + 1
        ∧ t.nvm.pages = s.nvm.pages ++ [page]

/-- Learning, ageing and the tables' walks (R268–R273, R280, R281): the oldest learn request is served in the active bank
and, unless a copy runs, in the shadow; the ager takes the aged entries of its bucket; a flush deletes what its filter
matches; a copy ends with BUSY = 0 and status 0. Completes, each by its own effect under conditions of the state and operands
alone: learnRequest, l2AgeVisit, flushWalk, fwdCopyComplete. Clauses that rest on a choice of the model: log entries 3, 45,
49, 50, 107. -/
def Obligations.LearningAndWalks : Prop :=
  ∀ (s : State) (t : Nat),
    (s.fwd.learns = [] → ∀ bad, exec (.learnRequest bad) s = .next s.begin)
    ∧ (∀ vid mac port r, s.fwd.learns = (vid, mac, port) :: r →
        let u := ({ s.begin with fwd := { s.fwd with learns := r } } : State).tableReads 8
        let l := u.learnIn (s.activeBank 0) vid mac port
        exec (.learnRequest []) s = .next ((if s.fwd.copying = some 0 then l.2
          else (l.2.learnIn (1 - s.activeBank 0) vid mac port).2).learnCount l.1))
    ∧ (∀ b, s.fwd.copying = none → s.activeBank 0 ≤ 1 → ∃ u, exec (.l2AgeVisit b []) s = .next u
        ∧ ∀ e ∈ u.fwd.l2, e ∈ s.fwd.l2 ∧ (e.1 / 8 % 65536 = b % 65536 → e.1 / 524288 ≤ 1 → s.l2Aged e.2 = false))
    ∧ (s.fwd.flushing = none → s.fwd.flushWait = [] → ∀ bad, exec (.flushWalk bad) s = .next s.begin)
    ∧ (∀ w, s.fwd.flushWait = [] → s.fwd.flushing = some (0, w, false) → ∃ u, exec (.flushWalk []) s = .next u
        ∧ u.fwd.flushing = none ∧ u.fb Fld.FWD_CMD_STAT_BUSY = false ∧ u.fb Fld.FWD_CMD_STAT_DONE = true
        ∧ ∀ e ∈ u.fwd.l2, e ∈ s.fwd.l2 ∧ flushMatch w e.2 = false)
    ∧ (s.fwd.copying = none → ∀ bad, exec (.fwdCopyComplete bad) s = .next s.begin)
    ∧ (s.fwd.copying = some t → 1 ≤ t → t ≤ 2 → s.activeBank t ≤ 1 → ∃ u, exec (.fwdCopyComplete []) s = .next u
        ∧ u.fwd.copying = none ∧ u.lpmBank (t - 1) (1 - s.activeBank t) = s.lpmBank (t - 1) (s.activeBank t)
        ∧ u.fb Fld.FWD_CMD_STAT_BUSY = false ∧ u.fg Fld.FWD_CMD_STAT_STATUS = 0)

/-- The forwarding commands (R283, R284, R289): each stores its words and answers in FWD_CMD_STAT; a busy unit answers status
7 alone and a table that is none is rejected; a read gives the entry, an insertion into the next hops puts it, and a copy or
a flush starts with BUSY. FLIP (R263, R264): every named table's shadow becomes active and its epoch advances, or, when one
of them is blocked, none does: FLIP_REFUSED shows and event 0x0A05 is logged. Completes, each by its own effect under
conditions of the state and operands alone: search, next, insert, delete, fwdFlush, fwdCopy, fwdRead, flip. Clauses that rest
on a choice of the model: log entries 7, 48, 50. -/
def Obligations.ForwardingCommandsAndFlip : Prop :=
  (∀ (s : State) (tb : BitVec 3) (bank : BitVec 2) (i : BitVec 21),
      let cmd := fun op => s.begin.store Spec.FWD_CMD [] (op * 2 ^ 28 + tb.toNat * 2 ^ 25 + bank.toNat * 2 ^ 23 + i.toNat)
      let all := fun bad => [Instr.search tb bank i bad, .next tb bank i bad, .insert tb bank i bad, .delete tb bank i bad,
        .fwdFlush tb bank i, .fwdCopy tb bank i, .fwdRead tb bank i]
      (4 < tb.toNat ∨ bank = 3 → ∀ bad, ∀ c ∈ all bad, exec c s = .next (s.begin.denied Spec.FWD_CMD))
      ∧ (tb.toNat ≤ 4 → bank ≠ 3 → s.fb Fld.FWD_CMD_STAT_BUSY = true →
          ∀ bad, ∀ c ∈ all bad, exec c s = .next (s.begin.fs Fld.FWD_CMD_STAT_STATUS 7))
      ∧ (tb.toNat ≤ 4 → bank ≠ 3 → s.fb Fld.FWD_CMD_STAT_BUSY = false →
          exec (.search tb bank i []) s = .next ((cmd 0).fwdSearch tb.toNat bank.toNat)
          ∧ exec (.next tb bank i []) s = .next ((cmd 1).fwdNext tb.toNat bank.toNat i.toNat)
          ∧ (tb.toNat ≤ 2 → exec (.insert tb bank i []) s = .next ((cmd 2).fwdInsert tb.toNat bank.toNat i.toNat))
          ∧ (tb = 3 → i.toNat < 65536 → (nextHopOf s.fwdData).port ≤ 66 → (nextHopOf s.fwdData).vid < 4096 →
              ∃ t, exec (.insert tb bank i []) s = .next t ∧ t.nextHop i.toNat = nextHopOf s.fwdData
                ∧ t.fg Fld.FWD_CMD_STAT_STATUS = 0 ∧ t.fb Fld.FWD_CMD_STAT_DONE = true)
          ∧ exec (.delete tb bank i []) s = .next ((cmd 3).fwdDelete tb.toNat bank.toNat)
          ∧ (1 ≤ tb.toNat → tb.toNat ≤ 2 → s.oldLive (epochTable tb.toNat) = false →
              ∃ t, exec (.fwdFlush tb bank i) s = .next t ∧ t.fb Fld.FWD_CMD_STAT_BUSY = true
                ∧ t.fwd.flushing = some (tb.toNat, (s.rd (Reg.FWD_CMD_DATA 0)).toNat, bank == 1))
          ∧ (tb.toNat ≤ 2 → s.oldLive (epochTable tb.toNat) = false → ∃ t, exec (.fwdCopy tb bank i) s = .next t
              ∧ t.fb Fld.FWD_CMD_STAT_BUSY = true ∧ t.fwd.copying = some tb.toNat)
          ∧ (tb.toNat ≤ 2 → s.oldLive (epochTable tb.toNat) = true → ∃ t, exec (.fwdCopy tb bank i) s = .next t
              ∧ t.fg Fld.FWD_CMD_STAT_STATUS = 5 ∧ t.fwd.copying = s.fwd.copying)
          ∧ (tb = 3 → i.toNat < 65536 → ∃ t, exec (.fwdRead tb bank i) s = .next t ∧ t.fg Fld.FWD_CMD_STAT_STATUS = 0
              ∧ t.fwd = s.fwd)))
  ∧ (∀ (s : State) (tables : BitVec 3),
      let named := [0, 1, 2].filter fun t => bitAt tables.toNat (2 - t)
      (named.any s.flipBlocked = true → exec (.flip tables) s =
        .next (((s.begin.fs Fld.FWD_EPOCH_CTL_TABLES tables.toNat).fs Fld.FWD_EPOCH_CTL_FLIP_REFUSED 1).log 0x0A05))
      ∧ (named.any s.flipBlocked = false → ∃ t, exec (.flip tables) s = .next t
          ∧ ∀ n ∈ [0, 1, 2], s.activeBank n ≤ 1 →
            t.activeBank n = (if n ∈ named then 1 - s.activeBank n else s.activeBank n)
            ∧ t.curEpoch (epochTable n) = (if n ∈ named then (s.curEpoch (epochTable n) + 1) % 16
                else s.curEpoch (epochTable n))))

/-- What ends or restarts a packet's program (R203, R205–R207, R215–R220): a program past its budget takes cause 5, a reply
commits, a retry or a micro-fault restarts the routine, a fault past the commit point quarantines the engine, a corrected
word is counted, and a tentative request is discarded once 256 core clocks have passed. Routines of micro-words that the
patch in force changes (R209–R214, R217, R218): the instruction enters its routine at the word that the match registers give
for its entry; a word that sets the result latch and is the last commits it; FAULT raises its cause; a reserved class or
condition restarts the routine. Completes, each by its own effect under conditions of the state and operands alone:
budgetExceeded, unitReply, tentativeTimeout. Clauses that rest on a choice of the model: log entries 3, 43, 80, 94, 111. -/
def Obligations.UnitOutcomesAndBudget : Prop :=
  (∀ (s : State) (slice eng ctx : Nat), slice < 4 → eng < 16 → ctx < 8 →
      let k := ctxKey slice eng ctx
      (∀ x, s.ctx? k = some x →
          (x.budget ≤ x.chargedHigh s.coreNow → exec (.budgetExceeded slice eng ctx) s = .next (s.begin.raise k 5))
          ∧ (x.chargedHigh s.coreNow < x.budget → exec (.budgetExceeded slice eng ctx) s = .next s.begin))
      ∧ (s.ctx? k = none → exec (.budgetExceeded slice eng ctx) s = .next s.begin)
      ∧ (s.ctx? k = none → ∀ o, exec (.unitReply slice eng ctx o) s = .next s.begin)
      ∧ (∀ x, s.ctx? k = some x →
          (x.micro = none → s.engineHeld slice eng = false →
              exec (.unitReply slice eng ctx .reply) s = .next (s.begin.commitCreate k))
          ∧ (∀ m, x.micro = some m → (s.engineHeld slice eng = false ∨ m.holds = true) →
              exec (.unitReply slice eng ctx .reply) s = .next (s.begin.resumeMicro k x m))
          ∧ (s.engineHeld slice eng = true → (∀ m, x.micro = some m → m.holds = false) →
              exec (.unitReply slice eng ctx .reply) s = .next s.begin)
          ∧ (∀ a, exec (.unitReply slice eng ctx (.retry a)) s = .next (s.begin.restartRoutine k (some a))
              ∧ exec (.unitReply slice eng ctx (.microFault a)) s = .next (s.begin.restartRoutine k (some a))
              ∧ exec (.unitReply slice eng ctx (.postCommit a)) s = .next (s.begin.postFault k))
          ∧ exec (.unitReply slice eng ctx .corrected) s = .next (s.begin.inc (Reg.TRW_CS_CORR slice))
          ∧ ∀ t n id, x.wait = some (0, t) → x.reply = some n → (s.pkt x.pid).op = some id →
              (s.coreNow < t + 256 → exec (.tentativeTimeout slice eng ctx) s = .next s.begin)
              ∧ (t + 256 ≤ s.coreNow → s.creationShared id k = true → ∃ u, exec (.tentativeTimeout slice eng ctx) s = .next u
                  ∧ ∃ y, u.ctx? k = some y ∧ y.wait = some (1, t) ∧ u.fle = s.fle)))
  ∧ (∀ (rd rs1 rs2 : BitVec 5) (s : State) (slice eng c : Nat) (x : Ctx), EngineCan s slice eng c x →
      let k := ctxKey slice eng c
      let a := Agent.engine slice eng c .none
      let all : List (Instr × (Nat × Nat) × BitVec 5 × BitVec 5 × BitVec 5) :=
        [(.fcreate a rd 0 0, (0x20, 0), rd, 0, 0), (.fdelete a 0 0 0, (0x20, 1), 0, 0, 0),
         (.police a rd rs1 rs2, (0x21, 0), rd, rs1, rs2),
         (.l2 a rd rs1 0, (0x22, 0), rd, rs1, 0), (.lpm4 a rd rs1 0, (0x22, 1), rd, rs1, 0),
         (.lpm6 a rd rs1 0, (0x22, 2), rd, rs1, 0), (.nhop a rd rs1 0, (0x22, 3), rd, rs1, 0),
         (.ecmp a rd rs1 0, (0x22, 4), rd, rs1, 0),
         (.natmap a rd rs1 0, (0x23, 0), rd, rs1, 0), (.natrel a 0 rs1 0, (0x23, 1), 0, rs1, 0),
         (.lbsel a rd rs1 0, (0x23, 2), rd, rs1, 0),
         (.setq a 0 rs1 rs2, (0x24, 0), 0, rs1, rs2), (.recirc a 0 rs1 0, (0x24, 1), 0, rs1, 0),
         (.tocpu a 0 rs1 0, (0x24, 2), 0, rs1, 0), (.drop a 0 0 0, (0x24, 3), 0, 0, 0),
         (.mirror a 0 rs1 0, (0x24, 4), 0, rs1, 0), (.tsreq a rd rs1 0, (0x24, 5), rd, rs1, 0),
         (.edit a 0 rs1 rs2, (0x24, 6), 0, rs1, rs2), (.exit a 0 0 0, (0x2F, 0), 0, 0, 0)]
      ∀ e ∈ all, s.patched e.2.1.1 e.2.1.2 = true →
        let t := if mayMiss e.2.1.1 e.2.1.2 then engineWaits s slice eng c x else engineIssued s slice eng c x
        let y := if mayMiss e.2.1.1 e.2.1.2 then issueWaits s x else issue s x
        let run := t.enterMicro k e.2.1.1 e.2.1.2 e.2.2.1 (x.reg e.2.2.2.1) (x.reg e.2.2.2.2)
        exec e.1 s = .next run
        ∧ ∀ addr, s.microGoto (microEntry e.2.1.1 e.2.1.2) = some addr →
            let w := s.microWord addr
            (bitsOf w 95 92 = 1 → bitsOf w 75 71 = 20 → bitAt w 33 = true →
              run = t.setCtx k { (y.setReg e.2.2.1 (BitVec.ofNat 64 (bitsOf w 70 55))) with
                micro := none, wait := none, reply := none, ia := x.ia + 4, restarts := 0 })
            ∧ (bitsOf w 95 92 = 7 → run = t.raise k (bitsOf w 57 55))
            ∧ (8 ≤ bitsOf w 95 92 ∨ (bitsOf w 95 92 = 6 ∧ 8 ≤ bitsOf w 51 48) → run = t.restartRoutine k (some addr)))

/-- The program table and the instruction memory (R190, R191, R226): a write puts the data words at the index and is refused
without a budget, a read gives the entry of a slice in service, and each access of the memory moves its address on. Drain
mark, quarantine and patches (R190, R220–R223, R226, R227): MARK marks the contexts held; the last engine of a slice is not
quarantined; staging a word moves the address on; INSTALL and CLEAR start, are refused while one runs, and end after 2N + 96
or 64 core clocks. Completes, each by its own effect under conditions of the state and operands alone: programEntryRead,
programEntryWrite, imemDataWrite, imemDataRead, mark, engineQuarantine, engineRelease, patchDataWrite, install,
patchInstalled, clear. Clauses that rest on a choice of the model: log entries 3, 94, 96, 109, 110. -/
def Obligations.ProgramsEnginesAndPatches : Prop :=
  (∀ (s : State) (i : BitVec 16) (sl : BitVec 2) (v : Word),
      let hi := (s.rd Reg.TRW_PROG_DATA_HI).toNat
      let lo := (s.rd Reg.TRW_PROG_DATA_LO).toNat
      let a := s.fg Fld.TRW_IMEM_ADDR_ADDR
      (bitsOf (hi * 2 ^ 32 + lo) 62 51 ≠ 0 → ∃ t, exec (.programEntryWrite i) s = .next t
          ∧ t.trw.progs.get i.toNat 0 = setBit (hi * 2 ^ 32 + lo) 32 false ∧ t.fb Fld.TRW_PROG_STAT_DONE = true
          ∧ ∀ j, j ≠ i.toNat → t.trw.progs.get j 0 = s.trw.progs.get j 0)
      ∧ (bitsOf (hi * 2 ^ 32 + lo) 62 51 = 0 → ∃ t, exec (.programEntryWrite i) s = .next t ∧ t.trw = s.trw
          ∧ t.fb Fld.TRW_PROG_STAT_REJECTED = true)
      ∧ ((s.slice sl.toNat).inService = true → ∃ t, exec (.programEntryRead sl i) s = .next t ∧ t.trw = s.trw
          ∧ t.fb Fld.TRW_PROG_STAT_DONE = true
          ∧ t.rd Reg.TRW_PROG_DATA_LO = BitVec.ofNat 32 (s.trw.progs.get i.toNat 0))
      ∧ ((s.slice sl.toNat).inService = false → ∃ t, exec (.programEntryRead sl i) s = .next t
          ∧ t.fb Fld.TRW_PROG_STAT_REJECTED = true)
      ∧ (∃ t, exec (.imemDataWrite v) s = .next t ∧ t.trw.imem.get a 0 = v
          ∧ t.fg Fld.TRW_IMEM_ADDR_ADDR = (a + 1) % 262144 ∧ ∀ j, j ≠ a → t.trw.imem.get j 0 = s.trw.imem.get j 0)
      ∧ ∃ t, exec .imemDataRead s = .next t ∧ t.out = [.readData (s.trw.imem.get a 0)]
          ∧ t.fg Fld.TRW_IMEM_ADDR_ADDR = (a + 1) % 262144 ∧ t.trw = s.trw)
  ∧ (∀ (s : State) (slice : Nat) (e : BitVec 4) (v : Word),
      (∃ t, exec .mark s = .next t ∧ (∀ x ∈ t.trw.ctxs, x.2.marked = true) ∧ t.regs = s.regs
          ∧ t.trw.ctxs.length = s.trw.ctxs.length)
      ∧ (slice < 4 → (∀ i, i < 16 → i ≠ e.toNat → s.quarantined slice i = true) →
          exec (.engineQuarantine slice e) s = .next (s.begin.denied Spec.TRW_ENG_CTL))
      ∧ (∀ i, slice < 4 → i < 16 → i ≠ e.toNat → s.quarantined slice i = false → s.quarantined slice e.toNat = false →
          exec (.engineQuarantine slice e) s =
            .next ((s.begin.store Spec.TRW_ENG_CTL [slice] (2 ^ 31 + e.toNat)).quarantine slice e.toNat))
      ∧ (slice < 4 → ∃ t, exec (.engineRelease slice e) s = .next t ∧ t.quarantined slice e.toNat = false)
      ∧ (∃ t, exec (.patchDataWrite .kernel v) s = .next t
          ∧ t.trw.staged.get (s.fg Fld.TRW_PATCH_ADDR_ADDR) 0 =
              ((s.rd (Reg.TRW_PATCH_DATA 0)).toNat * 2 ^ 32 + (s.rd (Reg.TRW_PATCH_DATA 1)).toNat) * 2 ^ 32 + v.toNat
          ∧ t.fg Fld.TRW_PATCH_ADDR_ADDR = (s.fg Fld.TRW_PATCH_ADDR_ADDR + 1) % 512)
      ∧ (∀ c ∈ [Instr.patchDataWrite .user v, .install .user, .clear .user], exec c s = .next s.begin.errorResponse)
      ∧ (s.fb Fld.TRW_PATCH_STAT_BUSY = true → exec (.install .kernel) s = .next (s.begin.denied Spec.TRW_PATCH_CTL)
          ∧ exec (.clear .kernel) s = .next (s.begin.denied Spec.TRW_PATCH_CTL))
      ∧ (s.fb Fld.TRW_PATCH_STAT_BUSY = false →
          (∃ t, exec (.install .kernel) s = .next t ∧ t.trw.installing = some (false, s.aon)
            ∧ t.fb Fld.TRW_PATCH_STAT_BUSY = true)
          ∧ ∃ t, exec (.clear .kernel) s = .next t ∧ t.trw.installing = some (true, s.aon))
      ∧ (s.trw.installing = none → exec .patchInstalled s = .next s.begin)
      ∧ (∀ since, s.trw.installing = some (true, since) → s.coreNow < since * 50 + 64 → exec .patchInstalled s = .next s.begin)
      ∧ (∀ since, s.trw.installing = some (false, since) → s.coreNow < since * 50 + 2 * s.stagedCount + 96 →
          exec .patchInstalled s = .next s.begin)
      ∧ ∀ since, s.trw.installing = some (true, since) → since * 50 + 64 ≤ s.coreNow → ∃ t, exec .patchInstalled s = .next t
          ∧ t.trw.patchWords = [] ∧ t.trw.installing = none ∧ t.fb Fld.TRW_PATCH_STAT_BUSY = false)

/-- The translation unit's commands (R232, R233, R241, R256, R257): an enabled pool takes no other change than its end, the
sweep frees the mappings whose hold has passed, a member without weight, an index past its range, a change of a live group's
family and a busy unit are rejected by reason, a build ends after 4,096 core clocks, and a mapping is found, or freed, by its
public endpoint. Completes, each by its own effect under conditions of the state and operands alone: poolEnWrite, xlbSweep,
lbRead, lbWrite, build, buildComplete, mappingFind, mappingFree. Clauses that rest on a choice of the model: log entries 3,
7, 45, 55, 99. -/
def Obligations.TranslationCommands : Prop :=
  ∀ (s : State) (tgt : BitVec 2) (g i : BitVec 12) (addr : BitVec 13) (pp : BitVec 16) (v : Word) (p : Nat),
    let busy := s.fb Fld.XLB_LB_STAT_BUSY
    (p < 256 → Spec.XLB_POOL_CFG.inRange v.toNat = true → s.fb (Fld.XLB_POOL_CFG_EN p) = true → bitAt v.toNat 31 = true →
      ∃ t, exec (.poolEnWrite .kernel p false v) s = .next t ∧ t.rd (Reg.XLB_POOL_CFG p) = s.rd (Reg.XLB_POOL_CFG p))
    ∧ (p < 256 → Spec.XLB_POOL_CFG.inRange v.toNat = true → s.fb (Fld.XLB_POOL_CFG_EN p) = false →
        let t := s.begin.store Spec.XLB_POOL_CFG [p] v.toNat
        (t.poolOk p = true → exec (.poolEnWrite .kernel p false v) s = .next t)
        ∧ (bitAt (t.rd (Reg.XLB_POOL_CFG p)).toNat 31 = true → t.poolOk p = false →
            exec (.poolEnWrite .kernel p false v) s = .next (s.begin.denied Spec.XLB_POOL_CFG)))
    ∧ (exec (.poolEnWrite .user p false v) s = .next s.begin.errorResponse)
    ∧ (exec .xlbSweep s = .next ((s.heldOut.foldl (fun (s : State) e => s.freeMapping e.1 e.2) s.begin).releaseNatHolds))
    ∧ (busy = true → exec (.lbRead tgt g i) s = .next (s.begin.lbReject 4)
        ∧ exec (.lbWrite tgt g i) s = .next (s.begin.lbReject 4)
        ∧ exec (.build g) s = .next (s.begin.lbReject 4))
    ∧ (busy = false → lbIndexOk tgt i = false → exec (.lbRead tgt g i) s = .next (s.begin.lbReject 1)
        ∧ exec (.lbWrite tgt g i) s = .next (s.begin.lbReject 1))
    ∧ (busy = false → tgt = 2 → ∃ t, exec (.lbRead tgt g i) s = .next t ∧ t.xlb = s.xlb
        ∧ t.fb Fld.XLB_LB_STAT_DONE = true)
    ∧ (busy = false → tgt = 1 → i.toNat < 256 → bitsOf (s.lbData 4) 15 8 = 0 →
        exec (.lbWrite tgt g i) s = .next (s.begin.lbReject 3))
    ∧ (busy = false → tgt = 1 → i.toNat < 256 → bitsOf (s.lbData 4) 15 8 ≠ 0 → ∃ t, exec (.lbWrite tgt g i) s = .next t
        ∧ (t.lbMember g.toNat i.toNat).weight = bitsOf (s.lbData 4) 15 8
        ∧ (t.lbMember g.toNat i.toNat).state = s.lbData 4 % 4 ∧ (t.lbMember g.toNat i.toNat).nhop = s.lbData 5 % 65536
        ∧ t.xlb.slots = s.xlb.slots ∧ t.xlb.groups = s.xlb.groups)
    ∧ (busy = false → ∃ t, exec (.build g) s = .next t ∧ t.xlb.building = some (g.toNat, s.aon)
        ∧ t.fb Fld.XLB_LB_STAT_BUSY = true)
    ∧ (∀ gr since, s.xlb.building = some (gr, since) →
        (s.coreNow < since * 50 + 4096 → exec .buildComplete s = .next s.begin)
        ∧ (since * 50 + 4096 ≤ s.coreNow → ∃ t, exec .buildComplete s = .next t ∧ t.xlb.building = none
            ∧ t.xlb.slots = (s.begin.buildSlots gr).xlb.slots ∧ t.fb Fld.XLB_LB_STAT_BUSY = false))
    ∧ (s.revFind addr.toNat pp.toNat = none →
        (∃ t, exec (.mappingFind addr pp) s = .next t ∧ t.fb Fld.XLB_MAP_CMD_FOUND = false ∧ t.xlb = s.xlb)
        ∧ ∃ t, exec (.mappingFree addr pp) s = .next t ∧ t.fb Fld.XLB_MAP_CMD_FOUND = false ∧ t.xlb = s.xlb)
    ∧ ∀ k m, s.revFind addr.toNat pp.toNat = some (k, m) →
        (∃ t, exec (.mappingFind addr pp) s = .next t ∧ t.fb Fld.XLB_MAP_CMD_FOUND = true ∧ t.xlb = s.xlb
          ∧ t.rd (Reg.XLB_MAP_DATA 1) = BitVec.ofNat 32 m.addr)
        ∧ ∃ u : State, u.xlb = s.xlb ∧ exec (.mappingFree addr pp) s = .next (u.freeMapping k m)

/-- Policers, the hash test and the event log (R111, R130, R253, R593, R632): a policer write fills both buckets and is
rejected with an empty bucket or PIR below CIR, a read gives its words, the hash test gives both CRCs of 1–39 bytes, and POP
takes the oldest record unless a supply warning holds. Completes, each by its own effect under conditions of the state and
operands alone: hashTest, policerRead, policerWrite, pop. Clauses that rest on a choice of the model: log entries 3, 7. -/
def Obligations.PolicersHashTestAndPop : Prop :=
  ∀ (s : State) (i : BitVec 17) (v : Word),
    let cbs := s.fg Fld.FLE_POL_DATA_3_CBS
    let ebs := s.fg Fld.FLE_POL_DATA_4_EBS_PBS
    let bytes := ((List.range 10).flatMap fun w => beBytes 4 (s.rd (Reg.PAR_HASH_DATA w)).toNat).take (v.toNat % 64)
    (cbs ≠ 0 → ebs ≠ 0 → (s.rd Reg.FLE_POL_DATA_1).toNat ≤ (s.rd Reg.FLE_POL_DATA_2).toNat →
      ∃ t, exec (.policerWrite i) s = .next t ∧ (t.policer i.toNat).cbs = cbs ∧ (t.policer i.toNat).ebs = ebs
        ∧ (t.policer i.toNat).tc = cbs * 65536 ∧ (t.policer i.toNat).te = ebs * 65536
        ∧ (t.policer i.toNat).cir = (s.rd Reg.FLE_POL_DATA_1).toNat ∧ t.fb Fld.FLE_POL_STAT_DONE = true
        ∧ ∀ j, j ≠ i.toNat → t.policer j = s.policer j)
    ∧ (s.fb Fld.FLE_POL_DATA_0_VALID = true → cbs = 0 ∨ ebs = 0 → ∃ t, exec (.policerWrite i) s = .next t ∧ t.xlb = s.xlb
        ∧ t.fb Fld.FLE_POL_STAT_REJECTED = true)
    ∧ (∃ t, exec (.policerRead i) s = .next t ∧ t.xlb = s.xlb ∧ t.fb Fld.FLE_POL_STAT_DONE = true
        ∧ t.rd Reg.FLE_POL_DATA_1 = BitVec.ofNat 32 (s.policer i.toNat).cir
        ∧ t.rd Reg.FLE_POL_DATA_2 = BitVec.ofNat 32 (s.policer i.toNat).pir)
    ∧ (v.toNat % 64 < 1 ∨ 39 < v.toNat % 64 → exec (.hashTest .kernel v) s = .next (s.begin.denied Spec.PAR_HASH_TEST))
    ∧ (1 ≤ v.toNat % 64 → v.toNat % 64 ≤ 39 → bitAt v.toNat 31 = true → ∃ t, exec (.hashTest .kernel v) s = .next t
        ∧ t.rd Reg.PAR_HASH_TEST_LO = BitVec.ofNat 32 (crc32c (s.rd Reg.PAR_HASH_SEED_LO).toNat bytes)
        ∧ t.rd Reg.PAR_HASH_TEST_HI = BitVec.ofNat 32 (crc32 (s.rd Reg.PAR_HASH_SEED_HI).toNat bytes))
    ∧ exec (.hashTest .user v) s = .next s.begin.errorResponse
    ∧ (s.events = [] ∨ s.fb Fld.KTL_PWR_STAT_WARN = true → exec .pop s = .next s.begin)
    ∧ ∀ r rest, s.events = r :: rest → s.fb Fld.KTL_PWR_STAT_WARN = false → s.nvm.opened = false →
        ∃ t, exec .pop s = .next t ∧ t.events = rest ∧ t.regs = s.regs

/-! ## Buffers, schedulers and time -/

/-- Frees, walks and audits of cells (R306–R310, R313): a free that names the first cell of a held packet with its owner's
tag and generation frees its chain, any other frees nothing and is counted and logged; Compost walks the next list and goes
on when it is sound, and audits every 100 ms. Spilling and owners (R315–R318, R325): nothing is written for a pool that does
not spill; one that spills has its next run written while pages are left, and event 0x0B08 says once when none are; a run is
read back only when its queue is short of cells, the write cap is logged while some pool spills, an owner is read with its
drops cleared, and a port above 66 is rejected by reason 1. Completes, each by its own effect under conditions of the state
and operands alone: cellFree, freeListWalk, auditCycle, spillRunWrite, spillReadBack, ownerRead, ownerWrite,
spillWriteCapHold. Clauses that rest on a choice of the model: log entries 3, 7, 58, 104, 107. -/
def Obligations.BuffersAndSpill : Prop :=
  (∀ (s : State) (slice code cell gen : Nat), slice < 4 → code < 64 → cell < 262144 →
      let h := s.cell cell
      let tag := tagOf slice code
      (h.held = false → exec (.cellFree slice code cell gen) s = .next (((s.begin.inc Reg.BUF_DOUBLE_FREE).logUpTo 64 0x0B01
          (d4 cell)).fcCount { kind := 10, masters := if tag % 64 = codeCompost then 2 ^ 17 else 2 ^ (tag / 64) }))
      ∧ (h.held = true → h.badMarker = false → (8 < code ∨ h.first = false ∨ (h.tag ≠ tag ∧ code ≠ codeCompost)
            ∨ h.gen ≠ gen) → exec (.cellFree slice code cell gen) s =
          .next (((s.begin.inc Reg.BUF_NONOWNER_FREE).logUpTo 64 0x0B02 (d4 cell ++ d1 tag)).fcCount
            { kind := 10, masters := if tag % 64 = codeCompost then 2 ^ 17 else 2 ^ (tag / 64) }))
      ∧ (h.held = true → h.badMarker = false → code ≤ 8 → h.first = true → h.tag = tag → h.gen = gen →
          (s.packets.find? fun e => e.2.cells.head? == some cell && e.2.gen == gen) = none →
          exec (.cellFree slice code cell gen) s = .next ((s.begin.freeChain (s.begin.chain cell 43)).fcCount
            { kind := 10, masters := if tag % 64 = codeCompost then 2 ^ 17 else 2 ^ (tag / 64) }))
      ∧ (s.fb Fld.BUF_CFG_COMPOST_EN = false → exec .freeListWalk s = .next s.begin ∧ exec .auditCycle s = .next s.begin)
      ∧ (s.fb Fld.BUF_CFG_COMPOST_EN = true →
          let l := s.buf.compostList
          let cells := (s.freeList l).cells l
          (∀ c ∈ cells, (s.cell c).held = false ∧ (s.cell c).badMarker = false ∧ (s.cell c).retired = false
            ∧ homeList c = l) → cells.length = s.fg (Fld.BUF_FL_COUNT (l / 8) (l % 8)) →
          ∃ t, exec .freeListWalk s = .next t ∧ t.buf.compostList = (l + 1) % 32 ∧ t.regs = s.regs ∧ t.events = s.events)
      ∧ (s.aon < s.buf.auditAt + 100 * msCycles → exec .auditCycle s = .next s.begin)
      ∧ (s.fb Fld.BUF_CFG_COMPOST_EN = true → s.buf.auditAt + 100 * msCycles ≤ s.aon → s.packets = [] → s.buf.cells = [] →
          ∃ t, exec .auditCycle s = .next t ∧ t.buf.parity = !s.buf.parity ∧ t.buf.auditAt = s.aon ∧ t.regs = s.regs))
  ∧ (∀ (s : State) (pool q : Nat) (o : BitVec 11),
      let c := s.ownerCfg o.toNat
      let u := s.begin.spillWatch pool
      (pool < 16 → u.buf.spilling.contains pool = false ∨ u.spillOwner pool = none → exec (.spillRunWrite pool) s = .next u)
      ∧ (∀ o n before pids after, pool < 16 → u.buf.spilling.contains pool = true → u.spillOwner pool = some o →
          u.nextRun o = some (n, before, pids, after) →
          (u.buf.usedPages + u.runPages pids ≤ u.spillPages → u.allRuns.length < 262144 →
            exec (.spillRunWrite pool) s = .next (u.writeRun o n before pids after))
          ∧ (u.spillPages < u.buf.usedPages + u.runPages pids → u.buf.spillFull = false →
            exec (.spillRunWrite pool) s = .next ({ u with buf := { u.buf with spillFull := true } }.log 0x0B08)))
      ∧ (∀ before run after port errors, s.portOf q = some port → splitRun (s.queue q).items = some (before, run, after) →
          before.foldl (fun k i => k + s.itemCells i) 0 < s.fg Fld.BUF_SPILL_FETCH_FETCH_CELLS →
          exec (.spillReadBack q errors) s = .next (s.begin.readRun port q errors before run after))
      ∧ (splitRun (s.queue q).items = none → ∀ bad, exec (.spillReadBack q bad) s = .next s.begin)
      ∧ (∀ before run after port, s.portOf q = some port → splitRun (s.queue q).items = some (before, run, after) →
          s.fg Fld.BUF_SPILL_FETCH_FETCH_CELLS ≤ before.foldl (fun k i => k + s.itemCells i) 0 → ∀ bad,
          exec (.spillReadBack q bad) s = .next s.begin)
      ∧ (s.buf.spilling = [] → exec .spillWriteCapHold s = .next s.begin)
      ∧ (s.buf.spilling ≠ [] → exec .spillWriteCapHold s = .next (s.begin.logLimited 0x0B05 0 1 0 fun _ _ => []))
      ∧ (66 < o.toNat / 8 % 128 → ∃ t, exec (.ownerRead o) s = .next t ∧ t.buf = s.buf
          ∧ t.fb Fld.BUF_OWN_STAT_REJECTED = true ∧ t.fg Fld.BUF_OWN_STAT_REASON = 1)
      ∧ (66 < o.toNat / 8 % 128 → ∃ t, exec (.ownerWrite o) s = .next t ∧ t.buf = s.buf
          ∧ t.fg Fld.BUF_OWN_STAT_REASON = 1)
      ∧ (o.toNat / 8 % 128 ≤ 66 → ∃ t, exec (.ownerRead o) s = .next t ∧ t.fb Fld.BUF_OWN_STAT_DONE = true
          ∧ t.rd Reg.BUF_OWN_DATA_5 = BitVec.ofNat 32 (s.ownerUse o.toNat).drops ∧ (t.ownerUse o.toNat).drops = 0
          ∧ t.rd Reg.BUF_OWN_DATA_3 = BitVec.ofNat 32 c.xon ∧ t.ownerCfg o.toNat = c)
      ∧ (o.toNat / 8 ≤ 66 → s.started = false → s.fb Fld.BUF_OWN_DATA_0_SPILL_EN = false → ∃ t,
          exec (.ownerWrite o) s = .next t ∧ (t.ownerCfg o.toNat).pool = s.fg Fld.BUF_OWN_DATA_0_POOL
          ∧ (t.ownerCfg o.toNat).min = s.fg Fld.BUF_OWN_DATA_0_MIN ∧ (t.ownerCfg o.toNat).xon = s.fg Fld.BUF_OWN_DATA_3_XON))

/-- Queues, nodes and gate lists (R349–R351, R360–R365): a read gives the configuration and clears the counts it shows, a
write whose check fails is rejected with that check's reason and one that passes takes effect, the operational list and an
interval below 16 ns are refused, and EN = 0 ends the lists. Completes, each by its own effect under conditions of the state
and operands alone: queueRead, queueWrite, nodeRead, nodeWrite, configChange, gateEnWrite, listEntryRead, listEntryWrite.
Clauses that rest on a choice of the model: log entries 3, 7, 55, 57. -/
def Obligations.SchedulerCommands : Prop :=
  ∀ (s : State) (q : BitVec 14) (n : BitVec 11) (p : Nat) (oper : Bool) (i : BitVec 10) (v : Word), p < 64 →
    let w := fun (r : Reg) => (s.rd r).toNat
    let qc := childCfg (w Reg.SCH_Q_DATA_0) (w Reg.SCH_Q_DATA_2) (w Reg.SCH_Q_DATA_3)
    let qwhy := s.queueReason q.toNat qc (s.fg Fld.SCH_Q_DATA_0_TC) (s.fg Fld.SCH_Q_DATA_1_AGE) (s.fg Fld.SCH_Q_DATA_4_QMAX)
    let nc := childCfg (w Reg.SCH_N_DATA_0) (w Reg.SCH_N_DATA_2) (w Reg.SCH_N_DATA_3)
    let nwhy := s.nodeReason n.toNat nc (s.fb Fld.SCH_N_DATA_1_EN) (s.fg Fld.SCH_N_DATA_1_PORT)
    (∃ t, exec (.queueRead q) s = .next t ∧ t.fb Fld.SCH_Q_STAT_DONE = true
        ∧ t.rd Reg.SCH_Q_DATA_7 = BitVec.ofNat 32 (s.queue q.toNat).qfullDrops ∧ (t.queue q.toNat).qfullDrops = 0
        ∧ t.rd Reg.SCH_Q_DATA_6 = BitVec.ofNat 32 (s.queue q.toNat).ageDrops ∧ (t.queue q.toNat).ageDrops = 0
        ∧ (t.queue q.toNat).items = (s.queue q.toNat).items)
    ∧ (qwhy ≠ 0 → ∃ t, exec (.queueWrite q) s = .next t ∧ t.sch = s.sch ∧ t.fb Fld.SCH_Q_STAT_REJECTED = true
        ∧ t.fg Fld.SCH_Q_STAT_REASON = qwhy)
    ∧ (qwhy = 0 → s.portOf q.toNat = none → ∃ t, exec (.queueWrite q) s = .next t ∧ t.fb Fld.SCH_Q_STAT_DONE = true
        ∧ (t.queue q.toNat).tc = s.fg Fld.SCH_Q_DATA_0_TC ∧ (t.queue q.toNat).weight = qc.weight
        ∧ (t.queue q.toNat).age = s.fg Fld.SCH_Q_DATA_1_AGE ∧ (t.queue q.toNat).qmax = s.fg Fld.SCH_Q_DATA_4_QMAX)
    ∧ ((s.node n.toNat).port ≤ 66 → ∃ t, exec (.nodeRead n) s = .next t ∧ t.sch = s.sch ∧ t.fb Fld.SCH_N_STAT_DONE = true
        ∧ t.fb Fld.SCH_N_DATA_1_EN = (s.node n.toNat).en)
    ∧ (nwhy ≠ 0 → ∃ t, exec (.nodeWrite n) s = .next t ∧ t.sch = s.sch ∧ t.fg Fld.SCH_N_STAT_REASON = nwhy)
    ∧ (nwhy = 0 → ∃ u : State, (u.node n.toNat).en = s.fb Fld.SCH_N_DATA_1_EN
        ∧ (u.node n.toNat).port = s.fg Fld.SCH_N_DATA_1_PORT ∧ (u.node n.toNat).weight = nc.weight
        ∧ exec (.nodeWrite n) s = .next (((u.refreshPort (s.node n.toNat).port).refreshPort
            (s.fg Fld.SCH_N_DATA_1_PORT)).done Fld.SCH_N_STAT_DONE))
    ∧ (s.fb (Fld.GTE_CFG_EN p) = false ∨ s.fb (Fld.GTE_CTL_PENDING p) = true → ∃ t, exec (.configChange p) s = .next t
        ∧ t.fb (Fld.GTE_CTL_REFUSED p) = true ∧ t.fb (Fld.GTE_CTL_PENDING p) = s.fb (Fld.GTE_CTL_PENDING p))
    ∧ (s.fb (Fld.GTE_CFG_EN p) = true → s.fb (Fld.GTE_CTL_PENDING p) = false →
        s.fg (Fld.GTE_ADMIN_EXT_EXT p) ≤ s.fg (Fld.GTE_ADMIN_CYCLE_CYCLE p) → ∃ t, exec (.configChange p) s = .next t
        ∧ t.fb (Fld.GTE_CTL_PENDING p) = true)
    ∧ (bitAt v.toNat 31 = false → ∃ u : State, u.fb (Fld.GTE_CTL_OPER_VALID p) = false
        ∧ u.fb (Fld.GTE_CTL_PENDING p) = false ∧ u.fb (Fld.GTE_CFG_EN p) = false
        ∧ exec (.gateEnWrite .kernel p v) s = .next ((u.refreshPort p).showGates p))
    ∧ (∃ t, exec (.listEntryRead p oper i) s = .next t ∧ t.gates = s.gates ∧ t.fb (Fld.GTE_LIST_STAT_DONE p) = true
        ∧ t.fg (Fld.GTE_LIST_DATA_0_GATES p) = ((s.gate p).entry oper i.toNat).gates % 256)
    ∧ (oper = true ∨ s.fb (Fld.GTE_CTL_PENDING p) = true ∨ s.fg (Fld.GTE_LIST_DATA_1_INTERVAL p) < 16 →
        ∃ t, exec (.listEntryWrite p oper i) s = .next t ∧ t.gates = s.gates
          ∧ t.fb (Fld.GTE_LIST_STAT_REJECTED p) = true)
    ∧ (oper = false → s.fb (Fld.GTE_CTL_PENDING p) = false → 16 ≤ s.fg (Fld.GTE_LIST_DATA_1_INTERVAL p) →
        s.fg (Fld.GTE_LIST_DATA_1_INTERVAL p) ≤ 1000000000 → ∃ t, exec (.listEntryWrite p oper i) s = .next t
          ∧ (t.gate p).entry false i.toNat = { gates := s.fg (Fld.GTE_LIST_DATA_0_GATES p),
                                               interval := s.fg (Fld.GTE_LIST_DATA_1_INTERVAL p) })

/-- Network time (R367–R373, R380, R385, R386): edges advance the counter by their increment, GO takes a step that the next
edge applies with BUSY = 0 and the next STEP_SEQ, a second step is rejected while one is pending, the nanoseconds' read
latches the rest of the same instant, W0 takes the oldest timestamp entry, and the pulse outputs and capture act at their
times. Completes, each by its own effect under conditions of the state and operands alone: timeStepGo, timeStepApplied,
timNowNsRead, tsqW0Read, ppsOutRise, ppsOutFall, ppsInCapture, timeCounterIncrement. Clauses that rest on a choice of the
model: log entries 3, 4, 59, 60. -/
def Obligations.NetworkTime : Prop :=
  ∀ (s : State) (mode : Bool) (slice n : Nat),
    (exec (.timeCounterIncrement 0) s = .next s.begin)
    ∧ (s.tim.step = none → ∃ t, exec (.timeCounterIncrement (n + 1)) s = .next t ∧ t.aon = s.aon + (n + 1)
        ∧ t.net = s.net.move (((n + 1) * ({ s with tim := { s.tim with adjPending := none } } : State).increment : Nat) : Int))
    ∧ (s.tim.step.isSome = true → ∃ t, exec (.timeStepGo mode) s = .next t ∧ t.tim.step = s.tim.step
        ∧ t.fb Fld.TIM_STEP_CTL_REJECTED = true)
    ∧ (s.tim.step = none → s.fg Fld.TIM_SET_NS_NS ≤ 999999999 → ∃ t, exec (.timeStepGo false) s = .next t
        ∧ t.tim.step = some (false, (s.rd Reg.TIM_SET_SH).toNat * 2 ^ 32 + (s.rd Reg.TIM_SET_SL).toNat, s.fg Fld.TIM_SET_NS_NS)
        ∧ t.fb Fld.TIM_STEP_CTL_BUSY = true ∧ t.net = s.net)
    ∧ (s.tim.step = none → exec .timeStepApplied s = .next s.begin)
    ∧ (s.tim.step.isSome = true → exec .timeStepApplied s =
        .next ((List.range 32).foldl (fun (s : State) c => s.meetCompare c) s.begin.applyStep))
    ∧ (∃ t k, k < 50 ∧ exec .timNowNsRead s = .next t ∧ t.net = s.net
        ∧ t.out = [.readData (BitVec.ofNat 32 (s.net.copyAt s.increment k).ns)]
        ∧ t.rd Reg.TIM_NOW_SL = BitVec.ofNat 32 (s.net.copyAt s.increment k).sec
        ∧ t.fg Fld.TIM_NOW_FRAC_FRAC = (s.net.copyAt s.increment k).frac / 2 ^ 32 % 2 ^ 16)
    ∧ (∀ e r, slice < 4 → s.tim.tsq.get slice [] = e :: r → ∃ t, exec (.tsqW0Read slice) s = .next t
        ∧ t.tim.tsq.get slice [] = r
        ∧ t.out = [.readData (BitVec.ofNat 32 (beNat (sliceBytes e.bytes 0 4)))]
        ∧ t.rd (Reg.TIM_TSQ_W3 slice) = BitVec.ofNat 32 (beNat (sliceBytes e.bytes 12 4)))
    ∧ (s.tim.pps.1 = true → s.tim.ppsHigh = false → s.tim.pps.2.2 ≤ s.net.ns →
        s.tim.ppsNotBefore + ceilDiv (s.net.ns - s.tim.pps.2.2) 40 ≤ s.aon → s.tim.ppsLast ≠ some s.net.sec →
        ∃ t, exec .ppsOutRise s = .next t ∧ t.tim.ppsHigh = true ∧ t.out = [.ppsOut true]
          ∧ t.tim.ppsFallAt = s.aon + s.tim.pps.2.1 * usCycles)
    ∧ (s.tim.ppsHigh = true → exec .ppsOutRise s = .next s.begin)
    ∧ (s.tim.ppsHigh = true → s.tim.ppsFallAt ≤ s.aon → ∃ t, exec .ppsOutFall s = .next t ∧ t.tim.ppsHigh = false
        ∧ t.out = [.ppsOut false])
    ∧ (s.tim.ppsHigh = false ∨ s.aon < s.tim.ppsFallAt → exec .ppsOutFall s = .next s.begin)
    ∧ (s.fb Fld.TIM_PPSIN_CTL_EN = false → exec .ppsInCapture s = .next s.begin)
    ∧ (s.fb Fld.TIM_PPSIN_CTL_EN = true → s.tim.ppsInLast = none → ∃ u : State, u.fb Fld.TIM_PPSIN_CTL_CAPTURED = true
        ∧ u.tim.ppsInLast = some s.aon ∧ exec .ppsInCapture s = .next (u.raiseLine 20))

/-! ## Links and pairs -/

/-- The Trellis frames and lanes (R394–R406): a frame goes out at every superframe position with the next count while the
link is not disabled, on lane count mod 8 and with that lane's polarity; a lane that is in-frame takes its frames and another
one only has its decoder's counts; a lane in the hunt state goes in-frame at the second alignment word and out of it at the
fourth miss, superframe alignment is gained and lost by its counts, and the degrade window judges its milliseconds. Trellis
defects and the management data channels (R406, R407, R412–R415): a defect kind settles at its command, the two FIFOs of 256
bytes lose and count what does not fit, a byte is sent from the outbound FIFO's head, a stop bit of 0 is a framing error, and
with a byte of zeros a break, and a register read takes one byte with its valid bit. Completes, each by its own effect under
conditions of the state and operands alone: trellisEnWrite, trellisFrameSent, trellisFrameReceived, laneInFrame,
laneOutOfFrame, superframeAlignmentChange, degWindowEnd, defectDeclared, defectCleared, mdcByteReceived, mdcByteSent,
mdcTxWrite, mdcRxRead, mdcEnWrite, laneSignalDetectChange, breakEnd. Clauses that rest on a choice of the model: log entries
3, 4, 19, 64. -/
def Obligations.Trellis : Prop :=
  (∀ (s : State) (lane : BitVec 3) (on locked : Bool) (v : Word),
      let off := s.fg Fld.TRL_STATUS_STATE = 0
      let p := lane.toNat
      let lost := fun (x : TrlLane) => { x with inFrame := false, misses := 0, logical := none, next := none, jump := false }
      let found := fun (x : TrlLane) => { x with inFrame := true, misses := 0, logical := none, next := none, jump := false }
      (exec (.trellisEnWrite .user v) s = .next s.begin.errorResponse)
      ∧ (Spec.TRL_CFG.inRange v.toNat = false → exec (.trellisEnWrite .kernel v) s = .next (s.begin.denied Spec.TRL_CFG))
      ∧ (Spec.TRL_CFG.inRange v.toNat = true → bitAt v.toNat 31 = true → s.fb Fld.TRL_CFG_EN = false →
          exec (.trellisEnWrite .kernel v) s = .next (s.begin.store Spec.TRL_CFG [] v.toNat).enableTrellis)
      ∧ (off → ∀ f a b counts, exec .trellisFrameSent s = .next s.begin ∧ exec (.trellisFrameReceived lane f a b) s = .next s.begin
          ∧ exec (.laneInFrame lane f) s = .next s.begin ∧ exec (.laneOutOfFrame lane) s = .next s.begin
          ∧ exec .superframeAlignmentChange s = .next s.begin ∧ exec (.degWindowEnd counts) s = .next s.begin)
      ∧ (¬ off → s.trl.count < 2 ^ 32 → ∃ t bs, exec .trellisFrameSent s = .next t
          ∧ t.trl.count = (s.trl.count + 1) % 2 ^ 32
          ∧ t.out.getLast? = some (.trellisFrame (s.trl.count % 8)
              (invert (t.fbit Fld.TRL_LANE_CFG_TX_POL (s.trl.count % 8)) (scramble bs)))
          ∧ beAt bs 0 8 = alignWord ∧ beAt bs 8 4 = s.trl.count ∧ beAt bs 12 1 = s.trl.count % 256
          ∧ beAt bs 30 2 = crc16 (bs.take 30))
      ∧ (¬ off → ∀ f a b, f.length = 4096 →
          let u := s.begin.countFec p a b
          ((s.lane p).inFrame = false → exec (.trellisFrameReceived lane f a b) s = .next u)
          ∧ ((s.lane p).inFrame = true → exec (.trellisFrameReceived lane f a b) s =
              .next (u.takeLaneFrame p (scramble (invert (u.fbit Fld.TRL_LANE_CFG_RX_POL p) f)))))
      ∧ (¬ off → (s.lane p).inFrame = false → (s.lane p).locked = true → ∀ f,
          let h := hunt (bitsOfBytes (invert (s.fbit Fld.TRL_LANE_CFG_RX_POL p) f))
          (h = none → exec (.laneInFrame lane f) s = .next s.begin)
          ∧ (∀ head, h = some head → exec (.laneInFrame lane f) s =
              .next ((s.begin.modLane p found).placeLane p (scramble head)).emptyDeskew.rawLanes))
      ∧ ((s.lane p).inFrame = true ∨ (s.lane p).locked = false → ∀ f, exec (.laneInFrame lane f) s = .next s.begin)
      ∧ (¬ off → (s.lane p).inFrame = true → 4 ≤ (s.lane p).misses → exec (.laneOutOfFrame lane) s =
          .next ((s.begin.modLane p lost).inc Reg.TRL_OOF).emptyDeskew.rawLanes)
      ∧ ((s.lane p).misses < 4 → exec (.laneOutOfFrame lane) s = .next s.begin)
      ∧ (¬ off → s.lofRaw = false → s.trl.aligned = false → 2 ≤ s.trl.goodRun → exec .superframeAlignmentChange s =
          .next ({ s.begin with trl := { s.trl with aligned := true, missRun := 0 } } : State).rawLanes)
      ∧ (¬ off → s.lofRaw = false → s.trl.aligned = true → s.trl.missRun < 4 → s.trl.crcRun < 4 →
          exec .superframeAlignmentChange s = .next s.begin)
      ∧ (s.aon < s.trl.degAt + msCycles → ∀ counts, exec (.degWindowEnd counts) s = .next s.begin)
      ∧ (¬ off → s.trl.degAt + msCycles ≤ s.aon → ∀ counts,
          let u := s.begin.countLanes counts
          exec (.degWindowEnd counts) s = .next (u.nextWindow.setRaw 18 u.degRaw u.trl.degAt))
      ∧ (∃ u : State, (u.lane p).signal = on ∧ (u.lane p).locked = (on && locked) ∧ (∀ q, q ≠ p → u.lane q = s.lane q)
          ∧ (off → exec (.laneSignalDetectChange lane on locked) s = .next u)
          ∧ (¬ off → exec (.laneSignalDetectChange lane on locked) s = .next u.rawLanes)))
  ∧ (∀ (s : State) (n kind : Nat) (b : Byte) (v : Word), n < 2 →
      let runs := s.fb (Fld.TRL_MDC_CFG_EN n) = true ∧ s.fg Fld.TRL_STATUS_STATE ≠ 0
      let regs := s.fb (Fld.TRL_MDC_CFG_SRC n) = true
      (kind ≤ 5 → exec (.defectDeclared kind) s = .next (s.begin.settleKind kind true)
          ∧ exec (.defectCleared kind) s = .next (s.begin.settleKind kind false))
      ∧ (runs → ¬ regs → (s.mdc n).inb.length < 256 → ∃ t, exec (.mdcByteReceived n b true) s = .next t
          ∧ (t.mdc n).inb = (s.mdc n).inb ++ [b] ∧ (t.mdc n).outb = (s.mdc n).outb ∧ t.regs = s.regs)
      ∧ (runs → ¬ regs → 256 ≤ (s.mdc n).inb.length → exec (.mdcByteReceived n b true) s =
          .next (s.begin.mdcLost n (Fld.TRL_MDC_STAT_OVF_IN n)))
      ∧ (runs → ¬ regs → exec (.mdcByteReceived n 0 false) s = .next (((s.begin.fs (Fld.TRL_MDC_STAT_FRAME_ERR n) 1).inc
          (Reg.TRL_MDC_LOST n)).modMdc n fun x => { x with brkIn := true }))
      ∧ (runs → ¬ regs → b ≠ 0 → exec (.mdcByteReceived n b false) s =
          .next ((s.begin.fs (Fld.TRL_MDC_STAT_FRAME_ERR n) 1).inc (Reg.TRL_MDC_LOST n)))
      ∧ (¬ runs ∨ regs → ∀ stop, exec (.mdcByteReceived n b stop) s = .next s.begin)
      ∧ ((s.mdc n).outb = [] → exec (.mdcByteSent n) s = .next s.begin)
      ∧ (∀ r, (s.mdc n).outb = b :: r → runs → ¬ regs → (s.mdc n).txLow = false → ∃ t, exec (.mdcByteSent n) s = .next t
          ∧ t.out.getLast? = some (.mdcByte n b) ∧ (t.mdc n).outb = r)
      ∧ (runs → regs → (s.mdc n).inb.length < 256 → ∃ t, exec (.mdcTxWrite n b) s = .next t
          ∧ (t.mdc n).inb = (s.mdc n).inb ++ [b])
      ∧ (¬ regs → exec (.mdcTxWrite n b) s = .next s.begin)
      ∧ (∀ r, (s.mdc n).outb = b :: r → runs → regs → ∃ t, exec (.mdcRxRead n) s = .next t
          ∧ t.out = [.readData (BitVec.ofNat 32 (256 + b.toNat))] ∧ (t.mdc n).outb = r)
      ∧ ((s.mdc n).outb = [] → ∃ t, exec (.mdcRxRead n) s = .next t ∧ t.out = [.readData 0] ∧ t.trl = s.trl)
      ∧ (Spec.TRL_MDC_CFG.inRange v.toNat = true → ∃ t, exec (.mdcEnWrite .kernel n v) s = .next t
          ∧ (t.mdc n).inb = [] ∧ (t.mdc n).outb = [])
      ∧ (exec (.mdcEnWrite .user n v) s = .next s.begin.errorResponse)
      ∧ ∃ t, exec (.breakEnd n) s = .next t ∧ (t.mdc n).brkIn = false ∧ (t.mdc n).inb = (s.mdc n).inb)

/-- Graft messages (R432, R433, R440, R444): a message whose CRC fails is counted and discarded, one whose form is bad is
malformed, a sound one takes its type's effect, and a device that is ALONE or QUARANTINED takes none. Pairing (R423–R427,
R437, R438, R455): AUTH starts when EN is written while the link is up, an exchange of 100 ms ends in reason 3 and a retry a
second later, missing heartbeats and a long suspension leave PAIRED and SUSPENDED, unacknowledged entries are sent again, and
the lag is shown once it passes its bound. Completes, each by its own effect under conditions of the state and operands
alone: graftEnWrite, hello, reply, confirm, authTimeout, authRetry, claims, deltas, repairReq, repairRsp, resyncBegin,
purged, resyncEnd, handover, heartbeatMissing, retransmitTimeout, suspendTimeout, lagBoundExceeded. Clauses that rest on a
choice of the model: log entries 3, 65, 66. -/
def Obligations.GraftMessagesAndPairing : Prop :=
  (∀ (s : State) (m : List Byte),
      let n := m.length
      let crcOk : Prop := m.drop (n - 4) = beBytes 4 (crc32c 0xFFFFFFFF (m.take (n - 4)))
      let formOk : Prop := 16 ≤ n ∧ n ≤ 4096 ∧ beAt m 2 2 = n ∧ beAt m 1 1 = 1 ∧ (beAt m 0 1 ≠ 1 → beAt m 4 6 = 0)
        ∧ (3 < beAt m 0 1 → beAt m 10 2 = 0)
      let body := s.begin.takeBody (beAt m 0 1) (beAt m 10 2) (beAt m 10 2) (beAt m 4 6) (m.take 12) (sliceBytes m 12 (n - 16))
      let all := [(Instr.deltas m, 1), (.repairReq m, 2), (.repairRsp m, 3), (.resyncBegin m, 4), (.purged m, 5),
        (.resyncEnd m, 6), (.hello m, 7), (.reply m, 8), (.confirm m, 9), (.claims m, 10), (.handover m, 11)]
      ∀ e ∈ all,
        (beAt m 0 1 ≠ e.2 ∨ s.pairing = 0 → exec e.1 s = .next s.begin)
        ∧ (beAt m 0 1 = e.2 → s.pairing ≠ 0 →
            (¬ crcOk → exec e.1 s = .next (s.begin.inc Reg.GRF_MSG_CRC))
            ∧ (crcOk → formOk → ∀ t, body = some t → s.pairing ≠ 4 → s.pairing ≠ 5 → exec e.1 s = .next t)
            ∧ (crcOk → formOk → body.isSome = true → (s.pairing = 4 ∨ s.pairing = 5) → exec e.1 s = .next s.begin)
            ∧ (crcOk → e.2 ≠ 3 → (¬ formOk ∨ body = none) → exec e.1 s = .next s.begin.malformed)))
  ∧ (∀ (s : State) (v : Word),
      (exec (.graftEnWrite .user v) s = .next s.begin.errorResponse)
      ∧ (bitsOf v.toNat 30 29 = 3 → exec (.graftEnWrite .kernel v) s = .next (s.begin.denied Spec.GRF_CFG))
      ∧ (Spec.GRF_CFG.inRange v.toNat = true → bitsOf v.toNat 30 29 ≠ 3 → bitAt v.toNat 31 = true → s.fb Fld.GRF_CFG_EN = false →
          s.pairing = 0 → s.trellisUp = true →
          exec (.graftEnWrite .kernel v) s = .next (s.begin.store Spec.GRF_CFG [] v.toNat).startAuth)
      ∧ (Spec.GRF_CFG.inRange v.toNat = true → bitsOf v.toNat 30 29 ≠ 3 → bitAt v.toNat 31 = false →
          ∃ t, exec (.graftEnWrite .kernel v) s = .next t ∧ t.pairing = 0)
      ∧ (s.pairing = 1 → s.grf.step ≠ 0 → s.grf.stepAt + 100 * msCycles ≤ s.aon → ∃ t, exec .authTimeout s = .next t
          ∧ t.fg Fld.GRF_STATUS_REASON = 3 ∧ t.grf.retryAt = some (s.aon + secCycles) ∧ t.grf.session = none)
      ∧ (s.pairing ≠ 1 ∨ s.aon < s.grf.stepAt + 100 * msCycles → exec .authTimeout s = .next s.begin)
      ∧ (∀ t, s.grf.retryAt = some t → s.pairing = 1 → t ≤ s.aon → exec .authRetry s = .next s.begin.startAuth)
      ∧ (∀ t, s.grf.retryAt = some t → s.aon < t → exec .authRetry s = .next s.begin)
      ∧ (s.pairing = 2 ∨ s.pairing = 3 → s.hbMissing = true → exec .heartbeatMissing s = .next s.begin.pairingLost)
      ∧ (s.hbMissing = false → exec .heartbeatMissing s = .next s.begin)
      ∧ (s.pairing = 2 → (s.grf.log.any fun e => e.sent) = true →
          s.grf.ackAt + s.fg Fld.GRF_TIMERS_2_RETX_US * usCycles ≤ s.aon → ∃ t, exec .retransmitTimeout s = .next t
            ∧ t.grf.ackAt = s.aon ∧ (∀ e ∈ t.grf.log, e.sent = true → e.again = true)
            ∧ t.grf.log.map (fun e => e.seq) = s.grf.log.map fun e => e.seq)
      ∧ (s.pairing ≠ 2 → exec .retransmitTimeout s = .next s.begin)
      ∧ (s.pairing = 3 → s.grf.suspAt + s.fg Fld.GRF_TIMERS_2_SUSP_MS * msCycles ≤ s.aon →
          exec .suspendTimeout s = .next s.begin.goAlone)
      ∧ (s.aon < s.grf.suspAt + s.fg Fld.GRF_TIMERS_2_SUSP_MS * msCycles → exec .suspendTimeout s = .next s.begin)
      ∧ (s.grf.log ≠ [] → s.fg Fld.GRF_TIMERS_LAG_US * usCycles < s.lag → s.fb Fld.GRF_STATUS_LAG = false →
          exec .lagBoundExceeded s = .next ((s.begin.fs Fld.GRF_STATUS_LAG 1).log 0x1002))
      ∧ (s.grf.log = [] ∨ s.fb Fld.GRF_STATUS_LAG = true → exec .lagBoundExceeded s = .next s.begin))

/-- Zones of a pair, witnesses and the resync walk (R439, R445, R447–R451, R456, R457): a zone's mode is read, and written
only in DISABLED or ALONE; only the owner in sync hands a zone over; a witness frame is sent every millisecond and a valid
one shows presence until WIT_MS passes; an announcement that is due goes out; and the sequence registers are read as one
value. Completes, each by its own effect under conditions of the state and operands alone: resyncWalk, witnessFrameSend,
witnessFrameReceived, witnessAbsent, announcement, graftFlush, retry, unpair, zoneModeRead, zoneModeWrite, handOver, take,
grfSeqLoRead. Clauses that rest on a choice of the model: log entries 3, 45, 67, 70. -/
def Obligations.GraftZonesAndWitnesses : Prop :=
  ∀ (s : State) (z : BitVec 16) (paired home : Bool) (g : BitVec 3) (w : Nat),
    let x := s.gzone z.toNat
    (∃ t, exec (.zoneModeRead z) s = .next t ∧ t.fb Fld.GRF_ZONE_STAT_DONE = true ∧ t.grf = s.grf
        ∧ t.fb Fld.GRF_ZONE_DATA_PAIRED = x.paired ∧ t.fb Fld.GRF_ZONE_DATA_ROLE = x.owner)
    ∧ (s.pairing ≠ 0 → s.pairing ≠ 4 → ∃ t, exec (.zoneModeWrite z paired home g) s = .next t ∧ t.grf = s.grf
        ∧ t.fb Fld.GRF_ZONE_STAT_REJECTED = true ∧ t.fg Fld.GRF_ZONE_STAT_REASON = 1)
    ∧ (s.pairing = 0 ∨ s.pairing = 4 → ∃ t, exec (.zoneModeWrite z paired home g) s = .next t
        ∧ (t.gzone z.toNat).paired = paired ∧ (t.gzone z.toNat).group = g.toNat
        ∧ (t.gzone z.toNat).home = (if home then 1 else 0) ∧ t.fb Fld.GRF_ZONE_STAT_DONE = true)
    ∧ (x.paired = false → ∀ c ∈ [Instr.handOver z, .take z], ∃ t, exec c s = .next t ∧ t.grf = s.grf
        ∧ t.fg Fld.GRF_ZONE_STAT_REASON = 2)
    ∧ (x.paired = true → x.owner = false ∨ s.inSync z.toNat = false → ∃ t, exec (.handOver z) s = .next t ∧ t.grf = s.grf
        ∧ t.fg Fld.GRF_ZONE_STAT_REASON = 3)
    ∧ (x.paired = true → x.owner = true → s.inSync z.toNat = true → ∃ u : State, u.grf = s.grf
        ∧ exec (.handOver z) s = .next ((u.handOverZone z.toNat).done Fld.GRF_ZONE_STAT_DONE))
    ∧ (x.paired = true → x.owner = false → s.inSync z.toNat = true → ∃ u : State, u.grf = s.grf
        ∧ exec (.take z) s = .next ((u.takeZone z.toNat).done Fld.GRF_ZONE_STAT_DONE))
    ∧ (x.paired = true → x.owner = false → s.pairing = 3 ∨ s.pairing = 4 → ∃ u : State, u.grf = s.grf
        ∧ exec (.take z) s = .next ((u.takeZone z.toNat).done Fld.GRF_ZONE_STAT_DONE))
    ∧ (x.paired = true → x.owner = true ∨ (s.inSync z.toNat = false ∧ s.pairing ≠ 3 ∧ s.pairing ≠ 4) → ∃ t,
        exec (.take z) s = .next t ∧ t.grf = s.grf ∧ t.fg Fld.GRF_ZONE_STAT_REASON = 3)
    ∧ (∃ t, exec .graftFlush s = .next t ∧ t.grf.log = s.grf.log
        ∧ t.grf.flushing = s.grf.log.any fun x => !x.sent || x.again)
    ∧ (s.pairing = 4 ∨ s.pairing = 5 → exec .retry s = .next s.begin.startAuth)
    ∧ (s.pairing = 2 ∨ s.pairing = 3 → exec .unpair s = .next s.begin.goAlone)
    ∧ (s.pairing ≠ 2 → s.pairing ≠ 3 → exec .unpair s = .next s.begin)
    ∧ (∃ t, exec (.grfSeqLoRead 0) s = .next t ∧ t.out = [.readData (BitVec.ofNat 32 s.grf.nextSeq)]
        ∧ t.fg Fld.GRF_TX_SEQ_HI_SEQ = s.grf.nextSeq / 2 ^ 32 % 2 ^ 16 ∧ t.grf = s.grf)
    ∧ (let u := s.begin.startResyncs.startWalk
       (u.grf.walkPos = none ∨ u.pairing ≠ 2 → exec .resyncWalk s = .next u)
       ∧ ∀ k, u.grf.walkPos = some k → u.pairing = 2 → exec .resyncWalk s = .next (u.walkItems (u.walkRest k)))
    ∧ (w < 8 → s.fb (Fld.GRF_WIT_EN w) = true → s.pairing = 2 ∨ s.pairing = 3 →
        (∀ a, (s.wit w).txAt = some a → a + msCycles ≤ s.aon) →
        s.fb (Fld.PRT_STATUS_LINK (s.fg (Fld.GRF_WIT_PORT w))) = true →
        let u := s.begin.setWit w { s.wit w with tx := (s.wit w).tx + 1, txAt := some s.aon }
        exec (.witnessFrameSend w) s = .next (u.sendMac (s.fg (Fld.GRF_WIT_PORT w)) (.witness (u.witnessFrame w ((s.wit w).tx + 1)))))
    ∧ (s.fb (Fld.GRF_WIT_EN w) = false → exec (.witnessFrameSend w) s = .next s.begin)
    ∧ (∀ p f corr uncorr, (s.assigned p = false ∨ s.fb (Fld.PRT_STATUS_LINK p) = false ∨ s.takesWitness p f = false →
          ∀ bad, exec (.witnessFrameReceived p f bad corr uncorr) s = .next s.begin)
        ∧ (s.assigned p = true → s.fb (Fld.PRT_STATUS_LINK p) = true → s.takesWitness p f = true →
          let b := (s.begin.inc (Reg.PRT_FEC_CORR p) corr).inc (Reg.PRT_FEC_UNCORR p) uncorr
          let g := beAt f 15 1
          (exec (.witnessFrameReceived p f true corr uncorr) s = .next (b.inc (Reg.PRT_RX_PCS_ERR p)))
          ∧ (uncorr ≠ 0 → exec (.witnessFrameReceived p f false corr uncorr) s = .next (b.inc (Reg.PRT_RX_PCS_ERR p)))
          ∧ (uncorr = 0 → b.witnessValid p f = false →
              exec (.witnessFrameReceived p f false corr uncorr) s = .next (b.inc Reg.GRF_WIT_BAD))
          ∧ (uncorr = 0 → b.witnessValid p f = true → ∃ t, exec (.witnessFrameReceived p f false corr uncorr) s = .next t
              ∧ t.fbit Fld.GRF_WIT_STAT_PRESENT g = true ∧ (t.wit g).rx = beAt f 18 8
              ∧ (t.wit g).till = some (s.aon + s.fg Fld.GRF_TIMERS_WIT_MS * msCycles))))
    ∧ (∀ t, w < 8 → (s.wit w).till = some t → t ≤ s.aon → s.fbit Fld.GRF_WIT_STAT_PRESENT w = true → ∃ u : State,
        u.fbit Fld.GRF_WIT_STAT_PRESENT w = false ∧ exec (.witnessAbsent w) s = .next u.takeover.2)
    ∧ (∀ t, (s.wit w).till = some t → s.aon < t → exec (.witnessAbsent w) s = .next s.begin)
    ∧ ((s.grf.anns.find? fun a => decide (a.due ≤ s.aon)) = none → exec .announcement s = .next s.begin)
    ∧ ∀ a, (s.grf.anns.find? fun a => decide (a.due ≤ s.aon)) = some a → a.left ≠ 0 →
        let e := s.grf.annList.getD a.entry {}
        e.port < 64 → s.fb (Fld.PRT_STATUS_LINK e.port) = true → ∃ u : State, exec .announcement s =
            .next (u.sendMac e.port (.announce (annFrame e)))
          ∧ u.grf.anns = (let rest := s.grf.anns.erase a
            if a.left ≤ 1 then rest
            else rest ++ [{ a with left := a.left - 1, due := a.due + s.grf.annMs * msCycles }])
          ∧ { u with grf := { u.grf with anns := s.grf.anns } } = s.begin

/-! ## Power, start and management -/

/-- Slice power (R464–R473, R481, R482): a wake ends in RUN and is counted from Rest or Dormant, Doze, Rest and Dormant are
entered after their idle times and not in a supply warning, a compare is armed only with a legal time, and package memory
refreshes itself while every slice sleeps, until its batch time. Completes, each by its own effect under conditions of the
state and operands alone: wakeComplete, dozeEntry, restEntry, dormantEntry, earlyWake, selfRefreshEntry, selfRefreshBatch,
wakeCompareArm. Clauses that rest on a choice of the model: log entries 3, 4, 61, 101. -/
def Obligations.SlicePower : Prop :=
  ∀ (s : State) (n k : Nat) (v : Word), n < 4 →
    (s.waking n = false → exec (.wakeComplete n) s = .next s.begin)
    ∧ (s.waking n = true → s.power n = 3 →
        let u := ((s.begin.setPower n 0).fsbit Fld.KTL_PWR_STAT_WAKING n false).touch n
        exec (.wakeComplete n) s =
          .next (((if u.hasSource n then u else u.reloadShared).reloadParser n).inc (Reg.KTL_WAKES n)))
    ∧ (s.waking n = true → s.power n ≠ 3 → ∃ t, exec (.wakeComplete n) s = .next t ∧ t.power n = 0 ∧ t.waking n = false
        ∧ (t.rd (Reg.KTL_WAKES n)).toNat = (if 2 ≤ s.power n then min 0xFFFFFFFF ((s.rd (Reg.KTL_WAKES n)).toNat + 1)
            else (s.rd (Reg.KTL_WAKES n)).toNat))
    ∧ (s.maySleep n = true → s.power n = 0 → usCycles ≤ s.idleFor n → exec (.dozeEntry n) s = .next (s.begin.setPower n 1))
    ∧ (s.idleFor n < usCycles → exec (.dozeEntry n) s = .next s.begin)
    ∧ (s.maySleep n = true → s.power n = 1 → s.fbit Fld.KTL_PWR_CFG_REST_EN n = true → s.fb Fld.KTL_PWR_STAT_WARN = false →
        s.fg Fld.KTL_PWR_CFG_REST_US * usCycles ≤ s.idleFor n → ∃ t, exec (.restEntry n) s = .next t ∧ t.power n = 2
          ∧ (t.slice n).sleptAt = s.aon)
    ∧ (s.maySleep n = true → s.power n = 2 → s.fbit Fld.KTL_PWR_CFG_DORMANT_EN n = true → s.fb Fld.KTL_PWR_STAT_WARN = false →
        s.fg Fld.PRT_INTERNAL_CTL_TRELLIS_SLICE ≠ n → s.portsAllowDormant n = true → s.idleNow n = true →
        exec (.dormantEntry n) s = .next (s.begin.setPower n 3))
    ∧ (s.fb Fld.KTL_PWR_STAT_WARN = true →
        exec (.restEntry n) s = .next s.begin ∧ exec (.dormantEntry n) s = .next s.begin)
    ∧ (k < 16 → s.fb (Fld.KTL_WCMP_CTL_ARM k) = false → exec (.earlyWake (.compare k)) s = .next s.begin)
    ∧ (k < 16 → exec (.earlyWake (.compare k)) s = .next (s.begin.compareWake k))
    ∧ (∀ p e, p < 64 → s.fb (Fld.GTE_CFG_EN p) = true → s.nextOpening p
        (s.gateNow + s.wakeNs (s.egressSlice p) + s.fg Fld.KTL_LEAD_LEAD_NS) 20000 s.gateNow = some e →
        exec (.earlyWake (.gate p)) s = .next (s.begin.wakeFor (s.egressSlice p) e))
    ∧ (k < 16 → exec (.wakeCompareArm .user k v) s = .next s.begin.errorResponse)
    ∧ (k < 16 → bitAt v.toNat 31 = true → 999999999 < s.fg (Fld.KTL_WCMP_NS_NS k) →
        exec (.wakeCompareArm .kernel k v) s = .next (s.begin.denied Spec.KTL_WCMP_CTL))
    ∧ (k < 16 → s.fg (Fld.KTL_WCMP_NS_NS k) ≤ 999999999 → exec (.wakeCompareArm .kernel k v) s =
        .next ((s.begin.store Spec.KTL_WCMP_CTL [k] v.toNat).compareWake k))
    ∧ (s.fb Fld.KTL_SR_CFG_SR_EN = false → exec .selfRefreshEntry s = .next s.begin)
    ∧ (let idle := s.fg Fld.KTL_SR_CFG_SR_IDLE_MS * msCycles
       s.fb Fld.KTL_SR_CFG_SR_EN = true → s.fb Fld.KTL_PWR_STAT_SR = false → s.ktl.srIdleSince + idle ≤ s.aon →
       (∀ m, m < 4 → 2 ≤ s.power m ∧ (s.slice m).sleptAt + idle ≤ s.aon ∧ s.waking m = false) →
       ∃ t, exec .selfRefreshEntry s = .next t ∧ t.fb Fld.KTL_PWR_STAT_SR = true
        ∧ t.ktl.srBatchAt = s.aon + s.fg Fld.KTL_SR_CFG_SR_BATCH_MS * msCycles)
    ∧ (s.fb Fld.KTL_PWR_STAT_SR = true → s.ktl.srBatchAt ≤ s.aon → ∃ t, exec .selfRefreshBatch s = .next t
        ∧ t.fb Fld.KTL_PWR_STAT_SR = false)
    ∧ (s.fb Fld.KTL_PWR_STAT_SR = false ∨ s.aon < s.ktl.srBatchAt → exec .selfRefreshBatch s = .next s.begin)

/-- Supplies and temperatures (R474–R479, R483): a warning is entered below 705 mV and left above 720 mV after 100 µs, a
brown-out resets with its cause (the always-on supply: a cold reset), a throttle level falls after 10 ms of cooler readings,
the thermal reset is held until the device has cooled to 95 °C, and a stack above 85 °C doubles its refresh. Resets (R461,
R613–R615, R630): a cold reset leaves the machine of State.reset but for the commands that wait, the flash's contents and
retired pages, the fuses of the owner slots, the causes that hold it, and what the model keeps of its own; a warm reset keeps
the time, the flow records, the event records and the package memory's tables, and writes its cause; one that comes while
another lasts adds its cause, and one that comes within a cold reset leaves no mark. Completes, each by its own effect under
conditions of the state and operands alone: supplyWarning, supplyWarningCleared, brownOut, throttleRaise, throttleLower,
thermalReset, thermalResetRelease, coldReset, warmReset, stackTemperatureChange. Clauses that rest on a choice of the model:
log entries 3, 63, 86, 90, 114. -/
def Obligations.SuppliesAndResets : Prop :=
  (∀ (s : State) (mv : BitVec 16) (n : Nat) (temp : BitVec 16),
      (s.fb Fld.KTL_PWR_STAT_WARN = false → 705 ≤ mv.toNat → exec (.supplyWarning mv) s = .next s.begin)
      ∧ (s.fb Fld.KTL_PWR_STAT_WARN = true → 720 ≤ mv.toNat → exec (.supplyWarning mv) s = .next s.begin)
      ∧ (s.fb Fld.KTL_PWR_STAT_WARN = true → mv.toNat < 720 → ∃ u, exec (.supplyWarning mv) s = .next u
          ∧ u.ktl.clearFrom = s.aon ∧ u.ktl.warnAt = s.ktl.warnAt ∧ u.fb Fld.KTL_PWR_STAT_WARN = true)
      ∧ (s.fb Fld.KTL_PWR_STAT_WARN = false → mv.toNat < 705 → ∃ u : State, u.fb Fld.KTL_PWR_STAT_WARN = true
          ∧ u.ktl.warnAt = some s.aon ∧ u.fb Fld.GLH_STATUS_CLK_HALF = true ∧ u.fg (Fld.KTL_VMON_MV 0) = mv.toNat
          ∧ exec (.supplyWarning mv) s = .next (u.graftFlush.raiseLine 29))
      ∧ (∀ t, s.ktl.warnAt = some t → (mv.toNat ≤ 720 ∨ s.aon < s.ktl.clearFrom + 100 * usCycles) →
          exec (.supplyWarningCleared mv) s = .next s.begin)
      ∧ (∀ t, s.ktl.warnAt = some t → s.fb Fld.KTL_PWR_STAT_WARN = true → 720 < mv.toNat →
          s.ktl.clearFrom + 100 * usCycles ≤ s.aon →
          ∃ u : State, u.ktl.warnAt = none ∧ exec (.supplyWarningCleared mv) s = .next (u.raiseLine 29))
      ∧ (n < 8 → mv.toNat < resetLevel n → n ≠ 2 → ∀ low, exec (.brownOut n mv.toNat low) s =
          .next (((s.begin.readVolt n mv.toNat).resetBy (0x20 + n)).holdBy (.supply n)))
      ∧ (mv.toNat < resetLevel 2 → ∀ low, exec (.brownOut 2 mv.toNat low) s = .next ((s.begin.coldReset low).holdBy .aonLow))
      ∧ (resetLevel n ≤ mv.toNat → ∀ low, exec (.brownOut n mv.toNat low) s = .next s.begin)
      ∧ (n < 8 → exec (.throttleRaise n temp) s = .next (s.begin.senseTj n temp))
      ∧ (n < 8 → (s.begin.senseTj n temp).ktl.lowSince = none →
          exec (.throttleLower n temp) s = .next (s.begin.senseTj n temp))
      ∧ (∀ t, n < 8 → (s.begin.senseTj n temp).ktl.lowSince = some t → (s.begin.senseTj n temp).aon < t + 10 * msCycles →
          exec (.throttleLower n temp) s = .next (s.begin.senseTj n temp))
      ∧ (∀ t, s.ktl.hotSince = some t → t + 10 * msCycles ≤ s.aon → s.ktl.thermalHeld = false → s.nvm.holds = [] → ∃ u,
          exec .thermalReset s = .next u ∧ u.ktl.thermalHeld = true ∧ u.ktl.hotSince = none ∧ u.packets = []
          ∧ u.aon = s.aon)
      ∧ (s.nvm.holds.any coldHold = true → exec .thermalReset s = .next s.begin)
      ∧ (∀ t, s.ktl.hotSince = some t → s.aon < t + 10 * msCycles → exec .thermalReset s = .next s.begin)
      ∧ (n < 8 → 380 < (s.begin.senseTj n temp).junction →
          exec (.thermalResetRelease n temp) s = .next (s.begin.senseTj n temp))
      ∧ (n < 8 → (s.begin.senseTj n temp).junction ≤ 380 → ∃ u, exec (.thermalResetRelease n temp) s = .next u
          ∧ u.ktl.thermalHeld = false)
      ∧ (n < 2 → ∃ u, exec (.stackTemperatureChange n temp) s = .next u
          ∧ bitAt u.ktl.refreshDoubled n = decide (340 < temp.toInt) ∧ u.fg (Fld.KTL_TEMP_TEMP (8 + n)) = temp.toNat))
  ∧ (∀ (s : State) (cause : Hold) (low : Bool),
      (coldHold cause = true → ∃ t, exec (.coldReset cause low) s = .next t ∧ t.regs = [] ∧ t.aon = 0 ∧ t.net = {}
          ∧ t.events = [] ∧ t.packets = []
          ∧ t.slices = State.reset.slices ∧ t.glh = State.reset.glh ∧ t.fle = State.reset.fle ∧ t.xlb = State.reset.xlb
          ∧ t.fwd = State.reset.fwd ∧ t.sch = State.reset.sch ∧ t.trl = State.reset.trl ∧ t.grf = State.reset.grf
          ∧ t.pending = s.pending ∧ t.sec.provLow = low ∧ t.sec.slots = s.sec.slots
          ∧ t.nvm.holds = s.nvm.holds.filter (· ≠ cause) ++ [cause])
      ∧ (coldHold cause = false → exec (.coldReset cause low) s = .next s.begin)
      ∧ (s.ktl.thermalHeld = false → s.nvm.holds = [] → ∃ t, exec .warmReset s = .next t
          ∧ t.rd Reg.KTL_RESET_CAUSE = BitVec.ofNat 32 0x40 ∧ t.aon = s.aon ∧ t.net = s.net ∧ t.packets = []
          ∧ t.fle.slots = s.fle.slots ∧ t.fle.clockMs = s.fle.clockMs ∧ t.fle.ops = [] ∧ t.xlb.rev = s.xlb.rev
          ∧ t.fwd.l2 = s.fwd.l2 ∧ t.glh.mem = s.glh.mem ∧ t.trw = State.reset.trw ∧ t.sec.slots = s.sec.slots
          ∧ t.pending = s.pending ∧ t.nvm.holds = [.sysrst])
      ∧ (s.nvm.holds.any coldHold = true → exec .warmReset s = .next (s.begin.holdBy .sysrst))
      ∧ (s.nvm.holds.any coldHold = false → s.ktl.thermalHeld = true ∨ s.nvm.holds ≠ [] → exec .warmReset s =
          .next ((s.begin.wr Reg.KTL_RESET_CAUSE (BitVec.ofNat 32 (causesOf (s.rd Reg.KTL_RESET_CAUSE).toNat 0x40))).holdBy .sysrst)))

/-- Counters and Harvest (R558–R564, R567, R574–R580): a LO read latches HI, the filtered counters change configuration only
while stopped and are then zero, the queue counts are read and cleared, EN starts with the templates and ends with the
queue's loss, and messages, templates and the rate limit act when due. Completes, each by its own effect under conditions of
the state and operands alone: pmuEvcLoRead, pmuFcCntLoRead, fcRunWrite, fcFullWrite, queueCountsRead, harvestEnWrite,
messageClose, templateRefresh, rateLimitHold. Clauses that rest on a choice of the model: log entries 3, 46, 71, 115. -/
def Obligations.CountersAndHarvest : Prop :=
  ∀ (s : State) (n : Nat) (q : BitVec 14) (v : Word),
    (n < 512 → ∃ t, exec (.pmuEvcLoRead n) s = .next t ∧ t.out = [.readData (BitVec.ofNat 32 (s.pmu.evc.get n 0))]
        ∧ t.fg (Fld.PMU_EVC_HI_COUNT_HI n) = s.pmu.evc.get n 0 / 2 ^ 32 % 2 ^ 16 ∧ t.pmu = s.pmu)
    ∧ (n < 64 → (s.fb Fld.PMU_FC_CTL_FULL = true ∨ n % 2 = 0) → ∃ t, exec (.pmuFcCntLoRead n) s = .next t
        ∧ t.out = [.readData (BitVec.ofNat 32 (s.pmu.fc.get n 0))])
    ∧ (∀ c ∈ [Instr.fcRunWrite .user v, .fcFullWrite .user v, .harvestEnWrite .user v],
        exec c s = .next s.begin.errorResponse)
    ∧ (bitAt v.toNat 30 = s.fb Fld.PMU_FC_CTL_FULL → exec (.fcRunWrite .kernel v) s =
        .next (s.begin.store Spec.PMU_FC_CTL [] v.toNat))
    ∧ (bitAt v.toNat 30 ≠ s.fb Fld.PMU_FC_CTL_FULL → s.fb Fld.PMU_FC_CTL_RUN = true →
        exec (.fcFullWrite .kernel v) s = .next (s.begin.denied Spec.PMU_FC_CTL))
    ∧ (bitAt v.toNat 30 ≠ s.fb Fld.PMU_FC_CTL_FULL → s.fb Fld.PMU_FC_CTL_RUN = false → ∃ t,
        exec (.fcFullWrite .kernel v) s = .next t ∧ t.pmu.fc = [] ∧ t.fb Fld.PMU_FC_CTL_FULL = bitAt v.toNat 30
        ∧ t.rd (Reg.PMU_FC_WRAP 0) = 0)
    ∧ (∀ clear, ∃ t, exec (.queueCountsRead q clear) s = .next t
        ∧ t.rd (Reg.PMU_Q_DATA 1) = BitVec.ofNat 32 (s.queue q.toNat).sentPkts
        ∧ t.rd (Reg.PMU_Q_DATA 5) = BitVec.ofNat 32 (s.queue q.toNat).dropped
        ∧ (t.queue q.toNat).sentPkts = (if clear then 0 else (s.queue q.toNat).sentPkts)
        ∧ (t.queue q.toNat).items = (s.queue q.toNat).items)
    ∧ (s.fb Fld.HRV_CFG_EN = false → bitAt v.toNat 31 = true → exec (.harvestEnWrite .kernel v) s =
        .next (((s.begin.store Spec.HRV_CFG [] v.toNat).wr Reg.HRV_SEQ 0).sendTemplates))
    ∧ (s.fb Fld.HRV_CFG_EN = true → bitAt v.toNat 31 = false → bitsOf v.toNat 30 8 = bitsOf (s.rd Reg.HRV_CFG).toNat 30 8 →
        ∃ t, exec (.harvestEnWrite .kernel v) s = .next t ∧ t.hrv.queue = [] ∧ t.hrv.heldSince = none
          ∧ (t.rd Reg.HRV_LOST).toNat = min 0xFFFFFFFF ((s.rd Reg.HRV_LOST).toNat + s.hrv.queue.length))
    ∧ (s.fb Fld.HRV_CFG_EN = true → bitsOf v.toNat 30 8 ≠ bitsOf (s.rd Reg.HRV_CFG).toNat 30 8 →
        exec (.harvestEnWrite .kernel v) s = .next (s.begin.denied Spec.HRV_CFG))
    ∧ (s.fb Fld.HRV_CFG_EN = false ∨ s.closing = none → exec .messageClose s = .next s.begin)
    ∧ (∀ k, s.fb Fld.HRV_CFG_EN = true → s.closing = some k → s.aon < s.hrv.secondAt + secCycles →
        s.fg Fld.HRV_RATE_RATE_KRPS * 1000 < s.hrv.sentInSecond + (takeRecords k (s.perMessage k) s.hrv.queue).1.length →
        ∃ t, exec .messageClose s = .next t ∧ t.hrv.queue = s.hrv.queue ∧ t.hrv.heldSince.isSome = true)
    ∧ (∀ k, s.fb Fld.HRV_CFG_EN = true → s.closing = some k →
        (takeRecords k (s.perMessage k) s.hrv.queue).1.length ≤ s.fg Fld.HRV_RATE_RATE_KRPS * 1000 →
        s.hrv.secondAt + secCycles ≤ s.aon → ∃ t, exec .messageClose s = .next t
          ∧ t.hrv.queue = (takeRecords k (s.perMessage k) s.hrv.queue).2)
    ∧ (s.fb Fld.HRV_CFG_EN = true → s.hrv.templatesAt + s.fg Fld.HRV_TIMERS_TPL_S * secCycles ≤ s.aon →
        exec .templateRefresh s = .next s.begin.sendTemplates)
    ∧ (s.fb Fld.HRV_CFG_EN = false → exec .templateRefresh s = .next s.begin)
    ∧ (∀ t, s.hrv.heldSince = some t → t + secCycles ≤ s.aon → exec .rateLimitHold s =
        .next (s.begin.logLimited 0x1302 0 1 0 fun _ _ => []))
    ∧ (s.hrv.heldSince = none → exec .rateLimitHold s = .next s.begin)

/-- The start (R498–R504, R613): nothing starts while a cause of reset lasts; then a stage begins with its start marker while
its unit has failed fewer than three times, falls back or is left out after three, ends bad past its limit or on a failure,
which journals and resets warm, and a halted start tries again after a minute. Completes, each by its own effect under
conditions of the state and operands alone: startStage, stageComplete, stageFailure, startHaltExpiry, nvmRunSeqLoRead.
Clauses that rest on a choice of the model: log entries 3, 14, 83, 90. -/
def Obligations.StartStages : Prop :=
  ∀ (s : State) (still : List Hold) (failing : List Nat),
    let n := s.nvm.stage
    let held := s.nvm.holds.filter still.contains
    let u := s.begin.keepHolds still
    let idle := held = [] ∧ s.nvm.running = none ∧ s.nvm.haltAt = none ∧ s.nvm.done = false ∧ s.ktl.thermalHeld = false
    (u.nvm.holds = held ∧ (¬ idle → exec (.startStage still failing) s = .next u))
    ∧ (idle → s.fails < 3 → n ≠ 7 → n ≠ 8 → exec (.startStage still failing) s = .next (u.beginStage failing))
    ∧ (idle → (n = 7 ∨ n = 8) → failCount s.history n 0xFF < 3 → s.fails < 3 →
        exec (.startStage still failing) s = .next (u.beginStage failing))
    ∧ (idle → (n = 7 ∨ n = 8) → failCount s.history n 0xFF < 3 → 3 ≤ s.fails →
        exec (.startStage still failing) s = .next u.leaveOut)
    ∧ (idle → 3 ≤ s.fails → n < 7 → exec (.startStage still failing) s = .next u.fallback)
    ∧ (idle → 3 ≤ s.fails → n = 9 → exec (.startStage still failing) s = .next u.leaveOut)
    ∧ (idle → (n = 7 ∨ n = 8) → 3 ≤ failCount s.history n 0xFF → exec (.startStage still failing) s = .next u.fallback)
    ∧ (s.nvm.running = none → exec .stageComplete s = .next s.begin ∧ ∀ c, exec (.stageFailure c) s = .next s.begin)
    ∧ (s.nvm.running.isSome = true → ∀ c, exec (.stageFailure c) s = .next (s.begin.failStage c.toNat))
    ∧ (∀ l, s.nvm.running.isSome = true → s.stageLimit = some l → s.nvm.since + l < s.aon →
        exec .stageComplete s = .next (s.begin.failStage (Config.failCause 7).toNat))
    ∧ (∀ t, s.nvm.running.isSome = true → s.stageLimit = none → State.load .start loadFuel s.begin = (some true, t) →
        exec .stageComplete s = .next t.endStage)
    ∧ (s.nvm.haltAt = none → exec .startHaltExpiry s = .next s.begin)
    ∧ (∀ t, s.nvm.haltAt = some t → s.aon < t + 60 * secCycles → exec .startHaltExpiry s = .next s.begin)
    ∧ (∀ t, s.nvm.haltAt = some t → t + 60 * secCycles ≤ s.aon →
        exec .startHaltExpiry s = .next (s.begin.flDrain.warmReset 0))
    ∧ ∃ t, exec .nvmRunSeqLoRead s = .next t ∧ t.out = [.readData (BitVec.ofNat 32 s.nvm.runSeq)]
        ∧ t.rd Reg.NVM_RUN_SEQ_HI = BitVec.ofNat 32 (s.nvm.runSeq / 2 ^ 32) ∧ t.nvm = s.nvm

/-- Flash access (R488, R505, R513): a read fills the buffer at once, a program or an erase of a copy that is not in use
joins the queue with BUSY, every refused command is rejected with its reason, an operation that ends is carried out, and one
that fails is counted, logged and tried once more. Completes, each by its own effect under conditions of the state and
operands alone: flashCmdRead, pageProgram, sectorErase, flashOpDone, flashOpTimeout. Clauses that rest on a choice of the
model: log entries 3, 7, 11, 87. -/
def Obligations.FlashAccess : Prop :=
  ∀ (s : State) (len : BitVec 9),
    let n := len.toNat
    let a := s.fg Fld.NVM_FL_ADDR_ADDR
    let cmd := fun op => s.begin.store Spec.NVM_FL_CMD [] (2 ^ 31 + op * 2 ^ 28 + n)
    let no := fun k => s.begin.reject Fld.NVM_FL_STAT_REJECTED Fld.NVM_FL_STAT_REASON k
    (∀ c ∈ [Instr.flashCmdRead .user len, .pageProgram .user len, .sectorErase .user len],
        exec c s = .next s.begin.errorResponse)
    ∧ (n = 0 ∨ 256 < n → ∀ c ∈ [Instr.flashCmdRead .kernel len, .pageProgram .kernel len, .sectorErase .kernel len],
        exec c s = .next (no 0))
    ∧ (1 ≤ n → n ≤ 256 → s.fb Fld.NVM_FL_STAT_BUSY = true → exec (.flashCmdRead .kernel len) s = .next (no 6)
        ∧ exec (.pageProgram .kernel len) s = .next (no 6) ∧ exec (.sectorErase .kernel len) s = .next (no 6))
    ∧ (1 ≤ n → n ≤ 256 → s.fb Fld.NVM_FL_STAT_BUSY = false →
        (2 ^ 26 < a + n → exec (.flashCmdRead .kernel len) s = .next (no 1))
        ∧ (a + n ≤ 2 ^ 26 → exec (.flashCmdRead .kernel len) s =
            .next ((((cmd 0).flRead a n).2.setFlBuf ((cmd 0).flRead a n).1).doneLine Fld.NVM_FL_STAT_DONE))
        ∧ (copyAt a = none → exec (.pageProgram .kernel len) s = .next (no 1)
            ∧ exec (.sectorErase .kernel len) s = .next (no 1))
        ∧ (∀ c, copyAt a = some c → s.copyInUse c = true → exec (.pageProgram .kernel len) s = .next (no 2)
            ∧ exec (.sectorErase .kernel len) s = .next (no 2))
        ∧ (∀ c, copyAt a = some c → s.copyInUse c = false →
            (256 < a % 256 + n → exec (.pageProgram .kernel len) s = .next (no 4))
            ∧ (a % 256 + n ≤ 256 → ∃ t op, exec (.pageProgram .kernel len) s = .next t ∧ t.fb Fld.NVM_FL_STAT_BUSY = true
                ∧ t.nvm.ops = s.nvm.ops ++ [op] ∧ op.erase = false ∧ op.addr = a)
            ∧ ∃ t op, exec (.sectorErase .kernel len) s = .next t ∧ t.fb Fld.NVM_FL_STAT_BUSY = true
                ∧ t.nvm.ops = s.nvm.ops ++ [op] ∧ op.erase = true ∧ op.addr = a))
    ∧ (s.nvm.opAt = none → ∀ ok, exec (.flashOpDone ok) s = .next s.begin)
    ∧ (∀ t op rest, s.nvm.opAt = some t → s.nvm.ops = op :: rest → op.user = .device →
        (∃ u, exec (.flashOpDone true) s = .next u ∧ u.nvm.flash = flApply s.nvm.flash op ∧ u.nvm.ops = rest)
        ∧ (op.tried = false → ∃ u, exec (.flashOpDone false) s = .next u ∧ u.nvm.flash = s.nvm.flash
            ∧ u.nvm.ops = { op with tried := true } :: rest ∧ u.nvm.opAt = some s.aon
            ∧ (u.rd Reg.NVM_FL_ERR).toNat = min 0xFFFFFFFF ((s.rd Reg.NVM_FL_ERR).toNat + 1)))
    ∧ (s.flLate = false → exec .flashOpTimeout s = .next s.begin)
    ∧ (s.flLate = true → exec .flashOpTimeout s = .next ((s.begin.flEnd false).1.flashOver (s.begin.flEnd false).2))

/-- Images, live apply and slice restart (R505–R511, R514): a copy in use is neither applied nor invalidated, one that no
verification found valid is not applied, a verification ends with DONE, a restart is refused while one runs and else takes
the slice's ports down and holds its heads until nothing of it is in flight, and an apply ends with its steps. Completes,
each by its own effect under conditions of the state and operands alone: verify, apply, applyComplete, invalidate, restart,
sliceRestartComplete. Clauses that rest on a choice of the model: log entries 3, 7, 84, 87, 101. -/
def Obligations.ImagesAndApply : Prop :=
  ∀ (s : State) (c sl : BitVec 2),
    let cmd := fun op => s.begin.store Spec.NVM_IMG_CMD [] (2 ^ 31 + op * 2 ^ 28 + c.toNat)
    (∀ x ∈ [Instr.verify .user c, .apply .user c, .invalidate .user c, .restart .user sl],
        exec x s = .next s.begin.errorResponse)
    ∧ (s.fb Fld.NVM_IMG_STAT_BUSY = true → exec (.verify .kernel c) s = .next (s.begin.imgNo 4))
    ∧ (s.fb Fld.NVM_IMG_STAT_BUSY = false → exec (.verify .kernel c) s = .next ((cmd 0).verifyCopy c.toNat))
    ∧ (s.copyInUse c.toNat = true → exec (.apply .kernel c) s = .next (s.begin.imgNo 1)
        ∧ exec (.invalidate .kernel c) s = .next (s.begin.imgNo 1))
    ∧ (s.copyInUse c.toNat = false → (1 < c.toNat ∨ s.nvm.verified.contains c.toNat = false) →
        exec (.apply .kernel c) s = .next (s.begin.imgNo 2))
    ∧ (s.copyInUse c.toNat = false → c.toNat ≤ 1 → s.nvm.verified.contains c.toNat = true →
        s.nvm.caddySeq < s.imgSeq c.toNat → s.fb Fld.NVM_IMG_STAT_BUSY = false → s.fb Fld.NVM_STATUS_APPLYING = false →
        s.nvm.done = true → exec (.apply .kernel c) s =
          .next (((cmd 1).startApply c.toNat).doneLine Fld.NVM_IMG_STAT_DONE))
    ∧ (s.copyInUse c.toNat = false → s.fb Fld.NVM_IMG_STAT_BUSY = false → ∃ t op, exec (.invalidate .kernel c) s = .next t
        ∧ t.fb Fld.NVM_IMG_STAT_BUSY = true ∧ t.nvm.ops = s.nvm.ops ++ [op] ∧ op.erase = true ∧ op.addr = copyBase c.toNat
        ∧ t.nvm.verified = s.nvm.verified.erase c.toNat)
    ∧ (s.fb Fld.NVM_STATUS_APPLYING = true → exec (.restart .kernel sl) s = .next (s.begin.denied Spec.NVM_SLICE_CTL))
    ∧ (s.fb Fld.NVM_STATUS_APPLYING = false → exec (.restart .kernel sl) s =
        .next ((s.begin.store Spec.NVM_SLICE_CTL [] (2 ^ 31 + sl.toNat)).startRestart sl.toNat))
    ∧ (∀ n, s.nvm.restarts.contains n = false ∨ s.inFlight n = true → exec (.sliceRestartComplete n) s = .next s.begin)
    ∧ (∀ n, n < 4 → s.nvm.restarts = [n] → s.inFlight n = false → s.nvm.apply = none → s.nvm.caddy = none → ∃ t,
        exec (.sliceRestartComplete n) s = .next t ∧ t.nvm.restarts = [] ∧ (t.slice n).inService = true
        ∧ (t.slice n).restarting = false ∧ t.fb Fld.NVM_STATUS_APPLYING = false)
    ∧ (s.nvm.apply = none → exec .applyComplete s = .next s.begin)
    ∧ (∀ r, s.nvm.apply = some r → r.rolling = true → exec .applyComplete s = .next (s.begin.rollBack r.copy))
    ∧ ∀ r t, s.nvm.apply = some r → r.rolling = false → State.load .live loadFuel s.begin = (some true, t) →
        exec .applyComplete s = .next (t.applied r.copy)

/-- Debug unlocking (R599, R600): CHAL gives a challenge unless blocked, RESP checks the response in the buffer, RELOCK
locks, the user privilege may do none, a challenge lapses after a minute and a block ends in its time. The management port
and its sessions (R583–R588): the link shows only while the port is enabled, a frame of a bad length, FCS or with a tag is
dropped and counted, INIT answers a known key with a half-open session, FINISH opens it with the right confirmation and
closes it with a wrong one, and both timeouts end theirs. Completes, each by its own effect under conditions of the state and
operands alone: mgtFrame, init, finish, finishTimeout, sessionIdleTimeout, chal, resp, relock, challengeLapse,
challengeBlockEnd, managementLinkChange, managementTransmitDone. Clauses that rest on a choice of the model: log entries 3,
12, 82, 89, 112. -/
def Obligations.UnlockingAndSessions : Prop :=
  (∀ s : State,
      let cmd := fun b => s.begin.store Spec.SEC_DBG_CTL [] (2 ^ b)
      (∀ c ∈ [Instr.chal .user, .resp .user, .relock .user], exec c s = .next s.begin.errorResponse)
      ∧ (s.fb Fld.SEC_DBG_CTL_BLOCKED = true → exec (.chal .jtag) s = .next ((cmd 31).denied Spec.SEC_DBG_CTL))
      ∧ (s.fb Fld.SEC_DBG_CTL_BLOCKED = false → ∃ t bs, exec (.chal .jtag) s = .next t
          ∧ t.sec.challenge = some (bs, s.aon) ∧ bs.length = 32 ∧ t.fb Fld.SEC_DBG_CTL_PENDING = true)
      ∧ (exec (.resp .jtag) s = .next ((cmd 30).checkResponse (cmd 30).dbgBuf).2)
      ∧ (s.sec.challenge = none → ∃ t, exec (.resp .jtag) s = .next t ∧ t.fb Fld.SEC_DBG_CTL_FAILED = true
          ∧ t.fg Fld.SEC_STATUS_SCOPE = s.fg Fld.SEC_STATUS_SCOPE)
      ∧ (∃ t, exec (.relock .jtag) s = .next t ∧ t.fg Fld.SEC_STATUS_SCOPE = 0)
      ∧ (∀ x t, s.sec.challenge = some (x, t) → s.aon < t + minuteCycles → exec .challengeLapse s = .next s.begin)
      ∧ (∀ x t, s.sec.challenge = some (x, t) → t + minuteCycles ≤ s.aon → ∃ u, exec .challengeLapse s = .next u
          ∧ u.sec.challenge = none ∧ u.fb Fld.SEC_DBG_CTL_PENDING = false)
      ∧ (∀ t, s.sec.blockTill = some t → s.aon < t → exec .challengeBlockEnd s = .next s.begin)
      ∧ ∀ t, s.sec.blockTill = some t → t ≤ s.aon → ∃ u, exec .challengeBlockEnd s = .next u ∧ u.sec.blockTill = none
          ∧ u.fb Fld.SEC_DBG_CTL_BLOCKED = false)
  ∧ (∀ (s : State) (p : Peer) (body frame : List Byte) (id : BitVec 32),
      (∀ up, ∃ t, exec (.managementLinkChange up) s = .next t
          ∧ t.fb Fld.MGT_STATUS_LINK = (up && s.fb Fld.MGT_CFG_EN))
      ∧ (s.fb Fld.MGT_STATUS_LINK = false → exec .managementTransmitDone s = .next s.begin)
      ∧ (s.fb Fld.MGT_STATUS_LINK = true → exec .managementTransmitDone s = .next (s.begin.raiseLine 24))
      ∧ (s.mgtUp = false → exec (.init p body) s = .next s.begin ∧ exec (.finish p id body) s = .next s.begin
          ∧ ∀ ok, exec (.mgtFrame frame ok) s = .next s.begin)
      ∧ (s.mgtUp = true → (frame.length < 64 ∨ 1518 < frame.length ∨ fcsGood frame = false ∨ beAt frame 12 2 = 0x8100) →
          ∀ ok, exec (.mgtFrame frame ok) s = .next s.begin.mgtDrop)
      ∧ (∀ ok, s.mgtUp = true → 64 ≤ frame.length → frame.length ≤ 1518 → fcsGood frame = true →
          beAt frame 12 2 ≠ 0x8100 → beAt frame 12 2 ≠ 0x88A8 →
          let t := s.begin.raiseLine 23
          (t.mgtTake frame = .drop → exec (.mgtFrame frame ok) s = .next t.mgtDrop)
          ∧ (∀ u, t.mgtTake frame = .answered u → exec (.mgtFrame frame ok) s = .next u)
          ∧ ∀ u, t.mgtTake frame = .udp u → u.dport = t.fg Fld.MGT_CFG_GRIX_PORT →
              exec (.mgtFrame frame ok) s = .next (t.takeDatagram u.peer ok u.payload))
      ∧ (s.mgtUp = true → body.length ≤ 1384 → 4 ≤ body.length →
          exec (.init p body) s = .next (s.begin.takeInit p 0 body)
          ∧ exec (.finish p id body) s = .next (s.begin.takeFinish p id.toNat body))
      ∧ (∀ x, s.mgtUp = true → s.session id.toNat = some x → x.opened = false → body.length = 32 →
          (body = x.confirm → ∃ t y, exec (.finish p id body) s = .next t ∧ t.session id.toNat = some y ∧ y.opened = true
            ∧ y.role = x.role)
          ∧ (body ≠ x.confirm → ∃ t, exec (.finish p id body) s = .next t ∧ t.session id.toNat = none))
      ∧ (∀ x, s.session id.toNat = some x →
          (x.opened = false → x.lastAt + 2 * secCycles ≤ s.aon → exec (.finishTimeout id) s =
            .next (s.begin.setSession id.toNat none))
          ∧ (x.opened = true → exec (.finishTimeout id) s = .next s.begin)
          ∧ (x.opened = true → x.lastAt + s.fg Fld.MGT_IDLE_IDLE_S * secCycles ≤ s.aon → exec (.sessionIdleTimeout id) s =
            .next (s.begin.endSession id.toNat 1))
          ∧ (s.aon < x.lastAt + s.fg Fld.MGT_IDLE_IDLE_S * secCycles → exec (.sessionIdleTimeout id) s = .next s.begin)))

/-- R590: for each session the highest accepted number and its response are kept. One whose tag fails is counted, logged at
most once per second, and changes nothing of the session; one below the highest number is a replay; one at the highest number
gets its response again, or is dropped while it is in service; a new one is served, or dropped while another is in service. A
request below its role is answered with status 2, any other by its operation (R589, R591). -/
def Obligations.ManagementRequests : Prop :=
  ∀ (s : State) (p : Peer) (id : BitVec 32) (q : BitVec 64) (addr : BitVec 40) (k : BitVec 16) (o : BitVec 32)
    (ws : List Word) (data nonce rsp key tag : List Byte) (b d : Byte) (ok : Bool),
    let all : List (Instr × Nat × List Byte × Bool) :=
      [(.readReg p id q addr k tag, 1, d5 addr.toNat ++ d2 k.toNat, true),
       (.writeReg p id q addr ws tag, 2, d5 addr.toNat ++ d2 ws.length ++ ws.flatMap fun w => beBytes 4 w.toNat, true),
       (.flashRead p id q o k tag, 3, beBytes 4 o.toNat ++ d2 k.toNat, true),
       (.flashWrite p id q o data tag, 4, beBytes 4 o.toNat ++ d2 data.length ++ data, true),
       (.flashErase p id q o tag, 5, beBytes 4 o.toNat, true),
       (.image p id q b d tag, 6, [b, d], true),
       (.sliceRestart p id q b tag, 7, [b], true),
       (.eventRead p id q o k tag, 8, beBytes 4 o.toNat ++ d2 k.toNat, true),
       (.eventSub p id q b tag, 9, [b], true),
       (.quote p id q nonce tag, 10, nonce, true),
       (.identity p id q tag, 11, [], true),
       (.debugChal p id q tag, 12, [], true),
       (.debugResp p id q rsp tag, 13, rsp, true),
       (.debugRelock p id q tag, 14, [], true),
       (.ownerAdd p id q key ok tag, 15, key, ok),
       (.ownerRevoke p id q b tag, 16, [b], true),
       (.close p id q tag, 17, [], true),
       (.reset p id q tag, 18, [], true)]
    ∀ e ∈ all, ∀ x, s.mgtUp = true → s.session id.toNat = some x → x.opened = true → tag.length = 16 →
      e.2.2.1.length ≤ 1364 →
      let head := requestHead id q e.2.1 e.2.2.1
      let y : Session := { x with peer := p, lastAt := s.aon }
      let t := (s.begin.setSession id.toNat (some y)).setSession id.toNat
        (some { y with high := q.toNat, response := [], busy := some (e.2.1, q.toNat) })
      (tagBytes x.kC head ≠ tag → exec e.1 s =
          .next ((s.begin.inc Reg.MGT_TAG_FAIL).logLimited 0x1404 0 1 0 fun _ _ => [])
          ∧ ((s.begin.inc Reg.MGT_TAG_FAIL).logLimited 0x1404 0 1 0 fun _ _ => []).session id.toNat = some x)
      ∧ (tagBytes x.kC head = tag → q.toNat < x.high → exec e.1 s =
          .next ((s.begin.setSession id.toNat (some y)).inc Reg.MGT_REPLAY))
      ∧ (tagBytes x.kC head = tag → q.toNat = x.high → x.busy = none → x.response ≠ [] → exec e.1 s =
          .next ((s.begin.setSession id.toNat (some y)).sendPeer p x.response))
      ∧ (tagBytes x.kC head = tag → q.toNat = x.high → x.busy.isSome = true →
          exec e.1 s = .next (s.begin.setSession id.toNat (some y)))
      ∧ (tagBytes x.kC head = tag → x.high < q.toNat → x.busy.isSome = true → exec e.1 s =
          .next ((s.begin.setSession id.toNat (some y)).inc Reg.MGT_BUSY_DROP))
      ∧ (tagBytes x.kC head = tag → x.high < q.toNat → x.busy = none → ∀ r, opRole e.2.1 = some r →
          (x.role < r → exec e.1 s = .next (t.respond id.toNat q.toNat e.2.1 2 0 []))
          ∧ (r ≤ x.role → e.2.1 ≤ 7 → exec e.1 s = .next (t.serveDevice id.toNat q.toNat e.2.1 e.2.2.1))
          ∧ (r ≤ x.role → 8 ≤ e.2.1 → exec e.1 s = .next (t.serveSecurity id.toNat q.toNat e.2.1 e.2.2.1 e.2.2.2)))
end

