-- ==== Sys2Proof/Laws/Begin.lean ====
section
/-! SUPPORT. What a query answers when a command begins: what it answered before. -/

namespace Sys2Proof.Machine

open Sys2Proof

@[simp] theorem State.begin_rd (s : State) (r : Reg) : s.begin.rd r = s.rd r := rfl
@[simp] theorem State.begin_fg (s : State) (f : Fld) : s.begin.fg f = s.fg f := rfl
@[simp] theorem State.begin_fb (s : State) (f : Fld) : s.begin.fb f = s.fb f := rfl
@[simp] theorem State.begin_fbit (s : State) (f : Fld) (i : Nat) : s.begin.fbit f i = s.fbit f i := rfl
@[simp] theorem State.begin_pkt (s : State) (pid : Nat) : s.begin.pkt pid = s.pkt pid := rfl
@[simp] theorem State.begin_hasPkt (s : State) (pid : Nat) : s.begin.hasPkt pid = s.hasPkt pid := rfl
@[simp] theorem State.begin_slice (s : State) (n : Nat) : s.begin.slice n = s.slice n := rfl
@[simp] theorem State.begin_port (s : State) (p : Nat) : s.begin.port p = s.port p := rfl
@[simp] theorem State.begin_coreNow (s : State) : s.begin.coreNow = s.coreNow := rfl
@[simp] theorem State.begin_flowMs (s : State) : s.begin.flowMs = s.flowMs := rfl
@[simp] theorem State.begin_tick (s : State) : s.begin.tick = s.tick := rfl
@[simp] theorem State.begin_fcPasses (s : State) (m : Nat) (e : PmuEvent) :
    s.begin.fcPasses m e = s.fcPasses m e := rfl
@[simp] theorem State.begin_limiter (s : State) (code unit : Nat) :
    s.begin.limiter code unit = s.limiter code unit := rfl
@[simp] theorem State.begin_meas (s : State) (m : Nat) : s.begin.meas m = s.meas m := rfl
@[simp] theorem State.begin_sliceMode (s : State) (n : Nat) : s.begin.sliceMode n = s.sliceMode n := rfl
@[simp] theorem State.begin_assigned (s : State) (p : Nat) : s.begin.assigned p = s.assigned p := rfl
@[simp] theorem State.begin_rate (s : State) (p : Nat) : s.begin.rate p = s.rate p := rfl
@[simp] theorem State.begin_lowestSlice (s : State) : s.begin.lowestSlice = s.lowestSlice := rfl
@[simp] theorem State.begin_trellisSlice (s : State) : s.begin.trellisSlice = s.trellisSlice := rfl
@[simp] theorem State.begin_egressSlice (s : State) (p : Nat) : s.begin.egressSlice p = s.egressSlice p := rfl
@[simp] theorem State.begin_power (s : State) (n : Nat) : s.begin.power n = s.power n := rfl
@[simp] theorem State.begin_waking (s : State) (n : Nat) : s.begin.waking n = s.waking n := rfl
@[simp] theorem State.begin_limitDue (s : State) (code unit : Nat) :
    s.begin.limitDue code unit = s.limitDue code unit := rfl
@[simp] theorem State.begin_core (s : State) (n : Nat) : s.begin.core n = s.core n := rfl
@[simp] theorem State.begin_dispatcherFull (s : State) : s.begin.dispatcherFull = s.dispatcherFull := rfl
@[simp] theorem State.begin_lineTask (s : State) (e : Nat) : s.begin.lineTask e = s.lineTask e := rfl
@[simp] theorem State.begin_memByte (s : State) (a : Nat) : s.begin.memByte a = s.memByte a := rfl
@[simp] theorem State.begin_memBytes (s : State) (a n : Nat) : s.begin.memBytes a n = s.memBytes a n := rfl
@[simp] theorem State.begin_flowRegionBytes (s : State) : s.begin.flowRegionBytes = s.flowRegionBytes := rfl
@[simp] theorem State.begin_regionOf (s : State) (a : Nat) : s.begin.regionOf a = s.regionOf a := rfl
@[simp] theorem State.begin_ownerCfg (s : State) (o : Nat) : s.begin.ownerCfg o = s.ownerCfg o := rfl
@[simp] theorem State.begin_ownerUse (s : State) (o : Nat) : s.begin.ownerUse o = s.ownerUse o := rfl
@[simp] theorem State.begin_sumMin (s : State) (p : Nat) : s.begin.sumMin p = s.sumMin p := rfl
@[simp] theorem State.begin_sumHdrm (s : State) (p : Nat) : s.begin.sumHdrm p = s.sumHdrm p := rfl
@[simp] theorem State.begin_sumShared (s : State) (p : Nat) : s.begin.sumShared p = s.sumShared p := rfl
@[simp] theorem State.begin_poolUse (s : State) (p : Nat) : s.begin.poolUse p = s.poolUse p := rfl
@[simp] theorem State.begin_poolFree (s : State) (p : Nat) : s.begin.poolFree p = s.poolFree p := rfl
@[simp] theorem State.begin_canPause (s : State) (p c : Nat) : s.begin.canPause p c = s.canPause p c := rfl
@[simp] theorem State.begin_areaFor (s : State) (o n : Nat) : s.begin.areaFor o n = s.areaFor o n := rfl
@[simp] theorem State.begin_portMac (s : State) (p : Nat) : s.begin.portMac p = s.portMac p := rfl
@[simp] theorem State.begin_pauseFrame (s : State) (p k quanta : Nat) :
    s.begin.pauseFrame p k quanta = s.pauseFrame p k quanta := rfl
@[simp] theorem State.begin_halfPause (s : State) (p : Nat) : s.begin.halfPause p = s.halfPause p := rfl
@[simp] theorem State.begin_lpiWaits (s : State) (p : Nat) : s.begin.lpiWaits p = s.lpiWaits p := rfl
@[simp] theorem State.begin_paces (s : State) (p k : Nat) : s.begin.paces p k = s.paces p k := rfl
@[simp] theorem State.begin_xoffDue (s : State) (p k : Nat) : s.begin.xoffDue p k = s.xoffDue p k := rfl
@[simp] theorem State.begin_poolOwners (s : State) (pool : Nat) : s.begin.poolOwners pool = s.poolOwners pool := rfl
@[simp] theorem State.begin_freeList (s : State) (l : Nat) : s.begin.freeList l = s.freeList l := rfl
@[simp] theorem State.begin_cell (s : State) (c : Nat) : s.begin.cell c = s.cell c := rfl
@[simp] theorem State.begin_newDesc (s : State) : s.begin.newDesc = s.newDesc := rfl
@[simp] theorem State.begin_curEpoch (s : State) (t : Nat) : s.begin.curEpoch t = s.curEpoch t := rfl
@[simp] theorem State.begin_oldLive (s : State) (t : Nat) : s.begin.oldLive t = s.oldLive t := rfl
@[simp] theorem State.begin_bankOf (s : State) (t epoch : Nat) : s.begin.bankOf t epoch = s.bankOf t epoch := rfl
@[simp] theorem State.begin_epochRef (s : State) (t k : Nat) : s.begin.epochRef t k = s.epochRef t k := rfl
@[simp] theorem State.begin_queue (s : State) (n : Nat) : s.begin.queue n = s.queue n := rfl
@[simp] theorem State.begin_node (s : State) (n : Nat) : s.begin.node n = s.node n := rfl
@[simp] theorem State.begin_psched (s : State) (p : Nat) : s.begin.psched p = s.psched p := rfl
@[simp] theorem State.begin_inBlock (s : State) (p n : Nat) : s.begin.inBlock p n = s.inBlock p n := rfl
@[simp] theorem State.begin_portOf (s : State) (n : Nat) : s.begin.portOf n = s.portOf n := rfl
@[simp] theorem State.begin_portQueues (s : State) (p : Nat) : s.begin.portQueues p = s.portQueues p := rfl
@[simp] theorem State.begin_maxSdu (s : State) (p c : Nat) : s.begin.maxSdu p c = s.maxSdu p c := rfl
@[simp] theorem State.begin_portUp (s : State) (p : Nat) : s.begin.portUp p = s.portUp p := rfl
@[simp] theorem State.begin_canCut (s : State) (p : Packet) (port q : Nat) :
    s.begin.canCut p port q = s.canCut p port q := rfl
@[simp] theorem State.begin_gate (s : State) (p : Nat) : s.begin.gate p = s.gate p := rfl
@[simp] theorem State.begin_gateNow (s : State) : s.begin.gateNow = s.gateNow := rfl
@[simp] theorem State.begin_listParams (s : State) (p : Nat) (oper : Bool) :
    s.begin.listParams p oper = s.listParams p oper := rfl
@[simp] theorem State.begin_changeTime (s : State) (p : Nat) : s.begin.changeTime p = s.changeTime p := rfl
@[simp] theorem State.begin_fecNs (s : State) (p : Nat) : s.begin.fecNs p = s.fecNs p := rfl
@[simp] theorem State.begin_pausedBy (s : State) (p k : Nat) : s.begin.pausedBy p k = s.pausedBy p k := rfl
@[simp] theorem State.begin_headLen (s : State) (p : Packet) (port cls : Nat) :
    s.begin.headLen p port cls = s.headLen p port cls := rfl
@[simp] theorem State.begin_ringEntry (s : State) (q : Nat) : s.begin.ringEntry q = s.ringEntry q := rfl
@[simp] theorem State.begin_headWaits (s : State) (port n : Nat) :
    s.begin.headWaits port n = s.headWaits port n := rfl
@[simp] theorem State.begin_headReady (s : State) (port n : Nat) :
    s.begin.headReady port n = s.headReady port n := rfl
@[simp] theorem State.begin_childPrio (s : State) (k : Nat) : s.begin.childPrio k = s.childPrio k := rfl
@[simp] theorem State.begin_keepPath (s : State) (l : List (Option Nat × Nat)) :
    s.begin.keepPath l = s.keepPath l := rfl
@[simp] theorem State.begin_overAge (s : State) (q : Queue) (enq : Nat) :
    s.begin.overAge q enq = s.overAge q enq := rfl
@[simp] theorem State.begin_spillTotal (s : State) : s.begin.spillTotal = s.spillTotal := rfl
@[simp] theorem State.begin_spillBase (s : State) : s.begin.spillBase = s.spillBase := rfl
@[simp] theorem State.begin_allRuns (s : State) : s.begin.allRuns = s.allRuns := rfl
@[simp] theorem State.begin_newRun (s : State) : s.begin.newRun = s.newRun := rfl
@[simp] theorem State.begin_keyHash (s : State) (k : FlowKey) : s.begin.keyHash k = s.keyHash k := rfl
@[simp] theorem State.begin_zone (s : State) (z : Nat) : s.begin.zone z = s.zone z := rfl
@[simp] theorem State.begin_gzone (s : State) (z : Nat) : s.begin.gzone z = s.gzone z := rfl
@[simp] theorem State.begin_role (s : State) (z : Nat) : s.begin.role z = s.role z := rfl
@[simp] theorem State.begin_standby (s : State) (z : Nat) : s.begin.standby z = s.standby z := rfl
@[simp] theorem State.begin_owns (s : State) (k : FlowKey) : s.begin.owns k = s.owns k := rfl
@[simp] theorem State.begin_pairing (s : State) : s.begin.pairing = s.pairing := rfl
@[simp] theorem State.begin_inSync (s : State) (z : Nat) : s.begin.inSync z = s.inSync z := rfl
@[simp] theorem State.begin_profile (s : State) (z : Nat) : s.begin.profile z = s.profile z := rfl
@[simp] theorem State.begin_loggable (s : State) (z : Nat) : s.begin.loggable z = s.loggable z := rfl
@[simp] theorem State.begin_logsZone (s : State) (z : Nat) : s.begin.logsZone z = s.logsZone z := rfl
@[simp] theorem State.begin_netMs (s : State) : s.begin.netMs = s.netMs := rfl
@[simp] theorem State.begin_exports (s : State) (z : Nat) : s.begin.exports z = s.exports z := rfl
@[simp] theorem State.begin_flowExport (s : State) (r : Record) (reason : Nat) :
    s.begin.flowExport r reason = s.flowExport r reason := rfl
@[simp] theorem State.begin_mayAccess (s : State) (q : Requester) : s.begin.mayAccess q = s.mayAccess q := rfl
@[simp] theorem State.begin_untrackedOf (s : State) (port pass : Nat) :
    s.begin.untrackedOf port pass = s.untrackedOf port pass := rfl
@[simp] theorem State.begin_firstUntracked (s : State) (port pass : Nat) :
    s.begin.firstUntracked port pass = s.firstUntracked port pass := rfl
@[simp] theorem State.begin_xlbHash (s : State) (k : List Byte) : s.begin.xlbHash k = s.xlbHash k := rfl
@[simp] theorem State.begin_subBuckets (s : State) (zone addr : Nat) :
    s.begin.subBuckets zone addr = s.subBuckets zone addr := rfl
@[simp] theorem State.begin_fwdBuckets (s : State) (zone addr port proto : Nat) :
    s.begin.fwdBuckets zone addr port proto = s.fwdBuckets zone addr port proto := rfl
@[simp] theorem State.begin_revBuckets (s : State) (pub pport : Nat) :
    s.begin.revBuckets pub pport = s.revBuckets pub pport := rfl
@[simp] theorem State.begin_subFind (s : State) (zone addr : Nat) :
    s.begin.subFind zone addr = s.subFind zone addr := rfl
@[simp] theorem State.begin_fwdFind (s : State) (zone addr port proto : Nat) :
    s.begin.fwdFind zone addr port proto = s.fwdFind zone addr port proto := rfl
@[simp] theorem State.begin_revFind (s : State) (pub pport : Nat) :
    s.begin.revFind pub pport = s.revFind pub pport := rfl
@[simp] theorem State.begin_poolFirst (s : State) (p : Nat) : s.begin.poolFirst p = s.poolFirst p := rfl
@[simp] theorem State.begin_pubAddr (s : State) (i : Nat) : s.begin.pubAddr i = s.pubAddr i := rfl
@[simp] theorem State.begin_poolIndexOf (s : State) (p addr : Nat) :
    s.begin.poolIndexOf p addr = s.poolIndexOf p addr := rfl
@[simp] theorem State.begin_poolOfIndex (s : State) (i : Nat) : s.begin.poolOfIndex i = s.poolOfIndex i := rfl
@[simp] theorem State.begin_gran (s : State) (g : Nat) : s.begin.gran g = s.gran g := rfl
@[simp] theorem State.begin_blockGrans (s : State) (p a n : Nat) :
    s.begin.blockGrans p a n = s.blockGrans p a n := rfl
@[simp] theorem State.begin_blockFree (s : State) (p a n : Nat) : s.begin.blockFree p a n = s.blockFree p a n := rfl
@[simp] theorem State.begin_freeBlocks (s : State) (p a : Nat) : s.begin.freeBlocks p a = s.freeBlocks p a := rfl
@[simp] theorem State.begin_bestAddr (s : State) (p : Nat) : s.begin.bestAddr p = s.bestAddr p := rfl
@[simp] theorem State.begin_portUsed (s : State) (a port : Nat) : s.begin.portUsed a port = s.portUsed a port := rfl
@[simp] theorem State.begin_freePort (s : State) (p a k sport : Nat) :
    s.begin.freePort p a k sport = s.freePort p a k sport := rfl
@[simp] theorem State.begin_recordRef (s : State) (r : Record) : s.begin.recordRef r = s.recordRef r := rfl
@[simp] theorem State.begin_isPublic (s : State) (addr : Nat) : s.begin.isPublic addr = s.isPublic addr := rfl
@[simp] theorem State.begin_servingPool (s : State) (zone src pool : Nat) :
    s.begin.servingPool zone src pool = s.servingPool zone src pool := rfl
@[simp] theorem State.begin_claimed (s : State) (k : Option Nat) (cs : List (Nat × Nat)) :
    s.begin.claimed k cs = s.claimed k cs := rfl
@[simp] theorem State.begin_inClaims (s : State) (dst dport pool : Nat) :
    s.begin.inClaims dst dport pool = s.inClaims dst dport pool := rfl
@[simp] theorem State.begin_lbGroup (s : State) (g : Nat) : s.begin.lbGroup g = s.lbGroup g := rfl
@[simp] theorem State.begin_upCount (s : State) (g : Nat) : s.begin.upCount g = s.upCount g := rfl
@[simp] theorem State.begin_lbWord (s : State) (g : Nat) (r : LbReply) : s.begin.lbWord g r = s.lbWord g r := rfl
@[simp] theorem State.begin_policer (s : State) (i : Nat) : s.begin.policer i = s.policer i := rfl
@[simp] theorem State.begin_poolOk (s : State) (p : Nat) : s.begin.poolOk p = s.poolOk p := rfl
@[simp] theorem State.begin_heldOut (s : State) : s.begin.heldOut = s.heldOut := rfl
@[simp] theorem State.begin_lbData (s : State) (w : Nat) : s.begin.lbData w = s.lbData w := rfl
@[simp] theorem State.begin_lbReason (s : State) (op : Nat) (target : BitVec 2) (group index : BitVec 12) :
    s.begin.lbReason op target group index = s.lbReason op target group index := rfl
@[simp] theorem State.begin_activeBank (s : State) (t : Nat) : s.begin.activeBank t = s.activeBank t := rfl
@[simp] theorem State.begin_fwdHash (s : State) (k : List Byte) : s.begin.fwdHash k = s.fwdHash k := rfl
@[simp] theorem State.begin_l2Buckets (s : State) (bank vid mac : Nat) :
    s.begin.l2Buckets bank vid mac = s.l2Buckets bank vid mac := rfl
@[simp] theorem State.begin_l2Find (s : State) (bank vid mac : Nat) :
    s.begin.l2Find bank vid mac = s.l2Find bank vid mac := rfl
@[simp] theorem State.begin_l2Count (s : State) (bank : Nat) : s.begin.l2Count bank = s.l2Count bank := rfl
@[simp] theorem State.begin_l2Place (s : State) (bank vid mac : Nat) :
    s.begin.l2Place bank vid mac = s.l2Place bank vid mac := rfl
@[simp] theorem State.begin_lpmHash (s : State) (f len addr : Nat) :
    s.begin.lpmHash f len addr = s.lpmHash f len addr := rfl
@[simp] theorem State.begin_lpmBucketsOf (s : State) (f len addr : Nat) :
    s.begin.lpmBucketsOf f len addr = s.lpmBucketsOf f len addr := rfl
@[simp] theorem State.begin_lpmBank (s : State) (f bank : Nat) : s.begin.lpmBank f bank = s.lpmBank f bank := rfl
@[simp] theorem State.begin_lpmFind (s : State) (f bank len addr : Nat) :
    s.begin.lpmFind f bank len addr = s.lpmFind f bank len addr := rfl
@[simp] theorem State.begin_fwdBucketAddr (s : State) (t bank bucket : Nat) :
    s.begin.fwdBucketAddr t bank bucket = s.fwdBucketAddr t bank bucket := rfl
@[simp] theorem State.begin_lookupBank (s : State) (t : Nat) (e : Option Epochs) :
    s.begin.lookupBank t e = s.lookupBank t e := rfl
@[simp] theorem State.begin_bucketLines (s : State) (t bank bucket : Nat) :
    s.begin.bucketLines t bank bucket = s.bucketLines t bank bucket := rfl
@[simp] theorem State.begin_searchLines (s : State) (t bank a b : Nat) (hit : Option Nat) :
    s.begin.searchLines t bank a b hit = s.searchLines t bank a b hit := rfl
@[simp] theorem State.begin_lpmCandidate (s : State) (f bank addr len : Nat) :
    s.begin.lpmCandidate f bank addr len = s.lpmCandidate f bank addr len := rfl
@[simp] theorem State.begin_nextHop (s : State) (i : Nat) : s.begin.nextHop i = s.nextHop i := rfl
@[simp] theorem State.begin_ecmpWord (s : State) (g hashHi hashLo : Nat) :
    s.begin.ecmpWord g hashHi hashLo = s.ecmpWord g hashHi hashLo := rfl
@[simp] theorem State.begin_nowS (s : State) : s.begin.nowS = s.nowS := rfl
@[simp] theorem State.begin_l2Addr (s : State) (k : Nat) : s.begin.l2Addr k = s.l2Addr k := rfl
@[simp] theorem State.begin_l2Aged (s : State) (e : L2Entry) : s.begin.l2Aged e = s.l2Aged e := rfl
@[simp] theorem State.begin_fwdData (s : State) : s.begin.fwdData = s.fwdData := rfl
@[simp] theorem State.begin_banksOf (s : State) (t bank : Nat) : s.begin.banksOf t bank = s.banksOf t bank := rfl
@[simp] theorem State.begin_shadowBusy (s : State) (t bank : Nat) :
    s.begin.shadowBusy t bank = s.shadowBusy t bank := rfl
@[simp] theorem State.begin_fwdArgOk (s : State) (t : Nat) (insert : Bool) :
    s.begin.fwdArgOk t insert = s.fwdArgOk t insert := rfl
@[simp] theorem State.begin_ecmpData (s : State) : s.begin.ecmpData = s.ecmpData := rfl
@[simp] theorem State.begin_flipBlocked (s : State) (t : Nat) : s.begin.flipBlocked t = s.flipBlocked t := rfl
@[simp] theorem State.begin_flowBits (s : State) : s.begin.flowBits = s.flowBits := rfl
@[simp] theorem State.begin_flowBuckets (s : State) (h : Nat) : s.begin.flowBuckets h = s.flowBuckets h := rfl
@[simp] theorem State.begin_flowBank (s : State) (h : Nat) : s.begin.flowBank h = s.flowBank h := rfl
@[simp] theorem State.begin_fslot (s : State) (b k : Nat) : s.begin.fslot b k = s.fslot b k := rfl
@[simp] theorem State.begin_fpSlots (s : State) (v6 : Bool) (h : Nat) : s.begin.fpSlots v6 h = s.fpSlots v6 h := rfl
@[simp] theorem State.begin_tagLine (s : State) (b : Nat) : s.begin.tagLine b = s.tagLine b := rfl
@[simp] theorem State.begin_line (s : State) (b k : Nat) : s.begin.line b k = s.line b k := rfl
@[simp] theorem State.begin_op (s : State) (id : Nat) : s.begin.op id = s.op id := rfl
@[simp] theorem State.begin_held (s : State) (bank : Nat) : s.begin.held bank = s.held bank := rfl
@[simp] theorem State.begin_heldOf (s : State) (bank : Nat) (packet : Bool) :
    s.begin.heldOf bank packet = s.heldOf bank packet := rfl
@[simp] theorem State.begin_keyBusy (s : State) (key : FlowKey) : s.begin.keyBusy key = s.keyBusy key := rfl
@[simp] theorem State.begin_lineWays (s : State) (l : CacheLine) : s.begin.lineWays l = s.lineWays l := rfl
@[simp] theorem State.begin_lineFree (s : State) (l : CacheLine) : s.begin.lineFree l = s.lineFree l := rfl
@[simp] theorem State.begin_ticksOf (s : State) (r : Record) : s.begin.ticksOf r = s.ticksOf r := rfl
@[simp] theorem State.begin_stampLeft (s : State) (stamp : Nat) : s.begin.stampLeft stamp = s.stampLeft stamp := rfl
@[simp] theorem State.begin_mirrored (s : State) (r : Record) : s.begin.mirrored r = s.mirrored r := rfl
@[simp] theorem State.begin_nextGen (s : State) (b k : Nat) (v6 : Bool) :
    s.begin.nextGen b k v6 = s.nextGen b k v6 := rfl
@[simp] theorem State.begin_freeSlots (s : State) (b : Nat) : s.begin.freeSlots b = s.freeSlots b := rfl
@[simp] theorem State.begin_placeIn (s : State) (b need : Nat) : s.begin.placeIn b need = s.placeIn b need := rfl
@[simp] theorem State.begin_victim (s : State) (b k : Nat) : s.begin.victim b k = s.victim b k := rfl
@[simp] theorem State.begin_choices (s : State) (b need : Nat) : s.begin.choices b need = s.choices b need := rfl
@[simp] theorem State.begin_choiceLeft (s : State) (b : Nat) (c : List Nat) :
    s.begin.choiceLeft b c = s.choiceLeft b c := rfl
@[simp] theorem State.begin_oldestChoice (s : State) (b need : Nat) :
    s.begin.oldestChoice b need = s.oldestChoice b need := rfl
@[simp] theorem State.begin_zoneTokens (s : State) (z : Nat) : s.begin.zoneTokens z = s.zoneTokens z := rfl
@[simp] theorem State.begin_newRecord (s : State) (o : FlowOp) : s.begin.newRecord o = s.newRecord o := rfl
@[simp] theorem State.begin_unapplied (s : State) : s.begin.unapplied = s.unapplied := rfl
@[simp] theorem State.begin_appliedSeq (s : State) : s.begin.appliedSeq = s.appliedSeq := rfl
@[simp] theorem State.begin_pairedZones (s : State) : s.begin.pairedZones = s.pairedZones := rfl
@[simp] theorem State.begin_tagsUsed (s : State) : s.begin.tagsUsed = s.tagsUsed := rfl
@[simp] theorem State.begin_waitsForTag (s : State) (id : Nat) : s.begin.waitsForTag id = s.waitsForTag id := rfl
@[simp] theorem State.begin_behindMarker (s : State) (id : Nat) : s.begin.behindMarker id = s.behindMarker id := rfl
@[simp] theorem State.begin_mergeMax (s : State) (key : FlowKey) (r : Option Record) :
    s.begin.mergeMax key r = s.mergeMax key r := rfl
@[simp] theorem State.begin_flowEvent (s : State) (o : FlowOp) (tc : Option Nat) (addr : Nat) :
    s.begin.flowEvent o tc addr = s.flowEvent o tc addr := rfl
@[simp] theorem State.begin_waysFree (s : State) (bank set need : Nat) :
    s.begin.waysFree bank set need = s.waysFree bank set need := rfl
@[simp] theorem State.begin_sliceTags (s : State) (n : Nat) : s.begin.sliceTags n = s.sliceTags n := rfl
@[simp] theorem State.begin_counts (s : State) (m : Member) : s.begin.counts m = s.counts m := rfl
@[simp] theorem State.begin_writable (s : State) (id : Nat) : s.begin.writable id = s.writable id := rfl
@[simp] theorem State.begin_ctx? (s : State) (k : Nat) : s.begin.ctx? k = s.ctx? k := rfl
@[simp] theorem State.begin_quarantined (s : State) (slice eng : Nat) :
    s.begin.quarantined slice eng = s.quarantined slice eng := rfl
@[simp] theorem State.begin_freeCtxs (s : State) (slice eng : Nat) :
    s.begin.freeCtxs slice eng = s.freeCtxs slice eng := rfl
@[simp] theorem State.begin_dispatchPlace (s : State) (slice : Nat) :
    s.begin.dispatchPlace slice = s.dispatchPlace slice := rfl
@[simp] theorem State.begin_flowBlocked (s : State) (pid : Nat) : s.begin.flowBlocked pid = s.flowBlocked pid := rfl
@[simp] theorem State.begin_nextAsk (s : State) (slice : Nat) : s.begin.nextAsk slice = s.nextAsk slice := rfl
@[simp] theorem State.begin_sliceStalled (s : State) (slice : Nat) :
    s.begin.sliceStalled slice = s.sliceStalled slice := rfl
@[simp] theorem State.begin_headSlot (s : State) (b k : Nat) : s.begin.headSlot b k = s.headSlot b k := rfl
@[simp] theorem State.begin_profileOf (s : State) (slice lp shape : Nat) :
    s.begin.profileOf slice lp shape = s.profileOf slice lp shape := rfl
@[simp] theorem State.begin_classify (s : State) (slice lp : Nat) (win : List Byte) (whole : Bool) :
    s.begin.classify slice lp win whole = s.classify slice lp win whole := rfl
@[simp] theorem State.begin_userField (s : State) (slice prof : Nat) (d : PreDecode) (win : List Byte) (long : Bool) :
    s.begin.userField slice prof d win long = s.userField slice prof d win long := rfl
@[simp] theorem State.begin_zoneOf (s : State) (slice lp prof : Nat) (d : PreDecode) (prev : Option Nat) :
    s.begin.zoneOf slice lp prof d prev = s.zoneOf slice lp prof d prev := rfl
@[simp] theorem State.begin_keyOf (s : State) (p : Packet) (prof : Nat) (d : PreDecode) (win user : List Byte) :
    s.begin.keyOf p prof d win user = s.keyOf p prof d win user := rfl
@[simp] theorem State.begin_nextHead (s : State) (slice : Nat) (reserved : Bool) :
    s.begin.nextHead slice reserved = s.nextHead slice reserved := rfl
@[simp] theorem State.begin_ruleBank (s : State) (b : Nat) : s.begin.ruleBank b = s.ruleBank b := rfl
@[simp] theorem State.begin_hitCount (s : State) (slice i : Nat) :
    s.begin.hitCount slice i = s.hitCount slice i := rfl
@[simp] theorem State.begin_rulData (s : State) (w : Nat) : s.begin.rulData w = s.rulData w := rfl
@[simp] theorem State.begin_rulWide (s : State) (w : Nat) : s.begin.rulWide w = s.rulWide w := rfl
@[simp] theorem State.begin_ruleShadow (s : State) : s.begin.ruleShadow = s.ruleShadow := rfl
@[simp] theorem State.begin_rulReason (s : State) (op target slice index : Nat) :
    s.begin.rulReason op target slice index = s.rulReason op target slice index := rfl
@[simp] theorem State.begin_mirrorTemplate (s : State) (m : Nat) (tagged : Bool) :
    s.begin.mirrorTemplate m tagged = s.mirrorTemplate m tagged := rfl
@[simp] theorem State.begin_copyBody (s : State) (p : Packet) (c : CopyInfo) (len : Nat) :
    s.begin.copyBody p c len = s.copyBody p c len := rfl
@[simp] theorem State.begin_egressBody (s : State) (p : Packet) (len : Nat) :
    s.begin.egressBody p len = s.egressBody p len := rfl
@[simp] theorem State.begin_increment (s : State) : s.begin.increment = s.increment := rfl
@[simp] theorem State.begin_queueOf (s : State) (p : Packet) (port : Nat) :
    s.begin.queueOf p port = s.queueOf p port := rfl
@[simp] theorem State.begin_sduOf (s : State) (p : Packet) (port : Nat) : s.begin.sduOf p port = s.sduOf p port := rfl
@[simp] theorem State.begin_witnessPort (s : State) (p : Nat) : s.begin.witnessPort p = s.witnessPort p := rfl
@[simp] theorem State.begin_takesWitness (s : State) (p : Nat) (f : List Byte) :
    s.begin.takesWitness p f = s.takesWitness p f := rfl
@[simp] theorem State.begin_macConsumes (s : State) (p : Nat) (f : List Byte) :
    s.begin.macConsumes p f = s.macConsumes p f := rfl
@[simp] theorem State.begin_ingressClass (s : State) (p : Nat) (f : List Byte) :
    s.begin.ingressClass p f = s.ingressClass p f := rfl
@[simp] theorem State.begin_openCopies (s : State) (port : Nat) : s.begin.openCopies port = s.openCopies port := rfl
@[simp] theorem State.begin_holdCycles (s : State) (p : Nat) : s.begin.holdCycles p = s.holdCycles p := rfl
@[simp] theorem State.begin_siteAllows (s : State) (p : Nat) : s.begin.siteAllows p = s.siteAllows p := rfl
@[simp] theorem State.begin_laneOff (s : State) (p : Nat) : s.begin.laneOff p = s.laneOff p := rfl
@[simp] theorem State.begin_linkConds (s : State) (p : Nat) : s.begin.linkConds p = s.linkConds p := rfl
@[simp] theorem State.begin_downAtOnce (s : State) (p : Nat) : s.begin.downAtOnce p = s.downAtOnce p := rfl
@[simp] theorem State.begin_cfgLegal (s : State) (p v : Nat) : s.begin.cfgLegal p v = s.cfgLegal p v := rfl
@[simp] theorem State.begin_underWatchdog (s : State) (p k : Nat) :
    s.begin.underWatchdog p k = s.underWatchdog p k := rfl
@[simp] theorem State.begin_recordFor (s : State) (p : Packet) : s.begin.recordFor p = s.recordFor p := rfl
@[simp] theorem State.begin_creationShared (s : State) (id k : Nat) :
    s.begin.creationShared id k = s.creationShared id k := rfl
@[simp] theorem State.begin_opCreated (s : State) (x : Ctx) : s.begin.opCreated x = s.opCreated x := rfl
@[simp] theorem State.begin_drained (s : State) : s.begin.drained = s.drained := rfl
@[simp] theorem State.begin_stagedCount (s : State) : s.begin.stagedCount = s.stagedCount := rfl
@[simp] theorem State.begin_patchFault (s : State) : s.begin.patchFault = s.patchFault := rfl
@[simp] theorem State.begin_patchBody (s : State) (version : Nat) :
    s.begin.patchBody version = s.patchBody version := rfl
@[simp] theorem State.begin_queuesUnder (s : State) (m : Nat) : s.begin.queuesUnder m = s.queuesUnder m := rfl
@[simp] theorem State.begin_nodesUnder (s : State) (m : Nat) : s.begin.nodesUnder m = s.nodesUnder m := rfl
@[simp] theorem State.begin_sduFits (s : State) (p c : Nat) : s.begin.sduFits p c = s.sduFits p c := rfl
@[simp] theorem State.begin_headsIn (s : State) (n : Nat) : s.begin.headsIn n = s.headsIn n := rfl
@[simp] theorem State.begin_maySleep (s : State) (n : Nat) : s.begin.maySleep n = s.maySleep n := rfl
@[simp] theorem State.begin_portsAllowDormant (s : State) (n : Nat) :
    s.begin.portsAllowDormant n = s.portsAllowDormant n := rfl
@[simp] theorem State.begin_wakeNs (s : State) (n : Nat) : s.begin.wakeNs n = s.wakeNs n := rfl
@[simp] theorem State.begin_wakeDue (s : State) (n at' : Nat) : s.begin.wakeDue n at' = s.wakeDue n at' := rfl
@[simp] theorem State.begin_compareTime (s : State) (k : Nat) : s.begin.compareTime k = s.compareTime k := rfl
@[simp] theorem State.begin_junction (s : State) : s.begin.junction = s.junction := rfl
@[simp] theorem State.begin_throttleEntry (s : State) (l : Nat) : s.begin.throttleEntry l = s.throttleEntry l := rfl
@[simp] theorem State.begin_throttleFor (s : State) (tj : Int) : s.begin.throttleFor tj = s.throttleFor tj := rfl
@[simp] theorem State.begin_coreCycles (s : State) : s.begin.coreCycles = s.coreCycles := rfl
@[simp] theorem State.begin_itemCells (s : State) : s.begin.itemCells = s.itemCells := rfl
@[simp] theorem State.begin_queueCells (s : State) (n : Nat) : s.begin.queueCells n = s.queueCells n := rfl
@[simp] theorem State.begin_ownerQueues (s : State) (o : Nat) : s.begin.ownerQueues o = s.ownerQueues o := rfl
@[simp] theorem State.begin_spillable (s : State) (pid : Nat) : s.begin.spillable pid = s.spillable pid := rfl
@[simp] theorem State.begin_longestQueue (s : State) (o : Nat) : s.begin.longestQueue o = s.longestQueue o := rfl
@[simp] theorem State.begin_ownerCells (s : State) (o : Nat) : s.begin.ownerCells o = s.ownerCells o := rfl
@[simp] theorem State.begin_started (s : State) : s.begin.started = s.started := rfl
@[simp] theorem State.begin_bufIllegal (s : State) : s.begin.bufIllegal = s.bufIllegal := rfl
@[simp] theorem State.begin_pausedFor (s : State) (p n : Nat) : s.begin.pausedFor p n = s.pausedFor p n := rfl
@[simp] theorem State.begin_coreIdle (s : State) (k : Nat) : s.begin.coreIdle k = s.coreIdle k := rfl
@[simp] theorem State.begin_mgtMac (s : State) : s.begin.mgtMac = s.mgtMac := rfl
@[simp] theorem State.begin_address (s : State) (r : Nat → Reg) (v6 : Bool) :
    s.begin.address r v6 = s.address r v6 := rfl
@[simp] theorem State.begin_ipfixFrame (s : State) (sets : List Byte) :
    s.begin.ipfixFrame sets = s.ipfixFrame sets := rfl
@[simp] theorem State.begin_perMessage (s : State) (t : Nat) : s.begin.perMessage t = s.perMessage t := rfl
@[simp] theorem State.begin_closing (s : State) : s.begin.closing = s.closing := rfl
@[simp] theorem State.begin_side (s : State) : s.begin.side = s.side := rfl
@[simp] theorem State.begin_trellisUp (s : State) : s.begin.trellisUp = s.trellisUp := rfl
@[simp] theorem State.begin_hbMissing (s : State) : s.begin.hbMissing = s.hbMissing := rfl
@[simp] theorem State.begin_standbyOf (s : State) (g : Nat) : s.begin.standbyOf g = s.standbyOf g := rfl
@[simp] theorem State.begin_takeoverGroups (s : State) : s.begin.takeoverGroups = s.takeoverGroups := rfl
@[simp] theorem State.begin_pairDigest (s : State) : s.begin.pairDigest = s.pairDigest := rfl
@[simp] theorem State.begin_pairMessage (s : State) (type : Nat) (confirm : List Byte) :
    s.begin.pairMessage type confirm = s.pairMessage type confirm := rfl
@[simp] theorem State.begin_claimsMessages (s : State) : s.begin.claimsMessages = s.claimsMessages := rfl
@[simp] theorem State.begin_pairCheck (s : State) (m : PairMsg) : s.begin.pairCheck m = s.pairCheck m := rfl
@[simp] theorem State.begin_partnerOwns (s : State) (z : Nat) : s.begin.partnerOwns z = s.partnerOwns z := rfl
@[simp] theorem State.begin_inWalk (s : State) (z : Nat) : s.begin.inWalk z = s.inWalk z := rfl
@[simp] theorem State.begin_walkRest (s : State) (pos : Nat) : s.begin.walkRest pos = s.walkRest pos := rfl
@[simp] theorem State.begin_lag (s : State) : s.begin.lag = s.lag := rfl
@[simp] theorem State.begin_handoverMessage (s : State) (z n : Nat) :
    s.begin.handoverMessage z n = s.handoverMessage z n := rfl
@[simp] theorem State.begin_walkRoom (s : State) : s.begin.walkRoom = s.walkRoom := rfl
@[simp] theorem State.begin_graftSends (s : State) : s.begin.graftSends = s.graftSends := rfl
@[simp] theorem State.begin_entryOf (s : State) (kind zone : Nat) (bs : List Byte) :
    s.begin.entryOf kind zone bs = s.entryOf kind zone bs := rfl
@[simp] theorem State.begin_wit (s : State) (g : Nat) : s.begin.wit g = s.wit g := rfl
@[simp] theorem State.begin_peerMac (s : State) (g : Nat) : s.begin.peerMac g = s.peerMac g := rfl
@[simp] theorem State.begin_witnessFrame (s : State) (g count : Nat) :
    s.begin.witnessFrame g count = s.witnessFrame g count := rfl
@[simp] theorem State.begin_witnessValid (s : State) (port : Nat) (f : List Byte) :
    s.begin.witnessValid port f = s.witnessValid port f := rfl
@[simp] theorem State.begin_lane (s : State) (p : Nat) : s.begin.lane p = s.lane p := rfl
@[simp] theorem State.begin_defect (s : State) (d : Nat) : s.begin.defect d = s.defect d := rfl
@[simp] theorem State.begin_declaredKind (s : State) (k : Nat) : s.begin.declaredKind k = s.declaredKind k := rfl
@[simp] theorem State.begin_setTime (s : State) (k : Nat) : s.begin.setTime k = s.setTime k := rfl
@[simp] theorem State.begin_lofRaw (s : State) : s.begin.lofRaw = s.lofRaw := rfl
@[simp] theorem State.begin_sumLanes (s : State) (f : TrlLane → Nat) : s.begin.sumLanes f = s.sumLanes f := rfl
@[simp] theorem State.begin_degRaw (s : State) : s.begin.degRaw = s.degRaw := rfl
@[simp] theorem State.begin_mdc (s : State) (n : Nat) : s.begin.mdc n = s.mdc n := rfl
@[simp] theorem State.begin_mdcRuns (s : State) (n : Nat) : s.begin.mdcRuns n = s.mdcRuns n := rfl
@[simp] theorem State.begin_graftFirstNow (s : State) : s.begin.graftFirstNow = s.graftFirstNow := rfl
@[simp] theorem State.begin_streaming (s : State) : s.begin.streaming = s.streaming := rfl
@[simp] theorem State.begin_delivers (s : State) : s.begin.delivers = s.delivers := rfl
@[simp] theorem State.begin_glhBase (s : State) : s.begin.glhBase = s.glhBase := rfl
@[simp] theorem State.begin_flByte (s : State) (a : Nat) : s.begin.flByte a = s.flByte a := rfl
@[simp] theorem State.begin_flBytes (s : State) (a n : Nat) : s.begin.flBytes a n = s.flBytes a n := rfl
@[simp] theorem State.begin_flNat (s : State) (a n : Nat) : s.begin.flNat a n = s.flNat a n := rfl
@[simp] theorem State.begin_flLate (s : State) : s.begin.flLate = s.flLate := rfl
@[simp] theorem State.begin_copyInUse (s : State) (c : Nat) : s.begin.copyInUse c = s.copyInUse c := rfl
@[simp] theorem State.begin_flBuf (s : State) (n : Nat) : s.begin.flBuf n = s.flBuf n := rfl
@[simp] theorem State.begin_flRefuse (s : State) (kernel : Bool) (op a n : Nat) :
    s.begin.flRefuse kernel op a n = s.flRefuse kernel op a n := rfl
@[simp] theorem State.begin_copyBits (s : State) : s.begin.copyBits = s.copyBits := rfl
@[simp] theorem State.begin_journalInFlash (s : State) : s.begin.journalInFlash = s.journalInFlash := rfl
@[simp] theorem State.begin_history (s : State) : s.begin.history = s.history := rfl
@[simp] theorem State.begin_logRecords (s : State) : s.begin.logRecords = s.logRecords := rfl
@[simp] theorem State.begin_imgLen (s : State) (c : Nat) : s.begin.imgLen c = s.imgLen c := rfl
@[simp] theorem State.begin_sections (s : State) (c : Nat) : s.begin.sections c = s.sections c := rfl
@[simp] theorem State.begin_section? (s : State) (c ty : Nat) : s.begin.section? c ty = s.section? c ty := rfl
@[simp] theorem State.begin_body (s : State) (c : Nat) (x : Section) : s.begin.body c x = s.body c x := rfl
@[simp] theorem State.begin_ownerKey (s : State) (hash : List Byte) : s.begin.ownerKey hash = s.ownerKey hash := rfl
@[simp] theorem State.begin_signedPart (s : State) (c : Nat) : s.begin.signedPart c = s.signedPart c := rfl
@[simp] theorem State.begin_imageChecks (s : State) (c : Nat) : s.begin.imageChecks c = s.imageChecks c := rfl
@[simp] theorem State.begin_imageFails (s : State) (c : Nat) : s.begin.imageFails c = s.imageFails c := rfl
@[simp] theorem State.begin_corePriv (s : State) (c : Nat) : s.begin.corePriv c = s.corePriv c := rfl
@[simp] theorem State.begin_chan (s : State) (c : Nat) : s.begin.chan c = s.chan c := rfl
@[simp] theorem State.begin_bindable (s : State) (t : Task) : s.begin.bindable t = s.bindable t := rfl
@[simp] theorem State.begin_idleCore (s : State) : s.begin.idleCore = s.idleCore := rfl
@[simp] theorem State.begin_compareMet (s : State) (c : Nat) : s.begin.compareMet c = s.compareMet c := rfl
@[simp] theorem State.begin_stalled (s : State) : s.begin.stalled = s.stalled := rfl
@[simp] theorem State.begin_stallItem (s : State) (c : Nat) : s.begin.stallItem c = s.stallItem c := rfl
@[simp] theorem State.begin_bufferAddr (s : State) (a n : Nat) : s.begin.bufferAddr a n = s.bufferAddr a n := rfl
@[simp] theorem State.begin_anyHalted (s : State) : s.begin.anyHalted = s.anyHalted := rfl
@[simp] theorem State.begin_mayGlh (s : State) (q : Requester) : s.begin.mayGlh q = s.mayGlh q := rfl
@[simp] theorem State.begin_certificate (s : State) : s.begin.certificate = s.certificate := rfl
@[simp] theorem State.begin_slot (s : State) (k : Nat) : s.begin.slot k = s.slot k := rfl
@[simp] theorem State.begin_slotStates (s : State) : s.begin.slotStates = s.slotStates := rfl
@[simp] theorem State.begin_provisioning (s : State) : s.begin.provisioning = s.provisioning := rfl
@[simp] theorem State.begin_quoteFlags (s : State) : s.begin.quoteFlags = s.quoteFlags := rfl
@[simp] theorem State.begin_mayRevoke (s : State) (k : Nat) : s.begin.mayRevoke k = s.mayRevoke k := rfl
@[simp] theorem State.begin_responsePasses (s : State) (challenge response : List Byte) :
    s.begin.responsePasses challenge response = s.responsePasses challenge response := rfl
@[simp] theorem State.begin_dbgBuf (s : State) : s.begin.dbgBuf = s.dbgBuf := rfl
@[simp] theorem State.begin_patchRefused (s : State) (bs : List Byte) :
    s.begin.patchRefused bs = s.patchRefused bs := rfl
@[simp] theorem State.begin_sliceSteps (s : State) (copy : Nat) : s.begin.sliceSteps copy = s.sliceSteps copy := rfl
@[simp] theorem State.begin_partOf (s : State) (copy n : Nat) : s.begin.partOf copy n = s.partOf copy n := rfl
@[simp] theorem State.begin_changedSlices (s : State) (old new : Nat) :
    s.begin.changedSlices old new = s.changedSlices old new := rfl
@[simp] theorem State.begin_recordSections (s : State) (copy : Nat) :
    s.begin.recordSections copy = s.recordSections copy := rfl
@[simp] theorem State.begin_legalFails (s : State) (copy : Nat) : s.begin.legalFails copy = s.legalFails copy := rfl
@[simp] theorem State.begin_changedSection (s : State) (old new ty : Nat) :
    s.begin.changedSection old new ty = s.changedSection old new ty := rfl
@[simp] theorem State.begin_session (s : State) (id : Nat) : s.begin.session id = s.session id := rfl
@[simp] theorem State.begin_mgtLinkLocal (s : State) : s.begin.mgtLinkLocal = s.mgtLinkLocal := rfl
@[simp] theorem State.begin_mgtHasV6 (s : State) (a : Nat) : s.begin.mgtHasV6 a = s.mgtHasV6 a := rfl
@[simp] theorem State.begin_mgtHasV4 (s : State) (a : Nat) : s.begin.mgtHasV4 a = s.mgtHasV4 a := rfl
@[simp] theorem State.begin_forwarding (s : State) : s.begin.forwarding = s.forwarding := rfl
@[simp] theorem State.begin_mayReach (s : State) (q : Requester) (r : RegSpec) :
    s.begin.mayReach q r = s.mayReach q r := rfl
@[simp] theorem State.begin_reach (s : State) (q : Requester) (addr : Nat) :
    s.begin.reach q addr = s.reach q addr := rfl
@[simp] theorem State.begin_jtagMemory (s : State) (q : Requester) (addr : Nat) :
    s.begin.jtagMemory q addr = s.jtagMemory q addr := rfl
@[simp] theorem State.begin_natChanges (s : State) (steps : List LoadStep) :
    s.begin.natChanges steps = s.natChanges steps := rfl
@[simp] theorem State.begin_unit (s : State) : s.begin.unit = s.unit := rfl
@[simp] theorem State.begin_fails (s : State) : s.begin.fails = s.fails := rfl
@[simp] theorem State.begin_stageLimit (s : State) : s.begin.stageLimit = s.stageLimit := rfl
@[simp] theorem State.begin_laneGroups (s : State) : s.begin.laneGroups = s.laneGroups := rfl
@[simp] theorem State.begin_pick (s : State) (order : List Nat) (m : Nat) :
    s.begin.pick order m = s.pick order m := rfl
@[simp] theorem State.begin_caddyMeasure (s : State) (c : Nat) : s.begin.caddyMeasure c = s.caddyMeasure c := rfl
@[simp] theorem State.begin_segmentOk (s : State) (a n : Nat) : s.begin.segmentOk a n = s.segmentOk a n := rfl
@[simp] theorem State.begin_inFlight (s : State) (n : Nat) : s.begin.inFlight n = s.inFlight n := rfl
@[simp] theorem State.begin_hasSource (s : State) (n : Nat) : s.begin.hasSource n = s.hasSource n := rfl
@[simp] theorem State.begin_opKey (s : State) (k : Nat) : s.begin.opKey k = s.opKey k := rfl
@[simp] theorem State.begin_roleOf (s : State) (hash : List Byte) : s.begin.roleOf hash = s.roleOf hash := rfl
@[simp] theorem State.begin_sessionPlace (s : State) : s.begin.sessionPlace = s.sessionPlace := rfl
@[simp] theorem State.begin_halfOpen (s : State) : s.begin.halfOpen = s.halfOpen := rfl
@[simp] theorem State.begin_eventRead (s : State) (first count : Nat) :
    s.begin.eventRead first count = s.eventRead first count := rfl
@[simp] theorem State.begin_mgtUp (s : State) : s.begin.mgtUp = s.mgtUp := rfl
@[simp] theorem State.begin_engineHeld (s : State) (slice eng : Nat) :
    s.begin.engineHeld slice eng = s.engineHeld slice eng := rfl
@[simp] theorem State.begin_windowOf (s : State) (a n : Nat) : s.begin.windowOf a n = s.windowOf a n := rfl
@[simp] theorem State.begin_holdsSlot (s : State) (c : Nat) (store : Bool) (a : Nat) :
    s.begin.holdsSlot c store a = s.holdsSlot c store a := rfl
@[simp] theorem State.begin_coreAccess (s : State) (c : Nat) (x : Core) (store : Bool) (a n : Nat) :
    s.begin.coreAccess c x store a n = s.coreAccess c x store a n := rfl
@[simp] theorem State.begin_fetchable (s : State) (c : Nat) (x : Core) (a : Nat) :
    s.begin.fetchable c x a = s.fetchable c x a := rfl
@[simp] theorem State.begin_windowLoad (s : State) (x : Ctx) (a n : Nat) :
    s.begin.windowLoad x a n = s.windowLoad x a n := rfl
@[simp] theorem State.begin_pcStatus (s : State) (x : Ctx) : s.begin.pcStatus x = s.pcStatus x := rfl
@[simp] theorem State.begin_showCreated (s : State) (x : Ctx) : s.begin.showCreated x = s.showCreated x := rfl
@[simp] theorem State.begin_meteredLength (s : State) (p : Packet) :
    s.begin.meteredLength p = s.meteredLength p := rfl
@[simp] theorem State.begin_lookupOf (s : State) (x : Ctx) (bad : Option Nat) (a : DWord) :
    s.begin.lookupOf x bad a = s.lookupOf x bad a := rfl
@[simp] theorem State.begin_queueCount (s : State) (port : Nat) : s.begin.queueCount port = s.queueCount port := rfl
@[simp] theorem State.begin_microWord (s : State) (addr : Nat) : s.begin.microWord addr = s.microWord addr := rfl
@[simp] theorem State.begin_microMatch (s : State) (addr : Nat) : s.begin.microMatch addr = s.microMatch addr := rfl
@[simp] theorem State.begin_patched (s : State) (op fn : Nat) : s.begin.patched op fn = s.patched op fn := rfl
@[simp] theorem State.begin_microGoto (s : State) (next : Nat) : s.begin.microGoto next = s.microGoto next := rfl
@[simp] theorem State.begin_microNext (s : State) (addr w : Nat) (taken : Bool) :
    s.begin.microNext addr w taken = s.microNext addr w taken := rfl
@[simp] theorem State.begin_holdsPlace (s : State) (q : UnitRequest) : s.begin.holdsPlace q = s.holdsPlace q := rfl
@[simp] theorem State.begin_tentative (s : State) (slice unit : Nat) :
    s.begin.tentative slice unit = s.tentative slice unit := rfl
@[simp] theorem State.begin_leftAfter (s : State) (x : Ctx) (m : Micro) :
    s.begin.leftAfter x m = s.leftAfter x m := rfl
@[simp] theorem State.begin_ccr (s : State) (c : Nat) (x : Core) (n : Nat) (now : NetTime) (open' : DWord) :
    s.begin.ccr c x n now open' = s.ccr c x n now open' := rfl
@[simp] theorem State.begin_windowOk (s : State) (base size : Nat) :
    s.begin.windowOk base size = s.windowOk base size := rfl
@[simp] theorem State.begin_slotsHeld (s : State) (c : Nat) (received : Bool) :
    s.begin.slotsHeld c received = s.slotsHeld c received := rfl
@[simp] theorem State.begin_chanFault (s : State) (x : Core) (ch : Nat) :
    s.begin.chanFault x ch = s.chanFault x ch := rfl
@[simp] theorem State.begin_bufferFault (s : State) (c : Nat) (x : Core) (store : Bool) (a n : Nat) :
    s.begin.bufferFault c x store a n = s.bufferFault c x store a n := rfl

end Sys2Proof.Machine
end

