-- ==== Sys2Proof/Laws/Counts.lean ====
section
/-! SUPPORT. What counting and logging change: the measurement block, the register file, the event buffer and the limiters, and
nothing else. -/

namespace Sys2Proof.Laws

open Sys2Proof Sys2Proof.Machine

/-- `t` is `s` but for what counting and logging change. -/
def CountsOnly (s t : State) : Prop :=
  t = { s with regs := t.regs, pmu := t.pmu, events := t.events, limiters := t.limiters }

theorem CountsOnly.refl (s : State) : CountsOnly s s := rfl

theorem CountsOnly.trans {s t u : State} (h : CountsOnly s t) (k : CountsOnly t u) : CountsOnly s u := by
  unfold CountsOnly at *
  rw [k, h]

/-- A fold of steps that only count only counts. -/
theorem CountsOnly.fold {α : Type} (l : List α) (f : State → α → State) (h : ∀ s a, CountsOnly s (f s a)) (s : State) :
    CountsOnly s (l.foldl f s) := by
  induction l generalizing s with
  | nil => exact .refl s
  | cons a l ih => exact (h s a).trans (ih (f s a))

theorem wr_counts (s : State) (r : Reg) (v : Word) : CountsOnly s (s.wr r v) := rfl
theorem fs_counts (s : State) (f : Fld) (n : Nat) : CountsOnly s (s.fs f n) := rfl
theorem inc_counts (s : State) (r : Reg) (n : Nat) : CountsOnly s (s.inc r n) := rfl

theorem putEvent_counts (s : State) (code : Nat) (d : List Byte) (cs : List (List Byte)) (p : Bool) :
    CountsOnly s (s.putEvent code d cs p) := by
  unfold State.putEvent
  dsimp only
  split <;> rfl

theorem limited_counts (s : State) (code unit n first : Nat) (mk : Nat → Nat → List Byte) :
    CountsOnly s (s.limited code unit n first mk) := by
  have h : ∀ l d, CountsOnly s ((s.setLimiter code unit l).putEvent code d) := fun l d =>
    (show CountsOnly s (s.setLimiter code unit l) from rfl).trans (putEvent_counts _ _ _ _ _)
  unfold State.limited
  dsimp only
  repeat' split
  all_goals first | exact h _ _ | rfl

theorem fcAdd_counts (s : State) (m n : Nat) : CountsOnly s (s.fcAdd m n) := by
  unfold State.fcAdd
  dsimp only
  repeat' split
  all_goals
    first
      | rfl
      | (refine CountsOnly.trans ?_ (limited_counts _ _ _ _ _ _); rfl)

theorem fcCount_counts (s : State) (e : PmuEvent) (n : Nat) : CountsOnly s (s.fcCount e n) := by
  unfold State.fcCount
  split
  · refine CountsOnly.fold _ _ (fun s m => ?_) s
    split
    · exact fcAdd_counts s m n
    · rfl
  · rfl

theorem evc_counts (s : State) (n k : Nat) : CountsOnly s (s.evc n k) := by
  unfold State.evc
  dsimp only
  split
  · rfl
  · refine CountsOnly.trans ?_ (limited_counts _ _ _ _ _ _)
    rfl

theorem log_counts (s : State) (code : Nat) (d : List Byte) (cs : List (List Byte)) : CountsOnly s (s.log code d cs) :=
  (putEvent_counts _ _ _ _ _).trans (fcCount_counts _ _ _)

theorem logLimited_counts (s : State) (code unit n first : Nat) (mk : Nat → Nat → List Byte) :
    CountsOnly s (s.logLimited code unit n first mk) := by
  have h := limited_counts s code unit n first mk
  have k := h.trans (fcCount_counts _ { kind := 9, masters := eventMaster code, code := some code } 1)
  unfold State.logLimited
  dsimp only
  repeat' split
  all_goals first | exact k | exact h

/-- Counting an instruction of an engine only counts. -/
theorem countEngine_counts (s : State) (slice eng : Nat) : CountsOnly s (s.countEngine slice eng) :=
  ((evc_counts _ _ _).trans (evc_counts _ _ _)).trans (fcCount_counts _ _ _)

/-- Counting an instruction of a context of the Glasshouse only counts. -/
theorem countCore_counts (s : State) (c : Nat) : CountsOnly s (s.countCore c) := fcCount_counts _ _ _

end Sys2Proof.Laws
end

