-- ==== Sys2Proof/Laws/Exec.lean ====
section
/-! SUPPORT. What `exec` calls for each command: one lemma per constructor, so that no proof unfolds the dispatch. -/

namespace Sys2Proof.Machine

open Sys2Proof

@[simp] theorem exec_frameStartReceived (s : State) :
    ∀ port frame, exec (.frameStartReceived port frame) s = execFrameStartReceived port frame s :=
  fun _ _ => rfl
@[simp] theorem exec_frameEnd (s : State) :
    ∀ port pcsErr fecCorr fecUncorr, exec (.frameEnd port pcsErr fecCorr fecUncorr) s = execFrameEnd port pcsErr fecCorr fecUncorr s :=
  fun _ _ _ _ => rfl
@[simp] theorem exec_cozyDrain (s : State) : ∀ slice, exec (.cozyDrain slice) s = execCozyDrain slice s := fun _ => rfl
@[simp] theorem exec_wakeComplete (s : State) :
    ∀ slice, exec (.wakeComplete slice) s = execWakeComplete slice s :=
  fun _ => rfl
@[simp] theorem exec_dozeEntry (s : State) : ∀ slice, exec (.dozeEntry slice) s = execDozeEntry slice s := fun _ => rfl
@[simp] theorem exec_restEntry (s : State) : ∀ slice, exec (.restEntry slice) s = execRestEntry slice s := fun _ => rfl
@[simp] theorem exec_dormantEntry (s : State) :
    ∀ slice, exec (.dormantEntry slice) s = execDormantEntry slice s :=
  fun _ => rfl
@[simp] theorem exec_earlyWake (s : State) : ∀ src, exec (.earlyWake src) s = execEarlyWake src s := fun _ => rfl
@[simp] theorem exec_parseHead (s : State) :
    ∀ slice reserved, exec (.parseHead slice reserved) s = execParseHead slice reserved s :=
  fun _ _ => rfl
@[simp] theorem exec_flowRequest (s : State) :
    ∀ pid errors, exec (.flowRequest pid errors) s = execFlowRequest pid errors s :=
  fun _ _ => rfl
@[simp] theorem exec_ruleLookup (s : State) : ∀ pid, exec (.ruleLookup pid) s = execRuleLookup pid s := fun _ => rfl
@[simp] theorem exec_cacheMissService (s : State) :
    ∀ op errors, exec (.cacheMissService op errors) s = execCacheMissService op errors s :=
  fun _ _ => rfl
@[simp] theorem exec_repairTimeout (s : State) : ∀ op, exec (.repairTimeout op) s = execRepairTimeout op s := fun _ => rfl
@[simp] theorem exec_tagLineRebuild (s : State) :
    ∀ bucket errors, exec (.tagLineRebuild bucket errors) s = execTagLineRebuild bucket errors s :=
  fun _ _ => rfl
@[simp] theorem exec_dispatch (s : State) : ∀ pid, exec (.dispatch pid) s = execDispatch pid s := fun _ => rfl
@[simp] theorem exec_creationService (s : State) : exec (.creationService) s = execCreationService s := rfl
@[simp] theorem exec_batchWriteBack (s : State) : ∀ op, exec (.batchWriteBack op) s = execBatchWriteBack op s := fun _ => rfl
@[simp] theorem exec_schedulerSelection (s : State) :
    ∀ port fault, exec (.schedulerSelection port fault) s = execSchedulerSelection port fault s :=
  fun _ _ => rfl
@[simp] theorem exec_frameTransmit (s : State) :
    ∀ port fault, exec (.frameTransmit port fault) s = execFrameTransmit port fault s :=
  fun _ _ => rfl
@[simp] theorem exec_ageSweep (s : State) : exec (.ageSweep) s = execAgeSweep s := rfl
@[simp] theorem exec_shaperRefill (s : State) : exec (.shaperRefill) s = execShaperRefill s := rfl
@[simp] theorem exec_gateEntryBoundary (s : State) :
    ∀ port, exec (.gateEntryBoundary port) s = execGateEntryBoundary port s :=
  fun _ => rfl
@[simp] theorem exec_gateSwitch (s : State) : ∀ port, exec (.gateSwitch port) s = execGateSwitch port s := fun _ => rfl
@[simp] theorem exec_macControlFrame (s : State) :
    ∀ port frame pcsErr fecCorr fecUncorr, exec (.macControlFrame port frame pcsErr fecCorr fecUncorr) s = execMacControlFrame port frame pcsErr fecCorr fecUncorr s :=
  fun _ _ _ _ _ => rfl
@[simp] theorem exec_pauseExpiry (s : State) :
    ∀ port pri, exec (.pauseExpiry port pri) s = execPauseExpiry port pri s :=
  fun _ _ => rfl
@[simp] theorem exec_xoffRepeat (s : State) :
    ∀ port pri, exec (.xoffRepeat port pri) s = execXoffRepeat port pri s :=
  fun _ _ => rfl
@[simp] theorem exec_pauseWatchdog (s : State) :
    ∀ port pri, exec (.pauseWatchdog port pri) s = execPauseWatchdog port pri s :=
  fun _ _ => rfl
@[simp] theorem exec_pauseWatchdogEnd (s : State) :
    ∀ port pri, exec (.pauseWatchdogEnd port pri) s = execPauseWatchdogEnd port pri s :=
  fun _ _ => rfl
@[simp] theorem exec_lpiEntry (s : State) :
    ∀ port partner, exec (.lpiEntry port partner) s = execLpiEntry port partner s :=
  fun _ _ => rfl
@[simp] theorem exec_lpiWakeDone (s : State) :
    ∀ port partner, exec (.lpiWakeDone port partner) s = execLpiWakeDone port partner s :=
  fun _ _ => rfl
@[simp] theorem exec_modulePinChange (s : State) :
    ∀ site pin level, exec (.modulePinChange site pin level) s = execModulePinChange site pin level s :=
  fun _ _ _ => rfl
@[simp] theorem exec_pcsLockChange (s : State) :
    ∀ port pcs fec, exec (.pcsLockChange port pcs fec) s = execPcsLockChange port pcs fec s :=
  fun _ _ _ => rfl
@[simp] theorem exec_linkDownDeclared (s : State) :
    ∀ port, exec (.linkDownDeclared port) s = execLinkDownDeclared port s :=
  fun _ => rfl
@[simp] theorem exec_linkUpDeclared (s : State) :
    ∀ port, exec (.linkUpDeclared port) s = execLinkUpDeclared port s :=
  fun _ => rfl
@[simp] theorem exec_holdExpiry (s : State) : ∀ port, exec (.holdExpiry port) s = execHoldExpiry port s := fun _ => rfl
@[simp] theorem exec_prtCfgWrite (s : State) :
    ∀ req port value, exec (.prtCfgWrite req port value) s = execPrtCfgWrite req port value s :=
  fun _ _ _ => rfl
@[simp] theorem exec_i2cTransaction (s : State) :
    ∀ req master value, exec (.i2cTransaction req master value) s = execI2cTransaction req master value s :=
  fun _ _ _ => rfl
@[simp] theorem exec_i2cDone (s : State) :
    ∀ master count nack data, exec (.i2cDone master count nack data) s = execI2cDone master count nack data s :=
  fun _ _ _ _ => rfl
@[simp] theorem exec_i2cTimeout (s : State) : ∀ master, exec (.i2cTimeout master) s = execI2cTimeout master s := fun _ => rfl
@[simp] theorem exec_hashTest (s : State) :
    ∀ req value, exec (.hashTest req value) s = execHashTest req value s :=
  fun _ _ => rfl
@[simp] theorem exec_ruleRead (s : State) :
    ∀ target slice shadow index, exec (.ruleRead target slice shadow index) s = execRuleRead target slice shadow index s :=
  fun _ _ _ _ => rfl
@[simp] theorem exec_writeShadow (s : State) :
    ∀ target index, exec (.writeShadow target index) s = execWriteShadow target index s :=
  fun _ _ => rfl
@[simp] theorem exec_copyActiveToShadow (s : State) : exec (.copyActiveToShadow) s = execCopyActiveToShadow s := rfl
@[simp] theorem exec_ruleCopyComplete (s : State) : exec (.ruleCopyComplete) s = execRuleCopyComplete s := rfl
@[simp] theorem exec_readAndClearHitCounter (s : State) :
    ∀ target slice index, exec (.readAndClearHitCounter target slice index) s = execReadAndClearHitCounter target slice index s :=
  fun _ _ _ => rfl
@[simp] theorem exec_swap (s : State) : exec (.swap) s = execSwap s := rfl
@[simp] theorem exec_flowClockTick (s : State) : exec (.flowClockTick) s = execFlowClockTick s := rfl
@[simp] theorem exec_creationTokenRefill (s : State) : exec (.creationTokenRefill) s = execCreationTokenRefill s := rfl
@[simp] theorem exec_pruneVisit (s : State) : exec (.pruneVisit) s = execPruneVisit s := rfl
@[simp] theorem exec_pruneDelete (s : State) : ∀ op, exec (.pruneDelete op) s = execPruneDelete op s := fun _ => rfl
@[simp] theorem exec_weederVisit (s : State) :
    ∀ block errors, exec (.weederVisit block errors) s = execWeederVisit block errors s :=
  fun _ _ => rfl
@[simp] theorem exec_correctionEntryExpiry (s : State) :
    ∀ page, exec (.correctionEntryExpiry page) s = execCorrectionEntryExpiry page s :=
  fun _ => rfl
@[simp] theorem exec_pageRetirement (s : State) :
    ∀ errors, exec (.pageRetirement errors) s = execPageRetirement errors s :=
  fun _ => rfl
@[simp] theorem exec_retire (s : State) : ∀ bank, exec (.retire bank) s = execRetire bank s := fun _ => rfl
@[simp] theorem exec_bankRetirementComplete (s : State) :
    ∀ errors, exec (.bankRetirementComplete errors) s = execBankRetirementComplete errors s :=
  fun _ => rfl
@[simp] theorem exec_zoneEntryRead (s : State) :
    ∀ zone, exec (.zoneEntryRead zone) s = execZoneEntryRead zone s :=
  fun _ => rfl
@[simp] theorem exec_zoneEntryWrite (s : State) :
    ∀ zone, exec (.zoneEntryWrite zone) s = execZoneEntryWrite zone s :=
  fun _ => rfl
@[simp] theorem exec_fleClockLoRead (s : State) : exec (.fleClockLoRead) s = execFleClockLoRead s := rfl
@[simp] theorem exec_add (s : State) :
    ∀ a rd rs1 rs2, exec (.add a rd rs1 rs2) s = execAdd a rd rs1 rs2 s :=
  fun _ _ _ _ => rfl
@[simp] theorem exec_sub (s : State) :
    ∀ a rd rs1 rs2, exec (.sub a rd rs1 rs2) s = execSub a rd rs1 rs2 s :=
  fun _ _ _ _ => rfl
@[simp] theorem exec_and (s : State) :
    ∀ a rd rs1 rs2, exec (.and a rd rs1 rs2) s = execAnd a rd rs1 rs2 s :=
  fun _ _ _ _ => rfl
@[simp] theorem exec_or (s : State) : ∀ a rd rs1 rs2, exec (.or a rd rs1 rs2) s = execOr a rd rs1 rs2 s := fun _ _ _ _ => rfl
@[simp] theorem exec_xor (s : State) :
    ∀ a rd rs1 rs2, exec (.xor a rd rs1 rs2) s = execXor a rd rs1 rs2 s :=
  fun _ _ _ _ => rfl
@[simp] theorem exec_shl (s : State) :
    ∀ a rd rs1 rs2, exec (.shl a rd rs1 rs2) s = execShl a rd rs1 rs2 s :=
  fun _ _ _ _ => rfl
@[simp] theorem exec_shr (s : State) :
    ∀ a rd rs1 rs2, exec (.shr a rd rs1 rs2) s = execShr a rd rs1 rs2 s :=
  fun _ _ _ _ => rfl
@[simp] theorem exec_sar (s : State) :
    ∀ a rd rs1 rs2, exec (.sar a rd rs1 rs2) s = execSar a rd rs1 rs2 s :=
  fun _ _ _ _ => rfl
@[simp] theorem exec_clt (s : State) :
    ∀ a rd rs1 rs2, exec (.clt a rd rs1 rs2) s = execClt a rd rs1 rs2 s :=
  fun _ _ _ _ => rfl
@[simp] theorem exec_cltu (s : State) :
    ∀ a rd rs1 rs2, exec (.cltu a rd rs1 rs2) s = execCltu a rd rs1 rs2 s :=
  fun _ _ _ _ => rfl
@[simp] theorem exec_mul (s : State) :
    ∀ a rd rs1 rs2, exec (.mul a rd rs1 rs2) s = execMul a rd rs1 rs2 s :=
  fun _ _ _ _ => rfl
@[simp] theorem exec_mulhi (s : State) :
    ∀ a rd rs1 rs2, exec (.mulhi a rd rs1 rs2) s = execMulhi a rd rs1 rs2 s :=
  fun _ _ _ _ => rfl
@[simp] theorem exec_umin (s : State) :
    ∀ a rd rs1 rs2, exec (.umin a rd rs1 rs2) s = execUmin a rd rs1 rs2 s :=
  fun _ _ _ _ => rfl
@[simp] theorem exec_umax (s : State) :
    ∀ a rd rs1 rs2, exec (.umax a rd rs1 rs2) s = execUmax a rd rs1 rs2 s :=
  fun _ _ _ _ => rfl
@[simp] theorem exec_lzc (s : State) :
    ∀ a rd rs1 rs2, exec (.lzc a rd rs1 rs2) s = execLzc a rd rs1 rs2 s :=
  fun _ _ _ _ => rfl
@[simp] theorem exec_popcnt (s : State) :
    ∀ a rd rs1 rs2, exec (.popcnt a rd rs1 rs2) s = execPopcnt a rd rs1 rs2 s :=
  fun _ _ _ _ => rfl
@[simp] theorem exec_addk (s : State) :
    ∀ a rd rs1 imm, exec (.addk a rd rs1 imm) s = execAddk a rd rs1 imm s :=
  fun _ _ _ _ => rfl
@[simp] theorem exec_andk (s : State) :
    ∀ a rd rs1 imm, exec (.andk a rd rs1 imm) s = execAndk a rd rs1 imm s :=
  fun _ _ _ _ => rfl
@[simp] theorem exec_ork (s : State) :
    ∀ a rd rs1 imm, exec (.ork a rd rs1 imm) s = execOrk a rd rs1 imm s :=
  fun _ _ _ _ => rfl
@[simp] theorem exec_xork (s : State) :
    ∀ a rd rs1 imm, exec (.xork a rd rs1 imm) s = execXork a rd rs1 imm s :=
  fun _ _ _ _ => rfl
@[simp] theorem exec_shlk (s : State) :
    ∀ a rd rs1 imm, exec (.shlk a rd rs1 imm) s = execShlk a rd rs1 imm s :=
  fun _ _ _ _ => rfl
@[simp] theorem exec_shrk (s : State) :
    ∀ a rd rs1 imm, exec (.shrk a rd rs1 imm) s = execShrk a rd rs1 imm s :=
  fun _ _ _ _ => rfl
@[simp] theorem exec_sark (s : State) :
    ∀ a rd rs1 imm, exec (.sark a rd rs1 imm) s = execSark a rd rs1 imm s :=
  fun _ _ _ _ => rfl
@[simp] theorem exec_cltk (s : State) :
    ∀ a rd rs1 imm, exec (.cltk a rd rs1 imm) s = execCltk a rd rs1 imm s :=
  fun _ _ _ _ => rfl
@[simp] theorem exec_cltuk (s : State) :
    ∀ a rd rs1 imm, exec (.cltuk a rd rs1 imm) s = execCltuk a rd rs1 imm s :=
  fun _ _ _ _ => rfl
@[simp] theorem exec_insh (s : State) :
    ∀ a rd sh imm, exec (.insh a rd sh imm) s = execInsh a rd sh imm s :=
  fun _ _ _ _ => rfl
@[simp] theorem exec_fxt (s : State) :
    ∀ a rd rs1 pos lenM1, exec (.fxt a rd rs1 pos lenM1) s = execFxt a rd rs1 pos lenM1 s :=
  fun _ _ _ _ _ => rfl
@[simp] theorem exec_fdp (s : State) :
    ∀ a rd rs1 pos lenM1, exec (.fdp a rd rs1 pos lenM1) s = execFdp a rd rs1 pos lenM1 s :=
  fun _ _ _ _ _ => rfl
@[simp] theorem exec_mfpc (s : State) :
    ∀ a rd rs1 imm, exec (.mfpc a rd rs1 imm) s = execMfpc a rd rs1 imm s :=
  fun _ _ _ _ => rfl
@[simp] theorem exec_mtpc (s : State) :
    ∀ a rd rs1 imm, exec (.mtpc a rd rs1 imm) s = execMtpc a rd rs1 imm s :=
  fun _ _ _ _ => rfl
@[simp] theorem exec_ldb (s : State) :
    ∀ a rd rs1 imm, exec (.ldb a rd rs1 imm) s = execLdb a rd rs1 imm s :=
  fun _ _ _ _ => rfl
@[simp] theorem exec_ldh (s : State) :
    ∀ a rd rs1 imm, exec (.ldh a rd rs1 imm) s = execLdh a rd rs1 imm s :=
  fun _ _ _ _ => rfl
@[simp] theorem exec_ldw (s : State) :
    ∀ a rd rs1 imm, exec (.ldw a rd rs1 imm) s = execLdw a rd rs1 imm s :=
  fun _ _ _ _ => rfl
@[simp] theorem exec_ldd (s : State) :
    ∀ a rd rs1 imm, exec (.ldd a rd rs1 imm) s = execLdd a rd rs1 imm s :=
  fun _ _ _ _ => rfl
@[simp] theorem exec_stb (s : State) :
    ∀ a rs1 rs2 imm, exec (.stb a rs1 rs2 imm) s = execStb a rs1 rs2 imm s :=
  fun _ _ _ _ => rfl
@[simp] theorem exec_sth (s : State) :
    ∀ a rs1 rs2 imm, exec (.sth a rs1 rs2 imm) s = execSth a rs1 rs2 imm s :=
  fun _ _ _ _ => rfl
@[simp] theorem exec_stw (s : State) :
    ∀ a rs1 rs2 imm, exec (.stw a rs1 rs2 imm) s = execStw a rs1 rs2 imm s :=
  fun _ _ _ _ => rfl
@[simp] theorem exec_std (s : State) :
    ∀ a rs1 rs2 imm, exec (.std a rs1 rs2 imm) s = execStd a rs1 rs2 imm s :=
  fun _ _ _ _ => rfl
@[simp] theorem exec_brEq (s : State) :
    ∀ a rs1 rs2 off, exec (.brEq a rs1 rs2 off) s = execBrEq a rs1 rs2 off s :=
  fun _ _ _ _ => rfl
@[simp] theorem exec_brNe (s : State) :
    ∀ a rs1 rs2 off, exec (.brNe a rs1 rs2 off) s = execBrNe a rs1 rs2 off s :=
  fun _ _ _ _ => rfl
@[simp] theorem exec_brLts (s : State) :
    ∀ a rs1 rs2 off, exec (.brLts a rs1 rs2 off) s = execBrLts a rs1 rs2 off s :=
  fun _ _ _ _ => rfl
@[simp] theorem exec_brGes (s : State) :
    ∀ a rs1 rs2 off, exec (.brGes a rs1 rs2 off) s = execBrGes a rs1 rs2 off s :=
  fun _ _ _ _ => rfl
@[simp] theorem exec_brLtu (s : State) :
    ∀ a rs1 rs2 off, exec (.brLtu a rs1 rs2 off) s = execBrLtu a rs1 rs2 off s :=
  fun _ _ _ _ => rfl
@[simp] theorem exec_brGeu (s : State) :
    ∀ a rs1 rs2 off, exec (.brGeu a rs1 rs2 off) s = execBrGeu a rs1 rs2 off s :=
  fun _ _ _ _ => rfl
@[simp] theorem exec_call (s : State) : ∀ a off, exec (.call a off) s = execCall a off s := fun _ _ => rfl
@[simp] theorem exec_jmpr (s : State) :
    ∀ a rd rs1 imm, exec (.jmpr a rd rs1 imm) s = execJmpr a rd rs1 imm s :=
  fun _ _ _ _ => rfl
@[simp] theorem exec_fcreate (s : State) :
    ∀ a rd rs1 rs2, exec (.fcreate a rd rs1 rs2) s = execFcreate a rd rs1 rs2 s :=
  fun _ _ _ _ => rfl
@[simp] theorem exec_fdelete (s : State) :
    ∀ a rd rs1 rs2, exec (.fdelete a rd rs1 rs2) s = execFdelete a rd rs1 rs2 s :=
  fun _ _ _ _ => rfl
@[simp] theorem exec_police (s : State) :
    ∀ a rd rs1 rs2, exec (.police a rd rs1 rs2) s = execPolice a rd rs1 rs2 s :=
  fun _ _ _ _ => rfl
@[simp] theorem exec_l2 (s : State) : ∀ a rd rs1 rs2, exec (.l2 a rd rs1 rs2) s = execL2 a rd rs1 rs2 s := fun _ _ _ _ => rfl
@[simp] theorem exec_lpm4 (s : State) :
    ∀ a rd rs1 rs2, exec (.lpm4 a rd rs1 rs2) s = execLpm4 a rd rs1 rs2 s :=
  fun _ _ _ _ => rfl
@[simp] theorem exec_lpm6 (s : State) :
    ∀ a rd rs1 rs2, exec (.lpm6 a rd rs1 rs2) s = execLpm6 a rd rs1 rs2 s :=
  fun _ _ _ _ => rfl
@[simp] theorem exec_nhop (s : State) :
    ∀ a rd rs1 rs2, exec (.nhop a rd rs1 rs2) s = execNhop a rd rs1 rs2 s :=
  fun _ _ _ _ => rfl
@[simp] theorem exec_ecmp (s : State) :
    ∀ a rd rs1 rs2, exec (.ecmp a rd rs1 rs2) s = execEcmp a rd rs1 rs2 s :=
  fun _ _ _ _ => rfl
@[simp] theorem exec_natmap (s : State) :
    ∀ a rd rs1 rs2, exec (.natmap a rd rs1 rs2) s = execNatmap a rd rs1 rs2 s :=
  fun _ _ _ _ => rfl
@[simp] theorem exec_natrel (s : State) :
    ∀ a rd rs1 rs2, exec (.natrel a rd rs1 rs2) s = execNatrel a rd rs1 rs2 s :=
  fun _ _ _ _ => rfl
@[simp] theorem exec_lbsel (s : State) :
    ∀ a rd rs1 rs2, exec (.lbsel a rd rs1 rs2) s = execLbsel a rd rs1 rs2 s :=
  fun _ _ _ _ => rfl
@[simp] theorem exec_setq (s : State) :
    ∀ a rd rs1 rs2, exec (.setq a rd rs1 rs2) s = execSetq a rd rs1 rs2 s :=
  fun _ _ _ _ => rfl
@[simp] theorem exec_recirc (s : State) :
    ∀ a rd rs1 rs2, exec (.recirc a rd rs1 rs2) s = execRecirc a rd rs1 rs2 s :=
  fun _ _ _ _ => rfl
@[simp] theorem exec_tocpu (s : State) :
    ∀ a rd rs1 rs2, exec (.tocpu a rd rs1 rs2) s = execTocpu a rd rs1 rs2 s :=
  fun _ _ _ _ => rfl
@[simp] theorem exec_drop (s : State) :
    ∀ a rd rs1 rs2, exec (.drop a rd rs1 rs2) s = execDrop a rd rs1 rs2 s :=
  fun _ _ _ _ => rfl
@[simp] theorem exec_mirror (s : State) :
    ∀ a rd rs1 rs2, exec (.mirror a rd rs1 rs2) s = execMirror a rd rs1 rs2 s :=
  fun _ _ _ _ => rfl
@[simp] theorem exec_tsreq (s : State) :
    ∀ a rd rs1 rs2, exec (.tsreq a rd rs1 rs2) s = execTsreq a rd rs1 rs2 s :=
  fun _ _ _ _ => rfl
@[simp] theorem exec_edit (s : State) :
    ∀ a rd rs1 rs2, exec (.edit a rd rs1 rs2) s = execEdit a rd rs1 rs2 s :=
  fun _ _ _ _ => rfl
@[simp] theorem exec_exit (s : State) :
    ∀ a rd rs1 rs2, exec (.exit a rd rs1 rs2) s = execExit a rd rs1 rs2 s :=
  fun _ _ _ _ => rfl
@[simp] theorem exec_budgetExceeded (s : State) :
    ∀ slice engine ctx, exec (.budgetExceeded slice engine ctx) s = execBudgetExceeded slice engine ctx s :=
  fun _ _ _ => rfl
@[simp] theorem exec_unitReply (s : State) :
    ∀ slice engine ctx outcome, exec (.unitReply slice engine ctx outcome) s = execUnitReply slice engine ctx outcome s :=
  fun _ _ _ _ => rfl
@[simp] theorem exec_tentativeTimeout (s : State) :
    ∀ slice engine ctx, exec (.tentativeTimeout slice engine ctx) s = execTentativeTimeout slice engine ctx s :=
  fun _ _ _ => rfl
@[simp] theorem exec_programEntryRead (s : State) :
    ∀ slice index, exec (.programEntryRead slice index) s = execProgramEntryRead slice index s :=
  fun _ _ => rfl
@[simp] theorem exec_programEntryWrite (s : State) :
    ∀ index, exec (.programEntryWrite index) s = execProgramEntryWrite index s :=
  fun _ => rfl
@[simp] theorem exec_imemDataWrite (s : State) :
    ∀ value, exec (.imemDataWrite value) s = execImemDataWrite value s :=
  fun _ => rfl
@[simp] theorem exec_imemDataRead (s : State) : exec (.imemDataRead) s = execImemDataRead s := rfl
@[simp] theorem exec_mark (s : State) : exec (.mark) s = execMark s := rfl
@[simp] theorem exec_engineQuarantine (s : State) :
    ∀ slice engine, exec (.engineQuarantine slice engine) s = execEngineQuarantine slice engine s :=
  fun _ _ => rfl
@[simp] theorem exec_engineRelease (s : State) :
    ∀ slice engine, exec (.engineRelease slice engine) s = execEngineRelease slice engine s :=
  fun _ _ => rfl
@[simp] theorem exec_patchDataWrite (s : State) :
    ∀ req value, exec (.patchDataWrite req value) s = execPatchDataWrite req value s :=
  fun _ _ => rfl
@[simp] theorem exec_install (s : State) : ∀ req, exec (.install req) s = execInstall req s := fun _ => rfl
@[simp] theorem exec_patchInstalled (s : State) : exec (.patchInstalled) s = execPatchInstalled s := rfl
@[simp] theorem exec_clear (s : State) : ∀ req, exec (.clear req) s = execClear req s := fun _ => rfl
@[simp] theorem exec_poolEnWrite (s : State) :
    ∀ req pool addrReg value, exec (.poolEnWrite req pool addrReg value) s = execPoolEnWrite req pool addrReg value s :=
  fun _ _ _ _ => rfl
@[simp] theorem exec_xlbSweep (s : State) : exec (.xlbSweep) s = execXlbSweep s := rfl
@[simp] theorem exec_lbRead (s : State) :
    ∀ target group index, exec (.lbRead target group index) s = execLbRead target group index s :=
  fun _ _ _ => rfl
@[simp] theorem exec_lbWrite (s : State) :
    ∀ target group index, exec (.lbWrite target group index) s = execLbWrite target group index s :=
  fun _ _ _ => rfl
@[simp] theorem exec_build (s : State) : ∀ group, exec (.build group) s = execBuild group s := fun _ => rfl
@[simp] theorem exec_buildComplete (s : State) : exec (.buildComplete) s = execBuildComplete s := rfl
@[simp] theorem exec_mappingFind (s : State) :
    ∀ addr pport, exec (.mappingFind addr pport) s = execMappingFind addr pport s :=
  fun _ _ => rfl
@[simp] theorem exec_mappingFree (s : State) :
    ∀ addr pport, exec (.mappingFree addr pport) s = execMappingFree addr pport s :=
  fun _ _ => rfl
@[simp] theorem exec_policerRead (s : State) : ∀ index, exec (.policerRead index) s = execPolicerRead index s := fun _ => rfl
@[simp] theorem exec_policerWrite (s : State) :
    ∀ index, exec (.policerWrite index) s = execPolicerWrite index s :=
  fun _ => rfl
@[simp] theorem exec_learnRequest (s : State) : ∀ bad, exec (.learnRequest bad) s = execLearnRequest bad s := fun _ => rfl
@[simp] theorem exec_l2AgeVisit (s : State) :
    ∀ bucket bad, exec (.l2AgeVisit bucket bad) s = execL2AgeVisit bucket bad s :=
  fun _ _ => rfl
@[simp] theorem exec_flushWalk (s : State) : ∀ bad, exec (.flushWalk bad) s = execFlushWalk bad s := fun _ => rfl
@[simp] theorem exec_search (s : State) :
    ∀ table bank index bad, exec (.search table bank index bad) s = execSearch table bank index bad s :=
  fun _ _ _ _ => rfl
@[simp] theorem exec_next (s : State) :
    ∀ table bank index bad, exec (.next table bank index bad) s = execNext table bank index bad s :=
  fun _ _ _ _ => rfl
@[simp] theorem exec_insert (s : State) :
    ∀ table bank index bad, exec (.insert table bank index bad) s = execInsert table bank index bad s :=
  fun _ _ _ _ => rfl
@[simp] theorem exec_delete (s : State) :
    ∀ table bank index bad, exec (.delete table bank index bad) s = execDelete table bank index bad s :=
  fun _ _ _ _ => rfl
@[simp] theorem exec_fwdFlush (s : State) :
    ∀ table bank index, exec (.fwdFlush table bank index) s = execFwdFlush table bank index s :=
  fun _ _ _ => rfl
@[simp] theorem exec_fwdCopy (s : State) :
    ∀ table bank index, exec (.fwdCopy table bank index) s = execFwdCopy table bank index s :=
  fun _ _ _ => rfl
@[simp] theorem exec_fwdCopyComplete (s : State) :
    ∀ bad, exec (.fwdCopyComplete bad) s = execFwdCopyComplete bad s :=
  fun _ => rfl
@[simp] theorem exec_fwdRead (s : State) :
    ∀ table bank index, exec (.fwdRead table bank index) s = execFwdRead table bank index s :=
  fun _ _ _ => rfl
@[simp] theorem exec_flip (s : State) : ∀ tables, exec (.flip tables) s = execFlip tables s := fun _ => rfl
@[simp] theorem exec_cellFree (s : State) :
    ∀ slice code cell gen, exec (.cellFree slice code cell gen) s = execCellFree slice code cell gen s :=
  fun _ _ _ _ => rfl
@[simp] theorem exec_freeListWalk (s : State) : exec (.freeListWalk) s = execFreeListWalk s := rfl
@[simp] theorem exec_auditCycle (s : State) : exec (.auditCycle) s = execAuditCycle s := rfl
@[simp] theorem exec_spillRunWrite (s : State) :
    ∀ pool, exec (.spillRunWrite pool) s = execSpillRunWrite pool s :=
  fun _ => rfl
@[simp] theorem exec_spillReadBack (s : State) :
    ∀ queue errors, exec (.spillReadBack queue errors) s = execSpillReadBack queue errors s :=
  fun _ _ => rfl
@[simp] theorem exec_ownerRead (s : State) : ∀ owner, exec (.ownerRead owner) s = execOwnerRead owner s := fun _ => rfl
@[simp] theorem exec_ownerWrite (s : State) : ∀ owner, exec (.ownerWrite owner) s = execOwnerWrite owner s := fun _ => rfl
@[simp] theorem exec_queueRead (s : State) : ∀ queue, exec (.queueRead queue) s = execQueueRead queue s := fun _ => rfl
@[simp] theorem exec_queueWrite (s : State) : ∀ queue, exec (.queueWrite queue) s = execQueueWrite queue s := fun _ => rfl
@[simp] theorem exec_nodeRead (s : State) : ∀ node, exec (.nodeRead node) s = execNodeRead node s := fun _ => rfl
@[simp] theorem exec_nodeWrite (s : State) : ∀ node, exec (.nodeWrite node) s = execNodeWrite node s := fun _ => rfl
@[simp] theorem exec_configChange (s : State) : ∀ port, exec (.configChange port) s = execConfigChange port s := fun _ => rfl
@[simp] theorem exec_gateEnWrite (s : State) :
    ∀ req port value, exec (.gateEnWrite req port value) s = execGateEnWrite req port value s :=
  fun _ _ _ => rfl
@[simp] theorem exec_listEntryRead (s : State) :
    ∀ port oper index, exec (.listEntryRead port oper index) s = execListEntryRead port oper index s :=
  fun _ _ _ => rfl
@[simp] theorem exec_listEntryWrite (s : State) :
    ∀ port oper index, exec (.listEntryWrite port oper index) s = execListEntryWrite port oper index s :=
  fun _ _ _ => rfl
@[simp] theorem exec_timeStepGo (s : State) : ∀ mode, exec (.timeStepGo mode) s = execTimeStepGo mode s := fun _ => rfl
@[simp] theorem exec_timeStepApplied (s : State) : exec (.timeStepApplied) s = execTimeStepApplied s := rfl
@[simp] theorem exec_timNowNsRead (s : State) : exec (.timNowNsRead) s = execTimNowNsRead s := rfl
@[simp] theorem exec_tsqW0Read (s : State) : ∀ slice, exec (.tsqW0Read slice) s = execTsqW0Read slice s := fun _ => rfl
@[simp] theorem exec_ppsOutRise (s : State) : exec (.ppsOutRise) s = execPpsOutRise s := rfl
@[simp] theorem exec_ppsOutFall (s : State) : exec (.ppsOutFall) s = execPpsOutFall s := rfl
@[simp] theorem exec_ppsInCapture (s : State) : exec (.ppsInCapture) s = execPpsInCapture s := rfl
@[simp] theorem exec_trellisEnWrite (s : State) :
    ∀ req value, exec (.trellisEnWrite req value) s = execTrellisEnWrite req value s :=
  fun _ _ => rfl
@[simp] theorem exec_trellisFrameSent (s : State) : exec (.trellisFrameSent) s = execTrellisFrameSent s := rfl
@[simp] theorem exec_trellisFrameReceived (s : State) :
    ∀ lane frame corrected uncorrectable, exec (.trellisFrameReceived lane frame corrected uncorrectable) s = execTrellisFrameReceived lane frame corrected uncorrectable s :=
  fun _ _ _ _ => rfl
@[simp] theorem exec_laneInFrame (s : State) :
    ∀ lane stream, exec (.laneInFrame lane stream) s = execLaneInFrame lane stream s :=
  fun _ _ => rfl
@[simp] theorem exec_laneOutOfFrame (s : State) :
    ∀ lane, exec (.laneOutOfFrame lane) s = execLaneOutOfFrame lane s :=
  fun _ => rfl
@[simp] theorem exec_superframeAlignmentChange (s : State) : exec (.superframeAlignmentChange) s = execSuperframeAlignmentChange s := rfl
@[simp] theorem exec_degWindowEnd (s : State) :
    ∀ counts, exec (.degWindowEnd counts) s = execDegWindowEnd counts s :=
  fun _ => rfl
@[simp] theorem exec_defectDeclared (s : State) :
    ∀ kind, exec (.defectDeclared kind) s = execDefectDeclared kind s :=
  fun _ => rfl
@[simp] theorem exec_defectCleared (s : State) :
    ∀ kind, exec (.defectCleared kind) s = execDefectCleared kind s :=
  fun _ => rfl
@[simp] theorem exec_mdcByteReceived (s : State) :
    ∀ channel byte stop, exec (.mdcByteReceived channel byte stop) s = execMdcByteReceived channel byte stop s :=
  fun _ _ _ => rfl
@[simp] theorem exec_mdcByteSent (s : State) :
    ∀ channel, exec (.mdcByteSent channel) s = execMdcByteSent channel s :=
  fun _ => rfl
@[simp] theorem exec_mdcTxWrite (s : State) :
    ∀ channel byte, exec (.mdcTxWrite channel byte) s = execMdcTxWrite channel byte s :=
  fun _ _ => rfl
@[simp] theorem exec_mdcRxRead (s : State) : ∀ channel, exec (.mdcRxRead channel) s = execMdcRxRead channel s := fun _ => rfl
@[simp] theorem exec_mdcEnWrite (s : State) :
    ∀ req channel value, exec (.mdcEnWrite req channel value) s = execMdcEnWrite req channel value s :=
  fun _ _ _ => rfl
@[simp] theorem exec_graftEnWrite (s : State) :
    ∀ req value, exec (.graftEnWrite req value) s = execGraftEnWrite req value s :=
  fun _ _ => rfl
@[simp] theorem exec_hello (s : State) : ∀ message, exec (.hello message) s = execHello message s := fun _ => rfl
@[simp] theorem exec_reply (s : State) : ∀ message, exec (.reply message) s = execReply message s := fun _ => rfl
@[simp] theorem exec_confirm (s : State) : ∀ message, exec (.confirm message) s = execConfirm message s := fun _ => rfl
@[simp] theorem exec_authTimeout (s : State) : exec (.authTimeout) s = execAuthTimeout s := rfl
@[simp] theorem exec_authRetry (s : State) : exec (.authRetry) s = execAuthRetry s := rfl
@[simp] theorem exec_claims (s : State) : ∀ message, exec (.claims message) s = execClaims message s := fun _ => rfl
@[simp] theorem exec_deltas (s : State) : ∀ message, exec (.deltas message) s = execDeltas message s := fun _ => rfl
@[simp] theorem exec_repairReq (s : State) : ∀ message, exec (.repairReq message) s = execRepairReq message s := fun _ => rfl
@[simp] theorem exec_repairRsp (s : State) : ∀ message, exec (.repairRsp message) s = execRepairRsp message s := fun _ => rfl
@[simp] theorem exec_resyncBegin (s : State) :
    ∀ message, exec (.resyncBegin message) s = execResyncBegin message s :=
  fun _ => rfl
@[simp] theorem exec_purged (s : State) : ∀ message, exec (.purged message) s = execPurged message s := fun _ => rfl
@[simp] theorem exec_resyncWalk (s : State) : exec (.resyncWalk) s = execResyncWalk s := rfl
@[simp] theorem exec_resyncEnd (s : State) : ∀ message, exec (.resyncEnd message) s = execResyncEnd message s := fun _ => rfl
@[simp] theorem exec_handover (s : State) : ∀ message, exec (.handover message) s = execHandover message s := fun _ => rfl
@[simp] theorem exec_heartbeatMissing (s : State) : exec (.heartbeatMissing) s = execHeartbeatMissing s := rfl
@[simp] theorem exec_retransmitTimeout (s : State) : exec (.retransmitTimeout) s = execRetransmitTimeout s := rfl
@[simp] theorem exec_suspendTimeout (s : State) : exec (.suspendTimeout) s = execSuspendTimeout s := rfl
@[simp] theorem exec_witnessFrameSend (s : State) :
    ∀ group, exec (.witnessFrameSend group) s = execWitnessFrameSend group s :=
  fun _ => rfl
@[simp] theorem exec_witnessFrameReceived (s : State) :
    ∀ port frame pcsErr fecCorr fecUncorr, exec (.witnessFrameReceived port frame pcsErr fecCorr fecUncorr) s = execWitnessFrameReceived port frame pcsErr fecCorr fecUncorr s :=
  fun _ _ _ _ _ => rfl
@[simp] theorem exec_witnessAbsent (s : State) :
    ∀ group, exec (.witnessAbsent group) s = execWitnessAbsent group s :=
  fun _ => rfl
@[simp] theorem exec_announcement (s : State) : exec (.announcement) s = execAnnouncement s := rfl
@[simp] theorem exec_graftFlush (s : State) : exec (.graftFlush) s = execGraftFlush s := rfl
@[simp] theorem exec_retry (s : State) : exec (.retry) s = execRetry s := rfl
@[simp] theorem exec_unpair (s : State) : exec (.unpair) s = execUnpair s := rfl
@[simp] theorem exec_zoneModeRead (s : State) : ∀ zone, exec (.zoneModeRead zone) s = execZoneModeRead zone s := fun _ => rfl
@[simp] theorem exec_zoneModeWrite (s : State) :
    ∀ zone paired home group, exec (.zoneModeWrite zone paired home group) s = execZoneModeWrite zone paired home group s :=
  fun _ _ _ _ => rfl
@[simp] theorem exec_handOver (s : State) : ∀ zone, exec (.handOver zone) s = execHandOver zone s := fun _ => rfl
@[simp] theorem exec_take (s : State) : ∀ zone, exec (.take zone) s = execTake zone s := fun _ => rfl
@[simp] theorem exec_grfSeqLoRead (s : State) :
    ∀ which, exec (.grfSeqLoRead which) s = execGrfSeqLoRead which s :=
  fun _ => rfl
@[simp] theorem exec_selfRefreshEntry (s : State) : exec (.selfRefreshEntry) s = execSelfRefreshEntry s := rfl
@[simp] theorem exec_selfRefreshBatch (s : State) : exec (.selfRefreshBatch) s = execSelfRefreshBatch s := rfl
@[simp] theorem exec_supplyWarning (s : State) : ∀ mv, exec (.supplyWarning mv) s = execSupplyWarning mv s := fun _ => rfl
@[simp] theorem exec_supplyWarningCleared (s : State) :
    ∀ mv, exec (.supplyWarningCleared mv) s = execSupplyWarningCleared mv s :=
  fun _ => rfl
@[simp] theorem exec_brownOut (s : State) :
    ∀ supply mv provLow, exec (.brownOut supply mv provLow) s = execBrownOut supply mv provLow s :=
  fun _ _ _ => rfl
@[simp] theorem exec_throttleRaise (s : State) :
    ∀ sensor temp, exec (.throttleRaise sensor temp) s = execThrottleRaise sensor temp s :=
  fun _ _ => rfl
@[simp] theorem exec_throttleLower (s : State) :
    ∀ sensor temp, exec (.throttleLower sensor temp) s = execThrottleLower sensor temp s :=
  fun _ _ => rfl
@[simp] theorem exec_thermalReset (s : State) : exec (.thermalReset) s = execThermalReset s := rfl
@[simp] theorem exec_thermalResetRelease (s : State) :
    ∀ sensor temp, exec (.thermalResetRelease sensor temp) s = execThermalResetRelease sensor temp s :=
  fun _ _ => rfl
@[simp] theorem exec_wakeCompareArm (s : State) :
    ∀ req k value, exec (.wakeCompareArm req k value) s = execWakeCompareArm req k value s :=
  fun _ _ _ => rfl
@[simp] theorem exec_coldReset (s : State) :
    ∀ cause provLow, exec (.coldReset cause provLow) s = execColdReset cause provLow s :=
  fun _ _ => rfl
@[simp] theorem exec_warmReset (s : State) : exec (.warmReset) s = execWarmReset s := rfl
@[simp] theorem exec_startStage (s : State) :
    ∀ still failing, exec (.startStage still failing) s = execStartStage still failing s :=
  fun _ _ => rfl
@[simp] theorem exec_stageComplete (s : State) : exec (.stageComplete) s = execStageComplete s := rfl
@[simp] theorem exec_stageFailure (s : State) :
    ∀ cause, exec (.stageFailure cause) s = execStageFailure cause s :=
  fun _ => rfl
@[simp] theorem exec_startHaltExpiry (s : State) : exec (.startHaltExpiry) s = execStartHaltExpiry s := rfl
@[simp] theorem exec_flashCmdRead (s : State) :
    ∀ req len, exec (.flashCmdRead req len) s = execFlashCmdRead req len s :=
  fun _ _ => rfl
@[simp] theorem exec_pageProgram (s : State) :
    ∀ req len, exec (.pageProgram req len) s = execPageProgram req len s :=
  fun _ _ => rfl
@[simp] theorem exec_sectorErase (s : State) :
    ∀ req len, exec (.sectorErase req len) s = execSectorErase req len s :=
  fun _ _ => rfl
@[simp] theorem exec_flashOpDone (s : State) : ∀ ok, exec (.flashOpDone ok) s = execFlashOpDone ok s := fun _ => rfl
@[simp] theorem exec_flashOpTimeout (s : State) : exec (.flashOpTimeout) s = execFlashOpTimeout s := rfl
@[simp] theorem exec_verify (s : State) :
    ∀ req target, exec (.verify req target) s = execVerify req target s :=
  fun _ _ => rfl
@[simp] theorem exec_apply (s : State) : ∀ req target, exec (.apply req target) s = execApply req target s := fun _ _ => rfl
@[simp] theorem exec_applyComplete (s : State) : exec (.applyComplete) s = execApplyComplete s := rfl
@[simp] theorem exec_invalidate (s : State) :
    ∀ req target, exec (.invalidate req target) s = execInvalidate req target s :=
  fun _ _ => rfl
@[simp] theorem exec_restart (s : State) :
    ∀ req slice, exec (.restart req slice) s = execRestart req slice s :=
  fun _ _ => rfl
@[simp] theorem exec_sliceRestartComplete (s : State) :
    ∀ slice, exec (.sliceRestartComplete slice) s = execSliceRestartComplete slice s :=
  fun _ => rfl
@[simp] theorem exec_nvmRunSeqLoRead (s : State) : exec (.nvmRunSeqLoRead) s = execNvmRunSeqLoRead s := rfl
@[simp] theorem exec_contextRelease (s : State) :
    ∀ req ctx toIdle user, exec (.contextRelease req ctx toIdle user) s = execContextRelease req ctx toIdle user s :=
  fun _ _ _ _ => rfl
@[simp] theorem exec_rdcr (s : State) :
    ∀ a rd rs1 rs2, exec (.rdcr a rd rs1 rs2) s = execRdcr a rd rs1 rs2 s :=
  fun _ _ _ _ => rfl
@[simp] theorem exec_wrcr (s : State) :
    ∀ a rd rs1 rs2, exec (.wrcr a rd rs1 rs2) s = execWrcr a rd rs1 rs2 s :=
  fun _ _ _ _ => rfl
@[simp] theorem exec_setcr (s : State) :
    ∀ a rd rs1 rs2, exec (.setcr a rd rs1 rs2) s = execSetcr a rd rs1 rs2 s :=
  fun _ _ _ _ => rfl
@[simp] theorem exec_clrcr (s : State) :
    ∀ a rd rs1 rs2, exec (.clrcr a rd rs1 rs2) s = execClrcr a rd rs1 rs2 s :=
  fun _ _ _ _ => rfl
@[simp] theorem exec_waitt (s : State) :
    ∀ a rd rs1 rs2, exec (.waitt a rd rs1 rs2) s = execWaitt a rd rs1 rs2 s :=
  fun _ _ _ _ => rfl
@[simp] theorem exec_waite (s : State) :
    ∀ a rd rs1 rs2, exec (.waite a rd rs1 rs2) s = execWaite a rd rs1 rs2 s :=
  fun _ _ _ _ => rfl
@[simp] theorem exec_timerCompareMet (s : State) :
    ∀ ctx, exec (.timerCompareMet ctx) s = execTimerCompareMet ctx s :=
  fun _ => rfl
@[simp] theorem exec_post (s : State) :
    ∀ a rd rs1 rs2, exec (.post a rd rs1 rs2) s = execPost a rd rs1 rs2 s :=
  fun _ _ _ _ => rfl
@[simp] theorem exec_postWaitExpiry (s : State) :
    ∀ ctx, exec (.postWaitExpiry ctx) s = execPostWaitExpiry ctx s :=
  fun _ => rfl
@[simp] theorem exec_taskend (s : State) :
    ∀ a rd rs1 rs2, exec (.taskend a rd rs1 rs2) s = execTaskend a rd rs1 rs2 s :=
  fun _ _ _ _ => rfl
@[simp] theorem exec_taskBind (s : State) : exec (.taskBind) s = execTaskBind s := rfl
@[simp] theorem exec_chres (s : State) :
    ∀ a rd rs1 rs2, exec (.chres a rd rs1 rs2) s = execChres a rd rs1 rs2 s :=
  fun _ _ _ _ => rfl
@[simp] theorem exec_chcom (s : State) :
    ∀ a rd rs1 rs2, exec (.chcom a rd rs1 rs2) s = execChcom a rd rs1 rs2 s :=
  fun _ _ _ _ => rfl
@[simp] theorem exec_chrcv (s : State) :
    ∀ a rd rs1 rs2, exec (.chrcv a rd rs1 rs2) s = execChrcv a rd rs1 rs2 s :=
  fun _ _ _ _ => rfl
@[simp] theorem exec_chrel (s : State) :
    ∀ a rd rs1 rs2, exec (.chrel a rd rs1 rs2) s = execChrel a rd rs1 rs2 s :=
  fun _ _ _ _ => rfl
@[simp] theorem exec_fget (s : State) :
    ∀ a rd rs1 rs2, exec (.fget a rd rs1 rs2) s = execFget a rd rs1 rs2 s :=
  fun _ _ _ _ => rfl
@[simp] theorem exec_fput (s : State) :
    ∀ a rd rs1 rs2, exec (.fput a rd rs1 rs2) s = execFput a rd rs1 rs2 s :=
  fun _ _ _ _ => rfl
@[simp] theorem exec_frel (s : State) :
    ∀ a rd rs1 rs2, exec (.frel a rd rs1 rs2) s = execFrel a rd rs1 rs2 s :=
  fun _ _ _ _ => rfl
@[simp] theorem exec_flowHoldExpiry (s : State) :
    ∀ ctx, exec (.flowHoldExpiry ctx) s = execFlowHoldExpiry ctx s :=
  fun _ => rfl
@[simp] theorem exec_atadd (s : State) :
    ∀ a rd rs1 rs2, exec (.atadd a rd rs1 rs2) s = execAtadd a rd rs1 rs2 s :=
  fun _ _ _ _ => rfl
@[simp] theorem exec_atxch (s : State) :
    ∀ a rd rs1 rs2, exec (.atxch a rd rs1 rs2) s = execAtxch a rd rs1 rs2 s :=
  fun _ _ _ _ => rfl
@[simp] theorem exec_atcmpx (s : State) :
    ∀ a rd rs1 rs2, exec (.atcmpx a rd rs1 rs2) s = execAtcmpx a rd rs1 rs2 s :=
  fun _ _ _ _ => rfl
@[simp] theorem exec_kcall (s : State) :
    ∀ a rd rs1 rs2, exec (.kcall a rd rs1 rs2) s = execKcall a rd rs1 rs2 s :=
  fun _ _ _ _ => rfl
@[simp] theorem exec_kret (s : State) :
    ∀ a rd rs1 rs2, exec (.kret a rd rs1 rs2) s = execKret a rd rs1 rs2 s :=
  fun _ _ _ _ => rfl
@[simp] theorem exec_order (s : State) :
    ∀ a rd rs1 rs2, exec (.order a rd rs1 rs2) s = execOrder a rd rs1 rs2 s :=
  fun _ _ _ _ => rfl
@[simp] theorem exec_halt (s : State) :
    ∀ a rd rs1 rs2, exec (.halt a rd rs1 rs2) s = execHalt a rd rs1 rs2 s :=
  fun _ _ _ _ => rfl
@[simp] theorem exec_cpuTxEntry (s : State) : exec (.cpuTxEntry) s = execCpuTxEntry s := rfl
@[simp] theorem exec_ringEnWrite (s : State) :
    ∀ req ring log2, exec (.ringEnWrite req ring log2) s = execRingEnWrite req ring log2 s :=
  fun _ _ _ => rfl
@[simp] theorem exec_stallWatchdog (s : State) : exec (.stallWatchdog) s = execStallWatchdog s := rfl
@[simp] theorem exec_debugHalt (s : State) : ∀ ctx, exec (.debugHalt ctx) s = execDebugHalt ctx s := fun _ => rfl
@[simp] theorem exec_debugResume (s : State) : ∀ ctx, exec (.debugResume ctx) s = execDebugResume ctx s := fun _ => rfl
@[simp] theorem exec_debugStep (s : State) : ∀ ctx, exec (.debugStep ctx) s = execDebugStep ctx s := fun _ => rfl
@[simp] theorem exec_debugKill (s : State) : ∀ ctx, exec (.debugKill ctx) s = execDebugKill ctx s := fun _ => rfl
@[simp] theorem exec_pmuEvcLoRead (s : State) : ∀ n, exec (.pmuEvcLoRead n) s = execPmuEvcLoRead n s := fun _ => rfl
@[simp] theorem exec_pmuFcCntLoRead (s : State) : ∀ n, exec (.pmuFcCntLoRead n) s = execPmuFcCntLoRead n s := fun _ => rfl
@[simp] theorem exec_fcRunWrite (s : State) :
    ∀ req value, exec (.fcRunWrite req value) s = execFcRunWrite req value s :=
  fun _ _ => rfl
@[simp] theorem exec_fcFullWrite (s : State) :
    ∀ req value, exec (.fcFullWrite req value) s = execFcFullWrite req value s :=
  fun _ _ => rfl
@[simp] theorem exec_queueCountsRead (s : State) :
    ∀ queue clear, exec (.queueCountsRead queue clear) s = execQueueCountsRead queue clear s :=
  fun _ _ => rfl
@[simp] theorem exec_harvestEnWrite (s : State) :
    ∀ req value, exec (.harvestEnWrite req value) s = execHarvestEnWrite req value s :=
  fun _ _ => rfl
@[simp] theorem exec_messageClose (s : State) : exec (.messageClose) s = execMessageClose s := rfl
@[simp] theorem exec_templateRefresh (s : State) : exec (.templateRefresh) s = execTemplateRefresh s := rfl
@[simp] theorem exec_mgtFrame (s : State) :
    ∀ frame otpOk, exec (.mgtFrame frame otpOk) s = execMgtFrame frame otpOk s :=
  fun _ _ => rfl
@[simp] theorem exec_init (s : State) : ∀ peer body, exec (.init peer body) s = execInit peer body s := fun _ _ => rfl
@[simp] theorem exec_finish (s : State) :
    ∀ peer session confirm, exec (.finish peer session confirm) s = execFinish peer session confirm s :=
  fun _ _ _ => rfl
@[simp] theorem exec_finishTimeout (s : State) :
    ∀ session, exec (.finishTimeout session) s = execFinishTimeout session s :=
  fun _ => rfl
@[simp] theorem exec_sessionIdleTimeout (s : State) :
    ∀ session, exec (.sessionIdleTimeout session) s = execSessionIdleTimeout session s :=
  fun _ => rfl
@[simp] theorem exec_readReg (s : State) :
    ∀ peer session seq addr count tag, exec (.readReg peer session seq addr count tag) s = execReadReg peer session seq addr count tag s :=
  fun _ _ _ _ _ _ => rfl
@[simp] theorem exec_writeReg (s : State) :
    ∀ peer session seq addr words tag, exec (.writeReg peer session seq addr words tag) s = execWriteReg peer session seq addr words tag s :=
  fun _ _ _ _ _ _ => rfl
@[simp] theorem exec_flashRead (s : State) :
    ∀ peer session seq offset len tag, exec (.flashRead peer session seq offset len tag) s = execFlashRead peer session seq offset len tag s :=
  fun _ _ _ _ _ _ => rfl
@[simp] theorem exec_flashWrite (s : State) :
    ∀ peer session seq offset data tag, exec (.flashWrite peer session seq offset data tag) s = execFlashWrite peer session seq offset data tag s :=
  fun _ _ _ _ _ _ => rfl
@[simp] theorem exec_flashErase (s : State) :
    ∀ peer session seq offset tag, exec (.flashErase peer session seq offset tag) s = execFlashErase peer session seq offset tag s :=
  fun _ _ _ _ _ => rfl
@[simp] theorem exec_image (s : State) :
    ∀ peer session seq op target tag, exec (.image peer session seq op target tag) s = execImage peer session seq op target tag s :=
  fun _ _ _ _ _ _ => rfl
@[simp] theorem exec_sliceRestart (s : State) :
    ∀ peer session seq slice tag, exec (.sliceRestart peer session seq slice tag) s = execSliceRestart peer session seq slice tag s :=
  fun _ _ _ _ _ => rfl
@[simp] theorem exec_eventRead (s : State) :
    ∀ peer session seq first count tag, exec (.eventRead peer session seq first count tag) s = execEventRead peer session seq first count tag s :=
  fun _ _ _ _ _ _ => rfl
@[simp] theorem exec_eventSub (s : State) :
    ∀ peer session seq on tag, exec (.eventSub peer session seq on tag) s = execEventSub peer session seq on tag s :=
  fun _ _ _ _ _ => rfl
@[simp] theorem exec_quote (s : State) :
    ∀ peer session seq nonce tag, exec (.quote peer session seq nonce tag) s = execQuote peer session seq nonce tag s :=
  fun _ _ _ _ _ => rfl
@[simp] theorem exec_identity (s : State) :
    ∀ peer session seq tag, exec (.identity peer session seq tag) s = execIdentity peer session seq tag s :=
  fun _ _ _ _ => rfl
@[simp] theorem exec_debugChal (s : State) :
    ∀ peer session seq tag, exec (.debugChal peer session seq tag) s = execDebugChal peer session seq tag s :=
  fun _ _ _ _ => rfl
@[simp] theorem exec_debugResp (s : State) :
    ∀ peer session seq response tag, exec (.debugResp peer session seq response tag) s = execDebugResp peer session seq response tag s :=
  fun _ _ _ _ _ => rfl
@[simp] theorem exec_debugRelock (s : State) :
    ∀ peer session seq tag, exec (.debugRelock peer session seq tag) s = execDebugRelock peer session seq tag s :=
  fun _ _ _ _ => rfl
@[simp] theorem exec_ownerAdd (s : State) :
    ∀ peer session seq key ok tag, exec (.ownerAdd peer session seq key ok tag) s = execOwnerAdd peer session seq key ok tag s :=
  fun _ _ _ _ _ _ => rfl
@[simp] theorem exec_ownerRevoke (s : State) :
    ∀ peer session seq slot tag, exec (.ownerRevoke peer session seq slot tag) s = execOwnerRevoke peer session seq slot tag s :=
  fun _ _ _ _ _ => rfl
@[simp] theorem exec_close (s : State) :
    ∀ peer session seq tag, exec (.close peer session seq tag) s = execClose peer session seq tag s :=
  fun _ _ _ _ => rfl
@[simp] theorem exec_reset (s : State) :
    ∀ peer session seq tag, exec (.reset peer session seq tag) s = execReset peer session seq tag s :=
  fun _ _ _ _ => rfl
@[simp] theorem exec_chal (s : State) : ∀ req, exec (.chal req) s = execChal req s := fun _ => rfl
@[simp] theorem exec_resp (s : State) : ∀ req, exec (.resp req) s = execResp req s := fun _ => rfl
@[simp] theorem exec_relock (s : State) : ∀ req, exec (.relock req) s = execRelock req s := fun _ => rfl
@[simp] theorem exec_challengeLapse (s : State) : exec (.challengeLapse) s = execChallengeLapse s := rfl
@[simp] theorem exec_challengeBlockEnd (s : State) : exec (.challengeBlockEnd) s = execChallengeBlockEnd s := rfl
@[simp] theorem exec_pop (s : State) : exec (.pop) s = execPop s := rfl
@[simp] theorem exec_registerWrite (s : State) :
    ∀ req addr value, exec (.registerWrite req addr value) s = execRegisterWrite req addr value s :=
  fun _ _ _ => rfl
@[simp] theorem exec_timeCounterIncrement (s : State) :
    ∀ edges, exec (.timeCounterIncrement edges) s = execTimeCounterIncrement edges s :=
  fun _ => rfl
@[simp] theorem exec_laneSignalDetectChange (s : State) :
    ∀ lane on locked, exec (.laneSignalDetectChange lane on locked) s = execLaneSignalDetectChange lane on locked s :=
  fun _ _ _ => rfl
@[simp] theorem exec_breakEnd (s : State) : ∀ channel, exec (.breakEnd channel) s = execBreakEnd channel s := fun _ => rfl
@[simp] theorem exec_lagBoundExceeded (s : State) : exec (.lagBoundExceeded) s = execLagBoundExceeded s := rfl
@[simp] theorem exec_managementLinkChange (s : State) :
    ∀ up, exec (.managementLinkChange up) s = execManagementLinkChange up s :=
  fun _ => rfl
@[simp] theorem exec_managementTransmitDone (s : State) : exec (.managementTransmitDone) s = execManagementTransmitDone s := rfl
@[simp] theorem exec_stackTemperatureChange (s : State) :
    ∀ stack temp, exec (.stackTemperatureChange stack temp) s = execStackTemperatureChange stack temp s :=
  fun _ _ => rfl
@[simp] theorem exec_spillWriteCapHold (s : State) : exec (.spillWriteCapHold) s = execSpillWriteCapHold s := rfl
@[simp] theorem exec_rateLimitHold (s : State) : exec (.rateLimitHold) s = execRateLimitHold s := rfl
@[simp] theorem exec_glasshouseResultArrival (s : State) :
    ∀ ctx, exec (.glasshouseResultArrival ctx) s = execGlasshouseResultArrival ctx s :=
  fun _ => rfl

end Sys2Proof.Machine
end

