-- ==== Sys2Proof/Laws/Issue.lean ====
section
/-! SUPPORT. What the issue of an instruction comes to in a context that can issue (R203, R520): every meaning of an
instruction is one of these shared operations with its own effect. -/

namespace Sys2Proof.Laws

open Sys2Proof Sys2Proof.Machine

/-- Issuing charges a clock and ends a wait on package memory; the rest of the context stays. -/
theorem issues_only (x : Ctx) (n : Nat) :
    x.issues n = { x with charged := (x.issues n).charged, waited := (x.issues n).waited, missFrom := (x.issues n).missFrom } := by
  unfold Ctx.issues Ctx.endMiss; split <;> rfl

@[simp] theorem issues_ia (x : Ctx) (n : Nat) : (x.issues n).ia = x.ia := by rw [issues_only]
@[simp] theorem issues_reg (x : Ctx) (n : Nat) : (x.issues n).reg = x.reg := by rw [issues_only]; rfl
@[simp] theorem issue_reg (s : State) (x : Ctx) : (issue s x).reg = x.reg := issues_reg x s.coreNow
@[simp] theorem issue_ia (s : State) (x : Ctx) : (issue s x).ia = x.ia := issues_ia x s.coreNow

/-- A context that can issue runs its instruction in the state that counts it. -/
theorem runEngine_of_can {s : State} {slice eng c : Nat} {x : Ctx} (h : EngineCan s slice eng c x)
    (f : Nat → Ctx → State → State) :
    s.begin.runEngine slice eng c .none f = f (ctxKey slice eng c) (issue s x) (engineIssued s slice eng c x) := by
  have h1 := h.sliceOk; have h2 := h.engOk; have h3 := h.ctxOk; have h6 := h.ready; have h8 := h.fetch
  have hq : s.begin.quarantined slice eng = false := h.serving
  have hc : s.begin.ctx? (ctxKey slice eng c) = some x := h.held
  have he : s.begin.engineHeld slice eng = false := h.free
  have hn : s.begin.coreNow = s.coreNow := rfl
  simp [State.runEngine, hq, hc, h6, he, hn, h.budget, engineIssued, issue, show ¬ 4 ≤ slice by omega,
    show ¬ 16 ≤ eng by omega, show ¬ 8 ≤ c by omega, show ¬ 0xFFFFC < x.ia by omega]

/-- A context of the Glasshouse that can fetch runs its instruction in the state that counts and fetches it. -/
theorem runCore_of_can {s : State} {c : Nat} (h : CoreCan s c) (f : Core → State → State) :
    s.begin.runCore c .none f = f (s.core c) (coreIssued s c) := by
  have h1 := h.ctxOk; have h2 := h.running; have h3 := h.fetch
  have hs : s.begin.core c = s.core c := rfl
  simp [State.runCore, hs, h2, h3, coreIssued, show ¬ 32 ≤ c by omega]

theorem plainInstr_engine {s : State} {slice eng c : Nat} {x : Ctx} (h : EngineCan s slice eng c x) (w : Word)
    (f : (BitVec 5 → DWord) → Nat → Effect) :
    s.begin.plainInstr (.engine slice eng c .none) w f =
      (engineIssued s slice eng c x).onEngine (ctxKey slice eng c) (issue s x) (f x.reg x.ia) := by
  simp [State.plainInstr, runEngine_of_can h]

theorem plainInstr_core {s : State} {c : Nat} (h : CoreCan s c) (w : Word) (f : (BitVec 5 → DWord) → Nat → Effect) :
    s.begin.plainInstr (.core c .none) w f =
      (coreIssued s c).onCore c (s.core c) w (f (fun r => (s.core c).reg r.toNat) (s.core c).ia) := by
  simp [State.plainInstr, runCore_of_can h]

theorem packetInstr_engine {s : State} {slice eng c : Nat} {x : Ctx} (h : EngineCan s slice eng c x) (w : Word)
    (illegal : Bool) (f : Nat → Ctx → State → State) :
    s.begin.packetInstr (.engine slice eng c .none) w illegal f =
      if illegal then (engineIssued s slice eng c x).raise (ctxKey slice eng c) 0
      else f (ctxKey slice eng c) (issue s x) (engineIssued s slice eng c x) := by
  simp [State.packetInstr, runEngine_of_can h]

theorem packetInstr_core {s : State} {c : Nat} (h : CoreCan s c) (w : Word) (illegal : Bool)
    (f : Nat → Ctx → State → State) :
    s.begin.packetInstr (.core c .none) w illegal f = (coreIssued s c).coreFault c 0 (some w.toNat) := by
  simp [State.packetInstr, runCore_of_can h]

theorem systemInstr_engine {s : State} {slice eng c : Nat} {x : Ctx} (h : EngineCan s slice eng c x) (w : Word)
    (illegal : Bool) (f : Nat → Bool → Core → State → State) :
    s.begin.systemInstr (.engine slice eng c .none) w illegal f =
      (engineIssued s slice eng c x).raise (ctxKey slice eng c) 1 := by
  simp [State.systemInstr, runEngine_of_can h]

theorem systemInstr_core {s : State} {c : Nat} (h : CoreCan s c) (w : Word) (illegal : Bool)
    (f : Nat → Bool → Core → State → State) :
    s.begin.systemInstr (.core c .none) w illegal f =
      if illegal then (coreIssued s c).coreFault c 0 (some w.toNat)
      else f c false (s.core c) (coreIssued s c) := by
  simp [State.systemInstr, runCore_of_can h, badData]

/-! ## What the issue itself changes -/

/-- The issue on an engine changes the context and counts. -/
theorem engineIssued_counts (s : State) (slice eng c : Nat) (x : Ctx) :
    CountsOnly (s.begin.setCtx (ctxKey slice eng c) (issue s x)) (engineIssued s slice eng c x) :=
  countEngine_counts _ _ _

theorem engineIssued_packets (s : State) (slice eng c : Nat) (x : Ctx) :
    (engineIssued s slice eng c x).packets = s.packets := by
  rw [show engineIssued s slice eng c x = _ from engineIssued_counts s slice eng c x]; rfl

theorem engineIssued_trw (s : State) (slice eng c : Nat) (x : Ctx) :
    (engineIssued s slice eng c x).trw = (s.setCtx (ctxKey slice eng c) (issue s x)).trw := by
  rw [show engineIssued s slice eng c x = _ from engineIssued_counts s slice eng c x]; rfl

theorem engineIssued_fresh (s : State) (slice eng c : Nat) (x : Ctx) :
    (engineIssued s slice eng c x).fresh = s.fresh := by
  rw [show engineIssued s slice eng c x = _ from engineIssued_counts s slice eng c x]; rfl

@[simp] theorem engineIssued_pkt (s : State) (slice eng c : Nat) (x : Ctx) (pid : Nat) :
    (engineIssued s slice eng c x).pkt pid = s.pkt pid := by
  unfold State.pkt; rw [engineIssued_packets]

/-- `t` is `s` but for what counting, logging and a package-memory request change. -/
def MemOnly (s t : State) : Prop :=
  t = { s with regs := t.regs, pmu := t.pmu, events := t.events, limiters := t.limiters, ktl := t.ktl }

theorem MemOnly.of_counts {s t : State} (h : CountsOnly s t) : MemOnly s t := by
  unfold CountsOnly at h
  unfold MemOnly
  rw [h]

theorem MemOnly.trans {s t u : State} (h : MemOnly s t) (k : MemOnly t u) : MemOnly s u := by
  unfold MemOnly at *
  rw [k, h]

/-- A package-memory request counts, and changes the Kettle's view of the memory (R473, R559, R563). -/
theorem pmTouch_memOnly (s : State) (share : Nat) (write : Bool) (n : Nat) (e : PmuEvent) :
    MemOnly s (s.pmTouch share write n e) := by
  unfold State.pmTouch
  split
  · rfl
  · extract_lets k s1 s2
    have h1 : MemOnly s s1 := rfl
    have h2 : MemOnly s s2 := h1.trans (.of_counts ((evc_counts _ _ _).trans (fcCount_counts _ _ _)))
    split
    · exact h2.trans (.of_counts ((fs_counts _ _ _).trans (evc_counts _ _ _)))
    · exact h2

/-- The issue on a core leaves the Glasshouse as it was. -/
@[simp] theorem coreIssued_glh (s : State) (c : Nat) : (coreIssued s c).glh = s.glh := by
  have h : CountsOnly s.begin (s.begin.countCore c) := countCore_counts _ _
  have k : (s.begin.countCore c).glh = s.glh := by rw [show s.begin.countCore c = _ from h]; rfl
  unfold coreIssued State.fetchCore State.coreMem
  split
  · rw [show State.pmTouch _ _ _ _ _ = _ from pmTouch_memOnly _ _ _ _ _]; exact k
  · exact k

@[simp] theorem coreIssued_core (s : State) (c d : Nat) : (coreIssued s c).core d = s.core d := by
  unfold State.core; rw [coreIssued_glh]

@[simp] theorem coreIssued_memByte (s : State) (c a : Nat) : (coreIssued s c).memByte a = s.memByte a := by
  unfold State.memByte; rw [coreIssued_glh]

@[simp] theorem coreIssued_memBytes (s : State) (c a n : Nat) : (coreIssued s c).memBytes a n = s.memBytes a n := by
  simp [State.memBytes]

/-! ## Micro instructions (R209–R214) -/

/-- The issue of an instruction leaves the patch in force. -/
theorem patched_engineIssued (s : State) (slice eng c : Nat) (x : Ctx) (op fn : Nat) :
    (engineIssued s slice eng c x).patched op fn = s.patched op fn := by
  unfold State.patched; rw [engineIssued_trw]; rfl

theorem coreNow_engineIssued (s : State) (slice eng c : Nat) (x : Ctx) :
    (engineIssued s slice eng c x).coreNow = s.coreNow := by
  unfold State.coreNow; rw [show engineIssued s slice eng c x = _ from engineIssued_counts s slice eng c x]; rfl

/-- A micro instruction whose routine runs in ROM does what its rule says, for a unit that reads no package memory. -/
theorem microInstr_engine {s : State} {slice eng c : Nat} {x : Ctx} (h : EngineCan s slice eng c x) (op fn : Nat)
    (hm : mayMiss op fn = false) (hp : RomRuns (engineIssued s slice eng c x) slice op fn) (rd rs1 rs2 : BitVec 5)
    (illegal : Bool) (f : Nat → Ctx → State → State) :
    s.begin.microInstr (.engine slice eng c .none) op fn rd rs1 rs2 illegal f =
      if illegal then (engineIssued s slice eng c x).raise (ctxKey slice eng c) 0
      else f (ctxKey slice eng c) (issue s x) (engineIssued s slice eng c x) := by
  have hk : ctxKey slice eng c / 128 = slice := by have := h.engOk; have := h.ctxOk; unfold ctxKey; omega
  simp [State.microInstr, packetInstr_engine h, hp.1, hk, hm, Ctx.noteMiss, show ¬ 256 ≤ _ from Nat.not_le.2 hp.2]

/-- One whose unit may read package memory runs from the noted wait. -/
theorem microInstr_waits {s : State} {slice eng c : Nat} {x : Ctx} (h : EngineCan s slice eng c x) (op fn : Nat)
    (hm : mayMiss op fn = true) (hp : RomRuns (engineIssued s slice eng c x) slice op fn) (rd rs1 rs2 : BitVec 5)
    (illegal : Bool) (f : Nat → Ctx → State → State) :
    s.begin.microInstr (.engine slice eng c .none) op fn rd rs1 rs2 illegal f =
      if illegal then (engineIssued s slice eng c x).raise (ctxKey slice eng c) 0
      else f (ctxKey slice eng c) (issueWaits s x) (engineWaits s slice eng c x) := by
  have hk : ctxKey slice eng c / 128 = slice := by have := h.engOk; have := h.ctxOk; unfold ctxKey; omega
  simp [State.microInstr, packetInstr_engine h, hp.1, hk, hm, Ctx.noteMiss, coreNow_engineIssued, issueWaits, engineWaits,
    show ¬ 256 ≤ _ from Nat.not_le.2 hp.2]

/-- A micro instruction whose routine the patch in force changes enters it. -/
theorem microInstr_patched {s : State} {slice eng c : Nat} {x : Ctx} (h : EngineCan s slice eng c x) (op fn : Nat)
    (hp : s.patched op fn = true) (rd rs1 rs2 : BitVec 5) (f : Nat → Ctx → State → State) :
    s.begin.microInstr (.engine slice eng c .none) op fn rd rs1 rs2 false f =
      (if mayMiss op fn then engineWaits s slice eng c x else engineIssued s slice eng c x).enterMicro (ctxKey slice eng c) op fn
        rd (x.reg rs1) (x.reg rs2) := by
  simp [State.microInstr, packetInstr_engine h, patched_engineIssued, hp, Ctx.noteMiss, coreNow_engineIssued, issueWaits,
    engineWaits]
  split <;> simp [*]

theorem microInstr_core {s : State} {c : Nat} (h : CoreCan s c) (op fn : Nat) (rd rs1 rs2 : BitVec 5) (illegal : Bool)
    (f : Nat → Ctx → State → State) :
    s.begin.microInstr (.core c .none) op fn rd rs1 rs2 illegal f =
      (coreIssued s c).coreFault c 0 (some (wordA op fn rd rs1 rs2).toNat) := by
  simp [State.microInstr, packetInstr_core h]

end Sys2Proof.Laws
end

