-- ==== Sys2Proof/Laws/State.lean ====
section
/-! SUPPORT. What the updates of State leave alone: one lemma per field per update. -/

namespace Sys2Proof.Machine

@[simp] theorem State.wr_pending (s : State) (r : Reg) (v : Word) : (s.wr r v).pending = s.pending := rfl
@[simp] theorem State.wr_aon (s : State) (r : Reg) (v : Word) : (s.wr r v).aon = s.aon := rfl
@[simp] theorem State.wr_net (s : State) (r : Reg) (v : Word) : (s.wr r v).net = s.net := rfl
@[simp] theorem State.wr_fresh (s : State) (r : Reg) (v : Word) : (s.wr r v).fresh = s.fresh := rfl
@[simp] theorem State.wr_out (s : State) (r : Reg) (v : Word) : (s.wr r v).out = s.out := rfl
@[simp] theorem State.wr_events (s : State) (r : Reg) (v : Word) : (s.wr r v).events = s.events := rfl
@[simp] theorem State.wr_evtMark (s : State) (r : Reg) (v : Word) : (s.wr r v).evtMark = s.evtMark := rfl
@[simp] theorem State.wr_limiters (s : State) (r : Reg) (v : Word) : (s.wr r v).limiters = s.limiters := rfl
@[simp] theorem State.wr_packets (s : State) (r : Reg) (v : Word) : (s.wr r v).packets = s.packets := rfl
@[simp] theorem State.wr_nextPid (s : State) (r : Reg) (v : Word) : (s.wr r v).nextPid = s.nextPid := rfl
@[simp] theorem State.wr_epochRefs (s : State) (r : Reg) (v : Word) : (s.wr r v).epochRefs = s.epochRefs := rfl
@[simp] theorem State.wr_epochBank (s : State) (r : Reg) (v : Word) : (s.wr r v).epochBank = s.epochBank := rfl
@[simp] theorem State.wr_slices (s : State) (r : Reg) (v : Word) : (s.wr r v).slices = s.slices := rfl
@[simp] theorem State.wr_ports (s : State) (r : Reg) (v : Word) : (s.wr r v).ports = s.ports := rfl
@[simp] theorem State.wr_i2c (s : State) (r : Reg) (v : Word) : (s.wr r v).i2c = s.i2c := rfl
@[simp] theorem State.wr_buf (s : State) (r : Reg) (v : Word) : (s.wr r v).buf = s.buf := rfl
@[simp] theorem State.wr_sch (s : State) (r : Reg) (v : Word) : (s.wr r v).sch = s.sch := rfl
@[simp] theorem State.wr_gates (s : State) (r : Reg) (v : Word) : (s.wr r v).gates = s.gates := rfl
@[simp] theorem State.wr_rul (s : State) (r : Reg) (v : Word) : (s.wr r v).rul = s.rul := rfl
@[simp] theorem State.wr_fle (s : State) (r : Reg) (v : Word) : (s.wr r v).fle = s.fle := rfl
@[simp] theorem State.wr_trw (s : State) (r : Reg) (v : Word) : (s.wr r v).trw = s.trw := rfl
@[simp] theorem State.wr_tim (s : State) (r : Reg) (v : Word) : (s.wr r v).tim = s.tim := rfl
@[simp] theorem State.wr_ktl (s : State) (r : Reg) (v : Word) : (s.wr r v).ktl = s.ktl := rfl
@[simp] theorem State.wr_pmu (s : State) (r : Reg) (v : Word) : (s.wr r v).pmu = s.pmu := rfl
@[simp] theorem State.wr_hrv (s : State) (r : Reg) (v : Word) : (s.wr r v).hrv = s.hrv := rfl
@[simp] theorem State.wr_glh (s : State) (r : Reg) (v : Word) : (s.wr r v).glh = s.glh := rfl
@[simp] theorem State.wr_xlb (s : State) (r : Reg) (v : Word) : (s.wr r v).xlb = s.xlb := rfl
@[simp] theorem State.wr_fwd (s : State) (r : Reg) (v : Word) : (s.wr r v).fwd = s.fwd := rfl
@[simp] theorem State.wr_trl (s : State) (r : Reg) (v : Word) : (s.wr r v).trl = s.trl := rfl
@[simp] theorem State.wr_grf (s : State) (r : Reg) (v : Word) : (s.wr r v).grf = s.grf := rfl
@[simp] theorem State.wr_nvm (s : State) (r : Reg) (v : Word) : (s.wr r v).nvm = s.nvm := rfl
@[simp] theorem State.wr_sec (s : State) (r : Reg) (v : Word) : (s.wr r v).sec = s.sec := rfl
@[simp] theorem State.wr_mgt (s : State) (r : Reg) (v : Word) : (s.wr r v).mgt = s.mgt := rfl

@[simp] theorem State.fs_pending (s : State) (f : Fld) (n : Nat) : (s.fs f n).pending = s.pending := rfl
@[simp] theorem State.fs_aon (s : State) (f : Fld) (n : Nat) : (s.fs f n).aon = s.aon := rfl
@[simp] theorem State.fs_net (s : State) (f : Fld) (n : Nat) : (s.fs f n).net = s.net := rfl
@[simp] theorem State.fs_fresh (s : State) (f : Fld) (n : Nat) : (s.fs f n).fresh = s.fresh := rfl
@[simp] theorem State.fs_out (s : State) (f : Fld) (n : Nat) : (s.fs f n).out = s.out := rfl
@[simp] theorem State.fs_events (s : State) (f : Fld) (n : Nat) : (s.fs f n).events = s.events := rfl
@[simp] theorem State.fs_evtMark (s : State) (f : Fld) (n : Nat) : (s.fs f n).evtMark = s.evtMark := rfl
@[simp] theorem State.fs_limiters (s : State) (f : Fld) (n : Nat) : (s.fs f n).limiters = s.limiters := rfl
@[simp] theorem State.fs_packets (s : State) (f : Fld) (n : Nat) : (s.fs f n).packets = s.packets := rfl
@[simp] theorem State.fs_nextPid (s : State) (f : Fld) (n : Nat) : (s.fs f n).nextPid = s.nextPid := rfl
@[simp] theorem State.fs_epochRefs (s : State) (f : Fld) (n : Nat) : (s.fs f n).epochRefs = s.epochRefs := rfl
@[simp] theorem State.fs_epochBank (s : State) (f : Fld) (n : Nat) : (s.fs f n).epochBank = s.epochBank := rfl
@[simp] theorem State.fs_slices (s : State) (f : Fld) (n : Nat) : (s.fs f n).slices = s.slices := rfl
@[simp] theorem State.fs_ports (s : State) (f : Fld) (n : Nat) : (s.fs f n).ports = s.ports := rfl
@[simp] theorem State.fs_i2c (s : State) (f : Fld) (n : Nat) : (s.fs f n).i2c = s.i2c := rfl
@[simp] theorem State.fs_buf (s : State) (f : Fld) (n : Nat) : (s.fs f n).buf = s.buf := rfl
@[simp] theorem State.fs_sch (s : State) (f : Fld) (n : Nat) : (s.fs f n).sch = s.sch := rfl
@[simp] theorem State.fs_gates (s : State) (f : Fld) (n : Nat) : (s.fs f n).gates = s.gates := rfl
@[simp] theorem State.fs_rul (s : State) (f : Fld) (n : Nat) : (s.fs f n).rul = s.rul := rfl
@[simp] theorem State.fs_fle (s : State) (f : Fld) (n : Nat) : (s.fs f n).fle = s.fle := rfl
@[simp] theorem State.fs_trw (s : State) (f : Fld) (n : Nat) : (s.fs f n).trw = s.trw := rfl
@[simp] theorem State.fs_tim (s : State) (f : Fld) (n : Nat) : (s.fs f n).tim = s.tim := rfl
@[simp] theorem State.fs_ktl (s : State) (f : Fld) (n : Nat) : (s.fs f n).ktl = s.ktl := rfl
@[simp] theorem State.fs_pmu (s : State) (f : Fld) (n : Nat) : (s.fs f n).pmu = s.pmu := rfl
@[simp] theorem State.fs_hrv (s : State) (f : Fld) (n : Nat) : (s.fs f n).hrv = s.hrv := rfl
@[simp] theorem State.fs_glh (s : State) (f : Fld) (n : Nat) : (s.fs f n).glh = s.glh := rfl
@[simp] theorem State.fs_xlb (s : State) (f : Fld) (n : Nat) : (s.fs f n).xlb = s.xlb := rfl
@[simp] theorem State.fs_fwd (s : State) (f : Fld) (n : Nat) : (s.fs f n).fwd = s.fwd := rfl
@[simp] theorem State.fs_trl (s : State) (f : Fld) (n : Nat) : (s.fs f n).trl = s.trl := rfl
@[simp] theorem State.fs_grf (s : State) (f : Fld) (n : Nat) : (s.fs f n).grf = s.grf := rfl
@[simp] theorem State.fs_nvm (s : State) (f : Fld) (n : Nat) : (s.fs f n).nvm = s.nvm := rfl
@[simp] theorem State.fs_sec (s : State) (f : Fld) (n : Nat) : (s.fs f n).sec = s.sec := rfl
@[simp] theorem State.fs_mgt (s : State) (f : Fld) (n : Nat) : (s.fs f n).mgt = s.mgt := rfl

@[simp] theorem State.fsbit_pending (s : State) (f : Fld) (i : Nat) (b : Bool) : (s.fsbit f i b).pending = s.pending := rfl
@[simp] theorem State.fsbit_aon (s : State) (f : Fld) (i : Nat) (b : Bool) : (s.fsbit f i b).aon = s.aon := rfl
@[simp] theorem State.fsbit_net (s : State) (f : Fld) (i : Nat) (b : Bool) : (s.fsbit f i b).net = s.net := rfl
@[simp] theorem State.fsbit_fresh (s : State) (f : Fld) (i : Nat) (b : Bool) : (s.fsbit f i b).fresh = s.fresh := rfl
@[simp] theorem State.fsbit_out (s : State) (f : Fld) (i : Nat) (b : Bool) : (s.fsbit f i b).out = s.out := rfl
@[simp] theorem State.fsbit_events (s : State) (f : Fld) (i : Nat) (b : Bool) : (s.fsbit f i b).events = s.events := rfl
@[simp] theorem State.fsbit_evtMark (s : State) (f : Fld) (i : Nat) (b : Bool) : (s.fsbit f i b).evtMark = s.evtMark := rfl
@[simp] theorem State.fsbit_limiters (s : State) (f : Fld) (i : Nat) (b : Bool) : (s.fsbit f i b).limiters = s.limiters := rfl
@[simp] theorem State.fsbit_packets (s : State) (f : Fld) (i : Nat) (b : Bool) : (s.fsbit f i b).packets = s.packets := rfl
@[simp] theorem State.fsbit_nextPid (s : State) (f : Fld) (i : Nat) (b : Bool) : (s.fsbit f i b).nextPid = s.nextPid := rfl
@[simp] theorem State.fsbit_epochRefs (s : State) (f : Fld) (i : Nat) (b : Bool) : (s.fsbit f i b).epochRefs = s.epochRefs := rfl
@[simp] theorem State.fsbit_epochBank (s : State) (f : Fld) (i : Nat) (b : Bool) : (s.fsbit f i b).epochBank = s.epochBank := rfl
@[simp] theorem State.fsbit_slices (s : State) (f : Fld) (i : Nat) (b : Bool) : (s.fsbit f i b).slices = s.slices := rfl
@[simp] theorem State.fsbit_ports (s : State) (f : Fld) (i : Nat) (b : Bool) : (s.fsbit f i b).ports = s.ports := rfl
@[simp] theorem State.fsbit_i2c (s : State) (f : Fld) (i : Nat) (b : Bool) : (s.fsbit f i b).i2c = s.i2c := rfl
@[simp] theorem State.fsbit_buf (s : State) (f : Fld) (i : Nat) (b : Bool) : (s.fsbit f i b).buf = s.buf := rfl
@[simp] theorem State.fsbit_sch (s : State) (f : Fld) (i : Nat) (b : Bool) : (s.fsbit f i b).sch = s.sch := rfl
@[simp] theorem State.fsbit_gates (s : State) (f : Fld) (i : Nat) (b : Bool) : (s.fsbit f i b).gates = s.gates := rfl
@[simp] theorem State.fsbit_rul (s : State) (f : Fld) (i : Nat) (b : Bool) : (s.fsbit f i b).rul = s.rul := rfl
@[simp] theorem State.fsbit_fle (s : State) (f : Fld) (i : Nat) (b : Bool) : (s.fsbit f i b).fle = s.fle := rfl
@[simp] theorem State.fsbit_trw (s : State) (f : Fld) (i : Nat) (b : Bool) : (s.fsbit f i b).trw = s.trw := rfl
@[simp] theorem State.fsbit_tim (s : State) (f : Fld) (i : Nat) (b : Bool) : (s.fsbit f i b).tim = s.tim := rfl
@[simp] theorem State.fsbit_ktl (s : State) (f : Fld) (i : Nat) (b : Bool) : (s.fsbit f i b).ktl = s.ktl := rfl
@[simp] theorem State.fsbit_pmu (s : State) (f : Fld) (i : Nat) (b : Bool) : (s.fsbit f i b).pmu = s.pmu := rfl
@[simp] theorem State.fsbit_hrv (s : State) (f : Fld) (i : Nat) (b : Bool) : (s.fsbit f i b).hrv = s.hrv := rfl
@[simp] theorem State.fsbit_glh (s : State) (f : Fld) (i : Nat) (b : Bool) : (s.fsbit f i b).glh = s.glh := rfl
@[simp] theorem State.fsbit_xlb (s : State) (f : Fld) (i : Nat) (b : Bool) : (s.fsbit f i b).xlb = s.xlb := rfl
@[simp] theorem State.fsbit_fwd (s : State) (f : Fld) (i : Nat) (b : Bool) : (s.fsbit f i b).fwd = s.fwd := rfl
@[simp] theorem State.fsbit_trl (s : State) (f : Fld) (i : Nat) (b : Bool) : (s.fsbit f i b).trl = s.trl := rfl
@[simp] theorem State.fsbit_grf (s : State) (f : Fld) (i : Nat) (b : Bool) : (s.fsbit f i b).grf = s.grf := rfl
@[simp] theorem State.fsbit_nvm (s : State) (f : Fld) (i : Nat) (b : Bool) : (s.fsbit f i b).nvm = s.nvm := rfl
@[simp] theorem State.fsbit_sec (s : State) (f : Fld) (i : Nat) (b : Bool) : (s.fsbit f i b).sec = s.sec := rfl
@[simp] theorem State.fsbit_mgt (s : State) (f : Fld) (i : Nat) (b : Bool) : (s.fsbit f i b).mgt = s.mgt := rfl

@[simp] theorem State.inc_pending (s : State) (r : Reg) (n : Nat) : (s.inc r n).pending = s.pending := rfl
@[simp] theorem State.inc_aon (s : State) (r : Reg) (n : Nat) : (s.inc r n).aon = s.aon := rfl
@[simp] theorem State.inc_net (s : State) (r : Reg) (n : Nat) : (s.inc r n).net = s.net := rfl
@[simp] theorem State.inc_fresh (s : State) (r : Reg) (n : Nat) : (s.inc r n).fresh = s.fresh := rfl
@[simp] theorem State.inc_out (s : State) (r : Reg) (n : Nat) : (s.inc r n).out = s.out := rfl
@[simp] theorem State.inc_events (s : State) (r : Reg) (n : Nat) : (s.inc r n).events = s.events := rfl
@[simp] theorem State.inc_evtMark (s : State) (r : Reg) (n : Nat) : (s.inc r n).evtMark = s.evtMark := rfl
@[simp] theorem State.inc_limiters (s : State) (r : Reg) (n : Nat) : (s.inc r n).limiters = s.limiters := rfl
@[simp] theorem State.inc_packets (s : State) (r : Reg) (n : Nat) : (s.inc r n).packets = s.packets := rfl
@[simp] theorem State.inc_nextPid (s : State) (r : Reg) (n : Nat) : (s.inc r n).nextPid = s.nextPid := rfl
@[simp] theorem State.inc_epochRefs (s : State) (r : Reg) (n : Nat) : (s.inc r n).epochRefs = s.epochRefs := rfl
@[simp] theorem State.inc_epochBank (s : State) (r : Reg) (n : Nat) : (s.inc r n).epochBank = s.epochBank := rfl
@[simp] theorem State.inc_slices (s : State) (r : Reg) (n : Nat) : (s.inc r n).slices = s.slices := rfl
@[simp] theorem State.inc_ports (s : State) (r : Reg) (n : Nat) : (s.inc r n).ports = s.ports := rfl
@[simp] theorem State.inc_i2c (s : State) (r : Reg) (n : Nat) : (s.inc r n).i2c = s.i2c := rfl
@[simp] theorem State.inc_buf (s : State) (r : Reg) (n : Nat) : (s.inc r n).buf = s.buf := rfl
@[simp] theorem State.inc_sch (s : State) (r : Reg) (n : Nat) : (s.inc r n).sch = s.sch := rfl
@[simp] theorem State.inc_gates (s : State) (r : Reg) (n : Nat) : (s.inc r n).gates = s.gates := rfl
@[simp] theorem State.inc_rul (s : State) (r : Reg) (n : Nat) : (s.inc r n).rul = s.rul := rfl
@[simp] theorem State.inc_fle (s : State) (r : Reg) (n : Nat) : (s.inc r n).fle = s.fle := rfl
@[simp] theorem State.inc_trw (s : State) (r : Reg) (n : Nat) : (s.inc r n).trw = s.trw := rfl
@[simp] theorem State.inc_tim (s : State) (r : Reg) (n : Nat) : (s.inc r n).tim = s.tim := rfl
@[simp] theorem State.inc_ktl (s : State) (r : Reg) (n : Nat) : (s.inc r n).ktl = s.ktl := rfl
@[simp] theorem State.inc_pmu (s : State) (r : Reg) (n : Nat) : (s.inc r n).pmu = s.pmu := rfl
@[simp] theorem State.inc_hrv (s : State) (r : Reg) (n : Nat) : (s.inc r n).hrv = s.hrv := rfl
@[simp] theorem State.inc_glh (s : State) (r : Reg) (n : Nat) : (s.inc r n).glh = s.glh := rfl
@[simp] theorem State.inc_xlb (s : State) (r : Reg) (n : Nat) : (s.inc r n).xlb = s.xlb := rfl
@[simp] theorem State.inc_fwd (s : State) (r : Reg) (n : Nat) : (s.inc r n).fwd = s.fwd := rfl
@[simp] theorem State.inc_trl (s : State) (r : Reg) (n : Nat) : (s.inc r n).trl = s.trl := rfl
@[simp] theorem State.inc_grf (s : State) (r : Reg) (n : Nat) : (s.inc r n).grf = s.grf := rfl
@[simp] theorem State.inc_nvm (s : State) (r : Reg) (n : Nat) : (s.inc r n).nvm = s.nvm := rfl
@[simp] theorem State.inc_sec (s : State) (r : Reg) (n : Nat) : (s.inc r n).sec = s.sec := rfl
@[simp] theorem State.inc_mgt (s : State) (r : Reg) (n : Nat) : (s.inc r n).mgt = s.mgt := rfl

@[simp] theorem State.emit_pending (s : State) (o : Out) : (s.emit o).pending = s.pending := rfl
@[simp] theorem State.emit_regs (s : State) (o : Out) : (s.emit o).regs = s.regs := rfl
@[simp] theorem State.emit_aon (s : State) (o : Out) : (s.emit o).aon = s.aon := rfl
@[simp] theorem State.emit_net (s : State) (o : Out) : (s.emit o).net = s.net := rfl
@[simp] theorem State.emit_fresh (s : State) (o : Out) : (s.emit o).fresh = s.fresh := rfl
@[simp] theorem State.emit_events (s : State) (o : Out) : (s.emit o).events = s.events := rfl
@[simp] theorem State.emit_evtMark (s : State) (o : Out) : (s.emit o).evtMark = s.evtMark := rfl
@[simp] theorem State.emit_limiters (s : State) (o : Out) : (s.emit o).limiters = s.limiters := rfl
@[simp] theorem State.emit_packets (s : State) (o : Out) : (s.emit o).packets = s.packets := rfl
@[simp] theorem State.emit_nextPid (s : State) (o : Out) : (s.emit o).nextPid = s.nextPid := rfl
@[simp] theorem State.emit_epochRefs (s : State) (o : Out) : (s.emit o).epochRefs = s.epochRefs := rfl
@[simp] theorem State.emit_epochBank (s : State) (o : Out) : (s.emit o).epochBank = s.epochBank := rfl
@[simp] theorem State.emit_slices (s : State) (o : Out) : (s.emit o).slices = s.slices := rfl
@[simp] theorem State.emit_ports (s : State) (o : Out) : (s.emit o).ports = s.ports := rfl
@[simp] theorem State.emit_i2c (s : State) (o : Out) : (s.emit o).i2c = s.i2c := rfl
@[simp] theorem State.emit_buf (s : State) (o : Out) : (s.emit o).buf = s.buf := rfl
@[simp] theorem State.emit_sch (s : State) (o : Out) : (s.emit o).sch = s.sch := rfl
@[simp] theorem State.emit_gates (s : State) (o : Out) : (s.emit o).gates = s.gates := rfl
@[simp] theorem State.emit_rul (s : State) (o : Out) : (s.emit o).rul = s.rul := rfl
@[simp] theorem State.emit_fle (s : State) (o : Out) : (s.emit o).fle = s.fle := rfl
@[simp] theorem State.emit_trw (s : State) (o : Out) : (s.emit o).trw = s.trw := rfl
@[simp] theorem State.emit_tim (s : State) (o : Out) : (s.emit o).tim = s.tim := rfl
@[simp] theorem State.emit_ktl (s : State) (o : Out) : (s.emit o).ktl = s.ktl := rfl
@[simp] theorem State.emit_pmu (s : State) (o : Out) : (s.emit o).pmu = s.pmu := rfl
@[simp] theorem State.emit_hrv (s : State) (o : Out) : (s.emit o).hrv = s.hrv := rfl
@[simp] theorem State.emit_glh (s : State) (o : Out) : (s.emit o).glh = s.glh := rfl
@[simp] theorem State.emit_xlb (s : State) (o : Out) : (s.emit o).xlb = s.xlb := rfl
@[simp] theorem State.emit_fwd (s : State) (o : Out) : (s.emit o).fwd = s.fwd := rfl
@[simp] theorem State.emit_trl (s : State) (o : Out) : (s.emit o).trl = s.trl := rfl
@[simp] theorem State.emit_grf (s : State) (o : Out) : (s.emit o).grf = s.grf := rfl
@[simp] theorem State.emit_nvm (s : State) (o : Out) : (s.emit o).nvm = s.nvm := rfl
@[simp] theorem State.emit_sec (s : State) (o : Out) : (s.emit o).sec = s.sec := rfl
@[simp] theorem State.emit_mgt (s : State) (o : Out) : (s.emit o).mgt = s.mgt := rfl

@[simp] theorem State.begin_pending (s : State) : (s.begin).pending = s.pending := rfl
@[simp] theorem State.begin_regs (s : State) : (s.begin).regs = s.regs := rfl
@[simp] theorem State.begin_aon (s : State) : (s.begin).aon = s.aon := rfl
@[simp] theorem State.begin_net (s : State) : (s.begin).net = s.net := rfl
@[simp] theorem State.begin_fresh (s : State) : (s.begin).fresh = s.fresh := rfl
@[simp] theorem State.begin_events (s : State) : (s.begin).events = s.events := rfl
@[simp] theorem State.begin_limiters (s : State) : (s.begin).limiters = s.limiters := rfl
@[simp] theorem State.begin_packets (s : State) : (s.begin).packets = s.packets := rfl
@[simp] theorem State.begin_nextPid (s : State) : (s.begin).nextPid = s.nextPid := rfl
@[simp] theorem State.begin_epochRefs (s : State) : (s.begin).epochRefs = s.epochRefs := rfl
@[simp] theorem State.begin_epochBank (s : State) : (s.begin).epochBank = s.epochBank := rfl
@[simp] theorem State.begin_slices (s : State) : (s.begin).slices = s.slices := rfl
@[simp] theorem State.begin_ports (s : State) : (s.begin).ports = s.ports := rfl
@[simp] theorem State.begin_i2c (s : State) : (s.begin).i2c = s.i2c := rfl
@[simp] theorem State.begin_buf (s : State) : (s.begin).buf = s.buf := rfl
@[simp] theorem State.begin_sch (s : State) : (s.begin).sch = s.sch := rfl
@[simp] theorem State.begin_gates (s : State) : (s.begin).gates = s.gates := rfl
@[simp] theorem State.begin_rul (s : State) : (s.begin).rul = s.rul := rfl
@[simp] theorem State.begin_fle (s : State) : (s.begin).fle = s.fle := rfl
@[simp] theorem State.begin_trw (s : State) : (s.begin).trw = s.trw := rfl
@[simp] theorem State.begin_tim (s : State) : (s.begin).tim = s.tim := rfl
@[simp] theorem State.begin_ktl (s : State) : (s.begin).ktl = s.ktl := rfl
@[simp] theorem State.begin_pmu (s : State) : (s.begin).pmu = s.pmu := rfl
@[simp] theorem State.begin_hrv (s : State) : (s.begin).hrv = s.hrv := rfl
@[simp] theorem State.begin_glh (s : State) : (s.begin).glh = s.glh := rfl
@[simp] theorem State.begin_xlb (s : State) : (s.begin).xlb = s.xlb := rfl
@[simp] theorem State.begin_fwd (s : State) : (s.begin).fwd = s.fwd := rfl
@[simp] theorem State.begin_trl (s : State) : (s.begin).trl = s.trl := rfl
@[simp] theorem State.begin_grf (s : State) : (s.begin).grf = s.grf := rfl
@[simp] theorem State.begin_nvm (s : State) : (s.begin).nvm = s.nvm := rfl
@[simp] theorem State.begin_sec (s : State) : (s.begin).sec = s.sec := rfl
@[simp] theorem State.begin_mgt (s : State) : (s.begin).mgt = s.mgt := rfl

@[simp] theorem State.setPkt_pending (s : State) (pid : Nat) (p : Packet) : (s.setPkt pid p).pending = s.pending := rfl
@[simp] theorem State.setPkt_regs (s : State) (pid : Nat) (p : Packet) : (s.setPkt pid p).regs = s.regs := rfl
@[simp] theorem State.setPkt_aon (s : State) (pid : Nat) (p : Packet) : (s.setPkt pid p).aon = s.aon := rfl
@[simp] theorem State.setPkt_net (s : State) (pid : Nat) (p : Packet) : (s.setPkt pid p).net = s.net := rfl
@[simp] theorem State.setPkt_fresh (s : State) (pid : Nat) (p : Packet) : (s.setPkt pid p).fresh = s.fresh := rfl
@[simp] theorem State.setPkt_out (s : State) (pid : Nat) (p : Packet) : (s.setPkt pid p).out = s.out := rfl
@[simp] theorem State.setPkt_events (s : State) (pid : Nat) (p : Packet) : (s.setPkt pid p).events = s.events := rfl
@[simp] theorem State.setPkt_evtMark (s : State) (pid : Nat) (p : Packet) : (s.setPkt pid p).evtMark = s.evtMark := rfl
@[simp] theorem State.setPkt_limiters (s : State) (pid : Nat) (p : Packet) : (s.setPkt pid p).limiters = s.limiters := rfl
@[simp] theorem State.setPkt_nextPid (s : State) (pid : Nat) (p : Packet) : (s.setPkt pid p).nextPid = s.nextPid := rfl
@[simp] theorem State.setPkt_epochRefs (s : State) (pid : Nat) (p : Packet) : (s.setPkt pid p).epochRefs = s.epochRefs := rfl
@[simp] theorem State.setPkt_epochBank (s : State) (pid : Nat) (p : Packet) : (s.setPkt pid p).epochBank = s.epochBank := rfl
@[simp] theorem State.setPkt_slices (s : State) (pid : Nat) (p : Packet) : (s.setPkt pid p).slices = s.slices := rfl
@[simp] theorem State.setPkt_ports (s : State) (pid : Nat) (p : Packet) : (s.setPkt pid p).ports = s.ports := rfl
@[simp] theorem State.setPkt_i2c (s : State) (pid : Nat) (p : Packet) : (s.setPkt pid p).i2c = s.i2c := rfl
@[simp] theorem State.setPkt_buf (s : State) (pid : Nat) (p : Packet) : (s.setPkt pid p).buf = s.buf := rfl
@[simp] theorem State.setPkt_sch (s : State) (pid : Nat) (p : Packet) : (s.setPkt pid p).sch = s.sch := rfl
@[simp] theorem State.setPkt_gates (s : State) (pid : Nat) (p : Packet) : (s.setPkt pid p).gates = s.gates := rfl
@[simp] theorem State.setPkt_rul (s : State) (pid : Nat) (p : Packet) : (s.setPkt pid p).rul = s.rul := rfl
@[simp] theorem State.setPkt_fle (s : State) (pid : Nat) (p : Packet) : (s.setPkt pid p).fle = s.fle := rfl
@[simp] theorem State.setPkt_trw (s : State) (pid : Nat) (p : Packet) : (s.setPkt pid p).trw = s.trw := rfl
@[simp] theorem State.setPkt_tim (s : State) (pid : Nat) (p : Packet) : (s.setPkt pid p).tim = s.tim := rfl
@[simp] theorem State.setPkt_ktl (s : State) (pid : Nat) (p : Packet) : (s.setPkt pid p).ktl = s.ktl := rfl
@[simp] theorem State.setPkt_pmu (s : State) (pid : Nat) (p : Packet) : (s.setPkt pid p).pmu = s.pmu := rfl
@[simp] theorem State.setPkt_hrv (s : State) (pid : Nat) (p : Packet) : (s.setPkt pid p).hrv = s.hrv := rfl
@[simp] theorem State.setPkt_glh (s : State) (pid : Nat) (p : Packet) : (s.setPkt pid p).glh = s.glh := rfl
@[simp] theorem State.setPkt_xlb (s : State) (pid : Nat) (p : Packet) : (s.setPkt pid p).xlb = s.xlb := rfl
@[simp] theorem State.setPkt_fwd (s : State) (pid : Nat) (p : Packet) : (s.setPkt pid p).fwd = s.fwd := rfl
@[simp] theorem State.setPkt_trl (s : State) (pid : Nat) (p : Packet) : (s.setPkt pid p).trl = s.trl := rfl
@[simp] theorem State.setPkt_grf (s : State) (pid : Nat) (p : Packet) : (s.setPkt pid p).grf = s.grf := rfl
@[simp] theorem State.setPkt_nvm (s : State) (pid : Nat) (p : Packet) : (s.setPkt pid p).nvm = s.nvm := rfl
@[simp] theorem State.setPkt_sec (s : State) (pid : Nat) (p : Packet) : (s.setPkt pid p).sec = s.sec := rfl
@[simp] theorem State.setPkt_mgt (s : State) (pid : Nat) (p : Packet) : (s.setPkt pid p).mgt = s.mgt := rfl

@[simp] theorem State.modSlice_pending (s : State) (n : Nat) (f : Slice → Slice) : (s.modSlice n f).pending = s.pending := rfl
@[simp] theorem State.modSlice_regs (s : State) (n : Nat) (f : Slice → Slice) : (s.modSlice n f).regs = s.regs := rfl
@[simp] theorem State.modSlice_aon (s : State) (n : Nat) (f : Slice → Slice) : (s.modSlice n f).aon = s.aon := rfl
@[simp] theorem State.modSlice_net (s : State) (n : Nat) (f : Slice → Slice) : (s.modSlice n f).net = s.net := rfl
@[simp] theorem State.modSlice_fresh (s : State) (n : Nat) (f : Slice → Slice) : (s.modSlice n f).fresh = s.fresh := rfl
@[simp] theorem State.modSlice_out (s : State) (n : Nat) (f : Slice → Slice) : (s.modSlice n f).out = s.out := rfl
@[simp] theorem State.modSlice_events (s : State) (n : Nat) (f : Slice → Slice) : (s.modSlice n f).events = s.events := rfl
@[simp] theorem State.modSlice_evtMark (s : State) (n : Nat) (f : Slice → Slice) : (s.modSlice n f).evtMark = s.evtMark := rfl
@[simp] theorem State.modSlice_limiters (s : State) (n : Nat) (f : Slice → Slice) : (s.modSlice n f).limiters = s.limiters := rfl
@[simp] theorem State.modSlice_packets (s : State) (n : Nat) (f : Slice → Slice) : (s.modSlice n f).packets = s.packets := rfl
@[simp] theorem State.modSlice_nextPid (s : State) (n : Nat) (f : Slice → Slice) : (s.modSlice n f).nextPid = s.nextPid := rfl
@[simp] theorem State.modSlice_epochRefs (s : State) (n : Nat) (f : Slice → Slice) : (s.modSlice n f).epochRefs = s.epochRefs := rfl
@[simp] theorem State.modSlice_epochBank (s : State) (n : Nat) (f : Slice → Slice) : (s.modSlice n f).epochBank = s.epochBank := rfl
@[simp] theorem State.modSlice_ports (s : State) (n : Nat) (f : Slice → Slice) : (s.modSlice n f).ports = s.ports := rfl
@[simp] theorem State.modSlice_i2c (s : State) (n : Nat) (f : Slice → Slice) : (s.modSlice n f).i2c = s.i2c := rfl
@[simp] theorem State.modSlice_buf (s : State) (n : Nat) (f : Slice → Slice) : (s.modSlice n f).buf = s.buf := rfl
@[simp] theorem State.modSlice_sch (s : State) (n : Nat) (f : Slice → Slice) : (s.modSlice n f).sch = s.sch := rfl
@[simp] theorem State.modSlice_gates (s : State) (n : Nat) (f : Slice → Slice) : (s.modSlice n f).gates = s.gates := rfl
@[simp] theorem State.modSlice_rul (s : State) (n : Nat) (f : Slice → Slice) : (s.modSlice n f).rul = s.rul := rfl
@[simp] theorem State.modSlice_fle (s : State) (n : Nat) (f : Slice → Slice) : (s.modSlice n f).fle = s.fle := rfl
@[simp] theorem State.modSlice_trw (s : State) (n : Nat) (f : Slice → Slice) : (s.modSlice n f).trw = s.trw := rfl
@[simp] theorem State.modSlice_tim (s : State) (n : Nat) (f : Slice → Slice) : (s.modSlice n f).tim = s.tim := rfl
@[simp] theorem State.modSlice_ktl (s : State) (n : Nat) (f : Slice → Slice) : (s.modSlice n f).ktl = s.ktl := rfl
@[simp] theorem State.modSlice_pmu (s : State) (n : Nat) (f : Slice → Slice) : (s.modSlice n f).pmu = s.pmu := rfl
@[simp] theorem State.modSlice_hrv (s : State) (n : Nat) (f : Slice → Slice) : (s.modSlice n f).hrv = s.hrv := rfl
@[simp] theorem State.modSlice_glh (s : State) (n : Nat) (f : Slice → Slice) : (s.modSlice n f).glh = s.glh := rfl
@[simp] theorem State.modSlice_xlb (s : State) (n : Nat) (f : Slice → Slice) : (s.modSlice n f).xlb = s.xlb := rfl
@[simp] theorem State.modSlice_fwd (s : State) (n : Nat) (f : Slice → Slice) : (s.modSlice n f).fwd = s.fwd := rfl
@[simp] theorem State.modSlice_trl (s : State) (n : Nat) (f : Slice → Slice) : (s.modSlice n f).trl = s.trl := rfl
@[simp] theorem State.modSlice_grf (s : State) (n : Nat) (f : Slice → Slice) : (s.modSlice n f).grf = s.grf := rfl
@[simp] theorem State.modSlice_nvm (s : State) (n : Nat) (f : Slice → Slice) : (s.modSlice n f).nvm = s.nvm := rfl
@[simp] theorem State.modSlice_sec (s : State) (n : Nat) (f : Slice → Slice) : (s.modSlice n f).sec = s.sec := rfl
@[simp] theorem State.modSlice_mgt (s : State) (n : Nat) (f : Slice → Slice) : (s.modSlice n f).mgt = s.mgt := rfl

@[simp] theorem State.modPort_pending (s : State) (p : Nat) (f : Port → Port) : (s.modPort p f).pending = s.pending := rfl
@[simp] theorem State.modPort_regs (s : State) (p : Nat) (f : Port → Port) : (s.modPort p f).regs = s.regs := rfl
@[simp] theorem State.modPort_aon (s : State) (p : Nat) (f : Port → Port) : (s.modPort p f).aon = s.aon := rfl
@[simp] theorem State.modPort_net (s : State) (p : Nat) (f : Port → Port) : (s.modPort p f).net = s.net := rfl
@[simp] theorem State.modPort_fresh (s : State) (p : Nat) (f : Port → Port) : (s.modPort p f).fresh = s.fresh := rfl
@[simp] theorem State.modPort_out (s : State) (p : Nat) (f : Port → Port) : (s.modPort p f).out = s.out := rfl
@[simp] theorem State.modPort_events (s : State) (p : Nat) (f : Port → Port) : (s.modPort p f).events = s.events := rfl
@[simp] theorem State.modPort_evtMark (s : State) (p : Nat) (f : Port → Port) : (s.modPort p f).evtMark = s.evtMark := rfl
@[simp] theorem State.modPort_limiters (s : State) (p : Nat) (f : Port → Port) : (s.modPort p f).limiters = s.limiters := rfl
@[simp] theorem State.modPort_packets (s : State) (p : Nat) (f : Port → Port) : (s.modPort p f).packets = s.packets := rfl
@[simp] theorem State.modPort_nextPid (s : State) (p : Nat) (f : Port → Port) : (s.modPort p f).nextPid = s.nextPid := rfl
@[simp] theorem State.modPort_epochRefs (s : State) (p : Nat) (f : Port → Port) : (s.modPort p f).epochRefs = s.epochRefs := rfl
@[simp] theorem State.modPort_epochBank (s : State) (p : Nat) (f : Port → Port) : (s.modPort p f).epochBank = s.epochBank := rfl
@[simp] theorem State.modPort_slices (s : State) (p : Nat) (f : Port → Port) : (s.modPort p f).slices = s.slices := rfl
@[simp] theorem State.modPort_i2c (s : State) (p : Nat) (f : Port → Port) : (s.modPort p f).i2c = s.i2c := rfl
@[simp] theorem State.modPort_buf (s : State) (p : Nat) (f : Port → Port) : (s.modPort p f).buf = s.buf := rfl
@[simp] theorem State.modPort_sch (s : State) (p : Nat) (f : Port → Port) : (s.modPort p f).sch = s.sch := rfl
@[simp] theorem State.modPort_gates (s : State) (p : Nat) (f : Port → Port) : (s.modPort p f).gates = s.gates := rfl
@[simp] theorem State.modPort_rul (s : State) (p : Nat) (f : Port → Port) : (s.modPort p f).rul = s.rul := rfl
@[simp] theorem State.modPort_fle (s : State) (p : Nat) (f : Port → Port) : (s.modPort p f).fle = s.fle := rfl
@[simp] theorem State.modPort_trw (s : State) (p : Nat) (f : Port → Port) : (s.modPort p f).trw = s.trw := rfl
@[simp] theorem State.modPort_tim (s : State) (p : Nat) (f : Port → Port) : (s.modPort p f).tim = s.tim := rfl
@[simp] theorem State.modPort_ktl (s : State) (p : Nat) (f : Port → Port) : (s.modPort p f).ktl = s.ktl := rfl
@[simp] theorem State.modPort_pmu (s : State) (p : Nat) (f : Port → Port) : (s.modPort p f).pmu = s.pmu := rfl
@[simp] theorem State.modPort_hrv (s : State) (p : Nat) (f : Port → Port) : (s.modPort p f).hrv = s.hrv := rfl
@[simp] theorem State.modPort_glh (s : State) (p : Nat) (f : Port → Port) : (s.modPort p f).glh = s.glh := rfl
@[simp] theorem State.modPort_xlb (s : State) (p : Nat) (f : Port → Port) : (s.modPort p f).xlb = s.xlb := rfl
@[simp] theorem State.modPort_fwd (s : State) (p : Nat) (f : Port → Port) : (s.modPort p f).fwd = s.fwd := rfl
@[simp] theorem State.modPort_trl (s : State) (p : Nat) (f : Port → Port) : (s.modPort p f).trl = s.trl := rfl
@[simp] theorem State.modPort_grf (s : State) (p : Nat) (f : Port → Port) : (s.modPort p f).grf = s.grf := rfl
@[simp] theorem State.modPort_nvm (s : State) (p : Nat) (f : Port → Port) : (s.modPort p f).nvm = s.nvm := rfl
@[simp] theorem State.modPort_sec (s : State) (p : Nat) (f : Port → Port) : (s.modPort p f).sec = s.sec := rfl
@[simp] theorem State.modPort_mgt (s : State) (p : Nat) (f : Port → Port) : (s.modPort p f).mgt = s.mgt := rfl

@[simp] theorem State.setLimiter_pending (s : State) (code unit : Nat) (l : Limiter) : (s.setLimiter code unit l).pending = s.pending := rfl
@[simp] theorem State.setLimiter_regs (s : State) (code unit : Nat) (l : Limiter) : (s.setLimiter code unit l).regs = s.regs := rfl
@[simp] theorem State.setLimiter_aon (s : State) (code unit : Nat) (l : Limiter) : (s.setLimiter code unit l).aon = s.aon := rfl
@[simp] theorem State.setLimiter_net (s : State) (code unit : Nat) (l : Limiter) : (s.setLimiter code unit l).net = s.net := rfl
@[simp] theorem State.setLimiter_fresh (s : State) (code unit : Nat) (l : Limiter) : (s.setLimiter code unit l).fresh = s.fresh := rfl
@[simp] theorem State.setLimiter_out (s : State) (code unit : Nat) (l : Limiter) : (s.setLimiter code unit l).out = s.out := rfl
@[simp] theorem State.setLimiter_events (s : State) (code unit : Nat) (l : Limiter) : (s.setLimiter code unit l).events = s.events := rfl
@[simp] theorem State.setLimiter_evtMark (s : State) (code unit : Nat) (l : Limiter) : (s.setLimiter code unit l).evtMark = s.evtMark := rfl
@[simp] theorem State.setLimiter_packets (s : State) (code unit : Nat) (l : Limiter) : (s.setLimiter code unit l).packets = s.packets := rfl
@[simp] theorem State.setLimiter_nextPid (s : State) (code unit : Nat) (l : Limiter) : (s.setLimiter code unit l).nextPid = s.nextPid := rfl
@[simp] theorem State.setLimiter_epochRefs (s : State) (code unit : Nat) (l : Limiter) : (s.setLimiter code unit l).epochRefs = s.epochRefs := rfl
@[simp] theorem State.setLimiter_epochBank (s : State) (code unit : Nat) (l : Limiter) : (s.setLimiter code unit l).epochBank = s.epochBank := rfl
@[simp] theorem State.setLimiter_slices (s : State) (code unit : Nat) (l : Limiter) : (s.setLimiter code unit l).slices = s.slices := rfl
@[simp] theorem State.setLimiter_ports (s : State) (code unit : Nat) (l : Limiter) : (s.setLimiter code unit l).ports = s.ports := rfl
@[simp] theorem State.setLimiter_i2c (s : State) (code unit : Nat) (l : Limiter) : (s.setLimiter code unit l).i2c = s.i2c := rfl
@[simp] theorem State.setLimiter_buf (s : State) (code unit : Nat) (l : Limiter) : (s.setLimiter code unit l).buf = s.buf := rfl
@[simp] theorem State.setLimiter_sch (s : State) (code unit : Nat) (l : Limiter) : (s.setLimiter code unit l).sch = s.sch := rfl
@[simp] theorem State.setLimiter_gates (s : State) (code unit : Nat) (l : Limiter) : (s.setLimiter code unit l).gates = s.gates := rfl
@[simp] theorem State.setLimiter_rul (s : State) (code unit : Nat) (l : Limiter) : (s.setLimiter code unit l).rul = s.rul := rfl
@[simp] theorem State.setLimiter_fle (s : State) (code unit : Nat) (l : Limiter) : (s.setLimiter code unit l).fle = s.fle := rfl
@[simp] theorem State.setLimiter_trw (s : State) (code unit : Nat) (l : Limiter) : (s.setLimiter code unit l).trw = s.trw := rfl
@[simp] theorem State.setLimiter_tim (s : State) (code unit : Nat) (l : Limiter) : (s.setLimiter code unit l).tim = s.tim := rfl
@[simp] theorem State.setLimiter_ktl (s : State) (code unit : Nat) (l : Limiter) : (s.setLimiter code unit l).ktl = s.ktl := rfl
@[simp] theorem State.setLimiter_pmu (s : State) (code unit : Nat) (l : Limiter) : (s.setLimiter code unit l).pmu = s.pmu := rfl
@[simp] theorem State.setLimiter_hrv (s : State) (code unit : Nat) (l : Limiter) : (s.setLimiter code unit l).hrv = s.hrv := rfl
@[simp] theorem State.setLimiter_glh (s : State) (code unit : Nat) (l : Limiter) : (s.setLimiter code unit l).glh = s.glh := rfl
@[simp] theorem State.setLimiter_xlb (s : State) (code unit : Nat) (l : Limiter) : (s.setLimiter code unit l).xlb = s.xlb := rfl
@[simp] theorem State.setLimiter_fwd (s : State) (code unit : Nat) (l : Limiter) : (s.setLimiter code unit l).fwd = s.fwd := rfl
@[simp] theorem State.setLimiter_trl (s : State) (code unit : Nat) (l : Limiter) : (s.setLimiter code unit l).trl = s.trl := rfl
@[simp] theorem State.setLimiter_grf (s : State) (code unit : Nat) (l : Limiter) : (s.setLimiter code unit l).grf = s.grf := rfl
@[simp] theorem State.setLimiter_nvm (s : State) (code unit : Nat) (l : Limiter) : (s.setLimiter code unit l).nvm = s.nvm := rfl
@[simp] theorem State.setLimiter_sec (s : State) (code unit : Nat) (l : Limiter) : (s.setLimiter code unit l).sec = s.sec := rfl
@[simp] theorem State.setLimiter_mgt (s : State) (code unit : Nat) (l : Limiter) : (s.setLimiter code unit l).mgt = s.mgt := rfl

@[simp] theorem State.setCtx_pending (s : State) (k : Nat) (c : Ctx) : (s.setCtx k c).pending = s.pending := rfl
@[simp] theorem State.setCtx_regs (s : State) (k : Nat) (c : Ctx) : (s.setCtx k c).regs = s.regs := rfl
@[simp] theorem State.setCtx_aon (s : State) (k : Nat) (c : Ctx) : (s.setCtx k c).aon = s.aon := rfl
@[simp] theorem State.setCtx_net (s : State) (k : Nat) (c : Ctx) : (s.setCtx k c).net = s.net := rfl
@[simp] theorem State.setCtx_fresh (s : State) (k : Nat) (c : Ctx) : (s.setCtx k c).fresh = s.fresh := rfl
@[simp] theorem State.setCtx_out (s : State) (k : Nat) (c : Ctx) : (s.setCtx k c).out = s.out := rfl
@[simp] theorem State.setCtx_events (s : State) (k : Nat) (c : Ctx) : (s.setCtx k c).events = s.events := rfl
@[simp] theorem State.setCtx_evtMark (s : State) (k : Nat) (c : Ctx) : (s.setCtx k c).evtMark = s.evtMark := rfl
@[simp] theorem State.setCtx_limiters (s : State) (k : Nat) (c : Ctx) : (s.setCtx k c).limiters = s.limiters := rfl
@[simp] theorem State.setCtx_packets (s : State) (k : Nat) (c : Ctx) : (s.setCtx k c).packets = s.packets := rfl
@[simp] theorem State.setCtx_nextPid (s : State) (k : Nat) (c : Ctx) : (s.setCtx k c).nextPid = s.nextPid := rfl
@[simp] theorem State.setCtx_epochRefs (s : State) (k : Nat) (c : Ctx) : (s.setCtx k c).epochRefs = s.epochRefs := rfl
@[simp] theorem State.setCtx_epochBank (s : State) (k : Nat) (c : Ctx) : (s.setCtx k c).epochBank = s.epochBank := rfl
@[simp] theorem State.setCtx_slices (s : State) (k : Nat) (c : Ctx) : (s.setCtx k c).slices = s.slices := rfl
@[simp] theorem State.setCtx_ports (s : State) (k : Nat) (c : Ctx) : (s.setCtx k c).ports = s.ports := rfl
@[simp] theorem State.setCtx_i2c (s : State) (k : Nat) (c : Ctx) : (s.setCtx k c).i2c = s.i2c := rfl
@[simp] theorem State.setCtx_buf (s : State) (k : Nat) (c : Ctx) : (s.setCtx k c).buf = s.buf := rfl
@[simp] theorem State.setCtx_sch (s : State) (k : Nat) (c : Ctx) : (s.setCtx k c).sch = s.sch := rfl
@[simp] theorem State.setCtx_gates (s : State) (k : Nat) (c : Ctx) : (s.setCtx k c).gates = s.gates := rfl
@[simp] theorem State.setCtx_rul (s : State) (k : Nat) (c : Ctx) : (s.setCtx k c).rul = s.rul := rfl
@[simp] theorem State.setCtx_fle (s : State) (k : Nat) (c : Ctx) : (s.setCtx k c).fle = s.fle := rfl
@[simp] theorem State.setCtx_tim (s : State) (k : Nat) (c : Ctx) : (s.setCtx k c).tim = s.tim := rfl
@[simp] theorem State.setCtx_ktl (s : State) (k : Nat) (c : Ctx) : (s.setCtx k c).ktl = s.ktl := rfl
@[simp] theorem State.setCtx_pmu (s : State) (k : Nat) (c : Ctx) : (s.setCtx k c).pmu = s.pmu := rfl
@[simp] theorem State.setCtx_hrv (s : State) (k : Nat) (c : Ctx) : (s.setCtx k c).hrv = s.hrv := rfl
@[simp] theorem State.setCtx_glh (s : State) (k : Nat) (c : Ctx) : (s.setCtx k c).glh = s.glh := rfl
@[simp] theorem State.setCtx_xlb (s : State) (k : Nat) (c : Ctx) : (s.setCtx k c).xlb = s.xlb := rfl
@[simp] theorem State.setCtx_fwd (s : State) (k : Nat) (c : Ctx) : (s.setCtx k c).fwd = s.fwd := rfl
@[simp] theorem State.setCtx_trl (s : State) (k : Nat) (c : Ctx) : (s.setCtx k c).trl = s.trl := rfl
@[simp] theorem State.setCtx_grf (s : State) (k : Nat) (c : Ctx) : (s.setCtx k c).grf = s.grf := rfl
@[simp] theorem State.setCtx_nvm (s : State) (k : Nat) (c : Ctx) : (s.setCtx k c).nvm = s.nvm := rfl
@[simp] theorem State.setCtx_sec (s : State) (k : Nat) (c : Ctx) : (s.setCtx k c).sec = s.sec := rfl
@[simp] theorem State.setCtx_mgt (s : State) (k : Nat) (c : Ctx) : (s.setCtx k c).mgt = s.mgt := rfl

@[simp] theorem State.modCore_pending (s : State) (n : Nat) (f : Core → Core) : (s.modCore n f).pending = s.pending := rfl
@[simp] theorem State.modCore_regs (s : State) (n : Nat) (f : Core → Core) : (s.modCore n f).regs = s.regs := rfl
@[simp] theorem State.modCore_aon (s : State) (n : Nat) (f : Core → Core) : (s.modCore n f).aon = s.aon := rfl
@[simp] theorem State.modCore_net (s : State) (n : Nat) (f : Core → Core) : (s.modCore n f).net = s.net := rfl
@[simp] theorem State.modCore_fresh (s : State) (n : Nat) (f : Core → Core) : (s.modCore n f).fresh = s.fresh := rfl
@[simp] theorem State.modCore_out (s : State) (n : Nat) (f : Core → Core) : (s.modCore n f).out = s.out := rfl
@[simp] theorem State.modCore_events (s : State) (n : Nat) (f : Core → Core) : (s.modCore n f).events = s.events := rfl
@[simp] theorem State.modCore_evtMark (s : State) (n : Nat) (f : Core → Core) : (s.modCore n f).evtMark = s.evtMark := rfl
@[simp] theorem State.modCore_limiters (s : State) (n : Nat) (f : Core → Core) : (s.modCore n f).limiters = s.limiters := rfl
@[simp] theorem State.modCore_packets (s : State) (n : Nat) (f : Core → Core) : (s.modCore n f).packets = s.packets := rfl
@[simp] theorem State.modCore_nextPid (s : State) (n : Nat) (f : Core → Core) : (s.modCore n f).nextPid = s.nextPid := rfl
@[simp] theorem State.modCore_epochRefs (s : State) (n : Nat) (f : Core → Core) : (s.modCore n f).epochRefs = s.epochRefs := rfl
@[simp] theorem State.modCore_epochBank (s : State) (n : Nat) (f : Core → Core) : (s.modCore n f).epochBank = s.epochBank := rfl
@[simp] theorem State.modCore_slices (s : State) (n : Nat) (f : Core → Core) : (s.modCore n f).slices = s.slices := rfl
@[simp] theorem State.modCore_ports (s : State) (n : Nat) (f : Core → Core) : (s.modCore n f).ports = s.ports := rfl
@[simp] theorem State.modCore_i2c (s : State) (n : Nat) (f : Core → Core) : (s.modCore n f).i2c = s.i2c := rfl
@[simp] theorem State.modCore_buf (s : State) (n : Nat) (f : Core → Core) : (s.modCore n f).buf = s.buf := rfl
@[simp] theorem State.modCore_sch (s : State) (n : Nat) (f : Core → Core) : (s.modCore n f).sch = s.sch := rfl
@[simp] theorem State.modCore_gates (s : State) (n : Nat) (f : Core → Core) : (s.modCore n f).gates = s.gates := rfl
@[simp] theorem State.modCore_rul (s : State) (n : Nat) (f : Core → Core) : (s.modCore n f).rul = s.rul := rfl
@[simp] theorem State.modCore_fle (s : State) (n : Nat) (f : Core → Core) : (s.modCore n f).fle = s.fle := rfl
@[simp] theorem State.modCore_trw (s : State) (n : Nat) (f : Core → Core) : (s.modCore n f).trw = s.trw := rfl
@[simp] theorem State.modCore_tim (s : State) (n : Nat) (f : Core → Core) : (s.modCore n f).tim = s.tim := rfl
@[simp] theorem State.modCore_ktl (s : State) (n : Nat) (f : Core → Core) : (s.modCore n f).ktl = s.ktl := rfl
@[simp] theorem State.modCore_pmu (s : State) (n : Nat) (f : Core → Core) : (s.modCore n f).pmu = s.pmu := rfl
@[simp] theorem State.modCore_hrv (s : State) (n : Nat) (f : Core → Core) : (s.modCore n f).hrv = s.hrv := rfl
@[simp] theorem State.modCore_xlb (s : State) (n : Nat) (f : Core → Core) : (s.modCore n f).xlb = s.xlb := rfl
@[simp] theorem State.modCore_fwd (s : State) (n : Nat) (f : Core → Core) : (s.modCore n f).fwd = s.fwd := rfl
@[simp] theorem State.modCore_trl (s : State) (n : Nat) (f : Core → Core) : (s.modCore n f).trl = s.trl := rfl
@[simp] theorem State.modCore_grf (s : State) (n : Nat) (f : Core → Core) : (s.modCore n f).grf = s.grf := rfl
@[simp] theorem State.modCore_nvm (s : State) (n : Nat) (f : Core → Core) : (s.modCore n f).nvm = s.nvm := rfl
@[simp] theorem State.modCore_sec (s : State) (n : Nat) (f : Core → Core) : (s.modCore n f).sec = s.sec := rfl
@[simp] theorem State.modCore_mgt (s : State) (n : Nat) (f : Core → Core) : (s.modCore n f).mgt = s.mgt := rfl

@[simp] theorem State.setMemByte_pending (s : State) (a : Nat) (b : Byte) : (s.setMemByte a b).pending = s.pending := rfl
@[simp] theorem State.setMemByte_regs (s : State) (a : Nat) (b : Byte) : (s.setMemByte a b).regs = s.regs := rfl
@[simp] theorem State.setMemByte_aon (s : State) (a : Nat) (b : Byte) : (s.setMemByte a b).aon = s.aon := rfl
@[simp] theorem State.setMemByte_net (s : State) (a : Nat) (b : Byte) : (s.setMemByte a b).net = s.net := rfl
@[simp] theorem State.setMemByte_fresh (s : State) (a : Nat) (b : Byte) : (s.setMemByte a b).fresh = s.fresh := rfl
@[simp] theorem State.setMemByte_out (s : State) (a : Nat) (b : Byte) : (s.setMemByte a b).out = s.out := rfl
@[simp] theorem State.setMemByte_events (s : State) (a : Nat) (b : Byte) : (s.setMemByte a b).events = s.events := rfl
@[simp] theorem State.setMemByte_evtMark (s : State) (a : Nat) (b : Byte) : (s.setMemByte a b).evtMark = s.evtMark := rfl
@[simp] theorem State.setMemByte_limiters (s : State) (a : Nat) (b : Byte) : (s.setMemByte a b).limiters = s.limiters := rfl
@[simp] theorem State.setMemByte_packets (s : State) (a : Nat) (b : Byte) : (s.setMemByte a b).packets = s.packets := rfl
@[simp] theorem State.setMemByte_nextPid (s : State) (a : Nat) (b : Byte) : (s.setMemByte a b).nextPid = s.nextPid := rfl
@[simp] theorem State.setMemByte_epochRefs (s : State) (a : Nat) (b : Byte) : (s.setMemByte a b).epochRefs = s.epochRefs := rfl
@[simp] theorem State.setMemByte_epochBank (s : State) (a : Nat) (b : Byte) : (s.setMemByte a b).epochBank = s.epochBank := rfl
@[simp] theorem State.setMemByte_slices (s : State) (a : Nat) (b : Byte) : (s.setMemByte a b).slices = s.slices := rfl
@[simp] theorem State.setMemByte_ports (s : State) (a : Nat) (b : Byte) : (s.setMemByte a b).ports = s.ports := rfl
@[simp] theorem State.setMemByte_i2c (s : State) (a : Nat) (b : Byte) : (s.setMemByte a b).i2c = s.i2c := rfl
@[simp] theorem State.setMemByte_buf (s : State) (a : Nat) (b : Byte) : (s.setMemByte a b).buf = s.buf := rfl
@[simp] theorem State.setMemByte_sch (s : State) (a : Nat) (b : Byte) : (s.setMemByte a b).sch = s.sch := rfl
@[simp] theorem State.setMemByte_gates (s : State) (a : Nat) (b : Byte) : (s.setMemByte a b).gates = s.gates := rfl
@[simp] theorem State.setMemByte_rul (s : State) (a : Nat) (b : Byte) : (s.setMemByte a b).rul = s.rul := rfl
@[simp] theorem State.setMemByte_fle (s : State) (a : Nat) (b : Byte) : (s.setMemByte a b).fle = s.fle := rfl
@[simp] theorem State.setMemByte_trw (s : State) (a : Nat) (b : Byte) : (s.setMemByte a b).trw = s.trw := rfl
@[simp] theorem State.setMemByte_tim (s : State) (a : Nat) (b : Byte) : (s.setMemByte a b).tim = s.tim := rfl
@[simp] theorem State.setMemByte_ktl (s : State) (a : Nat) (b : Byte) : (s.setMemByte a b).ktl = s.ktl := rfl
@[simp] theorem State.setMemByte_pmu (s : State) (a : Nat) (b : Byte) : (s.setMemByte a b).pmu = s.pmu := rfl
@[simp] theorem State.setMemByte_hrv (s : State) (a : Nat) (b : Byte) : (s.setMemByte a b).hrv = s.hrv := rfl
@[simp] theorem State.setMemByte_xlb (s : State) (a : Nat) (b : Byte) : (s.setMemByte a b).xlb = s.xlb := rfl
@[simp] theorem State.setMemByte_fwd (s : State) (a : Nat) (b : Byte) : (s.setMemByte a b).fwd = s.fwd := rfl
@[simp] theorem State.setMemByte_trl (s : State) (a : Nat) (b : Byte) : (s.setMemByte a b).trl = s.trl := rfl
@[simp] theorem State.setMemByte_grf (s : State) (a : Nat) (b : Byte) : (s.setMemByte a b).grf = s.grf := rfl
@[simp] theorem State.setMemByte_nvm (s : State) (a : Nat) (b : Byte) : (s.setMemByte a b).nvm = s.nvm := rfl
@[simp] theorem State.setMemByte_sec (s : State) (a : Nat) (b : Byte) : (s.setMemByte a b).sec = s.sec := rfl
@[simp] theorem State.setMemByte_mgt (s : State) (a : Nat) (b : Byte) : (s.setMemByte a b).mgt = s.mgt := rfl

end Sys2Proof.Machine
end

