-- ==== Sys2Proof/Laws/Tables.lean ====
section
/-! SUPPORT. Tables: reading after writing, and the canonical form that every operation keeps. -/

namespace Sys2Proof

variable {α : Type}

@[simp] theorem Table.get_nil (k : Nat) (d : α) : Table.get [] k d = d := rfl

theorem Table.get_ins (t : Table α) (k j : Nat) (v d : α) :
    (t.ins k v).get j d = if k = j then v else t.get j d := by
  induction t with
  | nil => simp [Table.ins, Table.get]
  | cons e r ih =>
    obtain ⟨k', v'⟩ := e
    by_cases h1 : k < k'
    · simp [Table.ins, h1, Table.get]
    · by_cases h2 : k = k'
      · subst h2
        by_cases h3 : k = j <;> simp [Table.ins, Table.get, h3]
      · by_cases h3 : k' = j
        · subst h3
          simp [Table.ins, Table.get, h1, h2]
        · simp [Table.ins, Table.get, h1, h2, h3, ih]

theorem Table.get_erase (t : Table α) (k j : Nat) (d : α) :
    (t.erase k).get j d = if k = j then d else t.get j d := by
  induction t with
  | nil => simp [Table.erase, Table.get]
  | cons e r ih =>
    obtain ⟨k', v'⟩ := e
    unfold Table.erase at *
    by_cases h1 : k' = k
    · subst h1
      by_cases h2 : k' = j <;> simp_all [Table.get]
    · by_cases h2 : k' = j
      · subst h2
        simp [Table.get, h1, Ne.symm h1]
      · simp_all [Table.get]

/-- A read after a write: the value written at its key, what was there at every other key. -/
theorem Table.get_put [DecidableEq α] (t : Table α) (k j : Nat) (v d : α) :
    (t.put k d v).get j d = if k = j then v else t.get j d := by
  unfold Table.put
  split
  · rename_i h
    rw [Table.get_erase, h]
  · exact Table.get_ins t k j v d

@[simp] theorem Table.get_put_self [DecidableEq α] (t : Table α) (k : Nat) (v d : α) : (t.put k d v).get k d = v := by
  simp [Table.get_put]

@[simp] theorem Table.get_ins_self (t : Table α) (k : Nat) (v d : α) : (t.ins k v).get k d = v := by
  simp [Table.get_ins]

/-- What is in a table after an insertion was there before, or is what was inserted. -/
theorem Table.mem_ins {t : Table α} {k : Nat} {v : α} {e : Nat × α} (h : e ∈ t.ins k v) : e = (k, v) ∨ e ∈ t := by
  induction t with
  | nil => simpa [Table.ins] using h
  | cons a r ih =>
    obtain ⟨k', v'⟩ := a
    unfold Table.ins at h
    split at h
    · simpa using h
    · split at h
      · simp only [List.mem_cons] at h ⊢
        exact h.imp_right .inr
      · simp only [List.mem_cons] at h ⊢
        rcases h with h | h
        · exact .inr (.inl h)
        · exact (ih h).imp_right .inr

/-- An insertion of a value other than the default keeps the canonical form. -/
theorem Table.wf_ins [DecidableEq α] {t : Table α} {d : Nat → α} {k : Nat} {v : α} (h : t.wf d = true) (hv : v ≠ d k) :
    (t.ins k v).wf d = true := by
  induction t with
  | nil => simp [Table.ins, Table.wf, hv]
  | cons a r ih =>
    obtain ⟨k', v'⟩ := a
    simp only [Table.wf, Bool.and_eq_true, decide_eq_true_eq, List.all_eq_true] at h
    obtain ⟨⟨h1, h2⟩, h3⟩ := h
    unfold Table.ins
    split
    · rename_i hk
      simp only [Table.wf, Bool.and_eq_true, decide_eq_true_eq, List.all_eq_true, List.mem_cons]
      refine ⟨⟨hv, ?_⟩, ⟨h1, h2⟩, h3⟩
      rintro e (rfl | he)
      · exact hk
      · have := h2 e he; omega
    · split
      · rename_i hk
        subst hk
        simp only [Table.wf, Bool.and_eq_true, decide_eq_true_eq, List.all_eq_true]
        exact ⟨⟨hv, h2⟩, h3⟩
      · simp only [Table.wf, Bool.and_eq_true, decide_eq_true_eq, List.all_eq_true]
        refine ⟨⟨h1, fun e he => ?_⟩, ih h3⟩
        rcases Table.mem_ins he with rfl | he
        · simp only; omega
        · exact h2 e he

/-- A part of a canonical table is canonical. -/
theorem Table.wf_filter [DecidableEq α] {t : Table α} {d : Nat → α} (p : Nat × α → Bool) (h : t.wf d = true) :
    Table.wf (t.filter p) d = true := by
  induction t with
  | nil => rfl
  | cons a r ih =>
    obtain ⟨k', v'⟩ := a
    simp only [Table.wf, Bool.and_eq_true, decide_eq_true_eq, List.all_eq_true] at h
    obtain ⟨⟨h1, h2⟩, h3⟩ := h
    by_cases hp : p (k', v')
    · simp only [List.filter_cons, hp, if_true, Table.wf, Bool.and_eq_true, decide_eq_true_eq, List.all_eq_true]
      exact ⟨⟨h1, fun e he => h2 e (List.mem_filter.mp he).1⟩, ih h3⟩
    · simp only [List.filter_cons, hp]
      exact ih h3

/-- Every write keeps the canonical form. -/
theorem Table.wf_put [DecidableEq α] {t : Table α} {k : Nat} {d v : α} (h : t.wf (fun _ => d) = true) :
    (t.put k d v).wf (fun _ => d) = true := by
  unfold Table.put
  split
  · exact Table.wf_filter _ h
  · rename_i hv
    exact Table.wf_ins h hv

end Sys2Proof
end

