-- ==== Sys2Proof/Laws/Registers.lean ====
section
/-! SUPPORT. The register file: a read after a write gives the value written; every other register keeps its own. -/

namespace Sys2Proof.Machine

open Sys2Proof

theorem State.rd_wr (s : State) (r q : Reg) (v : Word) :
    (s.wr r v).rd q = if r.addr = q.addr then v ^^^ r.reset ^^^ q.reset else s.rd q := by
  unfold State.rd State.wr
  simp only [Table.get_put]
  split <;> rfl

@[simp] theorem State.rd_wr_self (s : State) (r : Reg) (v : Word) : (s.wr r v).rd r = v := by
  rw [State.rd_wr]
  simp [BitVec.xor_assoc]

/-- A write leaves every register at another address alone. -/
theorem State.rd_wr_ne (s : State) {r q : Reg} (v : Word) (h : r.addr ≠ q.addr) : (s.wr r v).rd q = s.rd q := by
  simp [State.rd_wr, h]

theorem State.fg_wr_ne (s : State) {r : Reg} {f : Fld} (v : Word) (h : r.addr ≠ f.reg.addr) : (s.wr r v).fg f = s.fg f := by
  simp [State.fg, State.rd_wr_ne s v h]

/-- Setting a field leaves the fields of every other register alone. -/
theorem State.fg_fs_ne (s : State) {f g : Fld} (n : Nat) (h : f.reg.addr ≠ g.reg.addr) : (s.fs f n).fg g = s.fg g :=
  State.fg_wr_ne s _ h

theorem State.rd_fs_ne (s : State) {f : Fld} {q : Reg} (n : Nat) (h : f.reg.addr ≠ q.addr) : (s.fs f n).rd q = s.rd q :=
  State.rd_wr_ne s _ h

/-- The bits of a value after a field of it was set. -/
theorem bitsOf_withBits (v hi lo n : Nat) : bitsOf (withBits v hi lo n) hi lo = n % 2 ^ (hi + 1 - lo) := by
  unfold bitsOf withBits
  have hlo : v % 2 ^ lo < 2 ^ lo := Nat.mod_lt _ (Nat.two_pow_pos lo)
  by_cases h : lo ≤ hi + 1
  · have e : 2 ^ (hi + 1) = 2 ^ lo * 2 ^ (hi + 1 - lo) := by rw [← Nat.pow_add]; congr 1; omega
    have : (v / 2 ^ (hi + 1) * 2 ^ (hi + 1) + n % 2 ^ (hi + 1 - lo) * 2 ^ lo + v % 2 ^ lo) / 2 ^ lo
        = v / 2 ^ (hi + 1) * 2 ^ (hi + 1 - lo) + n % 2 ^ (hi + 1 - lo) := by
      rw [show v / 2 ^ (hi + 1) * 2 ^ (hi + 1) + n % 2 ^ (hi + 1 - lo) * 2 ^ lo + v % 2 ^ lo
        = v % 2 ^ lo + (v / 2 ^ (hi + 1) * 2 ^ (hi + 1 - lo) + n % 2 ^ (hi + 1 - lo)) * 2 ^ lo by
        rw [e, Nat.add_mul, Nat.mul_assoc, Nat.mul_comm (2 ^ (hi + 1 - lo)) (2 ^ lo), Nat.add_comm (v % 2 ^ lo)]]
      rw [Nat.add_mul_div_right _ _ (Nat.two_pow_pos lo), Nat.div_eq_of_lt hlo, Nat.zero_add]
    rw [this, Nat.mul_add_mod_self_right, Nat.mod_mod]
  · have : hi + 1 - lo = 0 := by omega
    simp [this, Nat.mod_one]

/-- A field that lies in 32 bits reads the value it was set to. -/
theorem State.fg_fs_self (s : State) (f : Fld) (n : Nat) (h : f.hi < 32) : (s.fs f n).fg f = n % 2 ^ (f.hi + 1 - f.lo) := by
  unfold State.fg State.fs
  rw [State.rd_wr_self, BitVec.toNat_ofNat]
  have hb : ∀ v, bitsOf (v % 2 ^ 32) f.hi f.lo = bitsOf v f.hi f.lo := by
    intro v
    unfold bitsOf
    by_cases hl : f.lo ≤ 32
    · have e : (2 : Nat) ^ 32 = 2 ^ f.lo * 2 ^ (32 - f.lo) := by rw [← Nat.pow_add]; congr 1; omega
      rw [e, Nat.mod_mul_right_div_self, Nat.mod_mod_of_dvd]
      exact Nat.pow_dvd_pow 2 (by omega)
    · have : f.hi + 1 - f.lo = 0 := by omega
      simp [this, Nat.mod_one]
  rw [hb, bitsOf_withBits]

end Sys2Proof.Machine
end

