-- ==== Sys2Proof/Tests/Slice0.lean ====
section
/-! SUPPORT. Tests: the worked examples of the spec, one ill-formed command for each check of WellFormed, and for every
statement states and operands that meet the hypotheses of its clauses. -/

namespace Sys2Proof.Tests

open Sys2Proof Sys2Proof.Machine

set_option maxRecDepth 20000

/-! ## Worked examples of the spec -/

/-- The bytes of "123456789". -/
def digits : List Byte := [0x31, 0x32, 0x33, 0x34, 0x35, 0x36, 0x37, 0x38, 0x39]

/-- R112: both CRCs of the nine digits at the seeds' reset value. -/
theorem test_hash_crcs : crc32c 0xFFFFFFFF digits = 0xE3069283 ∧ crc32 0xFFFFFFFF digits = 0xCBF43926 := by decide
/-- R398. -/
theorem test_crc16 : crc16 digits = 0x29B1 := by decide
/-- R400. -/
theorem test_crc8 : crc8 digits = 0xF4 := by decide
/-- R400: a container of type 1, first but not last, with 300 bytes. -/
theorem test_container_header : containerHeader 1 true true 300 = [0x1C, 0x01, 0x2C, 0x89] := by decide
/-- R195: BR.NE with rs1 = g2, rs2 = g0 and off = 10. -/
theorem test_decode_branch : ∀ a : Agent, decodeInstr a 0x64002840 = some (.brNe a 2 0 10) := fun _ => rfl
/-- R279: the flow takes member 1 of a group of 12. -/
theorem test_ecmp_member :
    ({ State.reset with fwd := { ecmp := [(5, [12, 40, 41, 42, 43, 44, 45, 46, 47, 48, 49, 50, 51])] } } : State).ecmpWord 5
      0x9C3E51A7 0x4B8D2F6E = 2 ^ 63 + 41 := by decide
/-- R218: the detail of event 0x0801. -/
theorem test_quarantine_event :
    (((State.reset.setCtx (ctxKey 1 5 3) { pid := 0, restarts := 8, prog := 0x120 }).restartRoutine (ctxKey 1 5 3) (some 0xA44)).events.map
      fun e => (e.code, e.detail)) = [(0x0801, [0x15, 0x03, 0x0A, 0x44, 0x01, 0x20])] := by decide
/-- R496: with a flow region of 16 GiB the Glasshouse region begins at 0x14_C000_0000. -/
theorem test_regions : State.reset.glhBase = 0x14C0000000 := by decide

/-! ## Words written out from the encodings (R194–R196, R199) -/

/-- One word of each format and group, written field by field from bit 31 down; a function that is none is refused. -/
theorem test_decode_words : ∀ a : Agent,
    decodeInstr a (0b000000#6 ++ 0b00000000001#11 ++ 0b00011#5 ++ 0b00010#5 ++ 0b00001#5) = some (.sub a 1 2 3)
    ∧ decodeInstr a (0b000001#6 ++ 0b1111111111111110#16 ++ 0b00010#5 ++ 0b00001#5) = some (.addk a 1 2 0xFFFE)
    ∧ decodeInstr a (0b001010#6 ++ 0b1000000000000001#16 ++ 0b000#3 ++ 0b11#2 ++ 0b00001#5) = some (.insh a 1 3 0x8001)
    ∧ decodeInstr a (0b001011#6 ++ 0b000100#6 ++ 0b001111#6 ++ 0b0000#4 ++ 0b00010#5 ++ 0b00001#5) = some (.fxt a 1 2 4 15)
    ∧ decodeInstr a (0b001101#6 ++ 0b0000000000001011#16 ++ 0b00000#5 ++ 0b00001#5) = some (.mfpc a 1 0 11)
    ∧ decodeInstr a (0b010111#6 ++ 0b0000000110100000#16 ++ 0b00010#5 ++ 0b00011#5) = some (.std a 2 3 0x1A0)
    ∧ decodeInstr a (0b011110#6 ++ 0b11111111111111111111111111#26) = some (.call a 0x3FFFFFF)
    ∧ decodeInstr a (0b100100#6 ++ 0b00000000000#11 ++ 0b00011#5 ++ 0b00010#5 ++ 0b00000#5) = some (.setq a 0 2 3)
    ∧ decodeInstr a (0b111000#6 ++ 0b00000000000#11 ++ 0b01001#5 ++ 0b00000#5 ++ 0b00001#5) = some (.rdcr a 1 0 9)
    ∧ decodeInstr a (0b111011#6 ++ 0b00000000010#11 ++ 0b00011#5 ++ 0b00010#5 ++ 0b00001#5) = some (.chrcv a 1 2 3)
    ∧ decodeInstr a (0b000000#6 ++ 0b00000010000#11 ++ 0b00011#5 ++ 0b00010#5 ++ 0b00001#5) = none := fun _ =>
  ⟨rfl, rfl, rfl, rfl, rfl, rfl, rfl, rfl, rfl, rfl, rfl⟩

/-! ## Ill-formed commands -/

/-- A slice past 3, an engine past 15, a context past 7 and a context of the Glasshouse past 31. -/
theorem test_ill_formed_agents :
    ([.engine 4 0 0 .none, .engine 0 16 0 .none, .engine 0 0 8 .none, .core 32 .none] : List Agent).all (fun a =>
      !(Instr.add a 1 2 3).wf && !(Instr.exit a 0 0 0).wf && !(Instr.halt a 0 0 0).wf) = true := by decide

/-- One operand past its bound, for each operand that WellFormed bounds. -/
theorem test_ill_formed_operands :
  ([.frameStartReceived 64 [], .frameEnd 64 false 0 0, .cozyDrain 4, .wakeComplete 4, .dozeEntry 4, .restEntry 4,
    .dormantEntry 4, .earlyWake (.compare 16), .earlyWake (.gate 64), .parseHead 4 false, .schedulerSelection 67 .none,
    .frameTransmit 65 .none, .gateEntryBoundary 64, .gateSwitch 64, .macControlFrame 64 [] false 0 0,
    .pauseExpiry 64 none, .pauseExpiry 0 (some 8), .xoffRepeat 64 none, .xoffRepeat 0 (some 8),
    .pauseWatchdog 64 none, .pauseWatchdog 0 (some 8), .pauseWatchdogEnd 64 none, .pauseWatchdogEnd 0 (some 8),
    .lpiEntry 64 false, .lpiWakeDone 64 false, .modulePinChange 65 .los false, .pcsLockChange 64 false false,
    .linkDownDeclared 64, .linkUpDeclared 64, .holdExpiry 64, .prtCfgWrite .kernel 64 0, .i2cTransaction .kernel 4 0,
    .i2cDone 4 0 false [], .i2cTimeout 4, .budgetExceeded 4 0 0, .budgetExceeded 0 16 0, .budgetExceeded 0 0 8,
    .unitReply 4 0 0 .reply, .unitReply 0 16 0 .reply, .unitReply 0 0 8 .reply, .tentativeTimeout 4 0 0,
    .tentativeTimeout 0 16 0, .tentativeTimeout 0 0 8, .engineQuarantine 4 0, .engineRelease 4 0,
    .poolEnWrite .kernel 256 false 0, .l2AgeVisit 65536 [], .cellFree 4 0 0 0, .cellFree 0 64 0 0,
    .cellFree 0 0 262144 0, .spillRunWrite 16, .spillReadBack 16384 [], .configChange 64, .gateEnWrite .kernel 64 0,
    .listEntryRead 64 false 0, .listEntryWrite 64 false 0, .tsqW0Read 4, .defectDeclared 6, .defectCleared 6,
    .mdcByteReceived 2 0 false, .mdcByteSent 2, .mdcTxWrite 2 0, .mdcRxRead 2, .mdcEnWrite .kernel 2 0,
    .witnessFrameSend 8, .witnessFrameReceived 64 [] false 0 0, .witnessAbsent 8, .grfSeqLoRead 3, .brownOut 8 0 false,
    .throttleRaise 8 0, .throttleLower 8 0, .thermalResetRelease 8 0, .wakeCompareArm .kernel 16 0,
    .sliceRestartComplete 4, .timerCompareMet 32, .postWaitExpiry 32, .flowHoldExpiry 32, .ringEnWrite .kernel 17 0,
    .pmuEvcLoRead 512, .pmuFcCntLoRead 64, .breakEnd 2, .stackTemperatureChange 2 0, .glasshouseResultArrival 32] : List Instr).all (fun i => !i.wf) = true := by decide

/-! ## Hypotheses of the statements about the machine as a whole -/

theorem test_meets_StepRunsTheFrontCommand :
    ({ State.reset with pending := [.swap, .ageSweep] } : State).pending = .swap :: [.ageSweep] ∧ State.reset.pending = [] :=
  ⟨rfl, rfl⟩

theorem test_meets_EveryStepKeepsTheCanonicalForm :
    Canonical { State.reset with pending := [.swap] } ∧ ∃ t, step { State.reset with pending := [.swap] } = .next t :=
  ⟨by decide, _, rfl⟩

theorem test_meets_DecodingUndoesTheEncoding :
    (Instr.call (.core 31 .none) 0x3FFFFFF).agent? = some (.core 31 .none)
      ∧ instrWord (.call (.core 31 .none) 0x3FFFFFF) = some 0x7BFFFFFF := ⟨rfl, rfl⟩

theorem test_meets_RegisterWrites :
    Spec.find? 0x00000004 = none ∧ State.reset.mayReach .user Spec.PRT_TIMERS = false
      ∧ Spec.find? 0x0043F00C = some (Spec.PRT_TIMERS, [63]) ∧ State.reset.mayReach .kernel Spec.PRT_TIMERS = true
      ∧ Spec.PRT_TIMERS.sliceOf [63] = none ∧ (Reg.PRT_TIMERS 63).addr = 0x0043F00C ∧ Spec.PRT_TIMERS.inRange 0x064FA3E8 = true :=
  ⟨rfl, rfl, rfl, rfl, rfl, rfl, rfl⟩

theorem test_meets_PortTimersRegister :
    (bitsOf 0x064FA3E8 26 20 ≤ 100 ∧ bitsOf 0x064FA3E8 19 10 ≤ 1000 ∧ bitsOf 0x064FA3E8 9 0 ≤ 1000) ∧ ¬ bitsOf 0x000003E9 9 0 ≤ 1000 := by
  decide

/-! ## Contexts that can issue -/

/-- Context 0 of engine 0 of slice 0 in a state, working on packet 1. -/
def engineAt (x : Ctx) (p : Packet := {}) : State := (State.reset.setPkt 1 p).setCtx 0 x

theorem engine_can (x : Ctx) (p : Packet) (hw : x.wait = none) (hb : x.within 0 = true) (hi : x.ia ≤ 0xFFFFC) :
    EngineCan (engineAt x p) 0 0 0 x :=
  ⟨by decide, by decide, by decide, by show State.reset.quarantined 0 0 = false; decide, rfl, hw,
    by simp [State.engineHeld, show (engineAt x p).trw.ctxs = [(0, x)] from rfl, hw], hb, hi⟩

/-- Context 1 of the Glasshouse in a state. -/
def coreAt (x : Core) : State := State.reset.modCore 1 fun _ => x

/-- A context of an engine with registers. -/
def ctx (g : Table DWord) : Ctx := { pid := 1, budget := 8, g := g }

/-- A context of the Glasshouse that runs in its own memory, with registers. -/
def core (g : Table DWord) (kern : Bool := true) : Core := { state := 2, ia := 0x10010000, g := g, kern := kern }

theorem test_an_engine_can_issue : EngineCan (engineAt (ctx [])) 0 0 0 (ctx []) := engine_can _ _ rfl (by decide) (by decide)
theorem test_a_core_can_issue : CoreCan (coreAt (core [])) 1 := ⟨by decide, by decide, by decide⟩
theorem test_a_user_can_issue : CoreCan (coreAt (core [] false)) 1 := ⟨by decide, by decide, by decide⟩

/-! ## Hypotheses of the statements about instructions -/

theorem test_meets_AluAndConstantsGiveTheirResult :
    (63 : BitVec 16).toNat < 64 ∧ (63 : BitVec 6).toNat + (0 : BitVec 6).toNat < 64 ∧ (0 : BitVec 6).toNat + (63 : BitVec 6).toNat < 64 := by
  decide

theorem test_meets_LoadsAndCoreStores :
    ((engineAt (ctx [])).windowLoad (ctx []) 0x298 8).isSome = true ∧ windowRow 0x29C 8 = none
      ∧ PlainMemory (coreAt (core [])) 1 0x1001FFF8 8 ∧ PlainMemory (coreAt (core [])) 1 0x117BFFFF 1
      ∧ PlainMemory (coreAt (core [] false)) 1 0x10010000 4 :=
  ⟨by decide, by decide, Or.inl (by decide), Or.inr (by decide), Or.inl (by decide)⟩

/-- The record of a packet with a translation link (R231): an inside record that holds a reference. -/
def linked : Record := { flags := 2 ^ 5, xaddr := 3, xport := 0x1234, member := 2 ^ 14 }

theorem test_meets_ContextWindowOfAnEngine :
    0x3E + 2 ≤ 0x40 ∧ 0x78 + 8 ≤ 0x80 ∧ (0x1A0 ≤ 0x298 ∧ 0x298 + 8 ≤ 0x2A0) ∧ 0x2A0 < 0x299 + 8
      ∧ ({ ctx [] with record := some linked } : Ctx).copy.isSome = true ∧ (ctx []).copy = none
      ∧ ((engineAt (ctx []) { pass := 2 }).pkt 1).pass ≠ 1 ∧ ((engineAt (ctx [])).pkt 1).pass = 1
      ∧ windowRow 0x1FC 8 = some 0x1A0 ∧ windowRow 0x19C 8 = none := by decide

theorem test_meets_BranchesAndJumps :
    (BitVec.ofNat 64 0xFFFFC + 4 * (0xFFFF : BitVec 16).signExtend 64).toNat % 4 = 0
      ∧ (BitVec.ofNat 64 0xFFFFC + 4 * (0xFFFF : BitVec 16).signExtend 64).toNat ≤ 0xFFFFC
      ∧ 0xFFFFC < (BitVec.ofNat 64 0xFFFFC + 4 * (1 : BitVec 16).signExtend 64).toNat
      ∧ (coreIssued (coreAt (core [])) 1).fetchable 1 (core []) 0x1001FFFC = true := by decide

/-- A state in which packet 1 has an operation, of a rule whose word is `w`. -/
def tracked (w : Nat) (x : Ctx) (p : Packet := {}) (o : FlowOp := {}) : State :=
  let s := engineAt x { p with op := some 7, rule := some w }
  { s with fle := { s.fle with ops := [(7, o)] } }

theorem test_meets_CreationAndMetering :
    bitAt (2 ^ 60 + 2 ^ 59) 60 = true ∧ bitAt (2 ^ 60 + 2 ^ 59) 59 = true ∧ bitAt (2 ^ 60) 59 = false
      ∧ ((tracked (2 ^ 60) (ctx [])).pkt 1).op = some 7 ∧ ((tracked 0 (ctx [])).op 7).creation = .none
      ∧ (tracked 0 (ctx [])).fle.creations.length < 4096 ∧ ((tracked 0 (ctx [])).pkt 1).flow ≠ .refused 1
      ∧ ((tracked 0 (ctx []) { flow := .refused 1 }).pkt 1).flow = .refused 1
      ∧ ({ ctx [] with record := some linked } : Ctx).record.isSome = true ∧ ({ ctx [] with present := true } : Ctx).present = true
      ∧ bitAt (ctx []).pol 17 = false ∧ ((ctx [(2, 131071)]).reg 2).toNat ≤ 131071 ∧ ((ctx [(3, 2)]).reg 3).toNat ≤ 2
      ∧ 2 < ((ctx [(3, 3)]).reg 3).toNat ∧ 131071 < ((ctx [(2, 131072)]).reg 2).toNat
      ∧ ((engineAt (ctx []) { ended := true }).pkt 1).ended = true := by decide

/-- A state whose IPv4 bank 0 holds 10.1.0.0/16, and no default route. -/
def routed : State := ((engineAt (ctx [])).lpmInsert 0 0 { len := 16, addr := 0x0A010000, index := 9 }).2

theorem test_meets_TableLookups :
    (2 ^ 60 - 1 < 2 ^ 60 ∧ 2 ^ 60 ≤ 2 ^ 60 ∧ 2 ^ 32 - 1 < 2 ^ 32)
      ∧ (match routed.lpmProbe 0 (routed.lookupBank 1 (some {})) 0x0A01FFFF 32 0 with | .found e _ => e.index | _ => 0) = 9
      ∧ (match routed.lpmProbe 0 (routed.lookupBank 1 (some {})) 0x0A020000 32 0 with | .none _ => true | _ => false) = true
      ∧ (routed.windowLoad (ctx []) 0x1A8 16).isSome = true ∧ routed.windowLoad (ctx []) 0x298 16 = none
      ∧ ((core [(2, 65535)]).reg 2).toNat ≤ 65535 ∧ ((core [(2, 4095)]).reg 2).toNat ≤ 4095 := by decide

/-- A state with pool 5 enabled, and group 1 whose first slot names the UP member 7. -/
def balanced : State :=
  let s := (engineAt (ctx [])).fs (Fld.XLB_POOL_CFG_EN 5) 1
  { s with xlb := { s.xlb with groups := [(1, { en := true })], slots := [(4096, { valid := true, primary := 7 })],
                               members := [(256 + 7, { state := 2 })] } }

theorem test_meets_TranslationInstructions :
    ({ ctx [] with record := some linked } : Ctx).copy = some linked ∧ linked.flag bBalanced = false ∧ linked.hasRef = true
      ∧ bitAt linked.member 15 = false ∧ balanced.fb (Fld.XLB_POOL_CFG_EN 5) = true
      ∧ linked.xaddr = (3 * 2 ^ 32 + 0x1234 * 2 ^ 16) / 2 ^ 32 ∧ linked.xport = (3 * 2 ^ 32 + 0x1234 * 2 ^ 16) / 2 ^ 16 % 2 ^ 16
      ∧ (balanced.lbGroup 1).en = true ∧ (balanced.lbSelect 1 (balanced.pkt 1).head.hash none).status = 0 := by decide

theorem test_meets_EgressRequests :
    (engineIssued (engineAt (ctx [])) 0 0 0 (ctx [])).queueCount 63 = 8 ∧ 7 < (engineAt (ctx [])).queueCount 66
      ∧ ({ ctx [] with mirrors := [3] } : Ctx).mirrors.contains 3 = true ∧ (ctx []).tsreq = none
      ∧ editBound 1 = 4096 ∧ editsCost false [(1, 4095)] ≤ 64
      ∧ ({ ctx [] with edits := List.replicate 8 (2, 0) } : Ctx).edits.length = 8 := by decide

theorem test_meets_ExitAndWrongPlaces :
    (engineAt { ctx [] with charged := 8 }).ctx? (ctxKey 0 0 0) = some { ctx [] with charged := 8 }
      ∧ ({ ctx [] with charged := 8 } : Ctx).within 0 = false ∧ (engineAt (ctx [])).quarantined 0 0 = false := ⟨rfl, by decide, by decide⟩

theorem test_meets_ControlRegisters :
    (∀ n ∈ ccrKernel, n < 19) ∧ 2 ∉ ccrReadOnly ∧ 12 ∉ ccrKernel ∧ 17 ∈ ccrReadOnly
      ∧ ((coreIssued (coreAt (core [])) 1).writeCcr 1 (core []) 5 0x1234).isSome = true := by decide

theorem test_meets_UserPrivilege :
    (coreAt (core [] false)).core 1 = core [] false ∧ (1 ∈ ccrKernel ∧ 16 ∈ ccrKernel) ∧ 0x0FFFFFF8 + 8 ≤ 0x10000000
      ∧ (taskOf ((List.range 32).map fun i => if i = 5 then 31 else 0)).map (fun k => (k.user, k.level)) = some (false, 31)
      ∧ slotNamed 0x117FFFC0 = some (255, 15) ∧ (coreAt (core [] false)).fb (Fld.GLH_CHAN_CFG_USER 255) = false := by decide

/-- Context 1 of the Glasshouse with its compare armed at second 0. -/
def armed : Core := { core [] with state := 3, armed := true, wait := .timer }

theorem test_meets_WaitsOfAContext :
    (core []).armed = false ∧ ({ core [] with armed := true } : Core).armed = true
      ∧ ({ core [(2, 6)] with evpend := 4 } : Core).evpend &&& ((core [(2, 6)]).reg 2).toNat ≠ 0
      ∧ (core [(2, 6)]).evpend &&& ((core [(2, 6)]).reg 2).toNat = 0
      ∧ (armed.state = 3 ∧ armed.armed = true ∧ armed.tmS * 1000000000 + armed.tmNs ≤ 0) ∧ armed.wait = .timer
      ∧ 0 < ({ armed with tmNs := 1 } : Core).tmS * 1000000000 + 1 := by decide

/-- A user task of level 30 that is posted, and context 2 IDLE. -/
def posted : State :=
  let s := State.reset.modCore 2 fun _ => { state := 1 }
  { s with glh := { s.glh with tasks := [{ num := 3, entry := 0x40, level := 30, user := true, tagged := false, tag := 0, arg := 9 }] } }

theorem test_meets_TasksArePostedBoundAndEnded :
    (coreAt (core [])).dispatcherFull = false ∧ taskOf (List.replicate 32 0) ≠ none
      ∧ posted.idleCore = some 2 ∧ posted.glh.tasks.all posted.bindable = true
      ∧ (((posted.glh.tasks.filter posted.bindable).find? fun t => (posted.glh.tasks.filter posted.bindable).all fun u =>
          decide (u.level ≤ t.level)).map (·.num)) = some 3
      ∧ ((coreAt { core [] with state := 4, wait := .post 0 7 }).core 1).wait = .post 0 7 := by decide

/-- Channel 0 enabled, slot 0 committed with 64 bytes, slot 1 reserved by context 1, slot 2 received by it. -/
def channelled : State :=
  let s := (coreAt (core [(2, 0)])).fs (Fld.GLH_CHAN_CFG_EN 0) 1
  s.modChan 0 fun _ => { slots := [(0, .committed 64), (1, .reserved 1), (2, .received 1 5)], order := [0] }

/-- The same channel with no message, and every slot held by context 5. -/
def fullChannel : State :=
  ((coreAt (core [(2, 0)])).fs (Fld.GLH_CHAN_CFG_EN 0) 1).modChan 0 fun _ =>
    { slots := (List.range 16).map fun k => (k, SlotState.received 5 1) }

/-- The transmit ring on, with its first entry at 0x1100_0000: 60 bytes at 0x1100_0040 for port 64. -/
def ringed : State :=
  let s := (State.reset.fs Fld.GLH_TXR_CFG_EN 1).wr Reg.GLH_TXR_BASE_LO 0x11000000
  s.setMemBytes 0x11000000 [0, 0x11, 0, 0, 0x40, 128, 0, 60, 0, 0, 64, 0, 0]

theorem test_meets_ChannelsAndTransmitRing :
    (coreIssued channelled 1).chanFault (core [(2, 0)]) 0 = none ∧ (coreIssued channelled 1).slotsHeld 1 false < 4
      ∧ ((coreIssued channelled 1).takeSlot 0 1).isSome = true ∧ ((coreIssued channelled 1).takeOldest 0 1).isSome = true
      ∧ slotNamed 0x117C0040 = some (0, 1) ∧ ((coreIssued channelled 1).chan 0).slots.get 1 .free = .reserved 1
      ∧ ((coreIssued channelled 1).chan 0).slots.get 2 .free = .received 1 5
      ∧ ((coreIssued fullChannel 1).takeSlot 0 1).isNone = true ∧ ((coreIssued fullChannel 1).takeOldest 0 1).isNone = true
      ∧ (coreIssued fullChannel 1).slotsHeld 1 true = 0 ∧ (coreAt (core [])).chanFault (core []) 0 = some 6 := by decide

theorem test_meets_ChannelsAndTransmitRing_ring :
    ringed.fb Fld.GLH_TXR_CFG_EN = true ∧ ringed.fg Fld.GLH_TXR_BASE_HI_BASE_HI = 0 ∧ ringed.fg Fld.GLH_TXR_HEAD_HEAD = 0
      ∧ (ringed.rd Reg.GLH_TXR_BASE_LO).toNat = 0x11000000 ∧ beNat (ringed.memBytes 0x11000005 1) = 128
      ∧ beNat (ringed.memBytes 0x11000006 2) = 60 ∧ beNat (ringed.memBytes 0x1100000A 2) / 256 = 64
      ∧ beNat (ringed.memBytes 0x11000000 5) = 0x11000040 ∧ ringed.bufferAddr 0x11000040 60 = true := by decide

theorem test_meets_FlowRequestsOfAContext :
    (coreAt (core [])).coreAccess 1 (core []) false 0x10010000 48 = .inr (.own 1)
      ∧ (coreAt (core [])).bufferFault 1 (core []) true 0x10010040 128 = none
      ∧ blockKey ((List.range 48).map fun i => if i = 3 then 0x10 else 0) ≠ none
      ∧ ({ core [] with flow := some { op := 7, since := 0 } } : Core).flow.isSome = true ∧ (core []).flow = none
      ∧ (coreAt (core [])).bufferFault 1 (core []) false 0x10010000 64 = none := by decide

/-- A context that holds a flow since AON cycle 0, at the end of its hold. -/
def holding : State := { coreAt { core [] with flow := some { op := 7, since := 0 } } with aon := 1250 }

theorem test_meets_FlowHoldsExpire :
    (holding.core 1).flow = some { op := 7, since := 0 } ∧ 0 + holding.fg Fld.GLH_CFG_FHOLD_US * usCycles = holding.aon
      ∧ holding.fle.holds = [] ∧ holding.fle.intake = [] ∧ Spec.GLH_CFG.inRange (1000 * 2 ^ 16 + 1) = true
      ∧ ((((coreAt { core [] with flow := some { op := 7, since := 0 }, wait := .flowPut 64 0 }).begin.dropFlow 1).modCore 1
          fun x => { x with expired := true }).core 1).wait = .flowPut 64 0 := by decide

theorem test_meets_ResultsAndAtomics :
    ((coreAt { core [] with wait := .lookup 5 }).core 1).wait = .lookup 5
      ∧ 0x117BFFF8 + 8 ≤ 0x117C0000 ∧ 0x117BFFF8 % 8 = 0 ∧ 0x11000001 % 8 ≠ 0 := by decide

theorem test_meets_CallsAndExceptions :
    ((coreAt (core [])).core 1).exc = false ∧ ((coreAt { core [] with exc := true }).core 1).exc = true
      ∧ (core []).kern = true ∧ (core [] false).kern = false := by decide

/-- The Glasshouse with debug unlocked, context 1 halted, and a stall whose time is over. -/
def stalled : State :=
  let s := { State.reset with aon := 250000 }.fs Fld.SEC_STATUS_SCOPE 1
  let s := (s.modCore 0 fun x => { x with state := 3 }).modCore 1 fun x => { x with state := 1 }
  { s with glh := { s.glh with stallSince := some 0 } }

theorem test_meets_GlasshouseControl :
    stalled.fbit Fld.SEC_STATUS_SCOPE 0 = true ∧ State.reset.fbit Fld.SEC_STATUS_SCOPE 0 = false ∧ State.reset.anyHalted = false
      ∧ (State.reset.core 0).state = 2 ∧ (State.reset.core 31).state = 0 ∧ ((coreAt { state := 5 }).core 1).state = 5
      ∧ State.reset.fb Fld.GLH_TXR_CFG_EN = false ∧ stalled.fg Fld.GLH_CFG_WD_MS = 10
      ∧ stalled.idleCore = some 1 ∧ State.reset.stalled = false := by decide

theorem test_meets_GlasshouseControl_stall : stalled.stalled = true ∧ 0 + stalled.fg Fld.GLH_CFG_WD_MS * msCycles = stalled.aon := by decide

/-! ## Hypotheses of the statements about ports and packets -/

/-- Slice 0 in service and in RUN, its port 0 with its link up, at AON cycle 1,000,000. -/
def up : State :=
  { ((((State.reset.modSlice 0 fun x => { x with inService := true }).setPower 0 0).fs (Fld.PRT_STATUS_LINK 0) 1).fs Fld.PRT_SLICE_MODE_ACTIVE 0xFFF0) with aon := 1000000 }

/-- A PAUSE frame of 64 bytes with quanta 5 (R61). -/
def pauseFrame : List Byte :=
  let f : List Byte := beBytes 6 0x0180C2000001 ++ beBytes 6 0x020000000001 ++ [0x88, 0x08, 0, 1, 0, 5] ++ List.replicate 42 0
  f ++ fcsOf f

/-- A pause of port 0 from cycle 10 to `till`. -/
def paused (till : Nat) : State := up.modPort 0 fun x => { x with pauses := [(8, { till := some till, since := some 10 })] }

/-- The watchdog of port 0 set to 20 ms. -/
def watched (till : Nat) : State := (paused till).fs (Fld.PRT_PAUSE_WD_WD_MS 0) 20

theorem test_meets_PausesAndLinks :
    up.assigned 0 = true ∧ beAt pauseFrame 12 2 = 0x8808 ∧ badCause pauseFrame false = none ∧ beAt pauseFrame 14 2 = 1
      ∧ beAt pauseFrame 0 6 = 0x0180C2000001 ∧ (up.fs (Fld.PRT_CFG_FC_MODE 0) 1).fg (Fld.PRT_CFG_FC_MODE 0) = 1
      ∧ up.fg (Fld.PRT_CFG_FC_MODE 0) = 0 ∧ up.underWatchdog 0 8 = false
      ∧ ((paused 1000000).port 0).pauses.get 8 {} = { till := some 1000000, since := some 10 }
      ∧ (watched 1000000).fg (Fld.PRT_PAUSE_WD_WD_MS 0) * msCycles + 10 < 1000000 ∧ (1000000 : Nat) < 1000001 := by decide

/-- Port 0 owes an XOFF at AON cycle `due`: its Cozy buffer is full and it may send PAUSE. -/
def owing (due : Nat) : State :=
  ((up.fs (Fld.PRT_CFG_FC_MODE 0) 1).modSlice 0 fun x => { x with cozyFull := true }).modPort 0 fun x => { x with xoff := [(8, due)] }

/-- Port 0 enabled, with its conditions met since cycle 0 while it is down, or failing since cycle 0 while it is up. -/
def enabled (link : Nat) : State :=
  let s := (up.fs (Fld.PRT_STATUS_LINK 0) link).fs (Fld.PRT_CFG_ENABLE 0) 1
  let s := ((s.fs (Fld.PRT_CFG_MOD_IGN 0) 1).fs (Fld.PRT_STATUS_PCS_LOCK 0) 1).fs (Fld.PRT_TIMERS_DN_DELAY_MS 0) 40
  s.modPort 0 fun x => { x with condsSince := some 0, failSince := some 0, holdTill := some 1000000, twTill := some 1000000 }

theorem test_meets_PausesAndLinks_xoff :
    ((owing 1000000).port 0).xoff.find? (fun e => e.1 == pauseKey none) = some (8, 1000000) ∧ (owing 1000000).xoffDue 0 8 = true
      ∧ (((paused 0).modPause 0 8 fun _ => { wdTill := some 1000000 }).port 0).pauses.get 8 {} = { wdTill := some 1000000 } := by
  decide

theorem test_meets_PausesAndLinks_links :
    up.power 0 ≠ 3 ∧ ((enabled 1).port 0).failSince = some 0 ∧ 0 + (enabled 1).fg (Fld.PRT_TIMERS_DN_DELAY_MS 0) * msCycles = 1000000
      ∧ (enabled 1).fb (Fld.PRT_STATUS_LINK 0) = true ∧ (enabled 0).fb (Fld.PRT_STATUS_LINK 0) = false
      ∧ (enabled 1).downAtOnce 0 = false
      ∧ ((enabled 0).port 0).condsSince = some 0 ∧ (enabled 0).linkConds 0 = true ∧ up.linkConds 0 = false
      ∧ ((enabled 0).port 0).holdTill = some 1000000 ∧ (enabled 0).portUp 0 = false ∧ ((enabled 0).port 0).twTill = some 1000000 := by
  decide

theorem test_meets_PausesAndLinks_lpi :
    (up.fs (Fld.PRT_CFG_LPI_EN 0) 1).fb (Fld.PRT_CFG_LPI_EN 0) = true ∧ up.fb (Fld.PRT_STATUS_LPI_TX 0) = false
      ∧ ((up.portQueues 0).all fun n => (up.queue n).items.isEmpty) = true ∧ up.fb (Fld.GTE_CFG_EN 0) = false
      ∧ (up.psched 0).tx = none ∧ (up.port 0).xoff = []
      ∧ (up.port 0).idleSince + up.fg (Fld.PRT_LPI_IDLE_US 0) * usCycles ≤ 1000000 := by decide

/-- Master 0 in a write transaction since AON cycle 0. -/
def busyI2c : State := { up.fs (Fld.PRT_I2C_STAT_BUSY 0) 1 with i2c := [(0, { startAt := some 0 })], aon := 250000 }

theorem test_meets_PortConfigurationAndI2c :
    up.cfgLegal 0 0x30 = false ∧ up.cfgLegal 0 0 = true
      ∧ (bitsOf 0x80800000 23 16 = 128 ∧ bitAt 0x80800000 31 = true) ∧ bitsOf 0x80810000 23 16 = 129 ∧ bitsOf 0x80000000 23 16 = 0
      ∧ up.fb (Fld.PRT_I2C_STAT_BUSY 0) = false ∧ busyI2c.fb (Fld.PRT_I2C_STAT_BUSY 0) = true
      ∧ busyI2c.fb (Fld.PRT_I2C_CMD_READ 0) = false ∧ (busyI2c.i2c.get 0 {}).startAt = some 0 ∧ 0 + 10 * msCycles = busyI2c.aon := by
  decide

/-- Packet 1 from port 0 in a place of slice 0: the parser's queue, or Cozy. -/
def arriving (fifo cozy : List Nat) : State :=
  (up.setPkt 1 { inPort := 0 }).modSlice 0 fun x => { x with fifo := fifo, cozy := cozy }

theorem test_meets_FramesAndHeads :
    (up.port 0).rx = none ∧ up.macConsumes 0 (List.replicate 64 0) = false ∧ up.macConsumes 0 pauseFrame = true
      ∧ ((up.modPort 0 fun x => { x with rx := some 1 }).port 0).rx = some 1 ∧ State.reset.fb (Fld.PRT_STATUS_LINK 63) = false
      ∧ ((arriving [] [1]).slice 0).cozy = [1] ∧ ((arriving [1, 2, 3] []).slice 0).fifo.length < 2048
      ∧ (arriving [1] []).nextHead 0 false = some 1 ∧ up.nextHead 0 false = none ∧ (up.slice 0).inService = true ∧ up.power 0 = 0 := by
  decide

/-- Packet 1 parsed, with a result of the flow engine and a rule word. -/
def parsed (p : Packet) : State := up.setPkt 1 { p with stage := .parsed }

/-- Program 0 in the program table, with a budget. -/
def programmed (p : Packet) : State := { parsed p with trw := { progs := [(0, 2 ^ 63 + 100 * 2 ^ 32)] } }

theorem test_meets_RulesAndDispatch :
    ((parsed {}).pkt 1).stage = .parsed ∧ ((parsed {}).pkt 1).rule = none ∧ ((parsed { rule := some 0 }).pkt 1).rule.isSome = true
      ∧ ((parsed { flow := .refused 0, rule := some 0 }).pkt 1).flow = .refused 0
      ∧ ((parsed { flow := .noRecord, rule := some 0 }).pkt 1).flow = .noRecord ∧ bitAt 0 60 = false
      ∧ (parsed { flow := .noRecord, rule := some 0 }).recordFor { flow := .noRecord } = none
      ∧ bitAt ((parsed {}).trw.progs.get 0 0) 63 = false ∧ bitAt ((programmed {}).trw.progs.get 0 0) 63 = true
      ∧ (programmed {}).dispatchPlace 0 = some (0, 0)
      ∧ ((programmed {}).wr (Reg.TRW_ENG_STAT 0) 0xFFFF).dispatchPlace 0 = none := by decide

/-- Operation 7 of the flow engine in a state. -/
def operated (o : FlowOp) : State := { up with fle := { ops := [(7, o)], repairs := [(7, 997500)] } }

theorem test_meets_FlowEngineServes :
    (({ stage := .parsed, head := { tracked := true } } : Packet).head.tracked = true)
      ∧ (operated {}).hasOp 7 = true ∧ ((operated { state := .missing }).op 7).state = .missing
      ∧ ((operated { state := .repairing }).op 7).state = .repairing
      ∧ (operated {}).fle.repairs.get 7 0 + 100 * usCycles = (operated {}).aon
      ∧ 0 < 2 ^ up.flowBits ∧ up.fle.creations = []
      ∧ (operated { members := [{ pid := 1, cancelled := true }] }).writable 7 = true ∧ up.writable 7 = false
      ∧ (((parsed { head := { tracked := true } }).requestFlow {} 0 0 .batch (some 1) none []).isSome = true) := by decide

theorem test_meets_SchedulingAndTransmission :
    up.assigned 66 = true ∧ up.portUp 66 = true ∧ (up.psched 66).tx = none ∧ (up.psched 66).shaper.holds = true
      ∧ up.power (up.egressSlice 66) = 0
      ∧ ((((up.begin.touch 0).countDeferred 66).choose 66 1).1).isNone = true
      ∧ ((up.modPsched 0 fun x => { x with tx := some 1 }).psched 0).tx = some 1 ∧ State.reset.portUp 0 = false
      ∧ ((up.setPkt 1 { ended := true }).pkt 1).txAt = none
      ∧ (up.sch.lastSweep + msCycles ≤ up.aon ∧ State.reset.aon < State.reset.sch.lastSweep + msCycles)
      ∧ State.reset.coreNow / 128 = State.reset.sch.lastRefill ∧ up.sch.lastRefill < up.coreNow / 128
      ∧ (up.fs (Fld.GTE_CTL_PENDING 63) 1).fb (Fld.GTE_CTL_PENDING 63) = true ∧ up.changeTime 63 ≤ up.gateNow
      ∧ up.fb (Fld.GTE_CTL_PENDING 63) = false := by decide

/-! ## Hypotheses of the statements about tables -/

/-- A rule-set command is in progress, or an old rule epoch is live, or a copy began at AON cycle 0. -/
def ruleBusy : State := up.fs Fld.RUL_ACC_STAT_BUSY 1
def ruleOld : State := up.setOldLive 0 true
def ruleCopying : State := { up with rul := { up.rul with copying := some 0 } }

theorem test_meets_RuleAccessAndSwap :
    up.fb Fld.RUL_ACC_STAT_BUSY = false ∧ ruleBusy.fb Fld.RUL_ACC_STAT_BUSY = true ∧ up.oldLive 0 = false ∧ ruleOld.oldLive 0 = true
      ∧ (up.slice 0).inService = true ∧ (up.slice 3).inService = false ∧ up.epochBank.get 0 0 ≤ 1
      ∧ ruleCopying.rul.copying = some 0 ∧ 0 * 50 + 16512 ≤ ruleCopying.coreNow
      ∧ ({ ruleCopying with aon := 330 } : State).coreNow < 0 * 50 + 16512 := by decide

theorem test_meets_SwapIsRefused :
    (ruleOld.oldLive 0 || ruleOld.fb Fld.RUL_ACC_STAT_BUSY) = true ∧ (ruleBusy.oldLive 0 || ruleBusy.fb Fld.RUL_ACC_STAT_BUSY) = true
      ∧ ruleOld.fb Fld.RUL_ACC_STAT_BUSY = false ∧ (2 : BitVec 2) ≠ 3 := by decide

/-- Bank 2 of the flow cache retires; nothing lies in it. -/
def retiring : State := { (up.fs Fld.FLE_CACHE_CTL_RETIRING 1) with fle := { up.fle with retiring := some 2 } }

theorem test_meets_FlowClockZonesAndBanks :
    up.fle.clockAt + msCycles ≤ up.aon ∧ State.reset.aon < State.reset.fle.clockAt + msCycles
      ∧ retiring.fb Fld.FLE_CACHE_CTL_RETIRING = true ∧ up.fb Fld.FLE_CACHE_CTL_RETIRING = false
      ∧ up.fbit Fld.FLE_STATUS_BANK_RETIRED 7 = false ∧ retiring.fle.retiring = some 2 ∧ retiring.fle.ops = []
      ∧ retiring.fle.holds.get 2 [] = [] ∧ retiring.fle.cache = []
      ∧ (({ retiring with fle := { retiring.fle with ops := [(7, { bank := 2 })] } } : State).fle.ops.any fun e => e.2.bank == 2) = true := by
  decide

/-- A record in slot 0 of bucket 5, and operation 7 that prunes it, with a page due. -/
def pruning : State :=
  let s : State := { up with fle := { up.fle with ops := [(7, { kind := .prune 5 0 })], clockMs := 10000000, duePages := [9] } }
  s.setFslot 5 0 { kind := 1, record := some { state := 1 } }

theorem test_meets_AgeingAndRepair :
    up.fle.tokensAt + msCycles ≤ up.aon ∧ State.reset.aon < State.reset.fle.tokensAt + msCycles
      ∧ (State.reset.fs Fld.FLE_PRUNE_CTL_EN 0).fb Fld.FLE_PRUNE_CTL_EN = false ∧ (State.reset.fs Fld.FLE_PRUNE_CTL_EN 1).fb Fld.FLE_PRUNE_CTL_EN = true
      ∧ ((List.range 7).foldl (fun (r : Option State) k => r.bind fun u => u.pruneSlot 0 k) (some up)).isSome = true
      ∧ pruning.hasOp 7 = true ∧ (pruning.op 7).kind = .prune 5 0 ∧ (pruning.op 7).state = .inService
      ∧ (pruning.fslot 5 0).record = some { state := 1 } ∧ pruning.timeoutS 0 (timeoutClass 1) ≠ 0
      ∧ pruning.timeoutS 0 (timeoutClass 1) * 1000 ≤ pruning.flowMs % 2 ^ 32
      ∧ (up.fs Fld.PMEM_WEEDER_CTL_EN 1).fb Fld.PMEM_WEEDER_CTL_EN = true ∧ 5 < 2 ^ up.flowBits
      ∧ pruning.fle.duePages = [9] ∧ up.fle.duePages = [] ∧ pruning.fg Fld.PMEM_RETIRE_STAT_USED < 4096 := by decide

/-- The forwarding unit with a learn request, a flush of L2, or a copy of a table. -/
def fwd (f : FwdState) : State := { up with fwd := f }

theorem test_meets_LearningAndWalks :
    (fwd { learns := [(1, 2, 3)] }).fwd.learns = [(1, 2, 3)] ∧ up.fwd.learns = [] ∧ up.fwd.copying = none
      ∧ up.activeBank 0 ≤ 1 ∧ up.activeBank 2 ≤ 1 ∧ (fwd { flushing := some (0, 5, false) }).fwd.flushing = some (0, 5, false)
      ∧ up.fwd.flushing = none ∧ up.fwd.flushWait = [] ∧ (fwd { copying := some 2 }).fwd.copying = some 2 := by decide

theorem test_meets_ForwardingCommandsAndFlip :
    (4 < (5 : BitVec 3).toNat ∧ (4 : BitVec 3).toNat ≤ 4 ∧ (2 : BitVec 2) ≠ 3)
      ∧ (up.fs Fld.FWD_CMD_STAT_BUSY 1).fb Fld.FWD_CMD_STAT_BUSY = true ∧ up.fb Fld.FWD_CMD_STAT_BUSY = false
      ∧ (65535 : BitVec 21).toNat < 65536 ∧ (nextHopOf up.fwdData).port ≤ 66 ∧ (nextHopOf up.fwdData).vid < 4096
      ∧ up.oldLive (epochTable 2) = false ∧ (up.setOldLive (epochTable 2) true).oldLive (epochTable 2) = true
      ∧ ([0, 1, 2].filter fun t => bitAt 7 (2 - t)).any (fwd { copying := some 2 }).flipBlocked = true
      ∧ ([0, 1, 2].filter fun t => bitAt 7 (2 - t)).any up.flipBlocked = false := by decide

theorem test_meets_UnitOutcomesAndBudget :
    (engineAt { ctx [] with wait := some (0, 0), reply := some 0 } { op := some 7 }).ctx? (ctxKey 0 0 0)
        = some { ctx [] with wait := some (0, 0), reply := some 0 }
      ∧ up.ctx? (ctxKey 3 15 7) = none ∧ (3 < 4 ∧ 15 < 16 ∧ 7 < 8) ∧ 0 + 256 ≤ up.coreNow ∧ State.reset.coreNow < 0 + 256
      ∧ ({ (engineAt { ctx [] with wait := some (0, 0), reply := some 0 } { op := some 7 }).setCtx 9 { ctx [] with created := true }
          with aon := 9 } : State).creationShared 7 0 = true := by decide

/-- A patch that is being installed since cycle 0, or cleared. -/
def patching (clear : Bool) : State := { up with trw := { installing := some (clear, 0), staged := [(0, 1)] } }

theorem test_meets_ProgramsEnginesAndPatches :
    bitsOf ((up.wr Reg.TRW_PROG_DATA_HI 0x00080000).rd Reg.TRW_PROG_DATA_HI).toNat 30 19 ≠ 0
      ∧ bitsOf (2 ^ 32 * 0x00080000) 62 51 ≠ 0 ∧ bitsOf 0 62 51 = 0
      ∧ (∀ i : Fin 16, i.val ≠ 3 → (up.fs (Fld.TRW_ENG_STAT_QUAR 0) 0xFFF7).quarantined 0 i.val = true)
      ∧ up.quarantined 0 1 = false ∧ (up.fs Fld.TRW_PATCH_STAT_BUSY 1).fb Fld.TRW_PATCH_STAT_BUSY = true
      ∧ up.fb Fld.TRW_PATCH_STAT_BUSY = false ∧ up.trw.installing = none
      ∧ (patching true).trw.installing = some (true, 0) ∧ 0 * 50 + 64 ≤ (patching true).coreNow
      ∧ ({ patching true with aon := 1 } : State).coreNow < 0 * 50 + 64
      ∧ ({ patching false with aon := 1 } : State).coreNow < 0 * 50 + 2 * (patching false).stagedCount + 96 := by decide

/-- A mapping of public endpoint (3, 0x1234) in its bucket. -/
def mapped : State :=
  { up with xlb := { up.xlb with rev := [((up.revBuckets 3 0x1234).1 * 8, { pub := 3, pport := 0x1234 })], building := some (1, 0) } }

theorem test_meets_TranslationCommands :
    Spec.XLB_POOL_CFG.inRange 0x805A0102 = true ∧ balanced.fb (Fld.XLB_POOL_CFG_EN 5) = true ∧ bitAt 0x805A0102 31 = true
      ∧ (up.fs Fld.XLB_LB_STAT_BUSY 1).fb Fld.XLB_LB_STAT_BUSY = true ∧ up.fb Fld.XLB_LB_STAT_BUSY = false
      ∧ lbIndexOk 1 256 = false ∧ lbIndexOk 1 255 = true ∧ bitsOf (up.lbData 4) 15 8 = 0
      ∧ mapped.xlb.building = some (1, 0) ∧ 0 * 50 + 4096 ≤ mapped.coreNow
      ∧ (mapped.revFind 3 0x1234).isSome = true ∧ up.revFind 3 0x1234 = none := by decide

theorem test_meets_PolicersHashTestAndPop :
    ((up.fs Fld.FLE_POL_DATA_3_CBS 64).fs Fld.FLE_POL_DATA_4_EBS_PBS 64).fg Fld.FLE_POL_DATA_3_CBS ≠ 0
      ∧ (up.rd Reg.FLE_POL_DATA_1).toNat ≤ (up.rd Reg.FLE_POL_DATA_2).toNat
      ∧ (up.fs Fld.FLE_POL_DATA_0_VALID 1).fb Fld.FLE_POL_DATA_0_VALID = true ∧ up.fg Fld.FLE_POL_DATA_3_CBS = 0
      ∧ (0x80000027 % 64 = 39 ∧ bitAt 0x80000027 31 = true ∧ 39 < 0x80000028 % 64)
      ∧ (up.log 0x0601).events ≠ [] ∧ up.events = [] ∧ up.fb Fld.KTL_PWR_STAT_WARN = false ∧ up.nvm.opened = false
      ∧ (up.fs Fld.KTL_PWR_STAT_WARN 1).fb Fld.KTL_PWR_STAT_WARN = true := by decide

/-! ## Hypotheses of the statements about buffers, schedulers, time and links -/

/-- Cell 8 held as the first of a packet by the parser of slice 0, with generation 3. -/
def held : State := up.setCell 8 { held := true, first := true, tag := tagOf 0 1, gen := 3 }

theorem test_meets_BuffersAndSpill :
    (up.cell 8).held = false ∧ (held.cell 8).held = true ∧ (held.cell 8).badMarker = false ∧ (held.cell 8).first = true
      ∧ (held.cell 8).tag = tagOf 0 1 ∧ (held.cell 8).gen = 3 ∧ (held.cell 8).gen ≠ 4 ∧ held.packets = []
      ∧ (State.reset.fs Fld.BUF_CFG_COMPOST_EN 0).fb Fld.BUF_CFG_COMPOST_EN = false ∧ up.fb Fld.BUF_CFG_COMPOST_EN = true
      ∧ ((up.setFreeList 0 { fresh := 0, appended := [] }).freeList 0).cells 0 = []
      ∧ (up.setFreeList 0 { fresh := 0, appended := [] }).fg (Fld.BUF_FL_COUNT 0 0) = 0
      ∧ ({ up with aon := 2500000 } : State).buf.auditAt + 100 * msCycles ≤ 2500000 ∧ up.aon < up.buf.auditAt + 100 * msCycles := by
  decide

/-- A queue of port 0 whose packets ahead of its spilled run are more than FETCH_CELLS ask for. -/
def spilled : State := up.modQueue 0 fun q => { q with items := [.pkt 1, .run {}] }

theorem test_meets_BuffersAndSpill_spill :
    (up.begin.spillWatch 15).buf.spilling.contains 15 = false ∧ splitRun (up.queue 0).items = none ∧ (splitRun (spilled.queue 0).items).isSome = true
      ∧ spilled.portOf 0 = some 0
      ∧ ((spilled.setPkt 1 { cells := List.range 400 }).fs Fld.BUF_SPILL_FETCH_FETCH_CELLS 64).fg Fld.BUF_SPILL_FETCH_FETCH_CELLS
          ≤ ((spilled.setPkt 1 { cells := List.range 400 }).fs Fld.BUF_SPILL_FETCH_FETCH_CELLS 64).itemCells (.pkt 1)
      ∧ up.buf.spilling = [] ∧ ({ up with buf := { up.buf with spilling := [3] } } : State).buf.spilling ≠ []
      ∧ 66 < (0x21F : Nat) / 8 % 128 ∧ (0x217 : Nat) / 8 % 128 = 66 ∧ up.started = false ∧ up.fb Fld.BUF_OWN_DATA_0_SPILL_EN = false := by
  decide

/-- Gate lists of port 63 enabled. -/
def gated : State := up.fs (Fld.GTE_CFG_EN 63) 1

theorem test_meets_SchedulerCommands :
    up.queueReason 16383 (childCfg 1 0 1) 0 0 0 = 0 ∧ up.portOf 16383 = none
      ∧ up.queueReason 16383 (childCfg 0 0 1) 0 0 0 = 4 ∧ (up.node 2047).port ≤ 66
      ∧ up.nodeReason 2047 (childCfg 1 0 1) false 0 = 0 ∧ up.nodeReason 2047 (childCfg 0 0 1) false 0 = 4
      ∧ up.fb (Fld.GTE_CFG_EN 63) = false ∧ gated.fb (Fld.GTE_CFG_EN 63) = true ∧ gated.fb (Fld.GTE_CTL_PENDING 63) = false
      ∧ gated.fg (Fld.GTE_ADMIN_EXT_EXT 63) ≤ gated.fg (Fld.GTE_ADMIN_CYCLE_CYCLE 63)
      ∧ (up.fs (Fld.GTE_CTL_PENDING 63) 1).fb (Fld.GTE_CTL_PENDING 63) = true
      ∧ (up.fs (Fld.GTE_LIST_DATA_1_INTERVAL 63) 15).fg (Fld.GTE_LIST_DATA_1_INTERVAL 63) < 16
      ∧ (up.fs (Fld.GTE_LIST_DATA_1_INTERVAL 63) 16).fg (Fld.GTE_LIST_DATA_1_INTERVAL 63) = 16 := by decide

/-- Network time with a step that waits, an entry in a timestamp queue, and pulse outputs on. -/
def timed : State :=
  { up with tim := { step := some (false, 5, 6), tsq := [(3, [{ id := 1, port := 5, fate := 0, notify := false, seq := 0, at? := none }])], pps := (true, 1, 0) } }

theorem test_meets_NetworkTime :
    up.tim.step = none ∧ timed.tim.step.isSome = true ∧ up.fg Fld.TIM_SET_NS_NS ≤ 999999999
      ∧ (timed.tim.tsq.get 3 []).length = 1 ∧ timed.tim.pps.1 = true ∧ timed.tim.ppsHigh = false ∧ timed.tim.pps.2.2 ≤ timed.net.ns
      ∧ timed.tim.ppsNotBefore + ceilDiv (timed.net.ns - timed.tim.pps.2.2) 40 ≤ timed.aon ∧ timed.tim.ppsLast ≠ some timed.net.sec
      ∧ ({ timed with tim := { timed.tim with ppsHigh := true } } : State).tim.ppsFallAt ≤ timed.aon
      ∧ up.fb Fld.TIM_PPSIN_CTL_EN = false ∧ (up.fs Fld.TIM_PPSIN_CTL_EN 1).fb Fld.TIM_PPSIN_CTL_EN = true ∧ up.tim.ppsInLast = none := by
  decide

/-- The Trellis out of DISABLED, with every lane in-frame. -/
def linking : State := (List.range 8).foldl (fun s p => s.modLane p fun x => { x with inFrame := true, logical := p }) (up.fs Fld.TRL_STATUS_STATE 1)

theorem test_meets_Trellis :
    up.fg Fld.TRL_STATUS_STATE = 0 ∧ linking.fg Fld.TRL_STATUS_STATE = 1 ∧ linking.trl.count < 2 ^ 32
      ∧ ((List.range 8).any fun p => !((up.fs Fld.TRL_STATUS_STATE 1).lane p).inFrame) = true ∧ (linking.lane 7).inFrame = true
      ∧ linking.lofRaw = false ∧ ({ linking with trl := { linking.trl with goodRun := 2 } } : State).trl.goodRun = 2
      ∧ linking.trl.aligned = false ∧ linking.trl.missRun < 4 ∧ linking.trl.crcRun < 4 ∧ linking.trl.degAt + msCycles ≤ linking.aon
      ∧ State.reset.aon < State.reset.trl.degAt + msCycles ∧ up.fb Fld.TRL_CFG_EN = false
      ∧ Spec.TRL_CFG.inRange (2 ^ 31 + (up.rd Reg.TRL_CFG).toNat) = true ∧ Spec.TRL_CFG.inRange 0xFFFFFFFF = false := by decide

/-- Management data channel 1 running, by its serial pins or by its registers, with bytes in its FIFOs. -/
def channel (src : Nat) (outb : List Byte) : State :=
  ((linking.fs (Fld.TRL_MDC_CFG_EN 1) 1).fs (Fld.TRL_MDC_CFG_SRC 1) src).modMdc 1 fun x => { x with outb := outb, inb := List.replicate 256 7 }

theorem test_meets_Trellis_channels :
    ((channel 0 []).fb (Fld.TRL_MDC_CFG_EN 1) = true ∧ (channel 0 []).fg Fld.TRL_STATUS_STATE ≠ 0)
      ∧ (channel 0 []).fb (Fld.TRL_MDC_CFG_SRC 1) = false ∧ (channel 1 []).fb (Fld.TRL_MDC_CFG_SRC 1) = true
      ∧ ((channel 0 []).mdc 1).inb.length = 256 ∧ (up.mdc 1).inb.length < 256 ∧ ((channel 0 [5]).mdc 1).outb = [5]
      ∧ ((channel 0 [5]).mdc 1).txLow = false ∧ Spec.TRL_MDC_CFG.inRange (up.rd (Reg.TRL_MDC_CFG 1)).toNat = true := by decide

/-- A Graft message of a type with a body, and its trailer (R432). -/
def graftMsg (type : Byte) (body : List Byte) : List Byte :=
  let h := [type, 1] ++ beBytes 2 (16 + body.length) ++ List.replicate 8 0 ++ body
  h ++ beBytes 4 (crc32c 0xFFFFFFFF h)

/-- Pairing in a state. -/
def pairing (n : Nat) : State := up.fs Fld.GRF_STATUS_PAIR n

theorem test_meets_GraftMessagesAndPairing :
    let m := graftMsg 4 [0, 0]
    beAt m 0 1 = 4 ∧ (pairing 2).pairing ≠ 0 ∧ (16 ≤ m.length ∧ m.length ≤ 4096 ∧ beAt m 2 2 = m.length ∧ beAt m 1 1 = 1)
      ∧ m.drop (m.length - 4) = beBytes 4 (crc32c 0xFFFFFFFF (m.take (m.length - 4)))
      ∧ ((pairing 2).begin.takeBody 4 (beAt m 10 2) (beAt m 10 2) (beAt m 4 6) (m.take 12) (sliceBytes m 12 2)).isSome = true
      ∧ ((pairing 2).begin.takeBody 4 (beAt m 10 2) (beAt m 10 2) (beAt m 4 6) (m.take 12) []).isNone = true
      ∧ (pairing 4).pairing = 4 ∧ (pairing 5).pairing = 5 ∧ up.pairing = 0 := by decide

/-- Pairing in a state, with what the key exchange, the log and the retry hold. -/
def pairWith (n : Nat) (g : GrfState) : State := { pairing n with grf := g, aon := 3000000000 }

/-- A log entry that has been sent. -/
def sentEntry : LogEntry := { seq := 1, zone := 0, walk := false, body := default, sent := true }

theorem test_meets_GraftMessagesAndPairing_pairing :
    bitsOf 0x60000000 30 29 = 3 ∧ Spec.GRF_CFG.inRange (2 ^ 31 + (up.rd Reg.GRF_CFG).toNat) = true
      ∧ bitsOf (2 ^ 31 + (up.rd Reg.GRF_CFG).toNat) 30 29 ≠ 3 ∧ Spec.GRF_CFG.inRange (up.rd Reg.GRF_CFG).toNat = true
      ∧ up.fb Fld.GRF_CFG_EN = false ∧ (up.fs Fld.TRL_STATUS_STATE 3).trellisUp = true
      ∧ (pairWith 1 { step := 1 }).grf.stepAt + 100 * msCycles ≤ (pairWith 1 { step := 1 }).aon ∧ (pairing 1).aon < 0 + 100 * msCycles
      ∧ (pairWith 1 { retryAt := some 5 }).grf.retryAt = some 5 ∧ (pairWith 2 {}).hbMissing = true
      ∧ (pairWith 2 { hbAt := some 3000000000 }).hbMissing = false
      ∧ ((pairWith 2 { log := [sentEntry] }).grf.log.any fun e => e.sent) = true
      ∧ (pairWith 2 {}).grf.ackAt + (pairWith 2 {}).fg Fld.GRF_TIMERS_2_RETX_US * usCycles ≤ 3000000000
      ∧ (pairWith 3 {}).grf.suspAt + (pairWith 3 {}).fg Fld.GRF_TIMERS_2_SUSP_MS * msCycles ≤ 3000000000
      ∧ State.reset.aon < State.reset.grf.suspAt + State.reset.fg Fld.GRF_TIMERS_2_SUSP_MS * msCycles
      ∧ (pairWith 2 {}).fg Fld.GRF_TIMERS_LAG_US * usCycles < (pairWith 2 { log := [sentEntry] }).lag
      ∧ up.fb Fld.GRF_STATUS_LAG = false ∧ (up.fs Fld.GRF_STATUS_LAG 1).fb Fld.GRF_STATUS_LAG = true := by decide

/-- Zone 5 paired, with a role and a state. -/
def zoned (owner : Bool) (st : Nat) : State := (pairing 2).modGzone 5 fun z => { z with paired := true, owner := owner, state := st }

/-- Witness group 7 on port 0, with a partner seen until AON cycle `till`. -/
def witnessed (till : Nat) : State :=
  (((pairing 2).fs (Fld.GRF_WIT_EN 7) 1).fs Fld.GRF_WIT_STAT_PRESENT 0x80).setWit 7 { till := some till }

theorem test_meets_GraftZonesAndWitnesses :
    ((pairing 2).pairing ≠ 0 ∧ (pairing 2).pairing ≠ 4) ∧ (up.gzone 5).paired = false ∧ ((zoned false 1).gzone 5).owner = false
      ∧ (zoned true 1).inSync 5 = true ∧ (zoned false 1).inSync 5 = true ∧ (zoned true 0).inSync 5 = false
      ∧ (up.begin.startResyncs.startWalk).grf.walkPos = none
      ∧ (witnessed 1000000).fb (Fld.GRF_WIT_EN 7) = true ∧ ((witnessed 1000000).wit 7).txAt = none
      ∧ (witnessed 1000000).fg (Fld.GRF_WIT_PORT 7) = 0 ∧ (witnessed 1000000).fb (Fld.PRT_STATUS_LINK 0) = true
      ∧ up.fb (Fld.GRF_WIT_EN 7) = false ∧ (witnessed 0).witnessPort 0 = true ∧ ((witnessed 1000000).wit 7).till = some 1000000
      ∧ (witnessed 0).fbit Fld.GRF_WIT_STAT_PRESENT 7 = true
      ∧ (up.grf.anns.find? fun a => decide (a.due ≤ up.aon)) = none
      ∧ ({ up with grf := { anns := [{ entry := 0, left := 1, due := 0 }], annList := [{ port := 0 }] } } : State).fb
          (Fld.PRT_STATUS_LINK 0) = true := by decide

/-- A good frame with EtherType 0x88B5 to port 0, whose body is no valid witness. -/
def witnessFrame : List Byte :=
  let f : List Byte := beBytes 6 (up.portMac 0) ++ List.replicate 6 0 ++ [0x88, 0xB5, 1] ++ List.replicate 45 0
  f ++ fcsOf f

theorem test_meets_GraftZonesAndWitnesses_frame :
    beAt witnessFrame 12 2 = 0x88B5 ∧ beAt witnessFrame 0 6 = (witnessed 0).portMac 0 ∧ fcsGood witnessFrame = true := by decide

/-! ## Hypotheses of the statements about power, the start and management -/

/-- Slice 0 asleep in a power state, at AON cycle 1,000,000. -/
def asleep (n : Nat) : State := up.setPower 0 n

/-- A gate switch of port 0 that is pending for nanosecond 1. -/
def switching : State :=
  (((asleep 1).fs (Fld.GTE_CFG_EN 0) 1).fs (Fld.GTE_CTL_PENDING 0) 1).fs (Fld.GTE_CHANGE_NS_NS 0) 1

/-- Every slice in Dormant since cycle 0, with self-refresh allowed. -/
def quiet : State := { State.reset.fs Fld.KTL_SR_CFG_SR_EN 1 with aon := 100000000 }

theorem test_meets_SlicePower :
    up.waking 0 = false ∧ (up.fs Fld.KTL_PWR_STAT_WAKING 1).waking 0 = true ∧ up.maySleep 0 = true ∧ up.power 0 = 0
      ∧ usCycles ≤ up.idleFor 0 ∧ State.reset.idleFor 0 < usCycles ∧ (asleep 1).power 0 = 1 ∧ (asleep 2).power 0 = 2
      ∧ ((asleep 1).fs Fld.KTL_PWR_CFG_REST_EN 1).fbit Fld.KTL_PWR_CFG_REST_EN 0 = true
      ∧ ((asleep 2).fs Fld.KTL_PWR_CFG_DORMANT_EN 1).fbit Fld.KTL_PWR_CFG_DORMANT_EN 0 = true
      ∧ (asleep 1).fg Fld.KTL_PWR_CFG_REST_US * usCycles ≤ (asleep 1).idleFor 0
      ∧ (up.fs Fld.PRT_INTERNAL_CTL_TRELLIS_SLICE 1).fg Fld.PRT_INTERNAL_CTL_TRELLIS_SLICE ≠ 0
      ∧ (asleep 2).portsAllowDormant 0 = true ∧ (asleep 2).idleNow 0 = true ∧ up.fb (Fld.KTL_WCMP_CTL_ARM 15) = false
      ∧ (switching.nextOpening 0 (switching.gateNow + switching.wakeNs 0 + switching.fg Fld.KTL_LEAD_LEAD_NS) 20000 switching.gateNow) = some 1
      ∧ 999999999 < (up.fs (Fld.KTL_WCMP_NS_NS 15) 1000000000).fg (Fld.KTL_WCMP_NS_NS 15) ∧ up.fg (Fld.KTL_WCMP_NS_NS 15) ≤ 999999999 := by
  decide

theorem test_meets_SlicePower_refresh :
    (up.fs Fld.KTL_SR_CFG_SR_EN 0).fb Fld.KTL_SR_CFG_SR_EN = false ∧ quiet.fb Fld.KTL_SR_CFG_SR_EN = true ∧ quiet.fb Fld.KTL_PWR_STAT_SR = false
      ∧ quiet.ktl.srIdleSince + quiet.fg Fld.KTL_SR_CFG_SR_IDLE_MS * msCycles ≤ quiet.aon
      ∧ (∀ m : Fin 4, 2 ≤ quiet.power m ∧ (quiet.slice m).sleptAt + quiet.fg Fld.KTL_SR_CFG_SR_IDLE_MS * msCycles ≤ quiet.aon
        ∧ quiet.waking m = false)
      ∧ (quiet.fs Fld.KTL_PWR_STAT_SR 1).fb Fld.KTL_PWR_STAT_SR = true ∧ quiet.ktl.srBatchAt ≤ quiet.aon := by decide

/-- The Kettle in a state. -/
def kettle (k : KtlState) : State := { up with ktl := k }

theorem test_meets_SuppliesAndResets :
    (up.fs Fld.KTL_PWR_STAT_WARN 1).fb Fld.KTL_PWR_STAT_WARN = true ∧ up.fb Fld.KTL_PWR_STAT_WARN = false
      ∧ ((704 : BitVec 16).toNat < 705 ∧ 705 ≤ (705 : BitVec 16).toNat ∧ 720 < (721 : BitVec 16).toNat)
      ∧ (kettle { warnAt := some 997500 }).ktl.warnAt = some 997500 ∧ 997500 + 100 * usCycles = up.aon
      ∧ 674 < resetLevel 0 ∧ resetLevel 0 ≤ 675 ∧ 719 < resetLevel 2
      ∧ (up.begin.senseTj 7 0).ktl.lowSince = none
      ∧ ((kettle { lowSince := some 1000000 }).fs Fld.KTL_PWR_STAT_THROT 1).begin.ktl.lowSince = some 1000000
      ∧ (kettle { hotSince := some 750000 }).ktl.hotSince = some 750000 ∧ 750000 + 10 * msCycles = up.aon
      ∧ up.ktl.thermalHeld = false ∧ (kettle { thermalHeld := true }).ktl.thermalHeld = true
      ∧ (up.begin.senseTj 0 380).junction ≤ 380 ∧ 380 < (up.begin.senseTj 0 381).junction := by decide

theorem test_meets_SuppliesAndResets_throttle :
    (((kettle { lowSince := some 1000000 }).fs Fld.KTL_PWR_STAT_THROT 1).begin.senseTj 0 0).ktl.lowSince = some 1000000 := by decide

/-- Harvest on, with three records of one template since cycle 0. -/
def exporting (h : HarvestState) : State := { up.fs Fld.HRV_CFG_EN 1 with hrv := h, aon := 3000000000 }

theorem test_meets_CountersAndHarvest :
    up.fb Fld.PMU_FC_CTL_FULL = false ∧ (up.fs Fld.PMU_FC_CTL_FULL 1).fb Fld.PMU_FC_CTL_FULL = true ∧ bitAt 0x40000000 30 = true
      ∧ up.fb Fld.PMU_FC_CTL_RUN = false ∧ (up.fs Fld.PMU_FC_CTL_RUN 1).fb Fld.PMU_FC_CTL_RUN = true
      ∧ up.fb Fld.HRV_CFG_EN = false ∧ (exporting {}).fb Fld.HRV_CFG_EN = true ∧ up.closing = none
      ∧ bitsOf ((exporting {}).rd Reg.HRV_CFG).toNat 30 8 = bitsOf ((up.rd Reg.HRV_CFG).toNat % 2 ^ 31) 30 8
      ∧ bitsOf ((exporting {}).rd Reg.HRV_CFG).toNat 30 8 ≠ bitsOf 0x7FFFFF00 30 8 := by decide

theorem test_meets_CountersAndHarvest_records :
    let r : HarvestRec := { template := 0, bytes := [], at' := 0 }
    (exporting { queue := [r] }).closing = some 0 ∧ (exporting { secondAt := 2999999999 }).aon < 2999999999 + secCycles
      ∧ (exporting { queue := [r] }).hrv.secondAt + secCycles ≤ 3000000000
      ∧ (takeRecords 0 ((exporting { queue := [r] }).perMessage 0) [r]).1.length ≤ (exporting {}).fg Fld.HRV_RATE_RATE_KRPS * 1000
      ∧ (exporting {}).hrv.templatesAt + (exporting {}).fg Fld.HRV_TIMERS_TPL_S * secCycles ≤ (exporting {}).aon
      ∧ (exporting { heldSince := some 0 }).hrv.heldSince = some 0 ∧ up.hrv.heldSince = none
      ∧ (exporting {}).fg Fld.HRV_RATE_RATE_KRPS * 1000
          < (exporting { sentInSecond := 1000000000 }).hrv.sentInSecond := by decide

/-- The start at a stage, with failures of it in the journal. -/
def starting (stage fails : Nat) (running : Option Nat := none) : State :=
  { up with nvm := { stage := stage, running := running, held := List.replicate fails { kind := 3, stage := stage, unit := 0xFF }, units := [0xFF] } }

theorem test_meets_StartStages :
    (starting 3 2).fails < 3 ∧ 3 ≤ (starting 6 3).fails ∧ 3 ≤ (starting 9 3).fails ∧ 3 ≤ failCount (starting 8 3).history 8 0xFF
      ∧ (starting 3 2).nvm.running = none ∧ (starting 3 2).nvm.haltAt = none ∧ (starting 3 2).nvm.done = false
      ∧ (starting 3 0 (some 0)).nvm.running.isSome = true ∧ (starting 3 0 (some 0)).stageLimit = some (3 * secCycles)
      ∧ 0 + 3 * secCycles < ({ starting 3 0 (some 0) with aon := 75000001 } : State).aon
      ∧ (starting 0 0 (some 0)).stageLimit = none
      ∧ ({ up with nvm := { haltAt := some 0 } } : State).nvm.haltAt = some 0 ∧ up.aon < 0 + 60 * secCycles
      ∧ 0 + 60 * secCycles ≤ 1500000000 := by decide

theorem test_meets_StartStages_load : ∃ t, State.load .start loadFuel (starting 0 0 (some 0)).begin = (some true, t) := ⟨_, rfl⟩

/-- The flash at work on an operation of the device since cycle 0. -/
def flashing : State := { up with nvm := { ops := [{ addr := 256, data := [1] }], opAt := some 0 } }

theorem test_meets_FlashAccess :
    (1 ≤ (256 : BitVec 9).toNat ∧ (256 : BitVec 9).toNat ≤ 256 ∧ 256 < (257 : BitVec 9).toNat)
      ∧ up.fb Fld.NVM_FL_STAT_BUSY = false ∧ (up.fs Fld.NVM_FL_STAT_BUSY 1).fb Fld.NVM_FL_STAT_BUSY = true
      ∧ 2 ^ 26 < 2 ^ 26 - 1 + 2 ∧ copyAt (copyBase 1) = some 1 ∧ (copyAt 0x7FFFFF).isNone = true
      ∧ up.copyInUse 1 = false ∧ ({ up with nvm := { caddy := some 1 } } : State).copyInUse 1 = true
      ∧ 256 < (copyBase 1 + 1) % 256 + 256 ∧ copyBase 1 % 256 + 256 ≤ 256
      ∧ flashing.nvm.opAt = some 0 ∧ flashing.nvm.ops = [{ addr := 256, data := [1] }] ∧ up.nvm.opAt = none
      ∧ flashing.flLate = true ∧ up.flLate = false := by decide

/-- A caddy copy that has been found valid and is newer than the running one, with the start done. -/
def verified : State :=
  { up with nvm := { caddy := some 0, verified := [1], done := true, flash := (List.range 8).map fun i => (copyBase 1 + 16 + i, 1) } }

/-- Slice 3 restarts, or a live apply of copy 1 runs. -/
def restarting : State := { up with nvm := { restarts := [3] } }
def applying (rolling : Bool) : State := { up with nvm := { apply := some { copy := 1, rolling := rolling } } }

theorem test_meets_ImagesAndApply :
    (up.fs Fld.NVM_IMG_STAT_BUSY 1).fb Fld.NVM_IMG_STAT_BUSY = true ∧ up.fb Fld.NVM_IMG_STAT_BUSY = false
      ∧ verified.copyInUse 0 = true ∧ verified.copyInUse 1 = false ∧ verified.nvm.verified.contains 1 = true
      ∧ up.nvm.verified.contains 1 = false ∧ verified.nvm.caddySeq < verified.imgSeq 1 ∧ verified.fb Fld.NVM_STATUS_APPLYING = false
      ∧ verified.nvm.done = true ∧ (up.fs Fld.NVM_STATUS_APPLYING 1).fb Fld.NVM_STATUS_APPLYING = true
      ∧ up.nvm.restarts.contains 3 = false ∧ restarting.nvm.restarts = [3] ∧ restarting.inFlight 3 = false
      ∧ restarting.nvm.apply = none ∧ restarting.nvm.caddy = none
      ∧ (applying true).nvm.apply = some { copy := 1, rolling := true } ∧ (applying false).nvm.apply = some { copy := 1 } := by decide

theorem test_meets_ImagesAndApply_load : ∃ t, State.load .live loadFuel (applying false).begin = (some true, t) := ⟨_, rfl⟩

/-- The management port enabled and up, with session 0x11 in a state. -/
def managed (x : Session) : State := { (up.fs Fld.MGT_CFG_EN 1).fs Fld.MGT_STATUS_LINK 1 with mgt := { sessions := [(0x11, some x)] } }

/-- A frame of an EtherType with a good FCS, to another device. -/
def mgtFrame (ethertype : Nat) : List Byte :=
  let f : List Byte := beBytes 6 0x020000000001 ++ List.replicate 6 2 ++ beBytes 2 ethertype ++ List.replicate 46 0
  f ++ fcsOf f

theorem test_meets_UnlockingAndSessions :
    (up.fs Fld.SEC_DBG_CTL_BLOCKED 1).fb Fld.SEC_DBG_CTL_BLOCKED = true ∧ up.fb Fld.SEC_DBG_CTL_BLOCKED = false
      ∧ up.sec.challenge = none ∧ ({ up with sec := { challenge := some ([1], 5), blockTill := some 5 } } : State).sec.blockTill = some 5
      ∧ up.aon < 5 + minuteCycles ∧ 5 + minuteCycles ≤ 3000000000
      ∧ up.mgtUp = false ∧ (managed {}).mgtUp = true
      ∧ (managed { confirm := List.replicate 32 7 }).session 0x11 = some { confirm := List.replicate 32 7 }
      ∧ 0 + 2 * secCycles ≤ 50000000 ∧ (managed { opened := true }).aon < 0 + (managed {}).fg Fld.MGT_IDLE_IDLE_S * secCycles := by
  decide

theorem test_meets_UnlockingAndSessions_frame :
    (mgtFrame 0x1234).length = 64 ∧ fcsGood (mgtFrame 0x1234) = true
      ∧ beAt (mgtFrame 0x1234) 12 2 = 0x1234 ∧ beAt (mgtFrame 0x8100) 12 2 = 0x8100 := by decide

theorem test_meets_UnlockingAndSessions_drop (s : State) : s.mgtTake (mgtFrame 0x1234) = .drop := by
  have h : beAt (mgtFrame 0x1234) 12 2 = 0x1234 := by decide
  unfold State.mgtTake
  simp only [h]
  split <;> rfl

theorem test_meets_ManagementRequests :
    (managed { opened := true, high := 5 }).mgtUp = true
      ∧ (managed { opened := true, high := 5 }).session 0x11 = some { opened := true, high := 5 }
      ∧ (managed { opened := true, high := 5, busy := some (1, 5) }).session 0x11 = some { opened := true, high := 5, busy := some (1, 5) }
      ∧ (managed { opened := true, high := 5, response := [1] }).session 0x11 = some { opened := true, high := 5, response := [1] }
      ∧ (opRole 2 = some 1 ∧ opRole 7 = some 2 ∧ opRole 15 = some 3) ∧ (∀ k b : List Byte, (tagBytes k b).length = 16) :=
  ⟨by decide, by decide, by decide, by decide, by decide, fun _ _ => by simp [tagBytes, sliceBytes]⟩

/-! ## Patched routines -/

/-- A state with a patch whose first match register is `w`, to a word that gives 7. -/
def patchedBy (w : Word) : State :=
  { up with trw := { up.trw with
    patchMatch := [(0, w)]
    patchWords := [(0, 2 ^ 92 + 20 * 2 ^ 71 + 7 * 2 ^ 55 + 2 ^ 33)] } }

theorem test_meets_patched_entry (e : BitVec 13) :
    bitAt (BitVec.ofNat 32 (2 ^ 31 + e.toNat * 2 ^ 18)).toNat 31 = true
      ∧ bitsOf (BitVec.ofNat 32 (2 ^ 31 + e.toNat * 2 ^ 18)).toNat 30 18 = e.toNat
      ∧ bitsOf (BitVec.ofNat 32 (2 ^ 31 + e.toNat * 2 ^ 18)).toNat 8 0 = 0 := by
  have h := e.isLt
  simp only [bitAt, bitsOf, BitVec.toNat_ofNat]
  refine ⟨?_, ?_, ?_⟩ <;> simp <;> omega

theorem test_meets_patched_by (w : Word) (h1 : bitAt w.toNat 31 = true) (h2 : bitsOf w.toNat 30 18 = microEntry 0x24 6)
    (h3 : bitsOf w.toNat 8 0 = 0) :
    (patchedBy w).patched 0x24 6 = true ∧ (patchedBy w).microGoto (microEntry 0x24 6) = some 0x2000 := by
  have hlt : microEntry 0x24 6 < 0x2000 := (Config.microEntry (0x24 * 4096 + 6)).isLt
  refine ⟨by simp [State.patched, patchedBy, h1, h2], ?_⟩
  simp [State.microGoto, State.microMatch, patchedBy, show ¬ microEntry 0x24 6 = 0x2000 by omega,
    show ¬ 0x21FF < microEntry 0x24 6 by omega, hlt, h1, h2, h3]

theorem test_meets_PatchedRoutines : ∃ w : Word,
    (patchedBy w).patched 0x24 6 = true ∧ (patchedBy w).microGoto (microEntry 0x24 6) = some 0x2000
      ∧ bitsOf ((patchedBy w).microWord 0x2000) 95 92 = 1 ∧ bitsOf ((patchedBy w).microWord 0x2000) 75 71 = 20
      ∧ bitAt ((patchedBy w).microWord 0x2000) 33 = true := by
  obtain ⟨h1, h2, h3⟩ := test_meets_patched_entry (Config.microEntry (0x24 * 4096 + 6))
  obtain ⟨h4, h5⟩ := test_meets_patched_by _ h1 h2 h3
  exact ⟨_, h4, h5, by rfl, by rfl, by rfl⟩

/-- A routine is left alone while no patch is in force. -/
theorem test_meets_unpatched (op fn : Nat) : up.patched op fn = false := rfl

/-! ## Further clauses of the statements, each with its witness -/

theorem test_meets_ExitAndWrongPlaces_charged :
    (engineAt { ctx [] with charged := 8 }).engineHeld 0 0 = false ∧ ({ ctx [] with charged := 8 } : Ctx).wait = none := by decide

theorem test_meets_PausesAndLinks_frames :
    (badCause pauseFrame true).isSome = true ∧ (up.port 0).twTill = none ∧ up.fb (Fld.PRT_STATUS_LINK 0) = true
      ∧ (up.fs (Fld.PRT_CFG_MOD_IGN 0) 1).fb (Fld.PRT_CFG_MOD_IGN 0) = true := by decide

/-- The parser's queue of slice 0 full, with packet 1 in Cozy. -/
def crowded : State :=
  (up.setPkt 1 { inPort := 0 }).modSlice 0 fun x => { x with fifo := List.replicate 2048 2, cozy := [1] }

theorem test_meets_FramesAndHeads_room :
    (crowded.slice 0).cozy = [1] ∧ up.sliceStalled 0 = false ∧ (arriving [1] []).sliceStalled 0 = false :=
  ⟨rfl, by decide, by decide⟩

theorem test_meets_FramesAndHeads_full : 2048 ≤ (crowded.slice 0).fifo.length :=
  Nat.le_of_eq (List.length_replicate (n := 2048) (a := 2)).symm

/-- Packet 1 parsed, its turn to ask the flow engine of slice 0. -/
def asking (p : Packet) : State := (parsed p).modSlice 0 fun x => { x with asks := [1] }

theorem test_meets_FlowEngineServes_turns :
    (asking {}).nextAsk 0 = some 1 ∧ (asking {}).sliceStalled 0 = false ∧ ({} : Packet).needsFlow = false
      ∧ (asking { head := { tracked := true } }).nextAsk 0 = some 1 ∧ (asking { head := { tracked := true } }).sliceStalled 0 = false
      ∧ ({ stage := .parsed, head := { tracked := true } } : Packet).needsFlow = true ∧ up.nextAsk 0 ≠ some 1 := by decide

theorem test_meets_FlowEngineServes_operations :
    (operated { state := .missing }).waitsForTag 7 = false
      ∧ ((operated { state := .repairing, loc := some (0, 7) }).op 7).loc = some (0, 7)
      ∧ ((operated { state := .repairing, loc := some (0, 7) }).fle.repairs.any fun e => e.1 == 0 * 8 + 7) = true
      ∧ ({ operated {} with aon := 0 } : State).aon < ({ operated {} with aon := 0 } : State).fle.repairs.get 7 0 + 100 * usCycles
      ∧ ({ operated {} with fle := { (operated {}).fle with creations := [7] } } : State).fle.creations = [7] := by decide

/-- Packet 1 waits in queue 0, of port 0. -/
def queued : State := (up.setPkt 1 { len := 64, enq := 50000000, ended := true, good := true }).modQueue 0 fun q => { q with items := [.pkt 1] }

theorem test_meets_SchedulingAndTransmission_choice :
    up.lpiWaits 0 = false ∧ ((((queued.begin.touch 0).countDeferred 0).choose 0 2).1.map fun r => r.2.2) = some 1
      ∧ (up.pkt 1).ended = false := by decide

theorem test_meets_AgeingAndRepair_blocks :
    (rsDecode []).seen = .clean ∧ (rsDecode [(0, 1)]).seen = .corrected ∧ (rsDecode [(0, 1), (71, 0x80)]).seen = .corrected := by decide

theorem test_meets_AgeingAndRepair_uncorrectable : (rsDecode [(0, 1), (1, 2), (2, 3)]).seen = .uncorrectable := by decide

/-- A dirty line of slot 2 of bucket 5. -/
def lined : State := { up with fle := { up.fle with cache := [{ bank := 0, set := 0, bucket := 5, slot := 2, dirty := true }] } }

theorem test_meets_AgeingAndRepair_visits :
    (up.fs Fld.PMEM_WEEDER_CTL_EN 0).fb Fld.PMEM_WEEDER_CTL_EN = false ∧ (lined.line 5 2).isSome = true
      ∧ (up.fs Fld.PMEM_RETIRE_CFG_AUTO 0).fb Fld.PMEM_RETIRE_CFG_AUTO = false
      ∧ (up.fs Fld.PMEM_RETIRE_CFG_AUTO 1).fb Fld.PMEM_RETIRE_CFG_AUTO = true
      ∧ ((({ pruning with fle := { pruning.fle with clockMs := 1 } } : State).flowMs % 2 ^ 32 + 2 ^ 32 - 0) % 2 ^ 32
          < pruning.timeoutS 0 (timeoutClass 1) * 1000) := by decide

/-- A context with budget 2 whose charged clocks are `n`. -/
def spent (n : Nat) : Ctx := { ctx [] with budget := 2, charged := n }

/-- A context in a routine that does or does not hold its engine. -/
def inRoutine (holds : Bool) : Ctx := { ctx [] with wait := some (2, 0), micro := some { holds := holds } }

theorem test_meets_UnitOutcomesAndBudget_units :
    (spent 50).budget ≤ (spent 50).chargedHigh 0 ∧ (ctx []).chargedHigh 0 < ({ ctx [] with budget := 50 } : Ctx).budget
      ∧ (engineAt (inRoutine true)).engineHeld 0 0 = true ∧ (engineAt (inRoutine false)).engineHeld 0 0 = false
      ∧ (inRoutine true).micro = some { holds := true } ∧ (engineAt (ctx [])).engineHeld 0 0 = false
      ∧ (((engineAt (inRoutine true)).setCtx 1 (ctx [])).engineHeld 0 0 = true) := by decide

/-- The word of a match register that names micro-address `e`, at patch word 1 (R227). -/
def matchWord (e : Nat) : Word := BitVec.ofNat 32 (2 ^ 31 + e * 2 ^ 18 + 1)

theorem matchWord_toNat (e : Nat) (h : e < 8192) : (matchWord e).toNat = 2 ^ 31 + e * 2 ^ 18 + 1 := by
  rw [matchWord, BitVec.toNat_ofNat]; omega

theorem matchWord_valid (e : Nat) (h : e < 8192) : bitAt (matchWord e).toNat 31 = true := by
  simp only [matchWord_toNat e h, bitAt, decide_eq_true_eq]; omega

theorem matchWord_from (e : Nat) (h : e < 8192) : bitsOf (matchWord e).toNat 30 18 = e := by
  simp only [matchWord_toNat e h, bitsOf]; omega

theorem matchWord_target (e : Nat) (h : e < 8192) : bitsOf (matchWord e).toNat 8 0 = 1 := by
  simp only [matchWord_toNat e h, bitsOf]; omega

/-- A state whose match register 0 names micro-address `e`, at patch word 1: a word that raises a cause. -/
def patchedAt (e : Nat) : State :=
  { engineAt (ctx []) with trw := { (engineAt (ctx [])).trw with patchMatch := [(0, matchWord e)], patchWords := [(1, 7 * 2 ^ 92)] } }

theorem patchedAt_match (e : Nat) (h : e < 8192) : (patchedAt e).microMatch e = some (0x2000 + 1) := by
  have hf : (patchedAt e).trw.patchMatch.find? (fun x => bitAt x.2.toNat 31 && bitsOf x.2.toNat 30 18 == e) = some (0, matchWord e) :=
    List.find?_cons_of_pos (by rw [matchWord_valid e h, matchWord_from e h, beq_self_eq_true, Bool.and_self])
  rw [State.microMatch, hf, Option.map_some, matchWord_target e h]

theorem patchedAt_goto (e : Nat) (h : e < 8192) : (patchedAt e).microGoto e = some (0x2000 + 1) := by
  have h1 : ¬(e = 0x2000 ∨ 0x21FF < e) := by omega
  simp only [State.microGoto, h1, if_false, show e < 0x2000 from h, if_true, patchedAt_match e h, Option.getD_some]

theorem test_meets_UnitOutcomesAndBudget_patched :
    (patchedAt (microEntry 0x20 0)).patched 0x20 0 = true
      ∧ (patchedAt (microEntry 0x20 0)).microGoto (microEntry 0x20 0) = some (0x2000 + 1)
      ∧ bitsOf ((patchedAt (microEntry 0x20 0)).microWord 0x2001) 95 92 = 7 := by
  have h : microEntry 0x20 0 < 8192 := (Config.microEntry (0x20 * 4096 + 0)).isLt
  refine ⟨?_, patchedAt_goto _ h, by simp [State.microWord, patchedAt, Table.get, bitsOf]⟩
  simp only [State.patched, patchedAt, List.any_cons, matchWord_valid _ h, matchWord_from _ h, beq_self_eq_true, Bool.true_or, Bool.and_self]

/-- Pool 3 of kind 1 spills above 1 cell; packet 1 stands in queue 0 of owner 1024, which it charges. -/
def spillingPool : State :=
  let s := queued.setPkt 1 { stage := .queued, ended := true, good := true, cells := [8], len := 64, egr := { area := .shared, owner := 1024 } }
  let s := ((s.fs Fld.BUF_SPILL_CFG_EN 1).fs (Fld.BUF_POOL_CFG_KIND 3) 1).fs (Fld.BUF_POOL_SPON_SPILL_ON 3) 1
  let s := s.fs Fld.BUF_SPILL_CFG_KEEP_CELLS 0
  { s with buf := { s.buf with cfg := [(1024, { pool := 3, spillEn := true })], use := [(1024, { s := 2 })] } }

theorem test_meets_BuffersAndSpill_runs :
    (spillingPool.begin.spillWatch 3).buf.spilling.contains 3 = true ∧ (spillingPool.begin.spillWatch 3).spillOwner 3 = some 1024
      ∧ (spillingPool.begin.spillWatch 3).nextRun 1024 = some (0, [], [1], [])
      ∧ (spillingPool.begin.spillWatch 3).buf.usedPages + (spillingPool.begin.spillWatch 3).runPages [1]
          ≤ (spillingPool.begin.spillWatch 3).spillPages
      ∧ (spillingPool.begin.spillWatch 3).allRuns.length < 262144 := by decide

/-- The same pool with every page of the spill region in use. -/
def spillFull : State := { spillingPool with buf := { spillingPool.buf with usedPages := 2 ^ 23 } }

theorem test_meets_BuffersAndSpill_full :
    (spillFull.begin.spillWatch 3).buf.spilling.contains 3 = true ∧ (spillFull.begin.spillWatch 3).spillOwner 3 = some 1024
      ∧ (spillFull.begin.spillWatch 3).spillPages < (spillFull.begin.spillWatch 3).buf.usedPages + (spillFull.begin.spillWatch 3).runPages [1]
      ∧ (spillFull.begin.spillWatch 3).buf.spillFull = false
      ∧ ([] : List QItem).foldl (fun k i => k + spilled.itemCells i) 0 < 64 ∧ 0 < spilled.fg Fld.BUF_SPILL_FETCH_FETCH_CELLS := by decide

theorem test_meets_TranslationCommands_pools :
    (((up.fs (Fld.XLB_POOL_ADDR_COUNT 5) 1).fs (Fld.XLB_POOL_PORTS_PORT_LO 5) 1024).fs (Fld.XLB_POOL_PORTS_PORT_HI 5) 65535).poolOk 5 = true
      ∧ up.poolOk 5 = false ∧ up.fb (Fld.XLB_POOL_CFG_EN 5) = false := by decide

/-- Witness group 7 with a session key. -/
def keyed : State := { witnessed 0 with grf := { (witnessed 0).grf with session := some [] } }

/-- The first 12 bytes after the EtherType of a witness frame of group 7 from side 1, with count 1 (R454). -/
def witnessHead : List Byte := [1, 7, 1, 0, 0, 0, 0, 0, 0, 0, 0, 1]

/-- A witness frame up to its FCS. -/
def witnessBody : List Byte :=
  beBytes 6 (up.portMac 0) ++ List.replicate 6 0 ++ [0x88, 0xB5] ++ witnessHead ++ sliceBytes (Config.hmacSm3 [] witnessHead) 0 8
    ++ List.replicate 26 0

/-- A valid witness frame. -/
def validWitness : List Byte := witnessBody ++ fcsOf witnessBody

theorem fcsGood_append (f : List Byte) : fcsGood (f ++ fcsOf f) = true := by
  have h : (f ++ fcsOf f).length - 4 = f.length := by rw [List.length_append, show (fcsOf f).length = 4 from rfl]; rfl
  rw [fcsGood, h, List.drop_left, List.take_left, beq_self_eq_true]

theorem badCause_validWitness : badCause validWitness false = none := by
  rw [badCause, validWitness, show fcsGood _ = true from fcsGood_append witnessBody]; rfl

theorem test_meets_GraftZonesAndWitnesses_received :
    up.takesWitness 0 validWitness = false ∧ keyed.takesWitness 0 validWitness = true ∧ keyed.assigned 0 = true
      ∧ keyed.fb (Fld.PRT_STATUS_LINK 0) = true := by
  refine ⟨by decide, ?_, by decide, by decide⟩
  rw [State.takesWitness, badCause_validWitness]; decide

theorem test_meets_GraftZonesAndWitnesses_valid :
    keyed.witnessValid 0 validWitness = true ∧ (witnessed 0).witnessValid 0 validWitness = false := by
  refine ⟨?_, by decide⟩
  have h : sliceBytes validWitness 26 8 = sliceBytes (Config.hmacSm3 [] (sliceBytes validWitness 14 12)) 0 8 := rfl
  simp only [State.witnessValid, show keyed.grf.session = some [] from rfl, h, beq_self_eq_true, Bool.and_true]; decide

theorem test_meets_GraftZonesAndWitnesses_walks :
    (({ pairing 2 with grf := { walkPos := some 0 } } : State).begin.startResyncs.startWalk).grf.walkPos = some 0
      ∧ (({ up with grf := { anns := [{ entry := 0, left := 1, due := 0 }], annList := [{ port := 0 }] } } : State).grf.anns.find? fun a =>
          decide (a.due ≤ up.aon)) = some { entry := 0, left := 1, due := 0 } := by decide

/-- Lane 3 of a Trellis out of DISABLED, with signal and codeword lock but not in-frame, or in-frame with frames missed. -/
def laned (found : Bool) : State :=
  (up.fs Fld.TRL_STATUS_STATE 1).modLane 3 fun x => { x with locked := true, inFrame := found, misses := 4 }

theorem test_meets_Trellis_lanes :
    ((laned false).lane 3).inFrame = false ∧ ((laned false).lane 3).locked = true ∧ hunt [] = none
      ∧ ((laned true).lane 3).inFrame = true ∧ 4 ≤ ((laned true).lane 3).misses := by decide

/-- The bytes of two frames' alignment words, 4,096 bytes apart. -/
def aligned : List Byte := beBytes 8 alignWord ++ (List.replicate 4088 0 ++ beBytes 8 alignWord)

theorem bits_of_zeros (n : Nat) : (bitsOfBytes (List.replicate n 0)).length = 8 * n := by
  induction n with
  | zero => rfl
  | succ n ih =>
    rw [List.replicate_succ, bitsOfBytes, List.flatMap_cons, List.length_append, List.length_map, List.length_range]
    rw [bitsOfBytes] at ih; omega

theorem test_meets_Trellis_hunt : ∃ head, hunt (bitsOfBytes (invert false aligned)) = some head := by
  have hb : bitsOfBytes (invert false aligned) = alignBits ++ (bitsOfBytes (List.replicate 4088 0) ++ alignBits) := by
    simp only [invert, aligned, alignBits, bitsOfBytes, List.flatMap_append, Bool.false_eq_true, if_false]
  have hl : alignBits.length = 64 := by decide
  have hz := bits_of_zeros 4088
  have ht : (alignBits ++ (bitsOfBytes (List.replicate 4088 0) ++ alignBits)).take 64 = alignBits := by
    rw [List.take_append_of_le_length (by omega), List.take_of_length_le (by omega)]
  have hd : ((alignBits ++ (bitsOfBytes (List.replicate 4088 0) ++ alignBits)).drop 32768).take 64 = alignBits := by
    rw [← List.append_assoc, List.drop_left' (by rw [List.length_append]; omega), List.take_of_length_le (by omega)]
  rw [hb]
  generalize alignBits ++ (bitsOfBytes (List.replicate 4088 0) ++ alignBits) = l at ht hd ⊢
  cases l with
  | nil => exact absurd ht (by decide)
  | cons b bs => exact ⟨_, by rw [hunt, ht, hd, beq_self_eq_true, Bool.and_self, if_pos rfl]⟩

theorem test_meets_SlicePower_waking :
    ((asleep 3).fs Fld.KTL_PWR_STAT_WAKING 1).waking 0 = true ∧ ((asleep 3).fs Fld.KTL_PWR_STAT_WAKING 1).power 0 = 3
      ∧ (up.fs Fld.KTL_PWR_STAT_WAKING 1).power 0 ≠ 3 ∧ ((asleep 2).fs Fld.KTL_PWR_STAT_WARN 1).fb Fld.KTL_PWR_STAT_WARN = true := by decide

/-- A reset that causes hold, at stage 3 of the start. -/
def heldBy (l : List Hold) : State := { starting 3 0 with nvm := { (starting 3 0).nvm with holds := l } }

theorem test_meets_SuppliesAndResets_holds :
    coldHold .porst = true ∧ coldHold .sysrst = false ∧ (heldBy [.porst, .sysrst]).nvm.holds.any coldHold = true
      ∧ (heldBy [.sysrst]).nvm.holds.any coldHold = false ∧ (heldBy [.sysrst]).nvm.holds ≠ []
      ∧ up.nvm.holds = [] ∧ up.nvm.holds.any coldHold = false ∧ (kettle { thermalHeld := true }).nvm.holds.any coldHold = false
      ∧ (10 * msCycles ≤ up.aon) := by decide

theorem test_meets_StartStages_holds :
    ((heldBy [.porst, .sysrst]).nvm.holds.filter [Hold.sysrst].contains) = [.sysrst]
      ∧ (heldBy [.porst]).nvm.holds.filter ([] : List Hold).contains = [] ∧ failCount (starting 8 2).history 8 0xFF < 3
      ∧ (starting 8 2).fails < 3 ∧ (heldBy []).ktl.thermalHeld = false
      ∧ 3 ≤ ({ starting 8 0 with nvm := { (starting 8 0).nvm with
          held := [{ kind := 3, stage := 8, unit := 1 }, { kind := 3, stage := 8, unit := 1 }, { kind := 3, stage := 8, unit := 1 }],
          units := [1] } } : State).fails
      ∧ failCount ({ starting 8 0 with nvm := { (starting 8 0).nvm with
          held := [{ kind := 3, stage := 8, unit := 1 }, { kind := 3, stage := 8, unit := 1 }, { kind := 3, stage := 8, unit := 1 }],
          units := [1] } } : State).history 8 0xFF < 3 := by decide

end Sys2Proof.Tests
end

/-! # The packet's life (spec chapter 1)

What a program asks of the egress side, the end of a program, the reception and parsing of frames, rules and dispatch,
scheduling and transmission. The first two parts give the rules the statements are settled with: what a context keeps as it
issues, and what a unit instruction comes to on an engine. -/

namespace Sys2Proof.PacketLife

open Sys2Proof Sys2Proof.Machine Sys2Proof.Laws

/-! ## What a context keeps as it issues (R203) -/

@[simp] theorem issue_record (s : State) (x : Ctx) : (issue s x).record = x.record := by
  rw [issue, issues_only]

@[simp] theorem issue_mirrors (s : State) (x : Ctx) : (issue s x).mirrors = x.mirrors := by
  rw [issue, issues_only]

@[simp] theorem issue_edits (s : State) (x : Ctx) : (issue s x).edits = x.edits := by
  rw [issue, issues_only]

@[simp] theorem issue_tsreq (s : State) (x : Ctx) : (issue s x).tsreq = x.tsreq := by
  rw [issue, issues_only]

/-- A write of g0 is discarded (R192). -/
@[simp] theorem setReg_zero (x : Ctx) (v : DWord) : x.setReg 0 v = x := if_pos rfl

/-! ## The contexts of the engines -/

/-- The entry of a key after an insertion is the one inserted. -/
theorem find?_ins_self {α : Type} (t : Table α) (k : Nat) (v : α) : (t.ins k v).find? (fun e => e.1 == k) = some (k, v) := by
  induction t with
  | nil => simp [Table.ins]
  | cons e r ih =>
    obtain ⟨j, w⟩ := e
    rcases Nat.lt_trichotomy k j with h | rfl | h
    · simp [Table.ins, h]
    · simp [Table.ins]
    · simp [Table.ins, Nat.lt_asymm h, Nat.ne_of_gt h, Nat.ne_of_lt h, ih]

@[simp] theorem ctx?_setCtx_self (s : State) (k : Nat) (x : Ctx) : (s.setCtx k x).ctx? k = some x := by
  simp only [State.ctx?, State.setCtx, find?_ins_self, Option.map_some]

/-- A context's key names its slice (R187). -/
theorem ctxKey_slice {s : State} {slice eng c : Nat} {x : Ctx} (h : EngineCan s slice eng c x) :
    ctxKey slice eng c / 128 = slice := by
  have := h.engOk
  have := h.ctxOk
  unfold ctxKey
  omega

/-! ## Unit instructions (R195, R199, R214) -/

/-- A unit instruction whose routine runs in ROM and whose unit reads no package memory commits what its unit makes of it. -/
theorem unitInstr_engine {s : State} {slice eng c : Nat} {x : Ctx} (h : EngineCan s slice eng c x) {op fn : Nat}
    (hp : RomRuns (engineIssued s slice eng c x) slice op fn) (hm : mayMiss op fn = false) (rd rs1 rs2 : BitVec 5)
    (f : Nat → Ctx → State → UnitResult) :
    s.begin.unitInstr (.engine slice eng c .none) op fn rd rs1 rs2 false f =
      (f (ctxKey slice eng c) (issue s x) (engineIssued s slice eng c x)).commit s.begin (ctxKey slice eng c) rd := by
  rw [State.unitInstr, microInstr_engine h op fn hm hp, if_neg Bool.false_ne_true]

/-- A result without a register leaves its context to go on (R199). -/
@[simp] theorem commit_done_zero (s t : State) (k v : Nat) (x : Ctx) :
    (UnitResult.done v x t).commit s k 0 = t.setCtx k x.advance := by
  rw [UnitResult.commit, State.unitDone, setReg_zero]

/-- A unit error raises cause 6 (R199). -/
@[simp] theorem commit_error (s t : State) (k : Nat) (rd : BitVec 5) : (UnitResult.error t).commit s k rd = t.raise k 6 := rfl

/-! ### What the descriptor's unit answers (R42, R199–R201, R333, R377) -/

theorem unitSetq_queue {s : State} {x : Ctx} {a b : DWord} (ha : a.toNat ≤ 66) (hb : b.toNat < s.queueCount a.toNat) :
    s.unitSetq x a b = .done 0 { x with dest := .queue a.toNat b.toNat } s := if_neg (by omega)

theorem unitSetq_error {s : State} {x : Ctx} {a b : DWord} (h : 66 < a.toNat ∨ s.queueCount a.toNat ≤ b.toNat) :
    s.unitSetq x a b = .error s := if_pos h

theorem unitRecirc_slice {s : State} {x : Ctx} {a : DWord} (ha : a.toNat ≤ 3) :
    s.unitRecirc x a = .done 0 { x with dest := .recirc a.toNat } s := if_neg (by omega)

theorem unitRecirc_error {s : State} {x : Ctx} {a : DWord} (ha : 3 < a.toNat) : s.unitRecirc x a = .error s := if_pos ha

theorem unitTocpu_queue {s : State} {x : Ctx} {a : DWord} (ha : a.toNat < s.queueCount 66) :
    s.unitTocpu x a = .done 0 { x with dest := .queue 66 a.toNat } s := if_neg (by omega)

theorem unitTocpu_error {s : State} {x : Ctx} {a : DWord} (ha : s.queueCount 66 ≤ a.toNat) :
    s.unitTocpu x a = .error s := if_pos ha

theorem unitMirror_adds {s : State} {x : Ctx} {a : DWord} (ha : a.toNat ≤ 7) (hx : x.mirrors.contains a.toNat = false) :
    s.unitMirror x a = .done 0 { x with mirrors := x.mirrors ++ [a.toNat] } s := by
  rw [State.unitMirror, if_neg (by omega), hx, if_neg Bool.false_ne_true]

/-- A session already added is ignored (R200). -/
theorem unitMirror_again {s : State} {x : Ctx} {a : DWord} (ha : a.toNat ≤ 7) (hx : x.mirrors.contains a.toNat = true) :
    s.unitMirror x a = .done 0 x s := by
  rw [State.unitMirror, if_neg (by omega), hx, if_pos rfl]

theorem unitMirror_error {s : State} {x : Ctx} {a : DWord} (ha : 7 < a.toNat) : s.unitMirror x a = .error s := if_pos ha

/-- The first TSREQ of a program takes its slice's count (R377). -/
theorem unitTsreq_first {s : State} {k : Nat} {x : Ctx} {a : DWord} (ha : a.toNat ≤ 1) (hx : x.tsreq = none) :
    s.unitTsreq k x a = .done (k / 128 * 16384 + s.trw.tsCount.get (k / 128) 0)
      { x with tsreq := some (k / 128 * 16384 + s.trw.tsCount.get (k / 128) 0, a.toNat == 1) }
      { s with trw := { s.trw with
        tsCount := s.trw.tsCount.put (k / 128) 0 ((s.trw.tsCount.get (k / 128) 0 + 1) % 16384) } } := by
  rw [State.unitTsreq, if_neg (by omega), hx]

theorem unitTsreq_error {s : State} {k : Nat} {x : Ctx} {a : DWord} (ha : 1 < a.toNat) : s.unitTsreq k x a = .error s :=
  if_pos ha

/-- An edit other than 0x8 and 0x9 that its list has a place and 64 bytes for joins it (R201). -/
theorem unitEdit_adds {s : State} {x : Ctx} {a b : DWord} (hb : b.toNat < editBound a.toNat) (h8 : a.toNat ≠ 8)
    (h9 : a.toNat ≠ 9) (hl : x.edits.length < 8)
    (hc : editsCost (x.record.elim false (·.key.v6)) (x.edits ++ [(a.toNat, b.toNat)]) ≤ 64) :
    s.unitEdit x a b = .done 0 { x with edits := x.edits ++ [(a.toNat, b.toNat)] } s := by
  refine if_neg fun h => ?_
  rcases h with hv | hn | hn | hn
  · exact Nat.not_le.2 hb hv
  · simp [h8, h9] at hn
  · rw [List.length_append] at hn
    exact Nat.not_lt.2 hl hn
  · cases hr : x.record <;> rw [hr] at hn hc <;> exact Nat.not_lt.2 hc hn

theorem unitEdit_error {s : State} {x : Ctx} {a b : DWord} (h : editBound a.toNat ≤ b.toNat ∨ 8 ≤ x.edits.length) :
    s.unitEdit x a b = .error s := by
  have hl (h : 8 ≤ x.edits.length) : 8 < (x.edits ++ [(a.toNat, b.toNat)]).length := by
    rw [List.length_append]
    exact Nat.lt_succ_of_le h
  exact if_pos (h.imp_right fun h => .inr (.inl (hl h)))

/-- The issue of an instruction leaves the slices' counts of timestamp requests. -/
theorem tsCount_engineIssued (s : State) (slice eng c : Nat) (x : Ctx) :
    (engineIssued s slice eng c x).trw.tsCount = s.trw.tsCount := by
  rw [engineIssued_trw]; rfl

/-! ### The instructions of the descriptor's unit on an engine -/

section
variable {s : State} {slice eng c : Nat} {x : Ctx} (h : EngineCan s slice eng c x)
include h

theorem exec_setq_engine (hp : RomRuns (engineIssued s slice eng c x) slice 0x24 0) (rs1 rs2 : BitVec 5) :
    exec (.setq (.engine slice eng c .none) 0 rs1 rs2) s =
      .next (((engineIssued s slice eng c x).unitSetq (issue s x) (x.reg rs1) (x.reg rs2)).commit s.begin
        (ctxKey slice eng c) 0) := by
  simp [execSetq, unitInstr_engine h hp rfl]

theorem exec_recirc_engine (hp : RomRuns (engineIssued s slice eng c x) slice 0x24 1) (rs1 : BitVec 5) :
    exec (.recirc (.engine slice eng c .none) 0 rs1 0) s =
      .next (((engineIssued s slice eng c x).unitRecirc (issue s x) (x.reg rs1)).commit s.begin (ctxKey slice eng c) 0) := by
  simp [execRecirc, unitInstr_engine h hp rfl]

theorem exec_tocpu_engine (hp : RomRuns (engineIssued s slice eng c x) slice 0x24 2) (rs1 : BitVec 5) :
    exec (.tocpu (.engine slice eng c .none) 0 rs1 0) s =
      .next (((engineIssued s slice eng c x).unitTocpu (issue s x) (x.reg rs1)).commit s.begin (ctxKey slice eng c) 0) := by
  simp [execTocpu, unitInstr_engine h hp rfl]

theorem exec_drop_engine (hp : RomRuns (engineIssued s slice eng c x) slice 0x24 3) :
    exec (.drop (.engine slice eng c .none) 0 0 0) s =
      .next (((engineIssued s slice eng c x).unitDrop (issue s x)).commit s.begin (ctxKey slice eng c) 0) := by
  simp [execDrop, unitInstr_engine h hp rfl]

theorem exec_mirror_engine (hp : RomRuns (engineIssued s slice eng c x) slice 0x24 4) (rs1 : BitVec 5) :
    exec (.mirror (.engine slice eng c .none) 0 rs1 0) s =
      .next (((engineIssued s slice eng c x).unitMirror (issue s x) (x.reg rs1)).commit s.begin (ctxKey slice eng c) 0) := by
  simp [execMirror, unitInstr_engine h hp rfl]

theorem exec_tsreq_engine (hp : RomRuns (engineIssued s slice eng c x) slice 0x24 5) (rd rs1 : BitVec 5) :
    exec (.tsreq (.engine slice eng c .none) rd rs1 0) s =
      .next (((engineIssued s slice eng c x).unitTsreq (ctxKey slice eng c) (issue s x) (x.reg rs1)).commit s.begin
        (ctxKey slice eng c) rd) := by
  simp [execTsreq, unitInstr_engine h hp rfl]

theorem exec_edit_engine (hp : RomRuns (engineIssued s slice eng c x) slice 0x24 6) (rs1 rs2 : BitVec 5) :
    exec (.edit (.engine slice eng c .none) 0 rs1 rs2) s =
      .next (((engineIssued s slice eng c x).unitEdit (issue s x) (x.reg rs1) (x.reg rs2)).commit s.begin
        (ctxKey slice eng c) 0) := by
  simp [execEdit, unitInstr_engine h hp rfl]

/-- The first TSREQ of a program writes its slice's number to rd, and the slice counts on modulo 16,384 (R377). -/
theorem exec_tsreq_first (hp : RomRuns (engineIssued s slice eng c x) slice 0x24 5) (rd rs1 : BitVec 5)
    (hv : (x.reg rs1).toNat ≤ 1) (hx : x.tsreq = none) :
    ∃ u, exec (.tsreq (.engine slice eng c .none) rd rs1 0) s = .next u
      ∧ u.ctx? (ctxKey slice eng c) = some (({ issue s x with tsreq := some (slice * 16384 + s.trw.tsCount.get slice 0,
          (x.reg rs1).toNat == 1) } : Ctx).setReg rd (BitVec.ofNat 64 (slice * 16384 + s.trw.tsCount.get slice 0))).advance
      ∧ u.trw.tsCount.get slice 0 = (s.trw.tsCount.get slice 0 + 1) % 16384 := by
  rw [exec_tsreq_engine h hp, unitTsreq_first hv (by rw [issue_tsreq, hx]), ctxKey_slice h, tsCount_engineIssued]
  exact ⟨_, rfl, ctx?_setCtx_self _ _ _, Table.get_put_self _ _ _ _⟩

end

/-- A command that commits a result without a register: the context it leaves goes on. -/
theorem exec_goes_on {i : Instr} {s b t : State} {r : UnitResult} {k v : Nat} {x : Ctx}
    (he : exec i s = .next (r.commit b k 0)) (hr : r = .done v x t) : exec i s = .next (t.setCtx k x.advance) := by
  rw [he, hr, commit_done_zero]

/-- A command whose unit answers an error raises cause 6. -/
theorem exec_raises {i : Instr} {s b t : State} {r : UnitResult} {k : Nat} {rd : BitVec 5}
    (he : exec i s = .next (r.commit b k rd)) (hr : r = .error t) : exec i s = .next (t.raise k 6) := by
  rw [he, hr, commit_error]

/-- Settles O18: each instruction commits what the descriptor's unit answers; an operand out of range is a unit error. -/
theorem egressRequests : Obligations.EgressRequests := by
  intro rd rs1 rs2 s slice eng c x h k t v q a
  refine ⟨fun hv hq hp => exec_goes_on (exec_setq_engine h hp rs1 rs2) (unitSetq_queue hv hq),
    fun hv hp => exec_raises (exec_setq_engine h hp rs1 rs2) (unitSetq_error hv),
    fun hv hp => exec_goes_on (exec_recirc_engine h hp rs1) (unitRecirc_slice hv),
    fun hv hp => exec_raises (exec_recirc_engine h hp rs1) (unitRecirc_error hv),
    fun hv hp => exec_goes_on (exec_tocpu_engine h hp rs1) (unitTocpu_queue hv),
    fun hv hp => exec_raises (exec_tocpu_engine h hp rs1) (unitTocpu_error hv),
    fun hp => exec_goes_on (exec_drop_engine h hp) rfl, fun hv hm hp => ?_,
    fun hv hm hp => exec_goes_on (exec_mirror_engine h hp rs1) (unitMirror_again hv (by rwa [issue_mirrors])),
    fun hv hp => exec_raises (exec_mirror_engine h hp rs1) (unitMirror_error hv),
    fun hv hx hp => exec_tsreq_first h hp rd rs1 hv hx,
    fun hv hp => exec_raises (exec_tsreq_engine h hp rd rs1) (unitTsreq_error hv), fun hq h8 h9 hl hc hp => ?_,
    fun hq hp => exec_raises (exec_edit_engine h hp rs1 rs2) (unitEdit_error (by rwa [issue_edits]))⟩
  · rw [← issue_mirrors s x]
    exact exec_goes_on (exec_mirror_engine h hp rs1) (unitMirror_adds hv (by rwa [issue_mirrors]))
  · have hcost : editsCost (x.record.elim false (·.key.v6)) (x.edits ++ [(v, q)]) ≤ 64 := by
      cases hr : x.record <;> rw [hr] at hc <;> exact hc
    rw [← issue_edits s x]
    exact exec_goes_on (exec_edit_engine h hp rs1 rs2)
      (unitEdit_adds hq h8 h9 (by rwa [issue_edits]) (by rwa [issue_edits, issue_record]))

/-! ## The end of a program, and instructions in a wrong place (R195, R199, R202, R203, R524) -/

/-- An instruction that only the Glasshouse runs: its meaning is a system row (R195). -/
def IsSystemRow (i : Agent → Instr) : Prop :=
  ∀ a s, ∃ w illegal f, exec (i a) s = .next (s.begin.systemInstr a w illegal f)

/-- An instruction that only engines run, with its word on a core: its meaning is a packet row (R195). -/
def IsPacketRow (e : Agent → Instr × Word) : Prop :=
  ∀ a s, ∃ illegal f, exec (e a).1 s = .next (s.begin.packetInstr a (e a).2 illegal f)

/-- The instructions on the context control registers are system rows (R525). -/
theorem IsSystemRow.of_ccr {i : Agent → Instr} {fn : Nat} {rd rs1 rs2 : BitVec 5} {f : Option (Nat → Nat → Nat)}
    (h : ∀ a s, exec (i a) s = .next (s.begin.ccrInstr fn a rd rs1 rs2 f)) : IsSystemRow i := fun a s => by
  rw [h, State.ccrInstr]
  exact ⟨_, _, _, rfl⟩

/-- A system row is illegal on an engine (R195). -/
theorem IsSystemRow.engine_raises {i : Agent → Instr} (hi : IsSystemRow i) {s : State} {slice eng c : Nat} {x : Ctx}
    (h : EngineCan s slice eng c x) :
    exec (i (.engine slice eng c .none)) s = .next ((engineIssued s slice eng c x).raise (ctxKey slice eng c) 1) := by
  obtain ⟨w, illegal, f, he⟩ := hi (.engine slice eng c .none) s
  rw [he, systemInstr_engine h]

/-- A packet row is illegal on a core (R524). -/
theorem IsPacketRow.core_faults {e : Agent → Instr × Word} (hi : IsPacketRow e) {s : State} {c : Nat} (h : CoreCan s c) :
    exec (e (.core c .none)).1 s = .next ((coreIssued s c).coreFault c 0 (some (e (.core c .none)).2.toNat)) := by
  obtain ⟨illegal, f, he⟩ := hi (.core c .none) s
  rw [he, packetInstr_core h]

/-- EXIT ends the program of its context (R202). -/
theorem exec_exit_engine {s : State} {slice eng c : Nat} {x : Ctx} (h : EngineCan s slice eng c x)
    (hp : RomRuns (engineIssued s slice eng c x) slice 0x2F 0) :
    exec (.exit (.engine slice eng c .none) 0 0 0) s =
      .next ((engineIssued s slice eng c x).finishProgram (ctxKey slice eng c)) := by
  simp [execExit, microInstr_engine h 0x2F 0 rfl hp]

/-- A context that has used its budget raises cause 5 in place of its ADD (R203). -/
theorem exec_add_overBudget {s : State} {slice eng c : Nat} {x : Ctx} (h1 : slice < 4) (h2 : eng < 16) (h3 : c < 8)
    (hq : s.quarantined slice eng = false) (hx : s.ctx? (ctxKey slice eng c) = some x) (hw : x.wait = none)
    (he : s.engineHeld slice eng = false) (hb : x.within s.coreNow = false) (rd rs1 rs2 : BitVec 5) :
    exec (.add (.engine slice eng c .none) rd rs1 rs2) s = .next (s.begin.raise (ctxKey slice eng c) 5) := by
  simp [execAdd, State.alu, State.plainInstr, State.runEngine, hq, hx, hw, he, hb, show ¬ 4 ≤ slice by omega,
    show ¬ 16 ≤ eng by omega, show ¬ 8 ≤ c by omega]

/-- Settles O19: EXIT ends its program; a row of the other processor is illegal; a spent budget raises cause 5. -/
theorem exitAndWrongPlaces : Obligations.ExitAndWrongPlaces := by
  refine ⟨fun s slice eng c x h hp => exec_exit_engine h hp, fun rd rs1 rs2 s slice eng c x =>
    ⟨fun h i hi => IsSystemRow.engine_raises ?_ h, fun h e he => IsPacketRow.core_faults ?_ h,
      fun h1 h2 h3 hq hx hw he hb => exec_add_overBudget h1 h2 h3 hq hx hw he hb rd rs1 rs2⟩⟩
  · simp only [List.mem_cons, List.not_mem_nil, or_false] at hi
    rcases hi with rfl | rfl | rfl | rfl | rfl | rfl | rfl | rfl | rfl | rfl | rfl | rfl | rfl | rfl | rfl | rfl | rfl | rfl
      | rfl | rfl | rfl | rfl
    iterate 4 exact IsSystemRow.of_ccr fun a s => rfl  -- RDCR, WRCR, SETCR and CLRCR share one meaning
    all_goals exact fun a s => ⟨_, _, _, rfl⟩
  · simp only [List.mem_cons, List.not_mem_nil, or_false] at he
    rcases he with rfl | rfl | rfl | rfl | rfl | rfl | rfl | rfl | rfl | rfl | rfl | rfl | rfl | rfl
    all_goals exact fun a s => ⟨_, _, rfl⟩

/-! ## Reception and parsing (R22, R24, R25, R32, R48, R56, R57, R470) -/

section
variable {s : State}

/-- A front port that is assigned, up and receives nothing begins to receive a frame that its MAC does not keep (R22). -/
theorem exec_frameStartReceived_begins {p : Nat} {f : List Byte} (hp : p < 64) (hf : f ≠ []) (ha : s.assigned p = true)
    (hl : s.fb (Fld.PRT_STATUS_LINK p) = true) (hr : (s.port p).rx = none) (hm : s.macConsumes p f = false) :
    exec (.frameStartReceived p f) s = .next (s.begin.startRx p f) := by
  simp [execFrameStartReceived, hf, ha, hl, hr, hm, Nat.not_le.2 hp]

/-- A port whose link is down receives nothing. -/
theorem exec_frameStartReceived_down {p : Nat} {f : List Byte} (hl : s.fb (Fld.PRT_STATUS_LINK p) = false) :
    exec (.frameStartReceived p f) s = .next s.begin := by
  simp [execFrameStartReceived, hl]

/-- The end of a frame counts its FEC words and judges it (R56, R57). -/
theorem exec_frameEnd_receiving {p pid : Nat} (hp : p < 64) (hr : (s.port p).rx = some pid) (pcs : Bool) (corr uncorr : Nat) :
    exec (.frameEnd p pcs corr uncorr) s = .next (((s.begin.inc (Reg.PRT_FEC_CORR p) corr).inc (Reg.PRT_FEC_UNCORR p)
      uncorr).endRx p (pcs || decide (uncorr ≠ 0))) := by
  simp [execFrameEnd, hr, Nat.not_le.2 hp]

theorem exec_frameEnd_idle {p : Nat} (hr : (s.port p).rx = none) (pcs : Bool) (corr uncorr : Nat) :
    exec (.frameEnd p pcs corr uncorr) s = .next s.begin := by
  simp [execFrameEnd, hr]

/-- The oldest frame of Cozy enters the queue of its running slice while the queue has a place (R24, R470). -/
theorem exec_cozyDrain_enters {slice pid : Nat} {r : List Nat} (hc : (s.slice slice).cozy = pid :: r)
    (hp : s.power slice = 0) (hf : (s.slice slice).fifo.length < 2048) :
    exec (.cozyDrain slice) s = .next (((s.begin.cozyFree pid).touch slice).enterSlice pid) := by
  simp [execCozyDrain, hc, hp, Nat.not_le.2 hf]

theorem exec_cozyDrain_full {slice pid : Nat} {r : List Nat} (hc : (s.slice slice).cozy = pid :: r)
    (hf : 2048 ≤ (s.slice slice).fifo.length) : exec (.cozyDrain slice) s = .next s.begin := by
  simp [execCozyDrain, hc, hf]

/-- A running slice that is not stalled parses the head that is next (R25, R48). -/
theorem exec_parseHead_takes {slice pid : Nat} {reserved : Bool} (hi : (s.slice slice).inService = true)
    (hp : s.power slice = 0) (hs : s.sliceStalled slice = false) (hn : s.nextHead slice reserved = some pid) :
    exec (.parseHead slice reserved) s = .next ((((((s.begin.modSlice slice fun x =>
      { x with fifo := x.fifo.erase pid, inner := x.inner.erase pid,
               lastPort := if (s.pkt pid).isInternal then (s.slice slice).lastPort else (s.pkt pid).inPort % 16 }).touch
        slice).evc (48 + 4 * slice)).parse pid).issueWaiting)) := by
  cases hint : (s.pkt pid).isInternal <;> simp [execParseHead, hi, hp, hs, hn, hint, State.modSlice]

theorem exec_parseHead_empty {slice : Nat} {reserved : Bool} (hn : s.nextHead slice reserved = none) :
    exec (.parseHead slice reserved) s = .next s.begin := by
  simp [execParseHead, hn]

end

/-- Settles O32: one lemma for each way a frame or a head can be met. -/
theorem framesAndHeads : Obligations.FramesAndHeads := by
  refine ⟨fun s p f hp => ⟨fun hf ha hl hr hm => exec_frameStartReceived_begins hp hf ha hl hr hm,
      fun hl => exec_frameStartReceived_down hl, fun pcs corr uncorr pid hr => exec_frameEnd_receiving hp hr pcs corr uncorr,
      fun hr pcs corr uncorr => exec_frameEnd_idle hr pcs corr uncorr, fun slice pid r hc =>
        ⟨fun hp hf => exec_cozyDrain_enters hc hp hf, fun hf => exec_cozyDrain_full hc hf⟩⟩,
    fun s slice reserved hi hp hs => ⟨fun pid hn => exec_parseHead_takes hi hp hs hn, fun hn => exec_parseHead_empty hn⟩⟩

/-! ## Rules and dispatch (R27, R28, R115–R119, R188–R190) -/

section
variable {s : State} {pid : Nat}

/-- The rule lookup of a parsed packet without a rule: the word of its bank becomes its rule, and the verdict acts
(R116–R119). -/
theorem exec_ruleLookup_finds (hp : (s.pkt pid).stage = .parsed) (hr : (s.pkt pid).rule = none) :
    exec (.ruleLookup pid) s =
      let p := s.pkt pid
      let e := (s.ruleBank (s.bankOf 0 p.epochs.rule)).lookup p.head.key
      let t := s.begin.setHit p.slice e.1 (min 0xFFFFFFFF (s.begin.hitCount p.slice e.1 + 1))
      let tc := if bitAt e.2 54 then bitsOf e.2 53 51 else p.ing.owner % 8
      .next ((((t.setPkt pid { p with rule := some e.2, tc := tc, runSlice := p.slice }).learnOffer pid
        (bitsOf e.2 62 61)).verdict pid e.2).issueWaiting) :=
  if_neg (by simp [hp, hr])

theorem exec_ruleLookup_again (hr : (s.pkt pid).rule.isSome = true) : exec (.ruleLookup pid) s = .next s.begin := by
  simp [execRuleLookup, hr]

variable {w : Nat}

/-- A packet refused for its zone's policy is dropped (R155). -/
theorem exec_dispatch_refused (hp : (s.pkt pid).stage = .parsed) (hr : (s.pkt pid).rule = some w)
    (hf : (s.pkt pid).flow = .refused 0) : exec (.dispatch pid) s = .next (s.begin.dropParsed pid) := by
  simp [execDispatch, hp, hr, hf]

/-- A packet whose record is not yet answered waits. -/
theorem exec_dispatch_waiting (hr : (s.pkt pid).rule = some w) (hf : (s.pkt pid).flow = .waiting) :
    exec (.dispatch pid) s = .next s.begin := by
  simp [execDispatch, hr, hf]

/-- A packet of a rule without a flow takes the program of its rule: dropped where the program is not valid, and else started
in a free context once there is one (R188–R190). -/
theorem exec_dispatch_program (hp : (s.pkt pid).stage = .parsed) (hr : (s.pkt pid).rule = some w)
    (hf : (s.pkt pid).flow = .noRecord) (hw : bitAt w 60 = false) (hn : s.recordFor (s.pkt pid) = none) :
    exec (.dispatch pid) s = .next
      (if bitAt (s.trw.progs.get (bitsOf w 47 32) 0) 63 then
        (s.dispatchPlace (s.pkt pid).slice).elim s.begin fun e =>
          s.begin.startProgram pid w (s.pkt pid).slice e.1 e.2 (bitsOf w 47 32) (s.trw.progs.get (bitsOf w 47 32) 0)
      else (s.begin.inc (Reg.TRW_NO_PROG (s.pkt pid).slice)).dropParsed pid) := by
  cases hv : bitAt (s.trw.progs.get (bitsOf w 47 32) 0) 63
  · simp [execDispatch, hp, hr, hf, hw, hn, hv]
  · cases hd : s.dispatchPlace (s.pkt pid).slice <;> simp [execDispatch, hp, hr, hf, hw, hn, hv, hd]

end

/-- Settles O33: a lookup runs once, and a dispatch goes by the packet's answer, its program and the free contexts. -/
theorem rulesAndDispatch : Obligations.RulesAndDispatch := by
  refine ⟨fun s pid hp => ⟨fun hr => exec_ruleLookup_finds hp hr, fun hr => exec_ruleLookup_again hr⟩,
    fun s pid w hp hr => ⟨fun hf => exec_dispatch_refused hp hr hf, fun hf => exec_dispatch_waiting hr hf,
      fun hf hw hn => ⟨fun hv => ?_, fun hv hd => ?_, fun e c hv hd => ?_⟩⟩⟩
  all_goals rw [exec_dispatch_program hp hr hf hw hn]
  · rw [hv, if_neg Bool.false_ne_true]
  · rw [hv, if_pos rfl, hd, Option.elim_none]
  · rw [hv, if_pos rfl, hd, Option.elim_some]

/-! ## Scheduling and transmission (R38, R341, R343) -/

section
variable {s : State} {p : Nat}

/-- What a free, awake port does: its tree's choice among the heads that are left is taken, if there is one (R341). -/
theorem exec_schedulerSelection_chooses (hp : p ≤ 66) (ha : s.assigned p = true) (hu : s.portUp p = true)
    (ht : (s.psched p).tx = none) (hh : (s.psched p).shaper.holds = true) (hw : s.power (s.egressSlice p) = 0)
    {t u : State} (hs : t = (s.begin.touch (s.egressSlice p)).countDeferred p)
    {found : Option (List (Option Nat × Nat) × Nat × Nat)} (hc : t.choose p (t.packets.length + 1) = (found, u))
    (fault : CellFault) :
    exec (.schedulerSelection p fault) s = .next (found.elim u fun e => u.take p e.1 e.2.1 e.2.2 fault) := by
  subst hs
  cases found <;> simp [execSchedulerSelection, Nat.not_lt.2 hp, ha, hu, ht, hh, hw, hc]

/-- A port that transmits or is down selects nothing. -/
theorem exec_schedulerSelection_busy (h : (s.psched p).tx.isSome = true ∨ s.portUp p = false) (fault : CellFault) :
    exec (.schedulerSelection p fault) s = .next s.begin := by
  rcases h with h | h <;> simp [execSchedulerSelection, h]

/-- A port without a packet to send sends nothing. -/
theorem exec_frameTransmit_none (h : (s.psched p).tx = none) (fault : CellFault) :
    exec (.frameTransmit p fault) s = .next s.begin := by
  simp [execFrameTransmit, h]

section
variable {pid : Nat} (hp : p < 64) (ht : (s.psched p).tx = some pid) (hx : (s.pkt pid).txAt = none)
  (hu : s.portUp p = true) (hl : s.lpiWaits p = false)
include hp ht hx hu hl

/-- A chosen packet that has ended is sent whole (R41, R58). -/
theorem exec_frameTransmit_ended (he : (s.pkt pid).ended = true) :
    exec (.frameTransmit p .none) s = .next ((s.begin.endTw p).sendTx pid p) := by
  simp [execFrameTransmit, ht, hx, hu, hl, he, show ¬ 64 < p by omega, show p ≠ 64 by omega]

/-- One that has not ended starts, with its timestamp entry offered (R378). -/
theorem exec_frameTransmit_starts (he : (s.pkt pid).ended = false) :
    exec (.frameTransmit p .none) s =
      .next (((((s.begin.endTw p).txStamp p).2.tsOpen pid p ((s.begin.endTw p).txStamp p).1)).setPkt pid
        { s.pkt pid with txAt := some ((s.begin.endTw p).txStamp p).1,
                         copy := (s.pkt pid).copy.map fun c => { c with early := true } }) := by
  simp [execFrameTransmit, ht, hx, hu, hl, he, hp, show ¬ 64 < p by omega, show p ≠ 64 by omega]

/-- One whose first cell cannot be read is dropped (R311). -/
theorem exec_frameTransmit_unread :
    exec (.frameTransmit p (.data 0)) s = .next (((s.begin.endTw p).inc Reg.BUF_UNCORR).dropTx pid p) := by
  simp [execFrameTransmit, ht, hx, hu, hl, show ¬ 64 < p by omega, show p ≠ 64 by omega]

end

/-! ## Ageing, shapers and gates by the clock (R345, R346, R348, R352, R353) -/

theorem exec_ageSweep_early (h : s.aon < s.sch.lastSweep + msCycles) : exec .ageSweep s = .next s.begin := if_pos h

theorem exec_ageSweep_due (h : s.sch.lastSweep + msCycles ≤ s.aon) :
    exec .ageSweep s = .next ((List.range 67).foldl (fun (s : State) p =>
      if s.portUp p && s.assigned p then
        ((s.portQueues p).foldl (fun (s : State) n => s.dropAged p n (s.queue n).items.length) s).refreshPort p
      else s) { s.begin with sch := { s.sch with lastSweep := s.aon } }) := if_neg (Nat.not_lt.2 h)

theorem exec_shaperRefill_none (h : s.coreNow / 128 = s.sch.lastRefill) : exec .shaperRefill s = .next s.begin :=
  if_pos (Nat.sub_eq_zero_of_le (Nat.le_of_eq h))

theorem exec_shaperRefill_boundaries (h : s.sch.lastRefill < s.coreNow / 128) :
    let n := s.coreNow / 128 - s.sch.lastRefill
    let a : State := { s.begin with sch := { s.sch with lastRefill := s.coreNow / 128 } }
    let b := (a.sch.queues.map (·.1)).foldl (fun t k => t.modQueue k fun q => { q with shaper := q.shaper.refill n }) a
    let c := (b.sch.nodes.map (·.1)).foldl (fun t k => t.modNode k fun q => { q with shaper := q.shaper.refill n }) b
    let d := (c.sch.ports.map (·.1)).foldl (fun t k => t.modPsched k fun q => { q with shaper := q.shaper.refill n }) c
    exec .shaperRefill s = .next ((List.range 67).foldl (fun t p => t.refreshPort p) d) :=
  if_neg (Nat.sub_ne_zero_of_lt h)

theorem exec_gateEntryBoundary_shows (hp : p < 64) :
    exec (.gateEntryBoundary p) s = .next ((s.begin.refreshPort p).showGates p) := if_neg (Nat.not_le.2 hp)

/-- A pending list becomes the operational one at its change time (R352). -/
theorem exec_gateSwitch_due (hp : p < 64) (hq : s.fb (Fld.GTE_CTL_PENDING p) = true) (ht : s.changeTime p ≤ s.gateNow) :
    exec (.gateSwitch p) s = .next (s.begin.switchGates p) := if_pos ⟨hp, hq, ht⟩

theorem exec_gateSwitch_not (h : s.fb (Fld.GTE_CTL_PENDING p) = false ∨ s.gateNow < s.changeTime p) :
    exec (.gateSwitch p) s = .next s.begin :=
  if_neg fun ⟨_, hq, ht⟩ => h.elim (fun hf => Bool.false_ne_true (hf.symm.trans hq)) (Nat.not_lt.2 ht)

end

/-- Settles O35: one lemma for each way a port, a clock or a list can be met. -/
theorem schedulingAndTransmission : Obligations.SchedulingAndTransmission := by
  refine ⟨fun s p hp ha => ⟨fun hu ht hh hw => ⟨fun path n pid u hc fault =>
        exec_schedulerSelection_chooses hp ha hu ht hh hw rfl hc fault,
      fun u hc fault => exec_schedulerSelection_chooses hp ha hu ht hh hw rfl hc fault⟩,
      fun h fault => exec_schedulerSelection_busy h fault,
      fun pid h64 ht hx hu hl => ⟨fun he => exec_frameTransmit_ended h64 ht hx hu hl he,
        fun he => exec_frameTransmit_starts h64 ht hx hu hl he, exec_frameTransmit_unread h64 ht hx hu hl⟩,
      fun h fault => exec_frameTransmit_none h fault⟩,
    fun s p => ⟨exec_ageSweep_early, exec_ageSweep_due, exec_shaperRefill_none, exec_shaperRefill_boundaries,
      exec_gateEntryBoundary_shows, exec_gateSwitch_due, exec_gateSwitch_not⟩⟩

end Sys2Proof.PacketLife

/-! # The front ports (spec chapter 2)

The timers register of a port, PAUSE and PFC, the link of a port, PRT_CFG and the I2C masters. First the rules for fields
that share a register: the registers of a port hold several settings or status bits each. -/

namespace Sys2Proof.FrontPorts

open Sys2Proof Sys2Proof.Machine

/-! ## Fields that share a register (R11) -/

/-- A field is its register's low bits, without those below the field. -/
theorem bitsOf_eq_mod_div (v hi lo : Nat) : bitsOf v hi lo = v % 2 ^ (hi + 1) / 2 ^ lo := by
  unfold bitsOf
  by_cases h : lo ≤ hi + 1
  · rw [← Nat.mod_mul_right_div_self, ← Nat.pow_add, Nat.add_sub_cancel' h]
  · have hlt : v % 2 ^ (hi + 1) < 2 ^ lo :=
      Nat.lt_trans (Nat.mod_lt _ (Nat.two_pow_pos _)) (Nat.pow_lt_pow_right (by decide) (Nat.not_le.1 h))
    rw [Nat.div_eq_of_lt hlt, Nat.sub_eq_zero_of_le (Nat.le_of_not_le h), Nat.pow_zero, Nat.mod_one]

theorem bitsOf_mod_width (v hi lo : Nat) : bitsOf v hi lo % 2 ^ (hi + 1 - lo) = bitsOf v hi lo := Nat.mod_mod _ _

/-- Replacing bits leaves the bits below them alone. -/
theorem bitsOf_withBits_below {lo hi hi' : Nat} (hl : lo ≤ hi + 1) (h : hi' < lo) (v n lo' : Nat) :
    bitsOf (withBits v hi lo n) hi' lo' = bitsOf v hi' lo' := by
  have hlow : withBits v hi lo n % 2 ^ lo = v % 2 ^ lo := by
    obtain ⟨k, hk⟩ := Nat.pow_dvd_pow 2 hl
    unfold withBits
    rw [hk, ← Nat.mul_assoc, Nat.mul_right_comm, ← Nat.add_mul, Nat.mul_add_mod_self_right, Nat.mod_mod]
  have hd : 2 ^ (hi' + 1) ∣ 2 ^ lo := Nat.pow_dvd_pow 2 h
  rw [bitsOf_eq_mod_div, bitsOf_eq_mod_div, ← Nat.mod_mod_of_dvd _ hd, hlow, Nat.mod_mod_of_dvd _ hd]

/-- Replacing bits leaves the bits above them alone. -/
theorem bitsOf_withBits_above {lo hi lo' : Nat} (hl : lo ≤ hi + 1) (h : hi < lo') (v n hi' : Nat) :
    bitsOf (withBits v hi lo n) hi' lo' = bitsOf v hi' lo' := by
  have hhigh : withBits v hi lo n / 2 ^ (hi + 1) = v / 2 ^ (hi + 1) := by
    have hk : 2 ^ (hi + 1) = 2 ^ (hi + 1 - lo) * 2 ^ lo := by rw [← Nat.pow_add, Nat.sub_add_cancel hl]
    have hx : n % 2 ^ (hi + 1 - lo) * 2 ^ lo + v % 2 ^ lo < 2 ^ (hi + 1) := by
      have hn := Nat.mul_le_mul_right (2 ^ lo) (Nat.succ_le_of_lt (Nat.mod_lt n (Nat.two_pow_pos (hi + 1 - lo))))
      have hv := Nat.mod_lt v (Nat.two_pow_pos lo)
      rw [← hk, Nat.succ_mul] at hn
      omega
    unfold withBits
    rw [Nat.add_assoc, Nat.mul_comm, Nat.mul_add_div (Nat.two_pow_pos _), Nat.div_eq_of_lt hx, Nat.add_zero]
  have hs : 2 ^ lo' = 2 ^ (hi + 1) * 2 ^ (lo' - (hi + 1)) := by rw [← Nat.pow_add, Nat.add_sub_cancel' h]
  rw [bitsOf, bitsOf, hs, ← Nat.div_div_eq_div_mul, hhigh, Nat.div_div_eq_div_mul]

/-- A register word keeps every field that lies in its 32 bits. -/
theorem bitsOf_word {hi : Nat} (h : hi < 32) (v lo : Nat) : bitsOf (BitVec.ofNat 32 v).toNat hi lo = bitsOf v hi lo := by
  rw [BitVec.toNat_ofNat, bitsOf_eq_mod_div, bitsOf_eq_mod_div, Nat.mod_mod_of_dvd _ (Nat.pow_dvd_pow 2 h)]

/-- Setting a field leaves a field in other bits of the same register alone. -/
theorem fg_fs_apart (s : State) {f g : Fld} (n : Nat) (hr : g.reg = f.reg) (hw : g.hi < 32) (hl : f.lo ≤ f.hi + 1)
    (h : f.hi < g.lo ∨ g.hi < f.lo) : (s.fs f n).fg g = s.fg g := by
  unfold State.fg State.fs
  rw [hr, State.rd_wr_self, bitsOf_word hw]
  exact h.elim (fun ha => bitsOf_withBits_above hl ha _ _ _) (fun hb => bitsOf_withBits_below hl hb _ _ _)

/-- A one-bit field that was set reads so. -/
theorem fb_fs_ofBool (s : State) {f : Fld} (hw : f.hi < 32) (h1 : f.lo = f.hi) (b : Bool) : (s.fs f (ofBool b)).fb f = b := by
  unfold State.fb
  rw [State.fg_fs_self s f _ hw, h1, Nat.add_sub_cancel_left]
  cases b <;> rfl

/-! ## The timers register (R18, R84) -/

theorem timers_addr (p : Nat) : (Reg.PRT_TIMERS p).addr = 0x0040000C + 0x1000 * p := by
  show 0x40000C + ((p - 0) * 0x1000 + 0) = _
  omega

/-- A register with one copy is at its base only. -/
theorem indices?_single {r : RegSpec} {a b : Nat} (hd : r.dims = []) (hb : r.base = b) (ha : a ≠ b) : r.indices? a = none := by
  unfold RegSpec.indices?
  split
  · rfl
  · obtain ⟨k, hk⟩ := Nat.exists_eq_succ_of_ne_zero (show a - r.base ≠ 0 by omega)
    rw [hd, hk, regIndices]

/-- A register with a copy for each front port is at `a` when `a` is on the copy of a port (R14). -/
theorem indices?_port {r : RegSpec} {a b p off : Nat} (hd : r.dims = [(64, 0x1000, 0)]) (hb : r.base = b) (hp : p < 64)
    (ho : off < 0x1000) (ha : a = b + off + 0x1000 * p) : r.indices? a = if off = 0 then some [p] else none := by
  have hrest : a - r.base = off + 0x1000 * p := by omega
  have hdiv : (off + 0x1000 * p) / 0x1000 = p := by omega
  have hmod : (off + 0x1000 * p) % 0x1000 = off := by omega
  rw [RegSpec.indices?, if_neg (by omega), hrest, hd, regIndices, hdiv, hmod, if_pos hp]
  cases off <;> simp [regIndices]

/-- The address map has the timers register of a port at its address (R627). -/
theorem find?_timers {p : Nat} (hp : p < 64) : Spec.find? (0x0040000C + 0x1000 * p) = some (Spec.PRT_TIMERS, [p]) := by
  obtain ⟨rest, htable⟩ : ∃ rest, Spec.table = [Spec.KTL_DEVICE_ID, Spec.PRT_INTERNAL_CTL, Spec.PRT_RECIRC_DROP,
      Spec.PRT_CFG, Spec.PRT_STATUS, Spec.PRT_EVENT] ++ Spec.PRT_TIMERS :: rest := ⟨_, rfl⟩
  generalize ha : 0x0040000C + 0x1000 * p = a
  have hid : Spec.KTL_DEVICE_ID.indices? a = none := indices?_single rfl (b := 0x100000) rfl (by omega)
  have hctl : Spec.PRT_INTERNAL_CTL.indices? a = none := indices?_single rfl (b := 0x480000) rfl (by omega)
  have hdrop : Spec.PRT_RECIRC_DROP.indices? a = none := indices?_single rfl (b := 0x480004) rfl (by omega)
  have hcfg : Spec.PRT_CFG.indices? a = none := indices?_port (off := 0xC) rfl rfl hp (by decide) ha.symm
  have hstatus : Spec.PRT_STATUS.indices? a = none := indices?_port (off := 0x8) rfl rfl hp (by decide) ha.symm
  have hevent : Spec.PRT_EVENT.indices? a = none := indices?_port (off := 0x4) rfl rfl hp (by decide) ha.symm
  have htimers : Spec.PRT_TIMERS.indices? a = some [p] := indices?_port (off := 0) rfl rfl hp (by decide) ha.symm
  simp [Spec.find?, htable, hid, hctl, hdrop, hcfg, hstatus, hevent, htimers]

/-- The values that R84 allows. -/
theorem timers_inRange_iff (v : Nat) : Spec.PRT_TIMERS.inRange v = true ↔
    bitsOf v 26 20 ≤ 100 ∧ bitsOf v 19 10 ≤ 1000 ∧ bitsOf v 9 0 ≤ 1000 := by
  simp [RegSpec.inRange, FieldSpec.of, Spec.PRT_TIMERS]

/-- A write sets each field of a register that has only readable and writable ones (R12). -/
theorem merge_of_rw {r : RegSpec} (h : ∀ f ∈ r.fields, f.acc = .rw) (old v : Nat) :
    r.merge old v = r.fields.foldl (fun n f => withBits n f.hi f.lo (f.of v)) old :=
  List.foldl_rel (r := Eq) rfl fun f hf n _ hn => by rw [h f hf, hn]

theorem foldl_timers_fields (g : Nat → Nat → Nat → Nat → Nat) (old v : Nat) :
    Spec.PRT_TIMERS.fields.foldl (fun n f => g n f.hi f.lo (f.of v)) old =
      g (g (g old 26 20 (bitsOf v 26 20)) 19 10 (bitsOf v 19 10)) 9 0 (bitsOf v 9 0) := rfl

theorem timers_merge (old v : Nat) : Spec.PRT_TIMERS.merge old v =
    withBits (withBits (withBits old 26 20 (bitsOf v 26 20)) 19 10 (bitsOf v 19 10)) 9 0 (bitsOf v 9 0) :=
  (merge_of_rw (by simp [Spec.PRT_TIMERS]) old v).trans (foldl_timers_fields withBits old v)

/-- A write of the kernel to the timers of a port is checked against the ranges of its fields. -/
theorem exec_registerWrite_timers {p : Nat} (hp : p < 64) (s : State) (v : Word) :
    exec (.registerWrite .kernel (BitVec.ofNat 40 (0x0040000C + 0x1000 * p)) v) s =
      .next (s.begin.checkedStore Spec.PRT_TIMERS [p] v.toNat) := by
  have haddr : (BitVec.ofNat 40 (0x0040000C + 0x1000 * p)).toNat = 0x0040000C + 0x1000 * p :=
    (BitVec.toNat_ofNat _ _).trans (Nat.mod_eq_of_lt (by omega))
  have hreach : s.begin.reach .kernel (0x0040000C + 0x1000 * p) = some (Spec.PRT_TIMERS, [p]) := by
    rw [State.reach, if_neg (by omega), find?_timers hp]
    rfl
  rw [exec_registerWrite, execRegisterWrite, haddr, State.ctlWrite, hreach, Nat.mod_eq_of_lt v.isLt]
  rfl

/-- A value out of range leaves the timers as they were (R18). -/
theorem timers_checkedStore_denied {s : State} {p v : Nat} (h : Spec.PRT_TIMERS.inRange v = false) :
    (s.checkedStore Spec.PRT_TIMERS [p] v).rd (Reg.PRT_TIMERS p) = s.rd (Reg.PRT_TIMERS p) := by
  rw [State.checkedStore, h]
  rfl

/-- A value in range is taken, field by field. -/
theorem timers_checkedStore_taken {s : State} {p v hi : Nat} (h : Spec.PRT_TIMERS.inRange v = true) (hw : hi < 32) (lo : Nat) :
    bitsOf ((s.checkedStore Spec.PRT_TIMERS [p] v).rd (Reg.PRT_TIMERS p)).toNat hi lo =
      bitsOf (withBits (withBits (withBits (s.rd (Reg.PRT_TIMERS p)).toNat 26 20 (bitsOf v 26 20)) 19 10 (bitsOf v 19 10)) 9 0
        (bitsOf v 9 0)) hi lo := by
  rw [State.checkedStore, if_pos h, State.store, timers_merge, ← Reg.PRT_TIMERS, State.rd_wr_self, bitsOf_word hw]

theorem reset_rd (r : Reg) : State.reset.rd r = r.reset := BitVec.zero_xor

/-- Settles O8: the write is checked as a whole, and a value that passes sets three fields that lie apart. -/
theorem portTimersRegister : Obligations.PortTimersRegister := by
  intro p hp
  have hreset : ∀ hi lo, bitsOf (State.reset.rd (Reg.PRT_TIMERS p)).toNat hi lo = bitsOf 0x414 hi lo := fun hi lo => by
    rw [reset_rd]; rfl
  refine ⟨timers_addr p, hreset 26 20, hreset 19 10, hreset 9 0, hreset 31 27, fun s v =>
    ⟨_, exec_registerWrite_timers hp s v, fun hok => ?_, fun hno => ?_⟩⟩
  · have htaken := @timers_checkedStore_taken s.begin p v.toNat (h := (timers_inRange_iff v.toNat).2 hok)
    refine ⟨(htaken (hi := 26) (by decide) 20).trans ?_, (htaken (hi := 19) (by decide) 10).trans ?_,
      (htaken (hi := 9) (by decide) 0).trans ?_, (htaken (hi := 31) (by decide) 27).trans ?_⟩
    · rw [bitsOf_withBits_above (by decide) (by decide), bitsOf_withBits_above (by decide) (by decide), bitsOf_withBits,
        bitsOf_mod_width]
    · rw [bitsOf_withBits_above (by decide) (by decide), bitsOf_withBits, bitsOf_mod_width]
    · rw [bitsOf_withBits, bitsOf_mod_width]
    · rw [bitsOf_withBits_above (by decide) (by decide), bitsOf_withBits_above (by decide) (by decide),
        bitsOf_withBits_above (by decide) (by decide)]
      rfl
  · exact timers_checkedStore_denied (Bool.eq_false_iff.2 fun h => hno ((timers_inRange_iff v.toNat).1 h))

/-! ## PAUSE and PFC (R56, R57, R61–R64) -/

section
variable {s : State} {p : Nat}

section
variable {f : List Byte} (hp : p < 64) (ha : s.assigned p = true) (hl : s.fb (Fld.PRT_STATUS_LINK p) = true)
  (ht : beAt f 12 2 = 0x8808)
include hp ha hl ht

/-- A bad MAC control frame counts its codewords (R56), and then itself by its cause (R57). -/
theorem exec_macControlFrame_bad {pcs : Bool} {c u : Nat} {r : Nat → Reg} (hb : badCause f (pcs || decide (u ≠ 0)) = some r) :
    exec (.macControlFrame p f pcs c u) s =
      .next (((s.begin.inc (Reg.PRT_FEC_CORR p) c).inc (Reg.PRT_FEC_UNCORR p) u).inc (r p)) := by
  refine (if_neg (by simp [ha, hl, ht, Nat.not_le.2 hp])).trans ?_
  rw [hb]

/-- A good one counts its codewords and acts (R61). -/
theorem exec_macControlFrame_good {c : Nat} (hb : badCause f false = none) :
    exec (.macControlFrame p f false c 0) s =
      .next (((s.begin.inc (Reg.PRT_FEC_CORR p) c).inc (Reg.PRT_FEC_UNCORR p) 0).macControl p f) := by
  refine (if_neg (by simp [ha, hl, ht, Nat.not_le.2 hp])).trans ?_
  rw [show (false || decide ((0 : Nat) ≠ 0)) = false from rfl, hb]

end

/-- With FC_MODE = 1 a PAUSE frame to the port pauses it, unless its watchdog ignores pauses (R61, R62, R64). -/
theorem macControl_pause (hm : s.fg (Fld.PRT_CFG_FC_MODE p) = 1) (hw : s.underWatchdog p 8 = false) {f : List Byte}
    (ho : beAt f 14 2 = 1) (hd : beAt f 0 6 = 0x0180C2000001 ∨ beAt f 0 6 = s.portMac p) :
    s.macControl p f = (s.inc (Reg.PRT_RX_MAC_CTL p)).setPause p 8 (beAt f 16 2) := by
  have hdst : ¬(beAt f 0 6 ≠ 0x0180C2000001 ∧ beAt f 0 6 ≠ s.portMac p) := fun h => hd.elim h.1 h.2
  rw [State.macControl, if_neg hdst]
  simp [hm, hw, ho]

/-- With FC_MODE = 0 no MAC control frame acts (R61). -/
theorem macControl_off (hm : s.fg (Fld.PRT_CFG_FC_MODE p) = 0) (f : List Byte) :
    s.macControl p f = s.inc (Reg.PRT_RX_MAC_CTL_BAD p) := by
  simp [State.macControl, hm]

variable {pri : Option Nat} {t : Nat}

/-- A pause ends when its time has come, and not before (R62). -/
theorem exec_pauseExpiry_till (h : ((s.port p).pauses.get (pauseKey pri) {}).till = some t) :
    exec (.pauseExpiry p pri) s = .next (if t ≤ s.aon then
      (s.begin.modPause p (pauseKey pri) fun y => { y with till := none, since := none }).refreshPort p else s.begin) := by
  simp only [exec_pauseExpiry, execPauseExpiry, State.begin_port, h]
  rfl

/-- An XOFF is repeated when half of PAUSE_TIME has passed and its condition still holds (R63). -/
theorem exec_xoffRepeat_owed {e : Nat × Nat} (h : (s.port p).xoff.find? (fun e => e.1 == pauseKey pri) = some e) :
    exec (.xoffRepeat p pri) s = .next (if e.2 ≤ s.aon ∧ s.xoffDue p (pauseKey pri) = true then
      (s.begin.sendPause p (pauseKey pri) (s.fg (Fld.PRT_PAUSE_PAUSE_TIME p))).modPort p fun y =>
        { y with xoff := y.xoff.ins (pauseKey pri) (s.aon + s.halfPause p) } else s.begin) := by
  simp only [exec_xoffRepeat, execXoffRepeat, State.begin_port, h]
  exact (apply_ite Host.Outcome.next _ _ _).symm

/-- WD_MS = 0 switches the watchdog off (R64). -/
theorem exec_pauseWatchdog_off (h : s.fg (Fld.PRT_PAUSE_WD_WD_MS p) * msCycles = 0) :
    exec (.pauseWatchdog p pri) s = .next s.begin := by
  simp only [exec_pauseWatchdog, execPauseWatchdog, State.begin_port, State.begin_fg, h, ne_eq, not_true_eq_false, false_and,
    if_false]
  split <;> rfl

/-- A pause that has lasted longer than WD_MS without a break is ended, and pauses are ignored for WD_MS (R64). -/
theorem exec_pauseWatchdog_fires {since : Nat} (ht : ((s.port p).pauses.get (pauseKey pri) {}).till = some t)
    (hs : ((s.port p).pauses.get (pauseKey pri) {}).since = some since)
    (hwd : s.fg (Fld.PRT_PAUSE_WD_WD_MS p) * msCycles ≠ 0) (hon : s.aon ≤ t)
    (hlong : since + s.fg (Fld.PRT_PAUSE_WD_WD_MS p) * msCycles < s.aon) :
    exec (.pauseWatchdog p pri) s = .next ((((s.begin.modPause p (pauseKey pri) fun _ =>
      { wdTill := some (s.aon + s.fg (Fld.PRT_PAUSE_WD_WD_MS p) * msCycles) }).portEvent (Fld.PRT_EVENT_PAUSE_WD p)).log
        0x0406).refreshPort p) := by
  simp only [exec_pauseWatchdog, execPauseWatchdog, State.begin_port, State.begin_fg, State.begin_aon, ht, hs]
  exact if_pos ⟨hwd, hon, hlong⟩

/-- Pauses are honoured again when WD_MS is over (R64). -/
theorem exec_pauseWatchdogEnd_till (h : ((s.port p).pauses.get (pauseKey pri) {}).wdTill = some t) :
    exec (.pauseWatchdogEnd p pri) s = .next (if t ≤ s.aon then
      s.begin.modPause p (pauseKey pri) fun y => { y with wdTill := none } else s.begin) := by
  simp only [exec_pauseWatchdogEnd, execPauseWatchdogEnd, State.begin_port, h]
  rfl

/-! ## The link of a port (R66, R67, R69, R72–R77) -/

/-- The lock of an awake slice's port shows in PRT_STATUS, and the conditions of its link follow (R66, R72). -/
theorem exec_pcsLockChange_awake (hp : p < 64) (ha : s.assigned p = true) (hw : s.power (p / 16) ≠ 3) (pcs fec : Bool) :
    exec (.pcsLockChange p pcs fec) s = .next ((((s.begin.fs (Fld.PRT_STATUS_PCS_LOCK p) (ofBool pcs)).fs
      (Fld.PRT_STATUS_FEC_LOCK p) (ofBool (fec && s.fb (Fld.PRT_CFG_FEC_MODE p)))).siteUnlock p).updateConds p) := by
  simp [execPcsLockChange, ha, hw, Nat.not_le.2 hp]

/-- A port that is up with a failing condition is declared down at once, or when DN_DELAY_MS is over (R69, R72). -/
theorem exec_linkDownDeclared_failing (hp : p < 64) (hu : s.fb (Fld.PRT_STATUS_LINK p) = true)
    (hf : (s.port p).failSince = some t) :
    exec (.linkDownDeclared p) s =
      .next (if s.downAtOnce p = true ∨ t + s.fg (Fld.PRT_TIMERS_DN_DELAY_MS p) * msCycles ≤ s.aon then s.begin.declareDown p
        else s.begin) := by
  refine (if_neg (by simp [hu, Nat.not_le.2 hp])).trans ?_
  simp only [State.begin_port, hf]
  rw [apply_ite Host.Outcome.next]
  exact ite_congr (by rw [Bool.or_eq_true, decide_eq_true_eq]; rfl) (fun _ => rfl) (fun _ => rfl)

/-- A port that is down is declared up when its conditions hold and have held for UP_DELAY_MS (R72). -/
theorem exec_linkUpDeclared_met (hp : p < 64) (hu : s.fb (Fld.PRT_STATUS_LINK p) = false)
    (hc : (s.port p).condsSince = some t) :
    exec (.linkUpDeclared p) s =
      .next (if s.linkConds p = true ∧ t + s.fg (Fld.PRT_TIMERS_UP_DELAY_MS p) * msCycles ≤ s.aon then s.begin.declareUp p
        else s.begin) := by
  refine (if_neg (by simp [hu, Nat.not_le.2 hp])).trans ?_
  simp only [State.begin_port, hc]
  rw [apply_ite Host.Outcome.next]
  exact ite_congr (by rw [Bool.and_eq_true, decide_eq_true_eq]; rfl) (fun _ => rfl) (fun _ => rfl)

/-- The hold timer flushes a port that is still down at its end (R76). -/
theorem exec_holdExpiry_till (h : (s.port p).holdTill = some t) :
    exec (.holdExpiry p) s = .next (if t ≤ s.aon ∧ s.portUp p = false then s.begin.expireHold p else s.begin) := by
  simp [execHoldExpiry, h]

theorem status_addr_ne_cfg (p : Nat) : (Reg.PRT_STATUS p).addr ≠ (Reg.PRT_CFG p).addr :=
  Nat.ne_of_gt (Nat.add_lt_add_right (by decide) _)

/-- The LOS pin of a port that ignores its site shows in PRT_STATUS, and nothing follows from it (R69). -/
theorem exec_modulePinChange_ignored (hp : p < 64) (hi : s.fb (Fld.PRT_CFG_MOD_IGN p) = true) (level : Bool) :
    exec (.modulePinChange p .los level) s = .next (if s.fb (Fld.PRT_STATUS_MOD_LOS p) = level then s.begin
      else s.begin.fs (Fld.PRT_STATUS_MOD_LOS p) (ofBool level)) := by
  have hkeep : (s.begin.fs (Fld.PRT_STATUS_MOD_LOS p) (ofBool level)).fb (Fld.PRT_CFG_MOD_IGN p) = true := by
    rw [State.fb, State.fg_fs_ne _ _ (status_addr_ne_cfg p)]
    exact hi
  simp [execModulePinChange, hp, State.modulePin, hkeep]

/-- LPI_RX shows the link partner's low-power idle (R67, R82). -/
theorem exec_lpiEntry_partner (hp : p < 64) (hu : s.fb (Fld.PRT_STATUS_LINK p) = true)
    (he : s.fb (Fld.PRT_CFG_LPI_EN p) = true) :
    exec (.lpiEntry p true) s = .next (s.begin.fs (Fld.PRT_STATUS_LPI_RX p) 1) := by
  simp [execLpiEntry, hp, hu, he]

theorem exec_lpiEntry_down (hu : s.fb (Fld.PRT_STATUS_LINK p) = false) (partner : Bool) :
    exec (.lpiEntry p partner) s = .next s.begin := by
  cases partner <;> simp [execLpiEntry, hu]

/-- A port that has been quiet for IDLE_US, with no gate list and no XOFF due, enters low-power idle (R67). -/
theorem exec_lpiEntry_quiet (hp : p < 64) (hu : s.fb (Fld.PRT_STATUS_LINK p) = true)
    (he : s.fb (Fld.PRT_CFG_LPI_EN p) = true) (ht : s.fb (Fld.PRT_STATUS_LPI_TX p) = false)
    (hq : ((s.portQueues p).all fun n => (s.queue n).items.isEmpty) = true)
    (hg : s.fb (Fld.GTE_CFG_EN p) = false ∨ s.fb (Fld.GTE_CTL_OPER_VALID p) = false) (hx : (s.psched p).tx = none)
    (hw : (s.port p).twTill = none) (ho : ∀ e ∈ (s.port p).xoff, s.aon < e.2)
    (hi : (s.port p).idleSince + s.fg (Fld.PRT_LPI_IDLE_US p) * usCycles ≤ s.aon) :
    exec (.lpiEntry p false) s = .next (s.begin.fs (Fld.PRT_STATUS_LPI_TX p) 1) := by
  have hgated : (!(s.fb (Fld.GTE_CFG_EN p) && s.fb (Fld.GTE_CTL_OPER_VALID p))) = true := by
    rcases hg with hg | hg <;> simp [hg]
  have hxoff : ((s.port p).xoff.all fun e => decide (s.aon < e.2)) = true := by simpa using ho
  exact if_pos ⟨hp, hu, he, by simp [ht], hq, hgated, hx, hw, hxoff, hi⟩

theorem exec_lpiWakeDone_partner (hp : p < 64) :
    exec (.lpiWakeDone p true) s = .next (s.begin.fs (Fld.PRT_STATUS_LPI_RX p) 0) := by
  simp [execLpiWakeDone, hp]

theorem exec_lpiWakeDone_till (h : (s.port p).twTill = some t) :
    exec (.lpiWakeDone p false) s = .next (if t ≤ s.aon then s.begin.endTw p else s.begin) := by
  simp only [exec_lpiWakeDone, execLpiWakeDone, State.begin_port, h]
  rfl

end

/-- Settles O30: one lemma for each command of a port's pauses and its link. -/
theorem pausesAndLinks : Obligations.PausesAndLinks := by
  refine ⟨fun s p pri => ⟨fun f c hp ha hl hf hb =>
        ⟨fun hm hw ho hd => (exec_macControlFrame_good hp ha hl hf hb).trans (congrArg _ (macControl_pause hm hw ho hd)),
          fun hm => (exec_macControlFrame_good hp ha hl hf hb).trans (congrArg _ (macControl_off hm f))⟩,
      fun f c u pcs r hp ha hl hf hb => exec_macControlFrame_bad hp ha hl hf hb,
      fun t ht hdue => ?_, fun t ht hearly => ?_, fun e he hdue hx => ?_, fun e he hearly => ?_,
      fun t since ht hs hwd hon hlong => exec_pauseWatchdog_fires ht hs hwd hon hlong, exec_pauseWatchdog_off,
      fun t ht hdue => ?_, fun t ht hearly => ?_⟩,
    fun s p hp => ⟨fun pcs fec ha hw => exec_pcsLockChange_awake hp ha hw pcs fec, fun t hu hf hdue => ?_,
      fun t hu hf ho hearly => ?_, fun t hu hc hl hdue => ?_, fun t hu hc hno => ?_, fun t ht hdue hdn => ?_,
      fun t ht hearly => ?_, fun hi level => ⟨_, exec_modulePinChange_ignored hp hi level, ?_⟩,
      fun hu he ht hq hg hx hw ho hi => exec_lpiEntry_quiet hp hu he ht hq hg hx hw ho hi,
      fun hu partner => exec_lpiEntry_down hu partner, fun hu he => exec_lpiEntry_partner hp hu he,
      exec_lpiWakeDone_partner hp, fun t ht hdue => ?_, fun t ht hearly => ?_⟩⟩
  · rw [exec_pauseExpiry_till ht, if_pos hdue]
  · rw [exec_pauseExpiry_till ht, if_neg (Nat.not_le.2 hearly)]
  · rw [exec_xoffRepeat_owed he, if_pos ⟨hdue, hx⟩]
  · rw [exec_xoffRepeat_owed he, if_neg fun h => Nat.not_le.2 hearly h.1]
  · rw [exec_pauseWatchdogEnd_till ht, if_pos hdue]
  · rw [exec_pauseWatchdogEnd_till ht, if_neg (Nat.not_le.2 hearly)]
  · rw [exec_linkDownDeclared_failing hp hu hf, if_pos (Or.inr hdue)]
  · rw [exec_linkDownDeclared_failing hp hu hf, if_neg (by simp [ho, hearly])]
  · rw [exec_linkUpDeclared_met hp hu hc, if_pos ⟨hl, hdue⟩]
  · rw [exec_linkUpDeclared_met hp hu hc, if_neg (by rcases hno with h | h <;> simp [h])]
  · rw [exec_holdExpiry_till ht, if_pos ⟨hdue, hdn⟩]
  · rw [exec_holdExpiry_till ht, if_neg fun h => Nat.not_le.2 hearly h.1]
  · split
    · exact ⟨‹_›, rfl⟩
    · exact ⟨fb_fs_ofBool _ (by decide : 4 < 32) rfl level, rfl⟩
  · rw [exec_lpiWakeDone_till ht, if_pos hdue]
  · rw [exec_lpiWakeDone_till ht, if_neg (Nat.not_le.2 hearly)]

/-! ## PRT_CFG (R54, R66) -/

section
variable {s : State} {p : Nat} {v : Word}

/-- A write of PRT_CFG that the mode does not allow is rejected (R54). -/
theorem exec_prtCfgWrite_illegal (hp : p < 64) (h : s.cfgLegal p v.toNat = false) :
    exec (.prtCfgWrite .kernel p v) s = .next (s.begin.denied Spec.PRT_CFG) := by
  simp [execPrtCfgWrite, State.forReq, State.mayAccess, State.writePrtCfg, hp, h]

theorem exec_prtCfgWrite_kernel (hp : p < 64) (v : Word) :
    exec (.prtCfgWrite .kernel p v) s = .next (s.begin.writePrtCfg p v.toNat) := by
  simp [execPrtCfgWrite, State.forReq, State.mayAccess, hp]

theorem exec_prtCfgWrite_user (p : Nat) (v : Word) : exec (.prtCfgWrite .user p v) s = .next s.begin.errorResponse := rfl

end

/-! ## The I2C masters (R70, R71, R89) -/

section
variable {s : State} {n : Nat}

/-- A command with a length of 0 or above 128 is rejected (R89). -/
theorem exec_i2cTransaction_length (hn : n < 4) {v : Word} (h : bitsOf v.toNat 23 16 = 0 ∨ 128 < bitsOf v.toNat 23 16) :
    exec (.i2cTransaction .kernel n v) s = .next (s.begin.denied Spec.PRT_I2C_CMD) := by
  simp only [exec_i2cTransaction, execI2cTransaction, State.forReq, State.mayAccess, hn, if_true]
  rw [State.writeI2c, if_pos (h.imp Nat.lt_one_iff.2 .inl)]

/-- The registers of a master that takes a command: the command's fields, BUSY set, COUNT cleared (R70). -/
def i2cTaken (s : State) (n : Nat) (v : Word) : State :=
  ((s.store Spec.PRT_I2C_CMD [n] v.toNat).fs (Fld.PRT_I2C_STAT_BUSY n) 1).fs (Fld.PRT_I2C_STAT_COUNT n) 0

/-- The state in which a master runs the transaction of a command. -/
def i2cStarted (s : State) (n : Nat) (v : Word) : State :=
  let t := i2cTaken s n v
  { t with i2c := t.i2c.put n {} { startAt := some t.aon, command := v.toNat } }.emit (.i2c n v)

/-- A command with GO and a length of 1–128 starts the transaction of a master that is not busy (R70). -/
theorem exec_i2cTransaction_starts (hn : n < 4) {v : Word} (h1 : 1 ≤ bitsOf v.toNat 23 16) (h2 : bitsOf v.toNat 23 16 ≤ 128)
    (hg : bitAt v.toNat 31 = true) (hb : s.fb (Fld.PRT_I2C_STAT_BUSY n) = false) :
    exec (.i2cTransaction .kernel n v) s = .next (i2cStarted s.begin n v) := by
  simp only [exec_i2cTransaction, execI2cTransaction, State.forReq, State.mayAccess, hn, if_true]
  rw [State.writeI2c, if_neg (by simp [hb]; omega), if_pos hg]
  rfl

theorem i2cTaken_out (s : State) (n : Nat) (v : Word) : (i2cTaken s n v).out = s.out := by
  rw [i2cTaken, State.fs_out, State.fs_out, State.store, State.wr_out]

theorem i2cTaken_aon (s : State) (n : Nat) (v : Word) : (i2cTaken s n v).aon = s.aon := by
  rw [i2cTaken, State.fs_aon, State.fs_aon, State.store, State.wr_aon]

/-- A master's transaction and what it puts out are no registers. -/
theorem fg_i2c_emit (s : State) (x : Table I2c) (o : Out) (f : Fld) : ({ s with i2c := x }.emit o).fg f = s.fg f := rfl

theorem i2cStarted_fg (s : State) (n : Nat) (v : Word) (f : Fld) : (i2cStarted s n v).fg f = (i2cTaken s n v).fg f :=
  fg_i2c_emit _ _ _ _

theorem i2cStarted_busy (s : State) (n : Nat) (v : Word) : (i2cStarted s n v).fb (Fld.PRT_I2C_STAT_BUSY n) = true := by
  have happart : ∀ t : State, (t.fs (Fld.PRT_I2C_STAT_COUNT n) 0).fg (Fld.PRT_I2C_STAT_BUSY n) =
      t.fg (Fld.PRT_I2C_STAT_BUSY n) := fun t =>
    fg_fs_apart t 0 rfl (by decide : 0 < 32) (by decide : 8 ≤ 16) (.inr (by decide : 0 < 8))
  rw [State.fb, i2cStarted_fg, i2cTaken, happart]
  exact fb_fs_ofBool _ (by decide : 0 < 32) rfl true

theorem i2cStarted_count (s : State) (n : Nat) (v : Word) : (i2cStarted s n v).fg (Fld.PRT_I2C_STAT_COUNT n) = 0 := by
  rw [i2cStarted_fg, i2cTaken, State.fg_fs_self _ _ _ (by decide : 15 < 32), Nat.zero_mod]

theorem i2cStarted_i2c (s : State) (n : Nat) (v : Word) :
    (i2cStarted s n v).i2c.get n {} = { startAt := some s.aon, command := v.toNat } := by
  rw [i2cStarted, State.emit_i2c, Table.get_put_self, i2cTaken_aon]

theorem i2cStarted_out (s : State) (n : Nat) (v : Word) : (i2cStarted s n v).out = s.out ++ [.i2c n v] := by
  rw [i2cStarted, State.emit, i2cTaken_out]

/-- The state after a transaction has put `k` bytes into the master's buffer, where the command asks for it: by its bit 30 in
the model and in the statement, though R89 has READ at bit 24. -/
def i2cGot (s : State) (n k : Nat) (data : List Byte) : State :=
  if bitAt (s.i2c.get n {}).command 30 then s.begin.i2cBytes n (sliceBytes data 0 k) else s.begin

/-- A transaction that finishes has moved LEN bytes, and COUNT and DONE show it (R71). -/
theorem exec_i2cDone_acked (hn : n < 4) (hb : s.fb (Fld.PRT_I2C_STAT_BUSY n) = true) (count : Nat) (data : List Byte) :
    let len := bitsOf (s.i2c.get n {}).command 23 16
    exec (.i2cDone n count false data) s = .next ((i2cGot s n len data).endI2c n len) :=
  if_neg (by simp [hb, hn])

/-- A NACK ends the transaction with a STOP (R71). -/
theorem exec_i2cDone_nacked (hn : n < 4) (hb : s.fb (Fld.PRT_I2C_STAT_BUSY n) = true) (count : Nat) (data : List Byte) :
    let len := bitsOf (s.i2c.get n {}).command 23 16
    exec (.i2cDone n count true data) s = .next ((((i2cGot s n (min count len) data).fs (Fld.PRT_I2C_STAT_NACK n) 1).emit
      (.i2cStop n 0)).endI2c n (min count len)) :=
  if_neg (by simp [hb, hn])

variable {t : Nat}

/-- A transaction of 10 ms or more is aborted: nine clock pulses and a STOP free the bus, and TIMEOUT shows it (R71). -/
theorem exec_i2cTimeout_due (h : (s.i2c.get n {}).startAt = some t) (hd : t + 10 * msCycles ≤ s.aon) :
    exec (.i2cTimeout n) s = .next ((({ s.begin with fresh := s.fresh + 1 }.fs (Fld.PRT_I2C_STAT_TIMEOUT n) 1).emit
      (.i2cStop n 9)).endI2c n ((Config.freeValue s.fresh).toNat % (bitsOf (s.i2c.get n {}).command 23 16 + 1))) := by
  simp only [exec_i2cTimeout, execI2cTimeout, State.begin_i2c, h]
  exact if_pos hd

theorem exec_i2cTimeout_early (h : (s.i2c.get n {}).startAt = some t) (hd : s.aon < t + 10 * msCycles) :
    exec (.i2cTimeout n) s = .next s.begin := by
  simp only [exec_i2cTimeout, execI2cTimeout, State.begin_i2c, h]
  exact if_neg (Nat.not_le.2 hd)

end

/-- Settles O31: one lemma for each way a PRT_CFG write or a transaction can be met. -/
theorem portConfigurationAndI2c : Obligations.PortConfigurationAndI2c := by
  refine ⟨fun s p v hp => ⟨exec_prtCfgWrite_illegal hp, fun _ => ⟨_, exec_prtCfgWrite_kernel hp v, rfl⟩,
      exec_prtCfgWrite_user p v⟩,
    fun s n v hn => ⟨fun h1 h2 hg hb => ⟨_, exec_i2cTransaction_starts hn h1 h2 hg hb, i2cStarted_busy _ n v,
        i2cStarted_count _ n v, ?_, ?_, i2cStarted_out _ n v⟩, exec_i2cTransaction_length hn,
      fun hb count data => ⟨exec_i2cDone_acked hn hb count data, exec_i2cDone_nacked hn hb count data⟩,
      fun t ht hdue => ⟨_, _, exec_i2cTimeout_due ht hdue, Nat.lt_succ_iff.1 (Nat.mod_lt _ (Nat.succ_pos _)), rfl⟩,
      fun t ht hearly => exec_i2cTimeout_early ht hearly⟩⟩
  · rw [i2cStarted_i2c, State.begin_aon]
  · rw [i2cStarted_i2c]

end Sys2Proof.FrontPorts

/-! # Parsing and rules (spec chapter 3)

The rule access commands and the swap of banks, the hash test, the policers' commands and POP. The first part says which
registers an event leaves alone; then one lemma for each way a command can be met. -/

namespace Sys2Proof.ParsingAndRules

open Sys2Proof Sys2Proof.Machine Sys2Proof.Laws Sys2Proof.FrontPorts

/-! ## Registers that stores and events leave alone (R11, R563, R632) -/

theorem rd_store_ne (s : State) {r : RegSpec} {ix : List Nat} (v : Nat) {q : Reg} (h : (r.at ix).addr ≠ q.addr) :
    (s.store r ix v).rd q = s.rd q :=
  State.rd_wr_ne s _ h

section
variable (s : State) (r : RegSpec) (ix : List Nat) (v : Nat)

@[simp] theorem store_rul : (s.store r ix v).rul = s.rul := State.wr_rul _ _ _
@[simp] theorem store_xlb : (s.store r ix v).xlb = s.xlb := State.wr_xlb _ _ _
@[simp] theorem store_aon : (s.store r ix v).aon = s.aon := State.wr_aon _ _ _
@[simp] theorem store_epochBank : (s.store r ix v).epochBank = s.epochBank := State.wr_epochBank _ _ _
@[simp] theorem store_coreNow : (s.store r ix v).coreNow = s.coreNow := by rw [State.coreNow, store_aon, State.coreNow]

end

/-- A field that was set to 1 reads so. -/
theorem fb_fs_one (s : State) {f : Fld} (hw : f.hi < 32) (h1 : f.lo = f.hi) : (s.fs f 1).fb f = true :=
  fb_fs_ofBool s hw h1 true

/-- A field that was set to 0 reads so. -/
theorem fb_fs_zero (s : State) {f : Fld} (hw : f.hi < 32) (h1 : f.lo = f.hi) : (s.fs f 0).fb f = false :=
  fb_fs_ofBool s hw h1 false

/-- As `fg_fs_apart`, for fields that are written out. -/
theorem fg_fs_beside (s : State) (f g : Fld) (n : Nat)
    (h : g.reg = f.reg ∧ g.hi < 32 ∧ f.lo ≤ f.hi + 1 ∧ (f.hi < g.lo ∨ g.hi < f.lo)) : (s.fs f n).fg g = s.fg g :=
  let ⟨hreg, hword, hbits, hside⟩ := h
  fg_fs_apart s n hreg hword hbits hside

/-- What counting and logging write lies at 0x0120_0000 and above: the counters' wraps and the event unit's registers. -/
theorem rd_putEvent_low (s : State) (code : Nat) (d : List Byte) (cs : List (List Byte)) (p : Bool) {r : Reg}
    (h : r.addr < 0x1200000) : (s.putEvent code d cs p).rd r = s.rd r := by
  have hs : Fld.DBG_EVT_STAT_LOST.reg.addr ≠ r.addr := Nat.ne_of_gt (Nat.lt_trans h (by decide))
  have hd : Reg.DBG_EVT_DROP.addr ≠ r.addr := Nat.ne_of_gt (Nat.lt_trans h (by decide))
  unfold State.putEvent
  extract_lets
  split
  · exact State.rd_fs_ne _ _ hs
  · exact (State.rd_wr_ne _ _ hd).trans (State.rd_fs_ne _ _ hs)

theorem rd_limited_low (s : State) (code unit n first : Nat) (mk : Nat → Nat → List Byte) {r : Reg}
    (h : r.addr < 0x1200000) : (s.limited code unit n first mk).rd r = s.rd r := by
  unfold State.limited
  extract_lets
  split
  · exact rd_putEvent_low _ _ _ _ _ h
  · rfl

theorem rd_fcAdd_low (s : State) (m n : Nat) {r : Reg} (h : r.addr < 0x1200000) : (s.fcAdd m n).rd r = s.rd r := by
  have hw : (Reg.PMU_FC_WRAP (m / 32)).addr ≠ r.addr :=
    Nat.ne_of_gt (Nat.lt_of_lt_of_le h (Nat.le_trans (by decide) (Nat.le_add_right _ _)))
  unfold State.fcAdd
  extract_lets
  split
  · rfl
  · exact (rd_limited_low _ _ _ _ _ _ h).trans (State.rd_wr_ne _ _ hw)

theorem rd_fcCount_low (s : State) (e : PmuEvent) (n : Nat) {r : Reg} (h : r.addr < 0x1200000) :
    (s.fcCount e n).rd r = s.rd r := by
  unfold State.fcCount
  split
  · refine List.foldlRecOn (motive := fun t : State => t.rd r = s.rd r) _ _ rfl fun t ht m _ => ?_
    split
    · exact (rd_fcAdd_low t m n h).trans ht
    · exact ht
  · rfl

section
variable (s : State) (code : Nat) (d : List Byte) (cs : List (List Byte))

theorem rd_log_low {r : Reg} (h : r.addr < 0x1200000) : (s.log code d cs).rd r = s.rd r :=
  (rd_fcCount_low _ _ _ h).trans (rd_putEvent_low _ _ _ _ _ h)

theorem fg_log_low {f : Fld} (h : f.reg.addr < 0x1200000) : (s.log code d cs).fg f = s.fg f := by
  rw [State.fg, rd_log_low _ _ _ _ h, State.fg]

theorem fb_log_low {f : Fld} (h : f.reg.addr < 0x1200000) : (s.log code d cs).fb f = s.fb f := by
  rw [State.fb, fg_log_low _ _ _ _ h, State.fb]

@[simp] theorem log_rul : (s.log code d cs).rul = s.rul := by
  rw [show s.log code d cs = _ from log_counts s code d cs]

@[simp] theorem log_epochBank : (s.log code d cs).epochBank = s.epochBank := by
  rw [show s.log code d cs = _ from log_counts s code d cs]

@[simp] theorem log_epochRefs : (s.log code d cs).epochRefs = s.epochRefs := by
  rw [show s.log code d cs = _ from log_counts s code d cs]

end

/-! ## The data words, the banks and the hit counters (R119, R120, R131) -/

theorem rulData_addr (w : Nat) : (Reg.RUL_ACC_DATA w).addr = 0x63F100 + 4 * w := by
  show 0x63F100 + ((w - 0) * 4 + 0) = _
  omega

@[simp] theorem rulData_setRulData_self (s : State) (w v : Nat) : (s.setRulData w v).rulData w = v % 2 ^ 32 := by
  rw [State.rulData, State.setRulData, State.rd_wr_self, BitVec.toNat_ofNat]

theorem rulData_setRulData_ne (s : State) {w x : Nat} (v : Nat) (h : w ≠ x) : (s.setRulData w v).rulData x = s.rulData x := by
  rw [State.rulData, State.setRulData, State.rd_wr_ne _ _ (by rw [rulData_addr, rulData_addr]; omega), State.rulData]

/-- The data words lie apart from the other registers of the rule engine. -/
theorem rulData_wr_low (s : State) {r : Reg} (v : Word) (h : r.addr < 0x63F100) (w : Nat) : (s.wr r v).rulData w = s.rulData w := by
  rw [State.rulData, State.rd_wr_ne _ _ (by rw [rulData_addr]; omega), State.rulData]

@[simp] theorem rulData_store (s : State) (v w : Nat) : (s.store Spec.RUL_ACC_CMD [] v).rulData w = s.rulData w :=
  rulData_wr_low s _ (by decide) w

@[simp] theorem rulWide_store (s : State) (v w : Nat) : (s.store Spec.RUL_ACC_CMD [] v).rulWide w = s.rulWide w := by
  simp only [State.rulWide, rulData_store]

@[simp] theorem ruleShadow_store (s : State) (v : Nat) : (s.store Spec.RUL_ACC_CMD [] v).ruleShadow = s.ruleShadow := by
  rw [State.ruleShadow, store_epochBank, State.ruleShadow]

@[simp] theorem ruleBank_store (s : State) (v b : Nat) : (s.store Spec.RUL_ACC_CMD [] v).ruleBank b = s.ruleBank b := by
  rw [State.ruleBank, store_rul, State.ruleBank]

@[simp] theorem hitCount_store (s : State) (v slice i : Nat) :
    (s.store Spec.RUL_ACC_CMD [] v).hitCount slice i = s.hitCount slice i := by
  rw [State.hitCount, store_rul, State.hitCount]

@[simp] theorem rulData_done (s : State) (w : Nat) : (s.done Fld.RUL_ACC_STAT_DONE).rulData w = s.rulData w :=
  rulData_wr_low s _ (by decide) w

theorem ruleDone_shows (s : State) : (s.done Fld.RUL_ACC_STAT_DONE).fb Fld.RUL_ACC_STAT_DONE = true :=
  fb_fs_one s (by decide) rfl

@[simp] theorem ruleBank_setRuleBank_self (s : State) (b : Nat) (x : RuleBank) : (s.setRuleBank b x).ruleBank b = x := by
  by_cases h : b = 0 <;> simp [State.setRuleBank, State.ruleBank, h]

theorem ruleBank_setRuleBank_other (s : State) {b : Nat} (hb : b ≤ 1) (x : RuleBank) :
    (s.setRuleBank b x).ruleBank (1 - b) = s.ruleBank (1 - b) := by
  rcases Nat.le_one_iff_eq_zero_or_eq_one.1 hb with rfl | rfl <;> rfl

theorem ruleShadow_le (s : State) : s.ruleShadow ≤ 1 := Nat.sub_le 1 _

@[simp] theorem hitCount_setHit_self (s : State) (slice i n : Nat) : (s.setHit slice i n).hitCount slice i = n :=
  Table.get_put_self _ _ _ _

/-! ## A write of RUL_ACC_CMD (R131) -/

theorem ofBool_le (b : Bool) : ofBool b ≤ 1 := by cases b <;> decide

section
variable {op : Nat} (ho : op < 4) (tgt slice : BitVec 2) (shadow : Bool) (i : BitVec 14)
include ho

/-- The word of a command with GO holds each operand in its own bits. -/
theorem rulWord_toNat : (rulWord op tgt slice shadow i).toNat =
    2 ^ 31 + op * 2 ^ 28 + tgt.toNat * 2 ^ 26 + slice.toNat * 2 ^ 24 + 2 ^ 23 * ofBool shadow + i.toNat := by
  have hb := ofBool_le shadow
  rw [rulWord, BitVec.toNat_ofNat, Nat.mod_eq_of_lt (by omega)]

theorem rulWord_go : bitAt (rulWord op tgt slice shadow i).toNat 31 = true := by
  have hb := ofBool_le shadow
  rw [rulWord_toNat ho, bitAt, decide_eq_true_eq]
  omega

theorem rulWord_op : bitsOf (rulWord op tgt slice shadow i).toNat 30 28 = op := by
  have hb := ofBool_le shadow
  rw [rulWord_toNat ho, bitsOf]
  omega

theorem rulWord_target : bitsOf (rulWord op tgt slice shadow i).toNat 27 26 = tgt.toNat := by
  have hb := ofBool_le shadow
  rw [rulWord_toNat ho, bitsOf]
  omega

theorem rulWord_slice : bitsOf (rulWord op tgt slice shadow i).toNat 25 24 = slice.toNat := by
  have hb := ofBool_le shadow
  rw [rulWord_toNat ho, bitsOf]
  omega

theorem rulWord_bank : bitAt (rulWord op tgt slice shadow i).toNat 23 = shadow := by
  rw [rulWord_toNat ho, bitAt]
  cases shadow
  · exact decide_eq_false (by show ¬(_ + 2 ^ 23 * 0 + _) / _ % 2 = 1; omega)
  · exact decide_eq_true (by show (_ + 2 ^ 23 * 1 + _) / _ % 2 = 1; omega)

theorem rulWord_index : bitsOf (rulWord op tgt slice shadow i).toNat 13 0 = i.toNat := by
  rw [rulWord_toNat ho, bitsOf]
  omega

end

/-- What a rule command does once it is taken, by its OP (R131). -/
def ruleRun (t : State) (op target slice : Nat) (shadow : Bool) (index : Nat) : State :=
  match op with
  | 0 => t.rulRead target shadow index
  | 1 => t.rulWrite target index
  | 2 => t.rulCopy
  | _ => t.rulHit target slice index

/-- A command with GO and a target that is defined is turned down with its reason, or is taken. -/
theorem rulCommand_rulWord (s : State) {op : Nat} {tgt : BitVec 2} (ht : tgt ≠ 3) (ho : op < 3 ∨ op = 3 ∧ tgt ≠ 1)
    (slice : BitVec 2) (shadow : Bool) (i : BitVec 14) :
    s.rulCommand (rulWord op tgt slice shadow i) =
      if s.rulReason op tgt.toNat slice.toNat i.toNat ≠ 0 then s.rulReject (s.rulReason op tgt.toNat slice.toNat i.toNat)
      else ruleRun (s.store Spec.RUL_ACC_CMD [] (rulWord op tgt slice shadow i).toNat) op tgt.toNat slice.toNat shadow
        i.toNat := by
  have h4 : op < 4 := by omega
  have ht' : tgt.toNat ≠ 3 := fun h => ht (BitVec.eq_of_toNat_eq h)
  have h1 : ¬(op = 3 ∧ tgt.toNat = 1) := fun ⟨h3, h⟩ =>
    ho.elim (fun hlt => Nat.ne_of_lt hlt h3) (fun hne => hne.2 (BitVec.eq_of_toNat_eq h))
  simp only [State.rulCommand, rulWord_go h4, rulWord_op h4, rulWord_target h4, rulWord_slice h4, rulWord_bank h4,
    rulWord_index h4]
  rw [if_neg (by simp [ht', h1, h4]), if_neg (by simp)]
  refine ite_congr rfl (fun _ => rfl) fun _ => ?_
  match op, h4 with
  | 0, _ => rfl
  | 1, _ => rfl
  | 2, _ => rfl
  | 3, _ => rfl

theorem rulReason_busy {s : State} (h : s.fb Fld.RUL_ACC_STAT_BUSY = true) (op target slice index : Nat) :
    s.rulReason op target slice index = 4 := if_pos h

section
variable {s : State} (hb : s.fb Fld.RUL_ACC_STAT_BUSY = false)
include hb

theorem rulReason_read_taken {target slice : Nat} (ht : target ≠ 1) (hs : (s.slice slice).inService = true) (index : Nat) :
    s.rulReason 0 target slice index = 0 := by
  simp [State.rulReason, hb, ht, hs]

theorem rulReason_write_old (ho : s.oldLive 0 = true) (target slice index : Nat) : s.rulReason 1 target slice index = 1 := by
  simp [State.rulReason, hb, ho]

theorem rulReason_write_taken (ho : s.oldLive 0 = false) {target : Nat} (ht : target ≠ 1) (slice index : Nat) :
    s.rulReason 1 target slice index = 0 := by
  simp [State.rulReason, hb, ho, ht]

theorem rulReason_copy (target slice index : Nat) : s.rulReason 2 target slice index = if s.oldLive 0 then 1 else 0 := by
  simp [State.rulReason, hb]

theorem rulReason_hit (target slice index : Nat) :
    s.rulReason 3 target slice index = if (s.slice slice).inService then 0 else 3 := by
  cases h : (s.slice slice).inService <;> simp [State.rulReason, hb, h]

end

section
variable {s : State} (op : Nat) {tgt : BitVec 2} (ht : tgt ≠ 3) (ho : op < 3 ∨ op = 3 ∧ tgt ≠ 1) {slice : BitVec 2}
  {shadow : Bool} {i : BitVec 14}
include ht ho

theorem rulCommand_rejected {n : Nat} (hr : s.rulReason op tgt.toNat slice.toNat i.toNat = n) (hn : n ≠ 0) :
    s.begin.rulCommand (rulWord op tgt slice shadow i) = s.begin.rulReject n := by
  rw [rulCommand_rulWord _ ht ho, State.begin_rulReason, hr, if_pos hn]

theorem rulCommand_taken (hr : s.rulReason op tgt.toNat slice.toNat i.toNat = 0) :
    s.begin.rulCommand (rulWord op tgt slice shadow i) =
      ruleRun (s.begin.store Spec.RUL_ACC_CMD [] (rulWord op tgt slice shadow i).toNat) op tgt.toNat slice.toNat shadow
        i.toNat := by
  rw [rulCommand_rulWord _ ht ho, State.begin_rulReason, hr, if_neg (not_not_intro rfl)]

end

/-! ## Writes, reads and hit counters (R119, R120, R131) -/

/-- A write of an entry sets it in the shadow from the data words. -/
theorem rulWrite_entry (t : State) (i : Nat) : ((t.rulWrite 0 i).ruleBank t.ruleShadow).rules.get i {} =
    { value := t.rulWide 0, mask := t.rulWide 16, action := t.rulData 33 * 2 ^ 32 + t.rulData 34,
      refs := [bitsOf (t.rulData 32) 31 24, bitsOf (t.rulData 32) 23 16, bitsOf (t.rulData 32) 15 8, t.rulData 32 % 256] } := by
  show (((t.setRuleBank t.ruleShadow _).ruleBank t.ruleShadow).rules).get i {} = _
  rw [ruleBank_setRuleBank_self]
  exact Table.get_put_self _ _ _ _

theorem rulWrite_default (t : State) (i : Nat) : ((t.rulWrite 2 i).ruleBank t.ruleShadow).dflt =
    t.rulData 33 * 2 ^ 32 + t.rulData 34 := by
  show ((t.setRuleBank t.ruleShadow _).ruleBank t.ruleShadow).dflt = _
  rw [ruleBank_setRuleBank_self]
  rfl

theorem rulWrite_active (t : State) (target i : Nat) :
    (t.rulWrite target i).ruleBank (1 - t.ruleShadow) = t.ruleBank (1 - t.ruleShadow) :=
  ruleBank_setRuleBank_other t (ruleShadow_le t) _

/-- A read of the default action puts it into the last two data words. -/
theorem rulRead_default (t : State) (shadow : Bool) (i : Nat) :
    (t.rulRead 2 shadow i).rulData 33 =
        (t.ruleBank (if shadow then t.ruleShadow else 1 - t.ruleShadow)).dflt / 2 ^ 32 % 2 ^ 32
      ∧ (t.rulRead 2 shadow i).rulData 34 =
        (t.ruleBank (if shadow then t.ruleShadow else 1 - t.ruleShadow)).dflt % 2 ^ 32 := by
  simp only [State.rulRead, Nat.reduceEqDiff, if_false, rulData_done]
  rw [rulData_setRulData_ne _ _ (by decide : 34 ≠ 33), rulData_setRulData_self, rulData_setRulData_self, Nat.mod_mod]
  exact ⟨rfl, rfl⟩

theorem rulHit_entry (t : State) (slice i : Nat) :
    (t.rulHit 0 slice i).hitCount slice i = 0 ∧ (t.rulHit 0 slice i).rulData 0 = t.hitCount slice i % 2 ^ 32 :=
  ⟨hitCount_setHit_self _ slice i 0, (rulData_done _ 0).trans (rulData_setRulData_self t 0 _)⟩

theorem rulCopy_busy (t : State) : t.rulCopy.fb Fld.RUL_ACC_STAT_BUSY = true := fb_fs_one _ (by decide) rfl

theorem rulCopy_copying (t : State) : t.rulCopy.rul.copying = some t.aon := by rw [State.rulCopy, State.fs_rul]

/-- The state of a copy that has ended: the shadow holds the active bank, and the unit is no longer busy (R131). -/
def ruleCopied (s : State) : State :=
  let t := s.setRuleBank s.ruleShadow (s.ruleBank (1 - s.ruleShadow))
  ({ t with rul := { t.rul with copying := none } }.fs Fld.RUL_ACC_STAT_BUSY 0).done Fld.RUL_ACC_STAT_DONE

theorem exec_ruleCopyComplete_copying {s : State} {since : Nat} (h : s.rul.copying = some since) :
    exec .ruleCopyComplete s =
      .next (if since * 50 + 16512 ≤ s.coreNow then ruleCopied s.begin else s.begin) := by
  simp only [exec_ruleCopyComplete, execRuleCopyComplete, State.begin_rul, State.begin_coreNow, h]
  exact (apply_ite Host.Outcome.next _ _ _).symm

theorem ruleCopied_shadow (s : State) : (ruleCopied s).ruleBank s.ruleShadow = s.ruleBank (1 - s.ruleShadow) :=
  ruleBank_setRuleBank_self s s.ruleShadow _

theorem ruleCopied_busy (s : State) : (ruleCopied s).fb Fld.RUL_ACC_STAT_BUSY = false := by
  rw [State.fb, ruleCopied, State.done, fg_fs_beside _ Fld.RUL_ACC_STAT_DONE Fld.RUL_ACC_STAT_BUSY 1 (by decide)]
  exact fb_fs_zero _ (by decide) rfl

theorem ruleCopied_copying (s : State) : (ruleCopied s).rul.copying = none := by
  rw [ruleCopied, State.done, State.fs_rul, State.fs_rul]

/-! ## Each way a rule command can be met (R120, R122, R131) -/

section
variable {s : State} {tgt slice : BitVec 2} {i : BitVec 14}

section
variable (hb : s.fb Fld.RUL_ACC_STAT_BUSY = true)
include hb

theorem exec_ruleRead_busy (ht : tgt ≠ 3) (shadow : Bool) :
    exec (.ruleRead tgt slice shadow i) s = .next (s.begin.rulReject 4) := by
  rw [exec_ruleRead, execRuleRead, rulCommand_rejected 0 ht (.inl (by decide)) (rulReason_busy hb _ _ _ _) (by decide)]

theorem exec_writeShadow_busy (ht : tgt ≠ 3) : exec (.writeShadow tgt i) s = .next (s.begin.rulReject 4) := by
  rw [exec_writeShadow, execWriteShadow, rulCommand_rejected 1 ht (.inl (by decide)) (rulReason_busy hb _ _ _ _) (by decide)]

theorem exec_copyActiveToShadow_busy : exec .copyActiveToShadow s = .next (s.begin.rulReject 4) := by
  rw [exec_copyActiveToShadow, execCopyActiveToShadow,
    rulCommand_rejected 2 (by decide) (by decide) (rulReason_busy hb _ _ _ _) (by decide)]

theorem exec_readAndClearHitCounter_busy (ht : tgt ≠ 3) (h1 : tgt ≠ 1) :
    exec (.readAndClearHitCounter tgt slice i) s = .next (s.begin.rulReject 4) := by
  rw [exec_readAndClearHitCounter, execReadAndClearHitCounter,
    rulCommand_rejected 3 ht (.inr ⟨rfl, h1⟩) (rulReason_busy hb _ _ _ _) (by decide)]

end

variable (hb : s.fb Fld.RUL_ACC_STAT_BUSY = false)
include hb

theorem exec_writeShadow_old (ho : s.oldLive 0 = true) (ht : tgt ≠ 3) :
    exec (.writeShadow tgt i) s = .next (s.begin.rulReject 1) := by
  rw [exec_writeShadow, execWriteShadow,
    rulCommand_rejected 1 ht (.inl (by decide)) (rulReason_write_old hb ho _ _ _) (by decide)]

theorem exec_copyActiveToShadow_old (ho : s.oldLive 0 = true) :
    exec .copyActiveToShadow s = .next (s.begin.rulReject 1) := by
  rw [exec_copyActiveToShadow, execCopyActiveToShadow,
    rulCommand_rejected 2 (by decide) (by decide) ((rulReason_copy hb _ _ _).trans (if_pos ho)) (by decide)]

theorem exec_writeShadow_taken (ho : s.oldLive 0 = false) (ht : tgt ≠ 3) (h1 : tgt ≠ 1) : ∃ v,
    exec (.writeShadow tgt i) s = .next ((s.begin.store Spec.RUL_ACC_CMD [] v).rulWrite tgt.toNat i.toNat) := by
  have hr := rulReason_write_taken hb ho (fun h => h1 (BitVec.eq_of_toNat_eq h)) (0 : BitVec 2).toNat i.toNat
  rw [exec_writeShadow, execWriteShadow, rulCommand_taken 1 ht (.inl (by decide)) hr]
  exact ⟨_, rfl⟩

theorem exec_copyActiveToShadow_taken (ho : s.oldLive 0 = false) : ∃ v,
    exec .copyActiveToShadow s = .next (s.begin.store Spec.RUL_ACC_CMD [] v).rulCopy := by
  rw [exec_copyActiveToShadow, execCopyActiveToShadow, rulCommand_taken 2 (by decide) (by decide)
    ((rulReason_copy hb _ _ _).trans (if_neg (ne_true_of_eq_false ho)))]
  exact ⟨_, rfl⟩

theorem exec_ruleRead_taken (hs : (s.slice slice.toNat).inService = true) (ht : tgt ≠ 3) (h1 : tgt ≠ 1) (shadow : Bool) :
    ∃ v, exec (.ruleRead tgt slice shadow i) s =
      .next ((s.begin.store Spec.RUL_ACC_CMD [] v).rulRead tgt.toNat shadow i.toNat) := by
  have hr := rulReason_read_taken hb (fun h => h1 (BitVec.eq_of_toNat_eq h)) hs i.toNat
  rw [exec_ruleRead, execRuleRead, rulCommand_taken 0 ht (.inl (by decide)) hr]
  exact ⟨_, rfl⟩

theorem exec_readAndClearHitCounter_away (hs : (s.slice slice.toNat).inService = false) (ht : tgt ≠ 3) (h1 : tgt ≠ 1) :
    exec (.readAndClearHitCounter tgt slice i) s = .next (s.begin.rulReject 3) := by
  rw [exec_readAndClearHitCounter, execReadAndClearHitCounter, rulCommand_rejected 3 ht (.inr ⟨rfl, h1⟩)
    ((rulReason_hit hb _ _ _).trans (if_neg (ne_true_of_eq_false hs))) (by decide)]

theorem exec_readAndClearHitCounter_taken (hs : (s.slice slice.toNat).inService = true) (ht : tgt ≠ 3) (h1 : tgt ≠ 1) :
    ∃ v, exec (.readAndClearHitCounter tgt slice i) s =
      .next ((s.begin.store Spec.RUL_ACC_CMD [] v).rulHit tgt.toNat slice.toNat i.toNat) := by
  rw [exec_readAndClearHitCounter, execReadAndClearHitCounter, rulCommand_taken 3 ht (.inr ⟨rfl, h1⟩)
    ((rulReason_hit hb _ _ _).trans (if_pos hs))]
  exact ⟨_, rfl⟩

end

/-! ## The swap (R121, R122) -/

/-- A swap under way: the old epoch noted, CUR_EPOCH advanced, the banks exchanged, the counts of bound packets passed on. -/
def swapBegun (s : State) : State :=
  let t := (s.fs Fld.RUL_EPOCH_CTL_OLD_EPOCH (s.curEpoch 0)).fs Fld.RUL_EPOCH_CTL_CUR_EPOCH ((s.curEpoch 0 + 1) % 16)
  let t := { t with epochBank := t.epochBank.put 0 0 (1 - t.epochBank.get 0 0) }
  ((t.setEpochRef 0 1 (s.epochRef 0 0)).setEpochRef 0 0 0).log 0x0601

/-- The end of a swap: an old epoch without packets is released at once, another one is live. -/
def swapEnded (t : State) (refs : Nat) : State := if refs = 0 then t.log 0x0603 else t.setOldLive 0 true

theorem exec_swap_taken {s : State} (h : (s.oldLive 0 || s.fb Fld.RUL_ACC_STAT_BUSY) = false) :
    exec .swap s = .next (swapEnded (swapBegun s.begin) (s.epochRef 0 0)) :=
  congrArg _ (if_neg (ne_true_of_eq_false h))

theorem exec_swap_refused {s : State} (h : (s.oldLive 0 || s.fb Fld.RUL_ACC_STAT_BUSY) = true) :
    exec .swap s = .next ((s.begin.fs Fld.RUL_EPOCH_CTL_SWAP_REFUSED 1).log 0x0602) :=
  congrArg _ (if_pos h)

theorem epochCtl_low : Reg.RUL_EPOCH_CTL.addr < 0x1200000 := by decide

section
variable (s : State)

/-- What a swap does to RUL_EPOCH_CTL: it sets the two epochs, and its event leaves the register alone. -/
theorem swapBegun_fg {f : Fld} (hf : f.reg = Reg.RUL_EPOCH_CTL) : (swapBegun s).fg f =
    ((s.fs Fld.RUL_EPOCH_CTL_OLD_EPOCH (s.curEpoch 0)).fs Fld.RUL_EPOCH_CTL_CUR_EPOCH ((s.curEpoch 0 + 1) % 16)).fg f :=
  fg_log_low _ _ _ _ (hf ▸ epochCtl_low)

theorem swapBegun_curEpoch : (swapBegun s).curEpoch 0 = (s.curEpoch 0 + 1) % 16 := by
  show (swapBegun s).fg Fld.RUL_EPOCH_CTL_CUR_EPOCH = _
  rw [swapBegun_fg s rfl, State.fg_fs_self _ _ _ (by decide)]
  exact Nat.mod_mod _ 16

theorem swapBegun_oldEpoch : (swapBegun s).fg Fld.RUL_EPOCH_CTL_OLD_EPOCH = s.curEpoch 0 := by
  rw [swapBegun_fg s rfl, fg_fs_beside _ Fld.RUL_EPOCH_CTL_CUR_EPOCH _ _ (by decide), State.fg_fs_self _ _ _ (by decide)]
  exact bitsOf_mod_width _ 3 0

theorem swapBegun_oldLive : (swapBegun s).oldLive 0 = s.oldLive 0 := by
  show decide ((swapBegun s).fg Fld.RUL_EPOCH_CTL_OLD_LIVE ≠ 0) = decide (s.fg Fld.RUL_EPOCH_CTL_OLD_LIVE ≠ 0)
  rw [swapBegun_fg s rfl, fg_fs_beside _ Fld.RUL_EPOCH_CTL_CUR_EPOCH Fld.RUL_EPOCH_CTL_OLD_LIVE _ (by decide),
    fg_fs_beside _ Fld.RUL_EPOCH_CTL_OLD_EPOCH Fld.RUL_EPOCH_CTL_OLD_LIVE _ (by decide)]

theorem swapBegun_epochBank : (swapBegun s).epochBank.get 0 0 = 1 - s.epochBank.get 0 0 := by
  rw [swapBegun, log_epochBank]
  exact Table.get_put_self _ _ _ _

theorem swapBegun_epochRef : (swapBegun s).epochRef 0 0 = 0 ∧ (swapBegun s).epochRef 0 1 = s.epochRef 0 0 := by
  simp [swapBegun, State.epochRef, State.setEpochRef, Table.get_put]

theorem swapBegun_rul : (swapBegun s).rul = s.rul := log_rul _ _ _ _

end

section
variable (t : State) (refs : Nat)

theorem swapEnded_rul : (swapEnded t refs).rul = t.rul := by
  unfold swapEnded
  split
  · exact log_rul _ _ _ _
  · rfl

theorem swapEnded_epochBank : (swapEnded t refs).epochBank = t.epochBank := by
  unfold swapEnded
  split
  · exact log_epochBank _ _ _ _
  · rfl

theorem swapEnded_epochRef (k : Nat) : (swapEnded t refs).epochRef 0 k = t.epochRef 0 k := by
  unfold swapEnded State.epochRef
  split
  · rw [log_epochRefs]
  · rfl

/-- The end of a swap leaves the two epochs, below OLD_LIVE in RUL_EPOCH_CTL, alone. -/
theorem swapEnded_fg {f : Fld} (hr : f.reg = Reg.RUL_EPOCH_CTL) (hf : f.hi < 8) : (swapEnded t refs).fg f = t.fg f := by
  unfold swapEnded
  split
  · exact fg_log_low _ _ _ _ (hr ▸ epochCtl_low)
  · exact fg_fs_apart t 1 hr (Nat.lt_trans hf (by decide)) (by decide) (.inr hf)

theorem swapEnded_oldLive (h : t.oldLive 0 = false) : (swapEnded t refs).oldLive 0 = true ↔ refs ≠ 0 := by
  unfold swapEnded
  split
  next h0 =>
    have hlog : (t.log 0x0603).oldLive 0 = t.oldLive 0 := fb_log_low _ _ _ _ epochCtl_low
    simp [hlog, h, h0]
  next h0 =>
    have hset : (t.setOldLive 0 true).oldLive 0 = true := fb_fs_one t (by decide) rfl
    simp [hset, h0]

end

/-- Settles O36: the word of each command decodes to its operands, its reason decides whether it is taken, and one lemma says
what each command does then; a swap that is taken is followed to its end. -/
theorem ruleAccessAndSwap : Obligations.RuleAccessAndSwap := by
  refine ⟨fun s tgt slice shadow i ht => ⟨fun hb => ⟨exec_ruleRead_busy hb ht shadow, exec_writeShadow_busy hb ht,
        exec_readAndClearHitCounter_busy hb ht⟩,
      fun hb ho => exec_writeShadow_old hb ho ht, fun hb ho h0 => ?_, fun hb ho h2 => ?_, fun hb hs h2 => ?_,
      fun hb hs h1 => exec_readAndClearHitCounter_away hb hs ht h1, fun hb hs h0 => ?_, fun hb ho => ?_, fun since hc => ?_⟩,
    fun s _ => ⟨fun h => ⟨_, exec_swap_taken h, ?_, ?_, ?_, ?_, ?_, ?_, ?_⟩, exec_swap_refused⟩⟩
  · subst h0
    obtain ⟨v, hv⟩ := exec_writeShadow_taken (i := i) hb ho (by decide : (0 : BitVec 2) ≠ 3) (by decide)
    have he := rulWrite_entry (s.begin.store Spec.RUL_ACC_CMD [] v) i.toNat
    have ha := rulWrite_active (s.begin.store Spec.RUL_ACC_CMD [] v) 0 i.toNat
    simp only [ruleShadow_store, ruleBank_store, rulWide_store, rulData_store, State.begin_ruleShadow, State.begin_ruleBank,
      State.begin_rulWide, State.begin_rulData] at he ha
    refine ⟨_, hv, ?_, ?_, ?_, ha, ruleDone_shows _⟩ <;> exact he ▸ rfl
  · subst h2
    obtain ⟨v, hv⟩ := exec_writeShadow_taken (i := i) hb ho (by decide : (2 : BitVec 2) ≠ 3) (by decide)
    have hd := rulWrite_default (s.begin.store Spec.RUL_ACC_CMD [] v) i.toNat
    simp only [ruleShadow_store, rulData_store, State.begin_ruleShadow, State.begin_rulData] at hd
    exact ⟨_, hv, hd⟩
  · subst h2
    obtain ⟨v, hv⟩ := exec_ruleRead_taken (i := i) hb hs (by decide : (2 : BitVec 2) ≠ 3) (by decide) shadow
    have hd := rulRead_default (s.begin.store Spec.RUL_ACC_CMD [] v) shadow i.toNat
    simp only [ruleShadow_store, ruleBank_store, State.begin_ruleShadow, State.begin_ruleBank] at hd
    exact ⟨_, hv, ruleDone_shows _, hd⟩
  · subst h0
    obtain ⟨v, hv⟩ := exec_readAndClearHitCounter_taken (i := i) hb hs (by decide : (0 : BitVec 2) ≠ 3) (by decide)
    have hd := rulHit_entry (s.begin.store Spec.RUL_ACC_CMD [] v) slice.toNat i.toNat
    rw [hitCount_store, State.begin_hitCount] at hd
    exact ⟨_, hv, hd⟩
  · obtain ⟨v, hv⟩ := exec_copyActiveToShadow_taken hb ho
    exact ⟨_, hv, rulCopy_busy _, by rw [rulCopy_copying, store_aon, State.begin_aon]⟩
  · rw [exec_ruleCopyComplete_copying hc]
    exact ⟨fun hearly => by rw [if_neg (Nat.not_le.2 hearly)],
      fun hdue => ⟨ruleCopied s.begin, by rw [if_pos hdue], ruleCopied_shadow _, ruleCopied_busy _,
        ruleDone_shows _, ruleCopied_copying _⟩⟩
  · exact (swapEnded_fg _ _ rfl (by decide)).trans (swapBegun_curEpoch s.begin)
  · exact (swapEnded_fg _ _ rfl (by decide)).trans (swapBegun_oldEpoch s.begin)
  · rw [swapEnded_epochBank, swapBegun_epochBank, State.begin_epochBank]
  · rw [swapEnded_epochRef, (swapBegun_epochRef _).1]
  · rw [swapEnded_epochRef, (swapBegun_epochRef _).2, State.begin_epochRef]
  · exact swapEnded_oldLive _ _ ((swapBegun_oldLive s.begin).trans (Bool.or_eq_false_iff.1 h).1)
  · rw [swapEnded_rul, swapBegun_rul, State.begin_rul]

/-! ## What is refused or rejected changes (R18, R122) -/

section
variable (s : State) (n : Nat)

theorem rulReject_shows : (s.rulReject n).fb Fld.RUL_ACC_STAT_REJECTED = true := by
  show ((s.fs Fld.RUL_ACC_STAT_REJECTED 1).fs Fld.RUL_ACC_STAT_REASON n).fb Fld.RUL_ACC_STAT_REJECTED = true
  rw [State.fb, fg_fs_beside _ Fld.RUL_ACC_STAT_REASON Fld.RUL_ACC_STAT_REJECTED _ (by decide)]
  exact fb_fs_one s (by decide) rfl

theorem rulReject_reason : (s.rulReject n).fg Fld.RUL_ACC_STAT_REASON = n % 16 :=
  State.fg_fs_self (s.fs Fld.RUL_ACC_STAT_REJECTED 1) _ n (by decide)

theorem rulReject_curEpoch : (s.rulReject n).curEpoch 0 = s.curEpoch 0 :=
  (State.fg_fs_ne (s.fs Fld.RUL_ACC_STAT_REJECTED 1) n (by decide)).trans (State.fg_fs_ne s 1 (by decide))

end

/-- A write or a copy to the shadow while the old epoch is live is rejected, with REASON 1 unless the unit is busy. -/
theorem exec_shadowCommand_old {s : State} {tgt : BitVec 2} {i : BitVec 14} (ho : s.oldLive 0 = true) (ht : tgt ≠ 3)
    {e : Instr} (he : e ∈ ([.writeShadow tgt i, .copyActiveToShadow] : List Instr)) :
    exec e s = .next (s.begin.rulReject (if s.fb Fld.RUL_ACC_STAT_BUSY then 4 else 1)) := by
  simp only [List.mem_cons, List.not_mem_nil, or_false] at he
  cases hb : s.fb Fld.RUL_ACC_STAT_BUSY
  case true =>
    obtain rfl | rfl := he
    · exact exec_writeShadow_busy hb ht
    · exact exec_copyActiveToShadow_busy hb
  case false =>
    obtain rfl | rfl := he
    · exact exec_writeShadow_old hb ho ht
    · exact exec_copyActiveToShadow_old hb ho

/-- Settles O37: a refused swap logs and sets a bit that lies beside CUR_EPOCH, a rejected command sets fields of
RUL_ACC_STAT, and neither reaches the banks. -/
theorem swapIsRefused : Obligations.SwapIsRefused := by
  refine fun s tgt i => ⟨fun h =>
      ⟨exec_swap_refused h, _, exec_swap_refused h, log_rul _ _ _ _, log_epochBank _ _ _ _, ?_, ?_⟩,
    fun ho e he ht => ⟨_, exec_shadowCommand_old ho ht he, rfl, rfl, rulReject_curEpoch _ _, rulReject_shows _ _,
      fun hb => ?_⟩⟩
  · exact (fg_log_low _ _ _ _ epochCtl_low).trans (fg_fs_beside s.begin _ _ 1 (by decide))
  · rw [fb_log_low _ _ _ _ epochCtl_low]
    exact fb_fs_one _ (by decide) rfl
  · rw [rulReject_reason, hb]
    rfl

/-! ## Policers (R252, R253) -/

theorem polDone_shows (s : State) : (s.done Fld.FLE_POL_STAT_DONE).fb Fld.FLE_POL_STAT_DONE = true :=
  fb_fs_one s (by decide) rfl

/-- The data words of a policer's command lie apart from FLE_POL_CMD. -/
theorem fg_polStore (s : State) (v : Nat) {f : Fld} (h : Reg.FLE_POL_CMD.addr < f.reg.addr) :
    (s.store Spec.FLE_POL_CMD [] v).fg f = s.fg f :=
  State.fg_wr_ne s _ (Nat.ne_of_lt h)

theorem fb_polStore (s : State) (v : Nat) {f : Fld} (h : Reg.FLE_POL_CMD.addr < f.reg.addr) :
    (s.store Spec.FLE_POL_CMD [] v).fb f = s.fb f := by
  rw [State.fb, fg_polStore s v h, State.fb]

theorem rejectBit_xlb (s : State) (f : Fld) : (s.rejectBit f).xlb = s.xlb := by
  rw [State.rejectBit, State.emit_xlb, State.fs_xlb]

theorem rejectBit_shows (s : State) {f : Fld} (hw : f.hi < 32) (h1 : f.lo = f.hi) : (s.rejectBit f).fb f = true :=
  fb_fs_one s hw h1

theorem policer_of_xlb {s t : State} (h : t.xlb = s.xlb) (i : Nat) : t.policer i = s.policer i := by
  rw [State.policer, h, State.policer]

/-- The policer that the data words describe, both of its buckets full (R252). -/
def writtenPolicer (s : State) : Policer :=
  let cbs := s.fg Fld.FLE_POL_DATA_3_CBS
  let ebs := s.fg Fld.FLE_POL_DATA_4_EBS_PBS
  { valid := s.fb Fld.FLE_POL_DATA_0_VALID, mode := s.fb Fld.FLE_POL_DATA_0_MODE, aware := s.fb Fld.FLE_POL_DATA_0_AWARE
    cir := (s.rd Reg.FLE_POL_DATA_1).toNat, pir := (s.rd Reg.FLE_POL_DATA_2).toNat, cbs := cbs, ebs := ebs
    tc := cbs * 65536, te := ebs * 65536, last := s.coreNow }

/-- Whether a policer write is rejected: an empty bucket of a valid policer, or PIR below CIR in MODE 1 (R253). -/
def policerRejected (p : Policer) : Bool := p.valid && (p.cbs == 0 || p.ebs == 0) || p.mode && decide (p.pir < p.cir)

/-- The command register is none of the data words. -/
theorem writtenPolicer_store (s : State) (v : Nat) : writtenPolicer (s.store Spec.FLE_POL_CMD [] v) = writtenPolicer s := by
  simp (disch := decide) only [writtenPolicer, fb_polStore, fg_polStore, rd_store_ne, store_coreNow]

/-- A policer write goes by the policer that the data words describe (R252, R253). -/
theorem exec_policerWrite_decides (s : State) (i : BitVec 17) : ∃ v,
    exec (.policerWrite i) s = .next (if policerRejected (writtenPolicer s) then
        s.begin.rejectBit Fld.FLE_POL_STAT_REJECTED
      else ((s.begin.store Spec.FLE_POL_CMD [] v).setPolicer i.toNat (writtenPolicer s)).done Fld.FLE_POL_STAT_DONE) := by
  refine ⟨2 ^ 30 + i.toNat, ?_⟩
  have hw : writtenPolicer (s.begin.store Spec.FLE_POL_CMD [] (2 ^ 30 + i.toNat)) = writtenPolicer s :=
    writtenPolicer_store s.begin _
  rw [← hw]
  rfl

theorem exec_policerWrite_taken {s : State} (h : policerRejected (writtenPolicer s) = false) (i : BitVec 17) : ∃ v,
    exec (.policerWrite i) s =
      .next (((s.begin.store Spec.FLE_POL_CMD [] v).setPolicer i.toNat (writtenPolicer s)).done Fld.FLE_POL_STAT_DONE) := by
  simpa only [h, Bool.false_eq_true, if_false] using exec_policerWrite_decides s i

theorem exec_policerWrite_rejected {s : State} (h : policerRejected (writtenPolicer s) = true) (i : BitVec 17) :
    exec (.policerWrite i) s = .next (s.begin.rejectBit Fld.FLE_POL_STAT_REJECTED) := by
  obtain ⟨v, hv⟩ := exec_policerWrite_decides s i
  rw [hv, if_pos h]

/-- Full buckets and a PIR that is not below CIR are taken in either mode. -/
theorem writtenPolicer_accepted {s : State} (hc : s.fg Fld.FLE_POL_DATA_3_CBS ≠ 0) (he : s.fg Fld.FLE_POL_DATA_4_EBS_PBS ≠ 0)
    (hp : (s.rd Reg.FLE_POL_DATA_1).toNat ≤ (s.rd Reg.FLE_POL_DATA_2).toNat) :
    policerRejected (writtenPolicer s) = false := by
  simp [policerRejected, writtenPolicer, hc, he, Nat.not_lt.2 hp]

theorem writtenPolicer_emptyBucket {s : State} (hv : s.fb Fld.FLE_POL_DATA_0_VALID = true)
    (h : s.fg Fld.FLE_POL_DATA_3_CBS = 0 ∨ s.fg Fld.FLE_POL_DATA_4_EBS_PBS = 0) :
    policerRejected (writtenPolicer s) = true := by
  rcases h with h | h <;> simp [policerRejected, writtenPolicer, hv, h]

/-- A policer write that is taken sets its policer and no other. -/
theorem polWritten_policer (s : State) (v i j : Nat) :
    (((s.begin.store Spec.FLE_POL_CMD [] v).setPolicer i (writtenPolicer s)).done Fld.FLE_POL_STAT_DONE).policer j =
      if i = j then writtenPolicer s else s.policer j := by
  rw [State.done, policer_of_xlb (State.fs_xlb _ _ _), State.policer, State.setPolicer, Table.get_put, store_xlb,
    State.begin_xlb, State.policer]

/-- A read of a policer leaves its rates in the data words (R253). -/
theorem polRead_rates (s : State) (i : BitVec 17) :
    (s.polRead i).rd Reg.FLE_POL_DATA_1 = BitVec.ofNat 32 (s.policer i.toNat).cir
      ∧ (s.polRead i).rd Reg.FLE_POL_DATA_2 = BitVec.ofNat 32 (s.policer i.toNat).pir := by
  simp (disch := decide) only [State.polRead, State.done, State.rd_fs_ne, State.rd_wr_ne, State.rd_wr_self,
    policer_of_xlb (store_xlb s Spec.FLE_POL_CMD [] i.toNat), and_self]

theorem polRead_xlb (s : State) (i : BitVec 17) : (s.polRead i).xlb = s.xlb := by
  rw [State.polRead, State.done, State.fs_xlb, State.wr_xlb, State.wr_xlb, State.wr_xlb, State.wr_xlb, State.wr_xlb, store_xlb]

/-! ## The hash test (R112, R130) -/

/-- The bytes that a hash test takes, from PAR_HASH_DATA. -/
def hashTestBytes (s : State) (len : Nat) : List Byte :=
  ((List.range 10).flatMap fun w => beBytes 4 (s.rd (Reg.PAR_HASH_DATA w)).toNat).take len

theorem hashData_addr (w : Nat) : (Reg.PAR_HASH_DATA w).addr = 0x53F100 + 4 * w := by
  show 0x53F100 + ((w - 0) * 4 + 0) = _
  omega

/-- The command register is none of the words to be hashed. -/
theorem hashTestBytes_store (s : State) (v len : Nat) :
    hashTestBytes (s.store Spec.PAR_HASH_TEST [] v) len = hashTestBytes s len := by
  have hw : ∀ w, (s.store Spec.PAR_HASH_TEST [] v).rd (Reg.PAR_HASH_DATA w) = s.rd (Reg.PAR_HASH_DATA w) := fun w =>
    rd_store_ne s v (by
      rw [hashData_addr]
      exact Nat.ne_of_lt (Nat.lt_of_lt_of_le (by decide) (Nat.le_add_right _ _)))
  simp only [hashTestBytes, hw]

theorem exec_hashTest_length {s : State} {v : Word} (h : v.toNat % 64 < 1 ∨ 39 < v.toNat % 64) :
    exec (.hashTest .kernel v) s = .next (s.begin.denied Spec.PAR_HASH_TEST) :=
  congrArg Host.Outcome.next (if_pos h)

/-- A test with GO hashes its bytes with both seeds (R112). -/
theorem writeHashTest_hashes (s : State) {v : Word} (h1 : 1 ≤ v.toNat % 64) (h39 : v.toNat % 64 ≤ 39)
    (hg : bitAt v.toNat 31 = true) :
    s.writeHashTest v = ((s.store Spec.PAR_HASH_TEST [] v.toNat).wr Reg.PAR_HASH_TEST_LO
        (BitVec.ofNat 32 (crc32c (s.rd Reg.PAR_HASH_SEED_LO).toNat (hashTestBytes s (v.toNat % 64))))).wr Reg.PAR_HASH_TEST_HI
      (BitVec.ofNat 32 (crc32 (s.rd Reg.PAR_HASH_SEED_HI).toNat (hashTestBytes s (v.toNat % 64)))) := by
  have hseed : ∀ q : Reg, Reg.PAR_HASH_TEST.addr ≠ q.addr → (s.store Spec.PAR_HASH_TEST [] v.toNat).rd q = s.rd q :=
    fun q h => rd_store_ne s _ h
  rw [State.writeHashTest, if_neg (by omega), if_neg (by simp [hg]), ← hseed Reg.PAR_HASH_SEED_LO (by decide),
    ← hseed Reg.PAR_HASH_SEED_HI (by decide), ← hashTestBytes_store s v.toNat]
  rfl

theorem exec_hashTest_kernel (s : State) (v : Word) : exec (.hashTest .kernel v) s = .next (s.begin.writeHashTest v) := rfl

/-! ## POP (R632) -/

theorem exec_pop_stays {s : State} (h : s.events = [] ∨ s.fb Fld.KTL_PWR_STAT_WARN = true) : exec .pop s = .next s.begin := by
  simp only [exec_pop, execPop, State.popEvent, State.begin_events, State.begin_fb]
  cases he : s.events with
  | nil => rfl
  | cons r rest => exact congrArg Host.Outcome.next (if_pos (h.resolve_left (he ▸ List.cons_ne_nil r rest)))

/-- The oldest record leaves the buffer; with the flash log closed nothing else follows. -/
theorem exec_pop_takes {s : State} {r : EventRec} {rest : List EventRec} (he : s.events = r :: rest)
    (hw : s.fb Fld.KTL_PWR_STAT_WARN = false) (hn : s.nvm.opened = false) :
    exec .pop s = .next { s.begin with events := rest } := by
  simp [execPop, State.popEvent, he, hw, hn]

/-- Settles O46: one lemma for each way a policer's command, a hash test or POP can be met. -/
theorem policersHashTestAndPop : Obligations.PolicersHashTestAndPop := by
  refine fun s i v => ⟨fun hc he hp => ?_, fun hv h => ?_, ?_, exec_hashTest_length, fun h1 h39 hg => ?_, rfl,
    exec_pop_stays, fun r rest he hw hn => ⟨_, exec_pop_takes he hw hn, rfl, rfl⟩⟩
  · obtain ⟨w, hx⟩ := exec_policerWrite_taken (writtenPolicer_accepted hc he hp) i
    have hself := polWritten_policer s w i.toNat i.toNat
    rw [if_pos rfl] at hself
    refine ⟨_, hx, ?_, ?_, ?_, ?_, ?_, polDone_shows _, fun j hj =>
      (polWritten_policer s w i.toNat j).trans (if_neg (Ne.symm hj))⟩ <;> rw [hself, writtenPolicer]
  · exact ⟨_, exec_policerWrite_rejected (writtenPolicer_emptyBucket hv h) i, rejectBit_xlb _ _,
      rejectBit_shows _ (by decide) rfl⟩
  · exact ⟨_, exec_policerRead s i, polRead_xlb s.begin i, polDone_shows _, polRead_rates s.begin i⟩
  · rw [exec_hashTest_kernel, writeHashTest_hashes s.begin h1 h39 hg]
    refine ⟨_, rfl, ?_, State.rd_wr_self _ _ _⟩
    rw [State.rd_wr_ne _ _ (by decide), State.rd_wr_self]
    rfl

end Sys2Proof.ParsingAndRules

/-! # The flow table (spec chapter 4)

What reset leaves, the work of the flow engine, metering by a program, the flow clock with the zones and the cache banks, and
the ageing and repair of records. Each command has a lemma for each way it can be met; two statements claim more than the model
gives, and are refuted by a state each. -/

namespace Sys2Proof.FlowTable

open Sys2Proof Sys2Proof.Machine Sys2Proof.Laws Sys2Proof.FrontPorts Sys2Proof.PacketLife Sys2Proof.ParsingAndRules

/-! ## What reset leaves (R145, R369, R518, R630) -/

theorem reset_fg (f : Fld) : State.reset.fg f = bitsOf f.reg.reset.toNat f.hi f.lo := by
  rw [State.fg, reset_rd]

theorem reset_linkDown (p : Nat) : State.reset.fb (Fld.PRT_STATUS_LINK p) = false := by
  have hdown : State.reset.fg (Fld.PRT_STATUS_LINK p) = 0 :=
    (reset_fg _).trans (show bitsOf (0 : Word).toNat 0 0 = 0 from rfl)
  rw [State.fb, hdown]
  rfl

theorem reset_power {n : Nat} (h : n < 4) : State.reset.power n = 3 := by
  rw [State.power, reset_fg]
  decide +revert

theorem reset_core (c : Nat) : State.reset.core c = coreDefault c := rfl

/-- Settles O2: every table of the reset state is empty, so each lookup answers what an absent entry stands for. -/
theorem resetLeavesTheResetValues : Obligations.ResetLeavesTheResetValues :=
  ⟨rfl, reset_rd, rfl, rfl, rfl, reset_rd _, rfl, rfl, fun c hc => by rw [reset_core, coreDefault, if_neg (Nat.ne_of_gt hc)],
    fun c r => by rw [reset_core, coreDefault]; split <;> exact ite_self _, rfl, rfl, reset_linkDown, reset_power (by decide),
    reset_power (by decide), reset_power (by decide), reset_power (by decide), fun q => ⟨rfl, rfl⟩, fun z => rfl,
    (reset_fg _).trans rfl, fun a => rfl⟩

/-! ## The flow engine's requests (R148, R150, R151, R156, R158, R171, R173) -/

@[simp] theorem hasOp_begin (s : State) (id : Nat) : s.begin.hasOp id = s.hasOp id := rfl

/-- What a tracked packet's request for its record gives; none where its bank takes none (R150). -/
def requestOf (s : State) (pid : Nat) (errors : List BlockErr) : Option State :=
  let p := s.pkt pid
  ((s.begin.setPkt pid { p with flow := .waiting, asStandby := some (s.standby p.head.zone) }).asked pid).requestFlow
    p.head.flowKey p.head.hash p.slice .batch (some pid) none errors

section
variable {s : State} {pid op : Nat}

theorem exec_flowRequest_untracked (ha : s.nextAsk (s.pkt pid).slice = some pid)
    (hs : s.sliceStalled (s.pkt pid).slice = false) (hn : (s.pkt pid).needsFlow = false) (errors : List BlockErr) :
    exec (.flowRequest pid errors) s = .next (s.begin.noFlow pid).issueWaiting := by
  simp [execFlowRequest, ha, hs, hn]

theorem exec_flowRequest_tracked (ha : s.nextAsk (s.pkt pid).slice = some pid)
    (hs : s.sliceStalled (s.pkt pid).slice = false) (hn : (s.pkt pid).needsFlow = true) (errors : List BlockErr) :
    exec (.flowRequest pid errors) s = .next ((requestOf s pid errors).elim s.begin State.issueWaiting) := by
  simp only [exec_flowRequest, execFlowRequest, State.begin_pkt, State.begin_nextAsk, State.begin_sliceStalled,
    State.begin_standby, ha, hs, hn, requestOf]
  rw [if_neg (by simp), if_neg (by simp)]
  split <;> simp only [*, Option.elim_some, Option.elim_none]

/-- A packet that is not the next of its slice, or whose slice is stalled, makes no request (R48). -/
theorem exec_flowRequest_waits (h : s.nextAsk (s.pkt pid).slice ≠ some pid ∨ s.sliceStalled (s.pkt pid).slice = true)
    (errors : List BlockErr) : exec (.flowRequest pid errors) s = .next s.begin :=
  if_pos h

theorem exec_cacheMissService_reads (ho : s.hasOp op = true) (hm : (s.op op).state = .missing)
    (hw : s.waitsForTag op = false) (errors : List BlockErr) :
    exec (.cacheMissService op errors) s = .next (s.begin.serveMiss op errors) := by
  simp [execCacheMissService, ho, hm, hw]

/-- A marker whose 100 µs are over is deleted (R172). -/
theorem exec_repairTimeout_due {b k : Nat} (ho : s.hasOp op = true) (hr : (s.op op).state = .repairing)
    (hl : (s.op op).loc = some (b, k)) (ht : s.fle.repairs.get (b * 8 + k) s.aon + 100 * usCycles ≤ s.aon) :
    exec (.repairTimeout op) s = .next ((s.begin.deleteMarker op).settleOp op) := by
  simp [execRepairTimeout, ho, hr, hl, ht]

/-- A repair under way keeps its marker until then. -/
theorem exec_repairTimeout_early {b k : Nat} (hl : (s.op op).loc = some (b, k))
    (ha : (s.fle.repairs.any fun e => e.1 == b * 8 + k) = true)
    (ht : s.aon < s.fle.repairs.get (b * 8 + k) s.aon + 100 * usCycles) :
    exec (.repairTimeout op) s = .next s.begin := by
  simp [execRepairTimeout, hl, ha, Nat.not_le.2 ht]

theorem exec_tagLineRebuild_runs {bucket : Nat} (hb : bucket < 2 ^ s.flowBits) (bad : List BlockErr) :
    exec (.tagLineRebuild bucket bad) s = .next ((s.begin.rebuildTagLine bucket bad).duePage (pageOf (tagLineAddr bucket))) :=
  if_neg (Nat.not_le.2 hb)

theorem exec_creationService_idle (hc : s.fle.creations = []) : exec .creationService s = .next s.begin := by
  simp [execCreationService, hc]

/-- The oldest request leaves the queue, is served, and its status goes to those that wait for it (R158). -/
theorem exec_creationService_serves {r : List Nat} (hc : s.fle.creations = op :: r) (ho : s.hasOp op = true) :
    exec .creationService s =
      let t : State := { s.begin with fle := { s.fle with creations := r } }
      .next ((t.serveCreation op).2.answerCreation op (t.serveCreation op).1) := by
  have hop : ({ s.begin with fle := { s.fle with creations := r } } : State).hasOp op = true := ho
  simp only [exec_creationService, execCreationService, State.begin_fle, hc, hop]
  exact if_neg (by simp)

theorem exec_batchWriteBack_decides :
    exec (.batchWriteBack op) s = .next (if s.writable op then (s.begin.writeBack op).issueWaiting else s.begin) := rfl

end

/-- Settles O34: one lemma for each way a command of the flow engine can be met. -/
theorem flowEngineServes : Obligations.FlowEngineServes := by
  refine fun s pid op => ⟨fun errors ha hs => ⟨fun hn => exec_flowRequest_untracked ha hs hn errors, fun hn =>
      ⟨fun t ht => ?_, fun hr => ?_⟩⟩, fun errors h => exec_flowRequest_waits h errors,
    fun errors ho hm hw => exec_cacheMissService_reads ho hm hw errors,
    fun b k ho hr hl => ⟨exec_repairTimeout_due ho hr hl, exec_repairTimeout_early hl⟩,
    fun bucket bad hb => exec_tagLineRebuild_runs hb bad, exec_creationService_idle,
    fun r hc ho => exec_creationService_serves hc ho, fun hw => ?_, fun hw => ?_⟩
  · rw [exec_flowRequest_tracked ha hs hn, show requestOf s pid errors = some t from ht, Option.elim_some]
  · rw [exec_flowRequest_tracked ha hs hn, show requestOf s pid errors = none from hr, Option.elim_none]
  · rw [exec_batchWriteBack_decides, if_pos hw]
  · rw [exec_batchWriteBack_decides, hw, if_neg Bool.false_ne_true]

/-! ## POLICE on an engine (R199, R250–R252) -/

/-- POLICE commits what the policers' unit answers. -/
theorem exec_police_engine {s : State} {slice eng c : Nat} {x : Ctx} (h : EngineCan s slice eng c x)
    (hp : RomRuns (engineIssued s slice eng c x) slice 0x21 0) (rd rs1 rs2 : BitVec 5) :
    exec (.police (.engine slice eng c .none) rd rs1 rs2) s =
      .next (((engineIssued s slice eng c x).unitPolice (ctxKey slice eng c) (issue s x)
        ((issue s x).policerOf (rs1 == 0) (x.reg rs1)) (x.reg rs2).toNat).commit s.begin (ctxKey slice eng c) rd) := by
  simp [execPolice, unitInstr_engine h hp rfl]

theorem policerOf_named (x : Ctx) {rs1 : BitVec 5} (h : rs1 ≠ 0) (a : DWord) : x.policerOf (rs1 == 0) a = some a.toNat := by
  rw [Ctx.policerOf, beq_false_of_ne h, if_neg Bool.false_ne_true]

/-- A policer that another tentative use holds answers later (R252). -/
theorem unitPolice_held {s : State} {k i colour : Nat} (x : Ctx) (hc : colour ≤ 2) (hi : i ≤ 131071)
    (hh : s.claimed (some k) [claimPolicer i] = true) : s.unitPolice k x (some i) colour = .later := by
  simp [State.unitPolice, hh, Nat.not_lt.2 hc, Nat.not_lt.2 hi]

/-- One that none holds meters the length of an ended packet (R251). -/
theorem unitPolice_meters {s : State} {k i colour : Nat} {x : Ctx} (hc : colour ≤ 2) (hi : i ≤ 131071)
    (hh : s.claimed (some k) [claimPolicer i] = false) (he : (s.pkt x.pid).ended = true) :
    s.unitPolice k x (some i) colour =
      .done (s.police i (s.pkt x.pid).len colour).1 x (s.police i (s.pkt x.pid).len colour).2 := by
  simp [State.unitPolice, hh, Nat.not_lt.2 hc, Nat.not_lt.2 hi, State.meteredLength, he]

section
variable {s : State} {slice eng c : Nat} {x : Ctx} (h : EngineCan s slice eng c x)
  (hp : RomRuns (engineIssued s slice eng c x) slice 0x21 0) (rd : BitVec 5) {rs1 rs2 : BitVec 5} (h1 : rs1 ≠ 0)
  (hi : (x.reg rs1).toNat ≤ 131071) (hc : (x.reg rs2).toNat ≤ 2)
include h hp h1 hi hc

/-- POLICE does not issue while another context holds its policer (R252). -/
theorem exec_police_held
    (hh : (engineIssued s slice eng c x).claimed (some (ctxKey slice eng c)) [claimPolicer (x.reg rs1).toNat] = true) :
    exec (.police (.engine slice eng c .none) rd rs1 rs2) s = .next s.begin := by
  rw [exec_police_engine h hp, policerOf_named _ h1, unitPolice_held _ hc hi hh]
  rfl

/-- What O15 says of an ended packet holds where no other context holds the policer. -/
theorem exec_police_meters (he : (s.pkt x.pid).ended = true)
    (hh : (engineIssued s slice eng c x).claimed (some (ctxKey slice eng c)) [claimPolicer (x.reg rs1).toNat] = false) :
    exec (.police (.engine slice eng c .none) rd rs1 rs2) s =
      let r := (engineIssued s slice eng c x).police (x.reg rs1).toNat (s.pkt x.pid).len (x.reg rs2).toNat
      .next (r.2.setCtx (ctxKey slice eng c) ((issue s x).setReg rd (BitVec.ofNat 64 r.1)).advance) := by
  have hpid : (issue s x).pid = x.pid := by rw [issue, issues_only]
  rw [exec_police_engine h hp, policerOf_named _ h1,
    unitPolice_meters hc hi hh (by rw [engineIssued_pkt, hpid]; exact he), engineIssued_pkt, hpid]
  rfl

end

/-! ### A policer that another context holds -/

/-- A context whose packet has ended, about to meter policer 0. -/
def meteringCtx : Ctx := { pid := 1, budget := 8 }

/-- A context in a routine with a tentative use of policer 0. -/
def holdingCtx : Ctx :=
  { pid := 2, micro := some { requests := [{ unit := 1, code := 0, a := 0, b := 0, claims := [claimPolicer 0] }] } }

/-- Context 0 of engine 0 meters the policer that context 0 of engine 1 holds. -/
def policerHeld : State := ((State.reset.setPkt 1 { ended := true }).setCtx 0 meteringCtx).setCtx 8 holdingCtx

theorem policerHeld_can : EngineCan policerHeld 0 0 0 meteringCtx :=
  ⟨by decide, by decide, by decide, by decide, rfl, rfl, by decide, by decide, by decide⟩

theorem policerHeld_rom : RomRuns (engineIssued policerHeld 0 0 0 meteringCtx) 0 0x21 0 := ⟨by decide, by decide⟩

theorem policerHeld_claimed : (engineIssued policerHeld 0 0 0 meteringCtx).claimed (some 0) [claimPolicer 0] = true := by decide

/-- Refutes O15: the clause of an ended packet takes it that the policer is free, but POLICE waits while another context holds a
tentative use of it (R252). -/
theorem not_creationAndMetering : ¬ Obligations.CreationAndMetering := by
  rintro ⟨-, hpolice⟩
  obtain ⟨-, hended, -⟩ := hpolice 0 1 0 policerHeld 0 0 0 meteringCtx policerHeld_can
  have hmeters := hended (by decide) (by decide) (by decide) rfl policerHeld_rom
  have hwaits : exec (.police (.engine 0 0 0 .none) 0 1 0) policerHeld = .next policerHeld.begin :=
    exec_police_held policerHeld_can policerHeld_rom 0 (by decide) (by decide) (by decide) policerHeld_claimed
  rw [hwaits, Host.Outcome.next.injEq] at hmeters
  have hctx := congrArg (State.ctx? · 0) hmeters
  rw [show ctxKey 0 0 0 = 0 from rfl] at hctx
  simp only [ctx?_setCtx_self] at hctx
  exact absurd hctx (by decide)

/-! ## The flow clock (R145, R180) -/

section
variable {s : State}

theorem exec_flowClockTick_due (h : s.fle.clockAt + msCycles ≤ s.aon) :
    exec .flowClockTick s = .next { s.begin with
      fle := { s.fle with clockMs := (s.fle.clockMs + 1) % 2 ^ 64, clockAt := s.fle.clockAt + msCycles } } :=
  if_pos h

theorem exec_flowClockTick_early (h : s.aon < s.fle.clockAt + msCycles) : exec .flowClockTick s = .next s.begin :=
  if_neg (Nat.not_le.2 h)

end

/-- A read of FLE_CLOCK_LO gives the lower half and latches the upper one in FLE_CLOCK_HI (R180). -/
theorem exec_fleClockLoRead_latches (s : State) : ∃ t, exec .fleClockLoRead s = .next t
    ∧ t.out = [.readData (BitVec.ofNat 32 s.fle.clockMs)]
    ∧ t.rd Reg.FLE_CLOCK_HI = BitVec.ofNat 32 (s.fle.clockMs / 2 ^ 32) ∧ t.fle = s.fle :=
  ⟨_, rfl, rfl, State.rd_wr_self s.begin _ _, rfl⟩

/-! ## Zone entries (R183) -/

section
variable (s : State) (z : Nat)

/-- The command register of the zone entries lies apart from their data registers. -/
theorem fg_zoneCmd (v : Nat) {f : Fld} (h : Reg.FLE_ZONE_CMD.addr ≠ f.reg.addr) :
    (s.store Spec.FLE_ZONE_CMD [] v).fg f = s.fg f :=
  State.fg_wr_ne s _ h

theorem zone_of_fle {s t : State} (h : t.fle = s.fle) (y : Nat) : t.zone y = s.zone y := by
  rw [State.zone, h, State.zone]

@[simp] theorem zone_zoneCmd (v y : Nat) : (s.store Spec.FLE_ZONE_CMD [] v).zone y = s.zone y :=
  zone_of_fle (State.wr_fle _ _ _) y

theorem zoneRead_fle : (s.zoneRead z).fle = s.fle := by
  rw [State.zoneRead, State.fs_fle, State.fs_fle, State.fs_fle, State.store, State.wr_fle]

theorem zoneRead_limit : (s.zoneRead z).fg Fld.FLE_ZONE_DATA_LIMIT = (s.zone z).limit % 2 ^ 28 := by
  rw [State.zoneRead, State.fg_fs_ne _ _ (by decide), State.fg_fs_ne _ _ (by decide), State.fg_fs_self _ _ _ (by decide),
    zone_zoneCmd]
  rfl

theorem zoneRead_profile : (s.zoneRead z).fg Fld.FLE_ZONE_PROF_PROFILE = (s.zone z).profile % 2 ^ 8 := by
  rw [State.zoneRead, State.fg_fs_ne _ _ (by decide), State.fg_fs_self _ _ _ (by decide), zone_zoneCmd]
  rfl

theorem zoneRead_count : (s.zoneRead z).fg Fld.FLE_ZONE_COUNT_COUNT = min 0xFFFFFFF (s.zone z).live := by
  rw [State.zoneRead, State.fg_fs_self _ _ _ (by decide), zone_zoneCmd]
  exact Nat.mod_eq_of_lt (Nat.lt_of_le_of_lt (Nat.min_le_left _ _) (by decide))

theorem zone_modZone (f : Zone → Zone) (y : Nat) : (s.modZone z f).zone y = if z = y then f (s.zone z) else s.zone y :=
  Table.get_put _ _ _ _ _

/-- A zone write gives its zone the limit and the profile of the data registers. -/
theorem zone_zoneWrite_self : ∃ tokens, (s.zoneWrite z).zone z = { s.zone z with
    limit := s.fg Fld.FLE_ZONE_DATA_LIMIT, profile := s.fg Fld.FLE_ZONE_PROF_PROFILE, tokens := tokens } := by
  simp only [State.zoneWrite, zone_of_fle (State.fs_fle _ _ _), zone_modZone, if_true, zone_zoneCmd]
  rw [fg_zoneCmd s _ (by decide), fg_zoneCmd s _ (by decide)]
  exact ⟨_, rfl⟩

theorem zone_zoneWrite_ne {y : Nat} (h : y ≠ z) : (s.zoneWrite z).zone y = s.zone y := by
  simp only [State.zoneWrite, zone_of_fle (State.fs_fle _ _ _), zone_modZone, if_neg (Ne.symm h), zone_zoneCmd]

end

/-! ## The retirement of a bank (R177) -/

section
variable {s : State}

theorem exec_retire_retiring (h : s.fb Fld.FLE_CACHE_CTL_RETIRING = true) (bank : BitVec 3) :
    exec (.retire bank) s = .next (s.begin.denied Spec.FLE_CACHE_CTL) := by
  simp [execRetire, State.retireBank, h]

/-- A bank is taken for retirement while another one is left in service. -/
theorem exec_retire_starts {b : Nat} {bank : BitVec 3} (hb : b < 8) (hne : b ≠ bank.toNat)
    (hs : s.fbit Fld.FLE_STATUS_BANK_RETIRED b = false) (h : s.fb Fld.FLE_CACHE_CTL_RETIRING = false) :
    exec (.retire bank) s = .next { (s.begin.fs Fld.FLE_CACHE_CTL_BANK bank.toNat).fs Fld.FLE_CACHE_CTL_RETIRING 1 with
      fle := { s.fle with retiring := some bank.toNat } } := by
  have hleft : ((List.range 8).any fun b => b != bank.toNat && !s.fbit Fld.FLE_STATUS_BANK_RETIRED b) = true :=
    List.any_eq_true.2 ⟨b, List.mem_range.2 hb, by simp [hne, hs]⟩
  simp only [exec_retire, execRetire, State.retireBank, State.begin_fbit, State.begin_fb, hleft, h]
  rfl

/-- A retirement waits for the operations of its bank. -/
theorem exec_bankRetirementComplete_busy {b : Nat} (hr : s.fle.retiring = some b)
    (ho : (s.fle.ops.any fun e => e.2.bank == b) = true) (bad : List ((Nat × Nat) × List BlockErr)) :
    exec (.bankRetirementComplete bad) s = .next s.begin := by
  simp only [exec_bankRetirementComplete, execBankRetirementComplete, State.begin_fle, hr, ho, Bool.true_or, if_true]

/-- An idle bank that holds no line is retired at once. -/
theorem exec_bankRetirementComplete_idle {b : Nat} (hr : s.fle.retiring = some b) (ho : s.fle.ops = [])
    (hh : s.fle.holds.get b [] = []) (hc : ∀ l ∈ s.fle.cache, l.bank ≠ b) (bad : List ((Nat × Nat) × List BlockErr)) :
    exec (.bankRetirementComplete bad) s =
      .next (((({ s.begin with fle := { s.fle with retiring := none } }.fs Fld.FLE_CACHE_CTL_RETIRING 0).fsbit
        Fld.FLE_STATUS_BANK_RETIRED b true).log 0x0707).drain) := by
  have hheld : s.begin.held b = [] := hh
  have hlines : (s.fle.cache.filter fun l => l.bank == b) = [] := List.filter_eq_nil_iff.2 fun l hl => by simp [hc l hl]
  simp only [exec_bankRetirementComplete, execBankRetirementComplete, State.begin_fle, hr, ho, hheld, hlines, List.any_nil,
    bne_self_eq_false, Bool.or_self, Bool.false_eq_true, if_false, List.foldl_nil]

end

/-- Settles O39: the clock, each zone command and each way a retirement can be met. -/
theorem flowClockZonesAndBanks : Obligations.FlowClockZonesAndBanks := by
  refine fun s z bank => ⟨fun h => ⟨_, exec_flowClockTick_due h, rfl, rfl, rfl, rfl⟩, exec_flowClockTick_early,
    exec_fleClockLoRead_latches s, ⟨_, rfl, zoneRead_fle _ _, zoneRead_limit _ _, zoneRead_profile _ _, zoneRead_count _ _⟩,
    ⟨_, rfl, ?_⟩, fun h => exec_retire_retiring h bank,
    fun b hb hne hs h => ⟨_, exec_retire_starts hb hne hs h, rfl, ?_, ?_⟩,
    fun b hr ho bad => exec_bankRetirementComplete_busy hr ho bad,
    fun b hr ho hh hc errors => exec_bankRetirementComplete_idle hr ho hh hc errors⟩
  · obtain ⟨tokens, hself⟩ := zone_zoneWrite_self s.begin z.toNat
    exact ⟨by rw [hself]; rfl, by rw [hself]; rfl, by rw [hself]; rfl, fun y hy => zone_zoneWrite_ne s.begin z.toNat hy⟩
  · exact fb_fs_one _ (f := Fld.FLE_CACHE_CTL_RETIRING) (by decide) rfl
  · show ((s.begin.fs Fld.FLE_CACHE_CTL_BANK bank.toNat).fs Fld.FLE_CACHE_CTL_RETIRING 1).fg Fld.FLE_CACHE_CTL_BANK = bank.toNat
    rw [fg_fs_beside _ _ _ _ (by decide), State.fg_fs_self _ _ _ (by decide)]
    exact Nat.mod_eq_of_lt bank.isLt

/-! ## What an event leaves of the registers (R563, R632) -/

/-- The registers that an event writes: those of the event unit, and the wraps of the filtered counters. -/
def eventRegs : List Nat :=
  [Reg.DBG_EVT_STAT.addr, Reg.DBG_EVT_DROP.addr, (Reg.PMU_FC_WRAP 0).addr, (Reg.PMU_FC_WRAP 1).addr]

section
variable {P : Table Word → Prop} (hput : ∀ t a v, a ∈ eventRegs → P t → P (t.put a 0 v)) (s : State) (hs : P s.regs)
include hput hs

theorem putEvent_regs (code : Nat) (d : List Byte) (cs : List (List Byte)) (p : Bool) : P (s.putEvent code d cs p).regs := by
  have hstat : Reg.DBG_EVT_STAT.addr ∈ eventRegs := by decide
  have hdrop : Reg.DBG_EVT_DROP.addr ∈ eventRegs := by decide
  unfold State.putEvent
  extract_lets
  split
  · exact hput _ _ _ hstat hs
  · exact hput _ _ _ hdrop (hput _ _ _ hstat hs)

theorem limited_regs (code unit n first : Nat) (mk : Nat → Nat → List Byte) : P (s.limited code unit n first mk).regs := by
  unfold State.limited
  extract_lets
  split
  · refine putEvent_regs hput _ ?_ _ _ _ _
    exact hs
  · exact hs

theorem fcAdd_regs {m : Nat} (hm : m < 64) (n : Nat) : P (s.fcAdd m n).regs := by
  have hwrap : (Reg.PMU_FC_WRAP (m / 32)).addr ∈ eventRegs := by
    rcases show m / 32 = 0 ∨ m / 32 = 1 by omega with hz | hz <;> rw [hz] <;> decide
  unfold State.fcAdd
  extract_lets
  split
  · exact hs
  · refine limited_regs hput _ ?_ _ _ _ _ _
    exact hput _ _ _ hwrap hs

theorem fcCount_regs (e : PmuEvent) (n : Nat) : P (s.fcCount e n).regs := by
  unfold State.fcCount
  split
  · refine List.foldlRecOn (motive := fun t : State => P t.regs) _ _ hs fun t ht m hm => ?_
    split
    · exact fcAdd_regs hput t ht (List.mem_range.1 hm) n
    · exact ht
  · exact hs

/-- What a write of each of these registers keeps of the register table, an event keeps. -/
theorem log_regs (code : Nat) (d : List Byte) (cs : List (List Byte)) : P (s.log code d cs).regs :=
  fcCount_regs hput _ (putEvent_regs hput s hs _ _ _ _) _ _

end

section
variable (s : State) (code : Nat) (d : List Byte) (cs : List (List Byte))

theorem log_fle : (s.log code d cs).fle = s.fle := by
  rw [show s.log code d cs = _ from log_counts s code d cs]

theorem log_nvm : (s.log code d cs).nvm = s.nvm := by
  rw [show s.log code d cs = _ from log_counts s code d cs]

theorem rd_log_apart {r : Reg} (h : r.addr ∉ eventRegs) : (s.log code d cs).rd r = s.rd r := by
  have hget : (s.log code d cs).regs.get r.addr 0 = s.regs.get r.addr 0 := by
    refine log_regs (P := fun t => t.get r.addr 0 = s.regs.get r.addr 0) (fun t a v ha ht => ?_) s rfl _ _ _
    exact (Table.get_put _ _ _ _ _).trans ((if_neg (ne_of_mem_of_not_mem ha h)).trans ht)
  rw [State.rd, hget, State.rd]

theorem log_regsCanonical (h : RegsCanonical s) : RegsCanonical (s.log code d cs) :=
  log_regs (P := fun t => Table.wf t (fun _ => 0) = true) (fun _ _ _ _ ht => Table.wf_put ht) s h _ _ _

end

/-! ## The flow clock over a warm reset (R145, R615, R630) -/

theorem get_of_lt {t : Table Word} {k : Nat} (h : ∀ e ∈ t, k < e.1) : t.get k 0 = 0 := by
  induction t with
  | nil => rfl
  | cons e r ih =>
    obtain ⟨a, v⟩ := e
    obtain ⟨ha, hr⟩ := List.forall_mem_cons.1 h
    rw [Table.get, if_neg (Nat.ne_of_gt ha), ih hr]

/-- In canonical form each register keeps its own bits over a warm reset. -/
theorem get_keptRegs {t : Table Word} (h : t.wf (fun _ => 0) = true) (k : Nat) :
    (keptRegs t).get k 0 = t.get k 0 &&& BitVec.ofNat 32 (keptBits k) := by
  induction t with
  | nil => exact (BitVec.zero_and).symm
  | cons e r ih =>
    obtain ⟨a, v⟩ := e
    simp only [Table.wf, Bool.and_eq_true, List.all_eq_true, decide_eq_true_eq] at h
    obtain ⟨⟨-, hlt⟩, hr⟩ := h
    have hkeep : keptRegs ((a, v) :: r) = if v &&& BitVec.ofNat 32 (keptBits a) ≠ 0 then
        (a, v &&& BitVec.ofNat 32 (keptBits a)) :: keptRegs r else keptRegs r := by
      simp [keptRegs, List.filter_cons]
    rw [hkeep]
    by_cases hk : a = k
    · subst hk
      split
      case isTrue => simp [Table.get]
      case isFalse hz =>
        rw [ih hr, get_of_lt hlt, Table.get, if_pos rfl, Decidable.not_not.1 hz]
        exact BitVec.zero_and
    · rw [Table.get, if_neg hk, ← ih hr]
      split
      · exact if_neg hk
      · rfl

/-- `t` has the flow clock of `s`, and its registers are in canonical form. -/
def SameFlowClock (s t : State) : Prop :=
  RegsCanonical t ∧ t.rd Reg.FLE_CLOCK_HI = s.rd Reg.FLE_CLOCK_HI ∧ t.fle.clockMs = s.fle.clockMs

theorem SameFlowClock.log {s t : State} (h : SameFlowClock s t) (code : Nat) (d : List Byte) :
    SameFlowClock s (t.log code d) := by
  obtain ⟨hcanon, hhi, hms⟩ := h
  exact ⟨log_regsCanonical t code d [] hcanon, (rd_log_apart t code d [] (by decide)).trans hhi, by rw [log_fle, hms]⟩

/-- A reset of the flash reaches neither the registers nor the flow engine (R617). -/
theorem cutFlash_regs_fle (s : State) : s.cutFlash.regs = s.regs ∧ s.cutFlash.fle = s.fle := by
  unfold State.cutFlash
  extract_lets
  split
  · exact List.foldlRecOn (motive := fun t : State => t.regs = s.regs ∧ t.fle = s.fle) _ _ ⟨rfl, rfl⟩ fun t ht i _ => ht
  · exact ⟨rfl, rfl⟩

/-- Keeping the retired cells writes the counts of the free lists, which are registers of the buffers (R313). -/
theorem keepRetired_clock (s : State) (cells : Table CellHdr) :
    (s.keepRetired cells).rd Reg.FLE_CLOCK_HI = s.rd Reg.FLE_CLOCK_HI ∧ (s.keepRetired cells).fle = s.fle := by
  have hcount : ∀ m l, (Fld.BUF_FL_COUNT m l).reg.addr ≠ Reg.FLE_CLOCK_HI.addr := fun m l =>
    Nat.ne_of_gt (Nat.lt_of_lt_of_le (by decide) (Nat.le_add_right _ _))
  unfold State.keepRetired
  extract_lets kept u
  refine List.foldlRecOn (motive := fun t : State => t.rd Reg.FLE_CLOCK_HI = s.rd Reg.FLE_CLOCK_HI ∧ t.fle = s.fle) _ _
    ⟨rfl, rfl⟩ fun t ht l _ => ?_
  split
  · exact ⟨(State.rd_fs_ne _ _ (hcount _ _)).trans ht.1, ht.2⟩
  · exact ht

theorem rd_showClkHalf (s : State) : s.showClkHalf.rd Reg.FLE_CLOCK_HI = s.rd Reg.FLE_CLOCK_HI := by
  rw [State.showClkHalf, State.rd_fs_ne _ _ (by decide)]
  rfl

theorem showClkHalf_fle (s : State) : s.showClkHalf.fle = s.fle := by
  rw [State.showClkHalf, State.fs_fle]

/-- A warm reset that is not held off keeps the flow clock of a state in canonical form. -/
theorem warmReset_clock {s : State} (h : RegsCanonical s) (cause : Nat) :
    (s.warmReset cause).rd Reg.FLE_CLOCK_HI = s.rd Reg.FLE_CLOCK_HI ∧ (s.warmReset cause).fle.clockMs = s.fle.clockMs := by
  unfold State.warmReset
  extract_lets s1 s2 counts t t'
  have h1 : SameFlowClock s s1 := by
    refine List.foldlRecOn (motive := SameFlowClock s) _ _ ⟨h, rfl, rfl⟩ fun t ht e _ => ?_
    split
    · split
      · exact ht.log _ _
      · exact ht
    · exact ht
  obtain ⟨hregs, hfle⟩ := cutFlash_regs_fle s1
  obtain ⟨hcanon, hhi, hms⟩ := h1
  have ht : t.rd Reg.FLE_CLOCK_HI = s.rd Reg.FLE_CLOCK_HI ∧ t.fle.clockMs = s.fle.clockMs := by
    refine ⟨?_, (congrArg (·.clockMs) hfle).trans hms⟩
    rw [← hhi]
    show (keptRegs s1.cutFlash.regs).get _ 0 ^^^ _ = s1.regs.get _ 0 ^^^ _
    rw [hregs, get_keptRegs hcanon, show BitVec.ofNat 32 (keptBits Reg.FLE_CLOCK_HI.addr) = BitVec.allOnes 32 by decide,
      BitVec.and_allOnes]
  have ht' : t'.rd Reg.FLE_CLOCK_HI = s.rd Reg.FLE_CLOCK_HI ∧ t'.fle.clockMs = s.fle.clockMs := by
    obtain ⟨hkeepHi, hkeepFle⟩ := keepRetired_clock t s2.buf.cells
    by_cases hn : s2.buf.retiredCells = 0
    · rwa [show t' = t from if_pos hn]
    · rw [show t' = t.keepRetired s2.buf.cells from if_neg hn, hkeepHi, hkeepFle]
      exact ht
  rwa [rd_showClkHalf, State.rd_wr_ne _ _ (by decide), showClkHalf_fle, State.wr_fle]

/-- What O38 says of a warm reset holds of every state whose registers are in canonical form (R180). -/
theorem exec_warmReset_keepsFlowClock {s : State} (h : RegsCanonical s) : ∃ t, exec .warmReset s = .next t
    ∧ t.fle.clockMs = s.fle.clockMs ∧ t.rd Reg.FLE_CLOCK_HI = s.rd Reg.FLE_CLOCK_HI := by
  refine ⟨_, rfl, ?_⟩
  rw [State.holdBy]
  show (s.begin.resetBy 0x40).fle.clockMs = s.fle.clockMs ∧ (s.begin.resetBy 0x40).rd Reg.FLE_CLOCK_HI = s.rd Reg.FLE_CLOCK_HI
  rw [State.resetBy]
  split
  · exact ⟨rfl, rfl⟩
  · split
    · exact ⟨by rw [State.wr_fle, State.begin_fle], State.rd_wr_ne _ _ (by decide)⟩
    · obtain ⟨hhi, hms⟩ := warmReset_clock (s := s.begin) h 0x40
      exact ⟨hms, hhi⟩

/-! ### A register table that is not in canonical form -/

/-- A state, not in canonical form, whose register table lists FLE_CLOCK_HI twice. A read finds the first entry, at the reset
value. -/
def clockListedTwice : State := { regs := [(Reg.FLE_CLOCK_HI.addr, 0), (Reg.FLE_CLOCK_HI.addr, 1)] }

theorem clockListedTwice_hi : clockListedTwice.rd Reg.FLE_CLOCK_HI = 0 := by decide

/-- A warm reset keeps the entries that differ from reset, and so uncovers the second one. -/
theorem clockListedTwice_hi_warmReset {t : State} (h : exec .warmReset clockListedTwice = .next t) :
    t.rd Reg.FLE_CLOCK_HI = 1 := by
  obtain rfl : (clockListedTwice.begin.resetBy 0x40).holdBy .sysrst = t := Host.Outcome.next.inj h
  decide

/-- Refutes O38: the statement is about every state, and in one whose register table is not in canonical form a warm reset
changes FLE_CLOCK_HI. -/
theorem not_flowClockRegisters : ¬ Obligations.FlowClockRegisters := by
  rintro ⟨-, -, hall⟩
  obtain ⟨-, -, -, t, hreset, -, hkept⟩ := hall clockListedTwice
  rw [clockListedTwice_hi_warmReset hreset, clockListedTwice_hi] at hkept
  exact absurd hkept (by decide)

/-! ## Tokens and Prune (R157, R166) -/

@[simp] theorem timeoutS_begin (s : State) (z cls : Nat) : s.begin.timeoutS z cls = s.timeoutS z cls := rfl

section
variable {s : State}

theorem exec_creationTokenRefill_early (h : s.aon < s.fle.tokensAt + msCycles) :
    exec .creationTokenRefill s = .next s.begin :=
  if_neg (Nat.not_le.2 h)

/-- A refill that is due gives each profile and each zone its tokens, and is due again after a millisecond. -/
theorem exec_creationTokenRefill_due (h : s.fle.tokensAt + msCycles ≤ s.aon) : ∃ profs zones,
    exec .creationTokenRefill s = .next { s.begin with
      fle := { s.fle with profTokens := profs, zones := zones, tokensAt := s.fle.tokensAt + msCycles } } :=
  ⟨_, _, if_pos h⟩

theorem exec_pruneVisit_off (h : s.fb Fld.FLE_PRUNE_CTL_EN = false) : exec .pruneVisit s = .next s.begin := by
  simp [execPruneVisit, h]

/-- Prune's work on the seven slots of a bucket, from the read of its tag line; none where it pauses (R166). -/
def pruneBucket (s : State) (b : Nat) : Option State :=
  (List.range 7).foldl (fun (r : Option State) k => r.bind fun u => u.pruneSlot b k)
    (some (s.pmFlow false (b % 8) (tagLineAddr b)))

/-- A visit that does not pause goes on to the next bucket, and keeps what its work left in the slots. -/
theorem exec_pruneVisit_visits {t : State} (h : s.fb Fld.FLE_PRUNE_CTL_EN = true)
    (ht : pruneBucket s.begin (s.fle.pruneAt % 2 ^ s.flowBits) = some t) : ∃ kept,
    exec .pruneVisit s = .next { t with
      fle := { t.fle with overflow := kept, pruneAt := (s.fle.pruneAt % 2 ^ s.flowBits + 1) % 2 ^ t.flowBits } } := by
  unfold pruneBucket at ht
  simp only [exec_pruneVisit, execPruneVisit, State.begin_fb, State.begin_fle, State.begin_flowBits, h, ht]
  exact ⟨_, rfl⟩

variable {op b k : Nat} {r : Record}

/-- A delete operation of Prune rechecks its record: a record that is not pinned and has outlived its timeout goes, and else
its stamp is set anew (R166). -/
theorem exec_pruneDelete_rechecks (ho : s.hasOp op = true) (hk : (s.op op).kind = .prune b k)
    (hs : (s.op op).state = .inService) (hr : (s.fslot b k).record = some r) (hp : r.poisoned = false)
    (hkey : r.key = (s.op op).key) (hpin : r.pinned = false) :
    exec (.pruneDelete op) s =
      let timeout := s.timeoutS r.key.zone (timeoutClass r.state)
      if timeout = 0 ∨ (s.flowMs % 2 ^ 32 + 2 ^ 32 - r.lastSeen) % 2 ^ 32 < timeout * 1000 then
        .next ((s.begin.setStamp b k ((bitsOf r.lastSeen 25 10 + s.ticksOf r) % 65536)).endOp op)
      else .next (((s.begin.deleteRecord b k (some 1)).inc Reg.FLE_AGED).endOp op) := by
  simp [execPruneDelete, ho, hk, hs, hr, hp, hkey, hpin]

end

/-! ## Weeder (R167–R169, R175) -/

/-- What Weeder does with a slot that it has read: it leaves it, writes it back or makes it a marker, as the code reads its
block (R168, R169). -/
def weederSlot (b k : Nat) (r : BlockRead × State) : State :=
  match r.1.seen with
  | .clean => r.2
  | .corrected => r.2.weederWrite b k r.1
  | .uncorrectable => r.2.poison b (r.2.headSlot b k)

section
variable {s : State}

theorem exec_weederVisit_off (h : s.fb Fld.PMEM_WEEDER_CTL_EN = false) (block : WeederBlock) (errors : BlockErr) :
    exec (.weederVisit block errors) s = .next s.begin := by
  simp [execWeederVisit, h]

variable (hon : s.fb Fld.PMEM_WEEDER_CTL_EN = true) (errors : BlockErr)
include hon

theorem exec_weederVisit_slot {b k : Nat} (hb : b < 2 ^ s.flowBits) (hk : k < 7) :
    exec (.weederVisit (.slot b k) errors) s = .next (weederSlot b k (s.begin.readBlock (slotAddr b k) errors)) := by
  have hin : ¬(2 ^ s.begin.flowBits ≤ b ∨ 7 ≤ k) := not_or.2 ⟨Nat.not_le.2 hb, Nat.not_le.2 hk⟩
  exact (if_neg (by simp [hon])).trans (if_neg hin)

/-- An uncorrectable tag line is to be rebuilt (R173). -/
theorem exec_weederVisit_tagLine {b : Nat} (hb : b < 2 ^ s.flowBits) :
    exec (.weederVisit (.tagLine b) errors) s =
      let l := s.begin.readBlock (tagLineAddr b) errors
      .next (if l.1.seen = .uncorrectable then l.2.wantRebuild b else l.2) := by
  have hin : ¬2 ^ s.begin.flowBits ≤ b := Nat.not_le.2 hb
  exact (if_neg (by simp [hon])).trans (if_neg hin)

/-- A block outside the flow region that is lost goes to its owner (R175). -/
theorem exec_weederVisit_other {a : Nat} (ha : s.tablesBase ≤ a) :
    exec (.weederVisit (.other a) errors) s =
      let r := s.begin.readBlock a errors
      .next (if r.1.seen = .uncorrectable then r.2.lostBlock a else r.2) := by
  have hbase : ¬ a < s.begin.tablesBase := Nat.not_lt.2 ha
  exact (if_neg (by simp [hon])).trans (if_neg hbase)

/-- A lost line of the flow cache is dropped, or leaves a marker if it was dirty (R170). -/
theorem exec_weederVisit_cacheLine {b k : Nat} {l : CacheLine} (hl : s.line b k = some l) :
    exec (.weederVisit (.cacheLine b k) errors) s =
      let r := s.begin.readCacheBlock errors
      .next (if r.1.seen ≠ .uncorrectable then r.2 else if l.dirty then r.2.poison b k else r.2.dropLine b k) := by
  simp only [exec_weederVisit, execWeederVisit, State.begin_fb, State.begin_line, hon, hl]
  rfl

end

/-! ## Page retirement (R174, R176) -/

section
variable {s : State}

theorem exec_pageRetirement_none (h : s.fle.duePages = []) (bad : List BlockErr) :
    exec (.pageRetirement bad) s = .next s.begin := by
  simp only [exec_pageRetirement, execPageRetirement, State.begin_fle, h]

/-- Without AUTO no page is retired. -/
theorem exec_pageRetirement_off (h : s.fb Fld.PMEM_RETIRE_CFG_AUTO = false) (bad : List BlockErr) :
    exec (.pageRetirement bad) s = .next s.begin := by
  cases hd : s.fle.duePages with
  | nil => exact exec_pageRetirement_none hd bad
  | cons page r =>
    simp only [exec_pageRetirement, execPageRetirement, State.begin_fle, State.begin_fb, hd, h]
    rfl

/-- The state in which the oldest due page has its spare page, with the event of its retirement still to come. -/
def remapPage (s : State) (page : Nat) (r : List Nat) : State :=
  let used := s.fg Fld.PMEM_RETIRE_STAT_USED
  State.fs { s.begin with
    fle := { s.fle with
      duePages := r, remap := s.fle.remap.ins page used, corr := s.fle.corr.filter fun e => e.page != page }
    nvm := { s.nvm with pages := s.nvm.pages ++ [page] } } Fld.PMEM_RETIRE_STAT_USED (used + 1)

/-- A due page whose blocks read well takes the next spare page (R174, R176). -/
theorem exec_pageRetirement_remaps {page : Nat} {r : List Nat} (hd : s.fle.duePages = page :: r)
    (ha : s.fb Fld.PMEM_RETIRE_CFG_AUTO = true) (hu : s.fg Fld.PMEM_RETIRE_STAT_USED < 4096) :
    exec (.pageRetirement []) s = .next ((remapPage s page r).log 0x1501 (d5 (page * 4096))) := by
  simp only [exec_pageRetirement, execPageRetirement, State.begin_fle, State.begin_fb, hd, ha]
  exact if_neg (Nat.not_le.2 hu)

theorem remapPage_used (page : Nat) (r : List Nat) (hu : s.fg Fld.PMEM_RETIRE_STAT_USED < 4096) :
    (remapPage s page r).fg Fld.PMEM_RETIRE_STAT_USED = s.fg Fld.PMEM_RETIRE_STAT_USED + 1 := by
  rw [remapPage, State.fg_fs_self _ _ _ (by decide)]
  exact Nat.mod_eq_of_lt (Nat.lt_of_le_of_lt (Nat.succ_le_of_lt hu) (by decide))

end

/-- Settles O40: one lemma for each way the refill, Prune, Weeder and the retirement of pages can be met. -/
theorem ageingAndRepair : Obligations.AgeingAndRepair := by
  refine fun s op b k => ⟨exec_creationTokenRefill_early, fun h => ?_, exec_pruneVisit_off, fun t hon ht => ?_,
    fun r ho hk hs hr hp hkey hpin => ⟨fun h0 hage => ?_, fun hage => ?_⟩,
    fun block errors h => exec_weederVisit_off h block errors,
    fun errors hon hb hk => ⟨fun h => ?_, fun h => ?_, fun h => ?_, exec_weederVisit_tagLine hon errors hb⟩,
    fun a errors hon ha => exec_weederVisit_other hon errors ha, fun l errors hon hl => exec_weederVisit_cacheLine hon errors hl,
    fun page => ⟨_, rfl, rfl⟩, exec_pageRetirement_none, exec_pageRetirement_off,
    fun page r hd ha hu => ⟨_, exec_pageRetirement_remaps hd ha hu, ?_, ?_, ?_, ?_⟩⟩
  · obtain ⟨profs, zones, hx⟩ := exec_creationTokenRefill_due h
    exact ⟨_, hx, rfl, rfl, rfl⟩
  · obtain ⟨kept, hx⟩ := exec_pruneVisit_visits hon ht
    exact ⟨_, hx, rfl, rfl⟩
  · exact (exec_pruneDelete_rechecks ho hk hs hr hp hkey hpin).trans (if_neg (not_or.2 ⟨h0, Nat.not_lt.2 hage⟩))
  · exact (exec_pruneDelete_rechecks ho hk hs hr hp hkey hpin).trans (if_pos (.inr hage))
  iterate 3 rw [exec_weederVisit_slot hon errors hb hk, weederSlot, h]
  · rw [log_fle]
    rfl
  · rw [log_fle]
    exact Table.get_ins_self _ _ _ _
  · rw [State.fg, rd_log_apart _ _ _ _ (by decide)]
    exact remapPage_used page r hu
  · rw [log_nvm]
    rfl

end Sys2Proof.FlowTable

/-! # Translation and balancing (spec chapter 6)

NATMAP, NATREL and LBSEL on an engine, then the commands of the translation unit: pools, the sweep, load-balancing groups, and
mappings by their public endpoint. The first part gives what counting and package-memory reads leave of what the unit sees. -/

namespace Sys2Proof.Translation

open Sys2Proof Sys2Proof.Machine Sys2Proof.Laws Sys2Proof.FrontPorts Sys2Proof.PacketLife Sys2Proof.ParsingAndRules

/-! ## What counting and package memory leave of the translation unit (R203, R235, R563) -/

/-- `t` has the tables of the translation unit of `s`, and its registers: none from 0x0090_0000 on below the counters' has
changed. -/
def SameXlb (s t : State) : Prop :=
  t.xlb = s.xlb ∧ ∀ r : Reg, 0x900000 ≤ r.addr → r.addr < 0x1200000 → t.rd r = s.rd r

theorem SameXlb.refl (s : State) : SameXlb s s := ⟨rfl, fun _ _ _ => rfl⟩

theorem SameXlb.trans {s t u : State} (h : SameXlb s t) (k : SameXlb t u) : SameXlb s u :=
  ⟨k.1.trans h.1, fun r hlo hhi => (k.2 r hlo hhi).trans (h.2 r hlo hhi)⟩

/-- What only counts, and leaves the registers below the counters' alone, leaves the translation unit alone. -/
theorem SameXlb.of_counts {s t : State} (hc : CountsOnly s t) (hr : ∀ r : Reg, r.addr < 0x1200000 → t.rd r = s.rd r) :
    SameXlb s t :=
  ⟨by rw [show t = _ from hc], fun r _ hhi => hr r hhi⟩

theorem poolCfg_addr (p : Nat) : (Reg.XLB_POOL_CFG p).addr = 0x901000 + 0x10 * p := by
  show 0x901000 + ((p - 0) * 0x10 + 0) = _
  omega

section
variable {s t : State} (h : SameXlb s t)
include h

theorem SameXlb.fg {f : Fld} (hlo : 0x900000 ≤ f.reg.addr) (hhi : f.reg.addr < 0x1200000) : t.fg f = s.fg f := by
  rw [State.fg, h.2 _ hlo hhi, State.fg]

theorem SameXlb.fb {f : Fld} (hlo : 0x900000 ≤ f.reg.addr) (hhi : f.reg.addr < 0x1200000) : t.fb f = s.fb f := by
  rw [State.fb, h.fg hlo hhi, State.fb]

theorem SameXlb.poolEn {p : Nat} (hp : p < 256) : t.fb (Fld.XLB_POOL_CFG_EN p) = s.fb (Fld.XLB_POOL_CFG_EN p) := by
  have haddr : (Fld.XLB_POOL_CFG_EN p).reg.addr = 0x901000 + 0x10 * p := poolCfg_addr p
  exact h.fb (by omega) (by omega)

theorem SameXlb.lbGroup (g : Nat) : t.lbGroup g = s.lbGroup g := by
  rw [State.lbGroup, h.1, State.lbGroup]

theorem SameXlb.lbMember : t.lbMember = s.lbMember := by
  funext g m
  rw [State.lbMember, h.1, State.lbMember]

theorem SameXlb.lbSlot : t.lbSlot = s.lbSlot := by
  funext g i
  rw [State.lbSlot, h.1, State.lbSlot]

theorem SameXlb.lbSelect (g hash : Nat) (pinned : Option Nat) : t.lbSelect g hash pinned = s.lbSelect g hash pinned := by
  simp only [State.lbSelect, State.upCount, h.lbMember, h.lbSlot, h.lbGroup]

theorem SameXlb.lbWord (g : Nat) (r : LbReply) : t.lbWord g r = s.lbWord g r := by
  simp only [State.lbWord, h.lbMember, h.lbGroup]

end

/-- A field below the translation unit is none of its registers. -/
theorem fs_sameXlb (s : State) {f : Fld} (n : Nat) (h : f.reg.addr < 0x900000) : SameXlb s (s.fs f n) :=
  ⟨State.fs_xlb s f n, fun _ hlo _ => State.rd_fs_ne s n (Nat.ne_of_lt (Nat.lt_of_lt_of_le h hlo))⟩

theorem evc_sameXlb (s : State) (n k : Nat) : SameXlb s (s.evc n k) := by
  refine .of_counts (evc_counts s n k) fun r hr => ?_
  have hw : (Reg.PMU_EVC_WRAP (n / 32)).addr ≠ r.addr :=
    Nat.ne_of_gt (Nat.lt_of_lt_of_le hr (Nat.le_trans (by decide) (Nat.le_add_right _ _)))
  unfold State.evc
  extract_lets
  split
  · rfl
  · exact (rd_limited_low _ _ _ _ _ _ hr).trans (State.rd_wr_ne _ _ hw)

theorem fcCount_sameXlb (s : State) (e : PmuEvent) (n : Nat) : SameXlb s (s.fcCount e n) :=
  .of_counts (fcCount_counts s e n) fun _ hr => rd_fcCount_low s e n hr

theorem engineIssued_sameXlb (s : State) (slice eng c : Nat) (x : Ctx) : SameXlb s (engineIssued s slice eng c x) :=
  have hset : SameXlb s (s.begin.setCtx (ctxKey slice eng c) (issue s x)) := ⟨rfl, fun _ _ _ => rfl⟩
  hset.trans (((evc_sameXlb _ _ _).trans (evc_sameXlb _ _ _)).trans (fcCount_sameXlb _ _ _))

theorem engineWaits_sameXlb (s : State) (slice eng c : Nat) (x : Ctx) : SameXlb s (engineWaits s slice eng c x) :=
  (engineIssued_sameXlb s slice eng c x).trans ⟨rfl, fun _ _ _ => rfl⟩

/-- A package-memory request counts, and may show in KTL_PWR_STAT that the memory has left self-refresh (R473). -/
theorem pmTouch_sameXlb (s : State) (share : Nat) (write : Bool) (n : Nat) (e : PmuEvent) :
    SameXlb s (s.pmTouch share write n e) := by
  unfold State.pmTouch
  split
  · exact .refl s
  · extract_lets _ s1 s2
    have hidle : SameXlb s s1 := ⟨rfl, fun _ _ _ => rfl⟩
    have hcount : SameXlb s s2 := hidle.trans ((evc_sameXlb _ _ _).trans (fcCount_sameXlb _ _ _))
    split
    · exact hcount.trans ((fs_sameXlb s2 0 (by decide)).trans (evc_sameXlb _ _ _))
    · exact hcount

theorem pmTables_sameXlb (write : Bool) (n : Nat) (s : State) : SameXlb s (s.pmTables write n) := by
  induction n generalizing s with
  | zero => exact .refl s
  | succ n ih =>
    have hfree : SameXlb s s.free.2 := ⟨rfl, fun _ _ _ => rfl⟩
    exact hfree.trans ((pmTouch_sameXlb _ _ _ _ _).trans (ih _))

theorem tableReads_sameXlb (s : State) (n : Nat) : SameXlb s (s.tableReads n) :=
  have hfree : SameXlb s s.free.2 := ⟨rfl, fun _ _ _ => rfl⟩
  hfree.trans (pmTables_sameXlb _ _ _)

/-! ## What a context keeps as it issues and waits (R203) -/

@[simp] theorem issue_copy (s : State) (x : Ctx) : (issue s x).copy = x.copy := by
  rw [issue, issues_only]
  rfl

@[simp] theorem issue_pid (s : State) (x : Ctx) : (issue s x).pid = x.pid := by
  rw [issue, issues_only]

@[simp] theorem issue_natRelease (s : State) (x : Ctx) : (issue s x).natRelease = x.natRelease := by
  rw [issue, issues_only]

@[simp] theorem issueWaits_reg (s : State) (x : Ctx) : (issueWaits s x).reg = x.reg := issue_reg s x
@[simp] theorem issueWaits_copy (s : State) (x : Ctx) : (issueWaits s x).copy = x.copy := issue_copy s x
@[simp] theorem issueWaits_pid (s : State) (x : Ctx) : (issueWaits s x).pid = x.pid := issue_pid s x

@[simp] theorem engineWaits_pkt (s : State) (slice eng c : Nat) (x : Ctx) (pid : Nat) :
    (engineWaits s slice eng c x).pkt pid = s.pkt pid := engineIssued_pkt s slice eng c x pid

/-- A context without a record has no copy of one. -/
theorem copy_of_no_record {x : Ctx} (h : x.record = none) : x.copy = none := by
  rw [Ctx.copy, h, Option.map_none]

/-! ## What the unit answers (R236, R240, R246) -/

/-- A request that needs nothing reserved meets no claim (R215). -/
theorem claimed_nil (s : State) (k : Option Nat) : s.claimed k [] = false := by
  have hfree (q : UnitRequest) : q.claims.any ([] : List (Nat × Nat)).contains = false :=
    List.any_eq_false.2 fun _ _ => Bool.false_ne_true
  refine List.any_eq_false.2 fun e _ => ?_
  cases e.2.micro <;> simp [hfree]

/-- NATMAP outbound on a record with an inside mapping answers that mapping, and takes no reference (R236). -/
theorem unitNatmap_keeps {s : State} {k : Nat} {x : Ctx} {a : DWord} {r : Record} (hc : x.copy = some r)
    (ha : a.toNat < 256) (hb : r.flag bBalanced = false) (hk : r.keepsMapping false = true)
    (hp : s.fb (Fld.XLB_POOL_CFG_EN a.toNat) = true) :
    s.unitNatmap k x a = s.written x r (xlateWrites r (setBit r.flags bXlated true) (some r.xaddr) (some r.xport) r.member)
      (NatReply.word { addr := r.xaddr, port := r.xport, hairpin := s.isPublic (s.pkt x.pid).head.ends.2.1 }) := by
  have hout : bitAt a.toNat 8 = false := by
    rw [bitAt, Nat.div_eq_of_lt (show a.toNat < 2 ^ 8 from ha)]
    rfl
  have hclaims : s.natClaims x r false a.toNat = [] := if_pos hk
  simp only [State.unitNatmap, hc, hb, Nat.mod_eq_of_lt ha, hp, hout, hclaims, claimed_nil, State.natMap, State.natSide, hk,
    if_true]
  rw [if_neg (by simp; omega), if_neg (by simp)]

theorem unitNatmap_error {s : State} {k : Nat} {x : Ctx} {a : DWord} (hc : x.copy = none) :
    s.unitNatmap k x a = .error s := by
  rw [State.unitNatmap, hc]

/-- NATREL of the endpoint that the record holds clears its translation (R240). -/
theorem unitNatrel_releases {s : State} {x : Ctx} {a : DWord} {r : Record} (hc : x.copy = some r) (hr : r.hasRef = true)
    (ha : r.xaddr = a.toNat / 2 ^ 32) (hp : r.xport = a.toNat / 2 ^ 16 % 2 ^ 16) :
    s.unitNatrel x a = s.written { x with natRelease := x.natRelease ++ [r] } r
      (xlateWrites r (setBit r.flags bXlated false) (some 0) (some 0) 0) 0 := by
  rw [State.unitNatrel, hc]
  exact if_neg (by simp [hr, ha, hp])

theorem unitNatrel_error {s : State} {x : Ctx} {a : DWord} (hc : x.copy = none) : s.unitNatrel x a = .error s := by
  rw [State.unitNatrel, hc]

/-- LBSEL of a packet with no record answers the word of the member selected (R246). -/
theorem unitLbsel_selects {s : State} {x : Ctx} {a : DWord} (hc : x.copy = none) (ha : a.toNat ≤ 4095)
    (hg : (s.lbGroup a.toNat).en = true) (hs : (s.lbSelect a.toNat (s.pkt x.pid).head.hash none).status = 0) :
    s.unitLbsel x a =
      .done (s.lbWord a.toNat (s.lbSelect a.toNat (s.pkt x.pid).head.hash none)) x (s.tableReads 2) := by
  simp only [State.unitLbsel, hc, hg, hs, (tableReads_sameXlb s 2).lbWord]
  rw [if_neg (by simp; omega), if_neg (not_not_intro rfl)]

/-! ## NATMAP, NATREL and LBSEL on an engine -/

section
variable {s : State} {slice eng c : Nat} {x : Ctx} (h : EngineCan s slice eng c x)
include h

/-- As `unitInstr_engine`, for a unit that may read package memory (R203). -/
theorem unitInstr_waits {op fn : Nat} (hp : RomRuns (engineIssued s slice eng c x) slice op fn) (hm : mayMiss op fn = true)
    (rd rs1 rs2 : BitVec 5) (f : Nat → Ctx → State → UnitResult) :
    s.begin.unitInstr (.engine slice eng c .none) op fn rd rs1 rs2 false f =
      (f (ctxKey slice eng c) (issueWaits s x) (engineWaits s slice eng c x)).commit s.begin (ctxKey slice eng c) rd := by
  rw [State.unitInstr, microInstr_waits h op fn hm hp, if_neg Bool.false_ne_true]

theorem exec_natmap_engine (hp : RomRuns (engineIssued s slice eng c x) slice 0x23 0) (rd rs1 : BitVec 5) :
    exec (.natmap (.engine slice eng c .none) rd rs1 0) s =
      .next (((engineWaits s slice eng c x).unitNatmap (ctxKey slice eng c) (issueWaits s x) (x.reg rs1)).commit s.begin
        (ctxKey slice eng c) rd) := by
  simp [execNatmap, unitInstr_waits h hp rfl]

theorem exec_natrel_engine (hp : RomRuns (engineIssued s slice eng c x) slice 0x23 1) (rs1 : BitVec 5) :
    exec (.natrel (.engine slice eng c .none) 0 rs1 0) s =
      .next (((engineIssued s slice eng c x).unitNatrel (issue s x) (x.reg rs1)).commit s.begin (ctxKey slice eng c) 0) := by
  simp [execNatrel, unitInstr_engine h hp rfl]

theorem exec_lbsel_engine (hp : RomRuns (engineIssued s slice eng c x) slice 0x23 2) (rd rs1 : BitVec 5) :
    exec (.lbsel (.engine slice eng c .none) rd rs1 0) s =
      .next (((engineWaits s slice eng c x).unitLbsel (issueWaits s x) (x.reg rs1)).commit s.begin
        (ctxKey slice eng c) rd) := by
  simp [execLbsel, unitInstr_waits h hp rfl]

end

/-- A result that a unit writes to the record copy commits with its register. -/
theorem commit_written (b s : State) (k : Nat) (x : Ctx) (r : Record) (bs : List (Nat × Byte)) (rd : BitVec 5) (v : Nat) :
    (s.written x r bs v).commit b k rd = s.unitWrites k x r bs rd v := rfl

/-- Settles O17: each instruction commits what the unit answers; without a record, NATMAP and NATREL are unit errors. -/
theorem translationInstructions : Obligations.TranslationInstructions := by
  intro rd rs1 s slice eng c x h k t u v
  have hsame : SameXlb s u := engineWaits_sameXlb s slice eng c x
  refine ⟨fun r hc hv hb hr hm hen hp => ?_, fun r hc hr ha hport hp => ?_, fun hr hv hg hs hp => ?_,
    fun hc hp => exec_raises (exec_natmap_engine h hp rd rs1) (unitNatmap_error (by rwa [issueWaits_copy])),
    fun hc hp => exec_raises (exec_natrel_engine h hp rs1) (unitNatrel_error (by rwa [issue_copy]))⟩
  · have hkeeps : r.keepsMapping false = true := by simp [Record.keepsMapping, hr, hm]
    rw [exec_natmap_engine h hp, unitNatmap_keeps (by rwa [issueWaits_copy]) hv hb hkeeps ((hsame.poolEn hv).trans hen),
      commit_written, issueWaits_pid, engineWaits_pkt]
  · rw [exec_natrel_engine h hp, unitNatrel_releases (by rwa [issue_copy]) hr ha hport, commit_written, issue_natRelease]
  · have hselect : u.lbSelect v (u.pkt (issueWaits s x).pid).head.hash none = s.lbSelect v (s.pkt x.pid).head.hash none := by
      rw [issueWaits_pid, engineWaits_pkt, hsame.lbSelect]
    rw [exec_lbsel_engine h hp, unitLbsel_selects (by rw [issueWaits_copy, copy_of_no_record hr]) hv
      (by rw [hsame.lbGroup, hg]) (by rw [hselect, hs]), hselect, hsame.lbWord]
    exact ⟨_, rfl, ctx?_setCtx_self _ _ _⟩

/-! ## Pools (R232, R233) -/

/-- A one-bit field is set where its bit of the register is. -/
theorem fb_eq_bitAt (s : State) {f : Fld} (h : f.hi = f.lo) : s.fb f = bitAt (s.rd f.reg).toNat f.lo := by
  have hlt := Nat.mod_lt ((s.rd f.reg).toNat / 2 ^ f.lo) (by decide : 0 < 2)
  have hfg : s.fg f = (s.rd f.reg).toNat / 2 ^ f.lo % 2 := by
    rw [State.fg, bitsOf, h, Nat.add_sub_cancel_left, Nat.pow_one]
  rw [State.fb, hfg, bitAt]
  exact decide_eq_decide.2 (by omega)

theorem poolEn_eq_bitAt (s : State) (p : Nat) :
    s.fb (Fld.XLB_POOL_CFG_EN p) = bitAt (s.rd (Reg.XLB_POOL_CFG p)).toNat 31 :=
  fb_eq_bitAt s (f := Fld.XLB_POOL_CFG_EN p) rfl

theorem bitAt_eq_bitsOf (v i : Nat) : bitAt v i = decide (bitsOf v i i = 1) := by
  rw [bitAt, bitsOf, Nat.add_sub_cancel_left, Nat.pow_one]

theorem foldl_poolCfg_fields (g : Nat → Nat → Nat → Nat → Nat) (old v : Nat) :
    Spec.XLB_POOL_CFG.fields.foldl (fun n f => g n f.hi f.lo (f.of v)) old =
      g (g (g (g old 31 31 (bitsOf v 31 31)) 22 16 (bitsOf v 22 16)) 10 8 (bitsOf v 10 8)) 1 0 (bitsOf v 1 0) := rfl

theorem poolCfg_merge (old v : Nat) : Spec.XLB_POOL_CFG.merge old v =
    withBits (withBits (withBits (withBits old 31 31 (bitsOf v 31 31)) 22 16 (bitsOf v 22 16)) 10 8 (bitsOf v 10 8)) 1 0
      (bitsOf v 1 0) :=
  (merge_of_rw (by simp [Spec.XLB_POOL_CFG]) old v).trans (foldl_poolCfg_fields withBits old v)

/-- A write of XLB_POOL_CFG sets EN to bit 31 of the word (R255). -/
theorem poolEn_store (s : State) (p v : Nat) :
    bitAt ((s.store Spec.XLB_POOL_CFG [p] v).rd (Reg.XLB_POOL_CFG p)).toNat 31 = bitAt v 31 := by
  rw [State.store, ← Reg.XLB_POOL_CFG, State.rd_wr_self, bitAt_eq_bitsOf,
    bitAt_eq_bitsOf, bitsOf_word (by decide), poolCfg_merge, bitsOf_withBits_above (by decide) (by decide),
    bitsOf_withBits_above (by decide) (by decide), bitsOf_withBits_above (by decide) (by decide), bitsOf_withBits,
    bitsOf_mod_width]

section
variable {s : State} {p : Nat} {v : Word}

theorem exec_poolEnWrite_kernel (hp : p < 256) (v : Word) :
    exec (.poolEnWrite .kernel p false v) s = .next (s.begin.writeXlbPool p v) := by
  simp [execPoolEnWrite, State.forReq, State.mayAccess, Nat.not_le.2 hp]

theorem exec_poolEnWrite_user (s : State) (p : Nat) (addrReg : Bool) (v : Word) :
    exec (.poolEnWrite .user p addrReg v) s = .next s.begin.errorResponse := by
  simp [execPoolEnWrite, State.forReq, State.mayAccess]

/-- A write that leaves an enabled pool enabled changes nothing of its register (R233). -/
theorem writeXlbPool_enabled (hr : Spec.XLB_POOL_CFG.inRange v.toNat = true) (hen : s.fb (Fld.XLB_POOL_CFG_EN p) = true)
    (hv : bitAt v.toNat 31 = true) : (s.writeXlbPool p v).rd (Reg.XLB_POOL_CFG p) = s.rd (Reg.XLB_POOL_CFG p) := by
  have hold : bitAt (s.rd (Reg.XLB_POOL_CFG p)).toNat 31 = true := (poolEn_eq_bitAt s p).symm.trans hen
  simp only [State.writeXlbPool, hr, hold, poolEn_store, hv, if_true]
  rw [if_neg (by simp)]
  split <;> rfl

/-- A pool that is not enabled takes a write, unless the write enables it and it fails the checks (R232). -/
theorem writeXlbPool_disabled (hr : Spec.XLB_POOL_CFG.inRange v.toNat = true)
    (hen : s.fb (Fld.XLB_POOL_CFG_EN p) = false) :
    s.writeXlbPool p v =
      if bitAt ((s.store Spec.XLB_POOL_CFG [p] v.toNat).rd (Reg.XLB_POOL_CFG p)).toNat 31
          && !(s.store Spec.XLB_POOL_CFG [p] v.toNat).poolOk p then s.denied Spec.XLB_POOL_CFG
      else s.store Spec.XLB_POOL_CFG [p] v.toNat := by
  have hold : bitAt (s.rd (Reg.XLB_POOL_CFG p)).toNat 31 = false := (poolEn_eq_bitAt s p).symm.trans hen
  simp only [State.writeXlbPool, hr, hold, Bool.not_true, Bool.false_eq_true, if_false]

end

/-! ## Load-balancing commands (R256) -/

/-- The data words lie above the command and the status register. -/
theorem lbData_addr (w : Nat) : (Reg.XLB_LB_DATA w).addr = 0x904010 + 4 * w := by
  show 0x904010 + ((w - 0) * 4 + 0) = _
  omega

theorem lbData_setLbCmd (s : State) (op : Nat) (tgt : BitVec 2) (g i : BitVec 12) (w : Nat) :
    (s.setLbCmd op tgt g i).lbData w = s.lbData w := by
  have hne : (Spec.XLB_LB_CMD.at []).addr ≠ (Reg.XLB_LB_DATA w).addr := by
    rw [lbData_addr]
    exact Nat.ne_of_lt (Nat.lt_of_lt_of_le (by decide) (Nat.le_add_right _ _))
  rw [State.lbData, State.setLbCmd, rd_store_ne s _ hne, State.lbData]

@[simp] theorem setLbCmd_xlb (s : State) (op : Nat) (tgt : BitVec 2) (g i : BitVec 12) :
    (s.setLbCmd op tgt g i).xlb = s.xlb := store_xlb _ _ _ _

@[simp] theorem setLbCmd_aon (s : State) (op : Nat) (tgt : BitVec 2) (g i : BitVec 12) :
    (s.setLbCmd op tgt g i).aon = s.aon := store_aon _ _ _ _

@[simp] theorem setLbData_xlb (s : State) (ws : List Nat) : (s.setLbData ws).xlb = s.xlb :=
  List.foldlRecOn (motive := fun t : State => t.xlb = s.xlb) _ _ rfl fun t ht _ _ => (State.wr_xlb t _ _).trans ht

theorem lbDone_shows (s : State) : (s.done Fld.XLB_LB_STAT_DONE).fb Fld.XLB_LB_STAT_DONE = true :=
  fb_fs_one s (by decide) rfl

section
variable {s : State} (tgt : BitVec 2) (g i : BitVec 12)

theorem lbReason_busy (hb : s.fb Fld.XLB_LB_STAT_BUSY = true) (op : Nat) : s.lbReason op tgt g i = 4 := if_pos hb

variable (hb : s.fb Fld.XLB_LB_STAT_BUSY = false)
include hb

theorem lbReason_index {op : Nat} (ho : op ≠ 2) (hi : lbIndexOk tgt i = false) : s.lbReason op tgt g i = 1 := by
  simp [State.lbReason, hb, ho, hi]

theorem lbReason_read (hi : lbIndexOk tgt i = true) : s.lbReason 0 tgt g i = 0 := by
  simp [State.lbReason, hb, hi]

theorem lbReason_build : s.lbReason 2 tgt g i = 0 := by
  simp [State.lbReason, hb]

/-- A write of a member is turned down for a weight of 0 alone. -/
theorem lbReason_member {i : BitVec 12} (hi : i.toNat < 256) :
    s.lbReason 1 1 g i = if bitsOf (s.lbData 4) 15 8 = 0 then 3 else 0 := by
  simp [State.lbReason, hb, lbIndexOk, Nat.not_le.2 hi]

end

section
variable {s : State} {tgt : BitVec 2} {g i : BitVec 12}

/-- A command that has a reason against it shows that reason. -/
theorem lbGo_rejected {op n : Nat} (h : s.lbReason op tgt g i = n) (hn : n ≠ 0) :
    s.begin.lbGo op tgt g i = s.begin.lbReject n := by
  unfold State.lbGo
  rw [State.begin_lbReason, h]
  exact if_pos hn

theorem exec_lbRead_taken (h : s.lbReason 0 tgt g i = 0) :
    exec (.lbRead tgt g i) s = .next ((s.begin.setLbCmd 0 tgt g i).lbRead tgt g i) := by
  rw [exec_lbRead, execLbRead]
  unfold State.lbGo
  rw [State.begin_lbReason, h, if_neg (not_not_intro rfl)]
  rfl

theorem exec_lbWrite_taken (h : s.lbReason 1 tgt g i = 0) :
    exec (.lbWrite tgt g i) s = .next ((s.begin.setLbCmd 1 tgt g i).lbWrite tgt g i) := by
  rw [exec_lbWrite, execLbWrite]
  unfold State.lbGo
  rw [State.begin_lbReason, h, if_neg (not_not_intro rfl)]
  rfl

theorem exec_build_taken (h : s.lbReason 2 0 g 0 = 0) : exec (.build g) s = .next ((s.begin.setLbCmd 2 0 g 0).lbBuild g) := by
  rw [exec_build, execBuild]
  unfold State.lbGo
  rw [State.begin_lbReason, h, if_neg (not_not_intro rfl)]
  rfl

theorem exec_lbRead_rejected {n : Nat} (h : s.lbReason 0 tgt g i = n) (hn : n ≠ 0) :
    exec (.lbRead tgt g i) s = .next (s.begin.lbReject n) := by
  rw [exec_lbRead, execLbRead, lbGo_rejected h hn]

theorem exec_lbWrite_rejected {n : Nat} (h : s.lbReason 1 tgt g i = n) (hn : n ≠ 0) :
    exec (.lbWrite tgt g i) s = .next (s.begin.lbReject n) := by
  rw [exec_lbWrite, execLbWrite, lbGo_rejected h hn]

theorem exec_build_rejected {n : Nat} (h : s.lbReason 2 0 g 0 = n) (hn : n ≠ 0) :
    exec (.build g) s = .next (s.begin.lbReject n) := by
  rw [exec_build, execBuild, lbGo_rejected h hn]

end

/-- A read sets data words and DONE, and leaves the tables of the unit. -/
theorem lbRead_xlb (s : State) (tgt : BitVec 2) (g i : BitVec 12) : (s.lbRead tgt g i).xlb = s.xlb := by
  rw [State.lbRead, State.done, State.fs_xlb, setLbData_xlb]

/-- The member that the data words describe (R256). -/
def memberOfData (s : State) : LbMember :=
  { addr := s.lbData 0 * 2 ^ 96 + s.lbData 1 * 2 ^ 64 + s.lbData 2 * 2 ^ 32 + s.lbData 3
    port := bitsOf (s.lbData 4) 31 16, weight := bitsOf (s.lbData 4) 15 8, state := s.lbData 4 % 4
    nhop := s.lbData 5 % 65536 }

theorem memberOfData_setLbCmd (s : State) (op : Nat) (tgt : BitVec 2) (g i : BitVec 12) :
    memberOfData (s.setLbCmd op tgt g i) = memberOfData s := by
  simp only [memberOfData, lbData_setLbCmd]

/-- A write of a member sets its entry from the data words, and no other table of the unit. -/
theorem lbWrite_member (s : State) (g i : BitVec 12) : (s.lbWrite 1 g i).xlb =
    { s.xlb with members := s.xlb.members.put (g.toNat * 256 + i.toNat) {} (memberOfData s) } := rfl

theorem lbMember_lbWrite (s : State) (g i : BitVec 12) : (s.lbWrite 1 g i).lbMember g.toNat i.toNat = memberOfData s := by
  rw [State.lbMember, lbWrite_member]
  exact Table.get_put_self _ _ _ _

theorem lbBuild_busy (s : State) (g : BitVec 12) : (s.lbBuild g).fb Fld.XLB_LB_STAT_BUSY = true :=
  fb_fs_one _ (by decide) rfl

theorem lbBuild_building (s : State) (g : BitVec 12) : (s.lbBuild g).xlb.building = some (g.toNat, s.aon) := rfl

/-! ## The end of a BUILD (R248) -/

/-- The state of a BUILD that has ended: every slot is rewritten, and the unit is no longer busy. -/
def buildEnded (s : State) (g : Nat) : State :=
  let t := s.buildSlots g
  ({ t with xlb := { t.xlb with building := none } }.fs Fld.XLB_LB_STAT_BUSY 0).done Fld.XLB_LB_STAT_DONE

theorem buildEnded_xlb (s : State) (g : Nat) : (buildEnded s g).xlb = { (s.buildSlots g).xlb with building := none } := rfl

theorem buildEnded_busy (s : State) (g : Nat) : (buildEnded s g).fb Fld.XLB_LB_STAT_BUSY = false := by
  rw [State.fb, buildEnded, State.done, fg_fs_beside _ Fld.XLB_LB_STAT_DONE Fld.XLB_LB_STAT_BUSY 1 (by decide)]
  exact fb_fs_zero _ (by decide) rfl

/-- A BUILD ends 4,096 core clocks after its command. -/
theorem exec_buildComplete_building {s : State} {g since : Nat} (h : s.xlb.building = some (g, since)) :
    exec .buildComplete s =
      .next (if since * 50 + 4096 ≤ s.coreNow then buildEnded s.begin g else s.begin) := by
  simp only [exec_buildComplete, execBuildComplete, State.begin_xlb, State.begin_coreNow, h]
  exact (apply_ite Host.Outcome.next _ _ _).symm

/-! ## Mappings by their public endpoint (R257) -/

/-- What XLB_MAP_CMD shows: its data words, FOUND, and the read of one line. -/
def mapShown (s : State) (d0 d1 d2 d3 found : Nat) : State :=
  let put := fun (s : State) w (n : Nat) => s.wr (Reg.XLB_MAP_DATA w) (BitVec.ofNat 32 n)
  ((put (put (put (put s 0 d0) 1 d1) 2 d2) 3 d3).fs Fld.XLB_MAP_CMD_FOUND found).tableReads 1

section
variable (s : State) (d0 d1 d2 d3 found : Nat)

theorem mapShown_xlb : (mapShown s d0 d1 d2 d3 found).xlb = s.xlb := by
  rw [mapShown, (tableReads_sameXlb _ 1).1, State.fs_xlb, State.wr_xlb, State.wr_xlb, State.wr_xlb, State.wr_xlb]

theorem mapShown_found (b : Bool) : (mapShown s d0 d1 d2 d3 (ofBool b)).fb Fld.XLB_MAP_CMD_FOUND = b :=
  ((tableReads_sameXlb _ 1).fb (by decide) (by decide)).trans (fb_fs_ofBool _ (by decide) rfl b)

theorem mapShown_addr : (mapShown s d0 d1 d2 d3 found).rd (Reg.XLB_MAP_DATA 1) = BitVec.ofNat 32 d1 := by
  rw [mapShown, (tableReads_sameXlb _ 1).2 _ (by decide) (by decide), State.rd_fs_ne _ _ (by decide),
    State.rd_wr_ne _ _ (by decide), State.rd_wr_ne _ _ (by decide), State.rd_wr_self]

end

/-- A mapping as XLB_MAP_CMD shows it, with FOUND = 1. -/
def mappingShown (s : State) (m : Mapping) : State :=
  mapShown s (m.zone * 65536 + m.state * 4096 + m.proto) m.addr (m.port * 65536 + bitsOf m.refs 23 16) (bitsOf m.refs 15 0)
    (ofBool true)

/-- The command register is none that the hash of an endpoint reads. -/
theorem revFind_store (s : State) (v pub pport : Nat) :
    (s.store Spec.XLB_MAP_CMD [] v).revFind pub pport = s.revFind pub pport := by
  simp only [State.revFind, State.revBuckets, State.xlbHash, store_xlb]
  rw [rd_store_ne s v (by decide)]

/-- The state that has taken XLB_MAP_CMD. -/
def mapAsked (s : State) (free : Bool) (addr : BitVec 13) (pp : BitVec 16) : State :=
  s.store Spec.XLB_MAP_CMD [] (2 ^ 30 * ofBool free + addr.toNat * 65536 + pp.toNat)

section
variable {s : State} {addr : BitVec 13} {pp : BitVec 16} (free : Bool)

theorem mapAsked_xlb : (mapAsked s free addr pp).xlb = s.xlb := store_xlb _ _ _ _

/-- An endpoint without a mapping shows data words of 0, and FOUND = 0. -/
theorem mapCmd_none (h : s.revFind addr.toNat pp.toNat = none) :
    s.mapCmd free addr pp = mapShown (mapAsked s free addr pp) 0 0 0 0 (ofBool false) := by
  simp only [State.mapCmd, revFind_store, h]
  rfl

/-- An endpoint with a mapping shows it, and the mapping goes where FREE asks for it. -/
theorem mapCmd_some {k : Nat} {m : Mapping} (h : s.revFind addr.toNat pp.toNat = some (k, m)) :
    s.mapCmd free addr pp = if free then (mappingShown (mapAsked s free addr pp) m).freeMapping k m
      else mappingShown (mapAsked s free addr pp) m := by
  simp only [State.mapCmd, revFind_store, h]
  rfl

end

/-- Settles O45: one lemma for each way a pool's write, a load-balancing command or a lookup of an endpoint can be met. -/
theorem translationCommands : Obligations.TranslationCommands := by
  refine fun s tgt g i addr pp v p => ⟨fun hp hr hen hv => ⟨_, exec_poolEnWrite_kernel hp v, ?_⟩,
    fun hp hr hen => ⟨fun hok => ?_, fun hv hok => ?_⟩, exec_poolEnWrite_user s p false v,
    exec_xlbSweep s,
    fun hb => ⟨exec_lbRead_rejected (lbReason_busy _ _ _ hb 0) (by decide),
      exec_lbWrite_rejected (lbReason_busy _ _ _ hb 1) (by decide),
      exec_build_rejected (lbReason_busy _ _ _ hb 2) (by decide)⟩,
    fun hb hi => ⟨exec_lbRead_rejected (lbReason_index _ _ _ hb (by decide) hi) (by decide),
      exec_lbWrite_rejected (lbReason_index _ _ _ hb (by decide) hi) (by decide)⟩,
    fun hb ht => ?_, fun hb ht hi hw => ?_, fun hb ht hi hw => ?_,
    fun hb => ⟨_, exec_build_taken (lbReason_build _ _ _ hb), ?_, lbBuild_busy _ _⟩,
    fun gr since hg => ?_, fun hf => ⟨?_, ?_⟩, fun k m hf => ⟨?_, ?_⟩⟩
  · exact writeXlbPool_enabled (s := s.begin) hr hen hv
  · rw [exec_poolEnWrite_kernel hp, writeXlbPool_disabled (s := s.begin) hr hen, hok, Bool.not_true, Bool.and_false,
      if_neg Bool.false_ne_true]
  · rw [exec_poolEnWrite_kernel hp, writeXlbPool_disabled (s := s.begin) hr hen, hv, hok]
    rfl
  · subst ht
    exact ⟨_, exec_lbRead_taken (lbReason_read _ _ _ hb rfl), (lbRead_xlb _ _ _ _).trans (setLbCmd_xlb _ _ _ _ _),
      lbDone_shows _⟩
  · subst ht
    exact exec_lbWrite_rejected ((lbReason_member _ hb hi).trans (if_pos hw)) (by decide)
  · subst ht
    have hmember := lbMember_lbWrite (s.begin.setLbCmd 1 1 g i) g i
    rw [memberOfData_setLbCmd] at hmember
    exact ⟨_, exec_lbWrite_taken ((lbReason_member _ hb hi).trans (if_neg hw)), by rw [hmember]; rfl, by rw [hmember]; rfl,
      by rw [hmember]; rfl, by rw [lbWrite_member, setLbCmd_xlb, State.begin_xlb],
      by rw [lbWrite_member, setLbCmd_xlb, State.begin_xlb]⟩
  · rw [lbBuild_building, setLbCmd_aon, State.begin_aon]
  · rw [exec_buildComplete_building hg]
    exact ⟨fun hearly => by rw [if_neg (Nat.not_le.2 hearly)],
      fun hdue => ⟨_, by rw [if_pos hdue], by rw [buildEnded_xlb], by rw [buildEnded_xlb], buildEnded_busy _ _⟩⟩
  · rw [exec_mappingFind, execMappingFind, mapCmd_none (s := s.begin) false hf]
    exact ⟨_, rfl, mapShown_found .., (mapShown_xlb ..).trans (mapAsked_xlb _)⟩
  · rw [exec_mappingFree, execMappingFree, mapCmd_none (s := s.begin) true hf]
    exact ⟨_, rfl, mapShown_found .., (mapShown_xlb ..).trans (mapAsked_xlb _)⟩
  · rw [exec_mappingFind, execMappingFind, mapCmd_some (s := s.begin) false hf, if_neg Bool.false_ne_true]
    exact ⟨_, rfl, mapShown_found .., (mapShown_xlb ..).trans (mapAsked_xlb _), mapShown_addr ..⟩
  · rw [exec_mappingFree, execMappingFree, mapCmd_some (s := s.begin) true hf, if_pos rfl]
    exact ⟨mappingShown (mapAsked s.begin true addr pp) m, (mapShown_xlb ..).trans (mapAsked_xlb _), rfl⟩

end Sys2Proof.Translation

/-! # Forwarding tables (spec chapter 7)

The lookups of engines and cores, the forwarding commands and the flip of banks, then learning, ageing and the tables' walks.
The first part gives what the issue of an instruction and a package-memory access leave of what the forwarding unit reads. -/

namespace Sys2Proof.Forwarding

open Sys2Proof Sys2Proof.Machine Sys2Proof.Laws Sys2Proof.FrontPorts Sys2Proof.PacketLife Sys2Proof.ParsingAndRules
open Sys2Proof.Translation

/-! ## What counting and package memory leave of the forwarding unit (R203, R261, R563) -/

/-- The wraps of the event counters lie with the other counters, at 0x0120_0000 and above. -/
theorem rd_evc_low (s : State) (n k : Nat) {r : Reg} (h : r.addr < 0x1200000) : (s.evc n k).rd r = s.rd r := by
  have hw : (Reg.PMU_EVC_WRAP (n / 32)).addr ≠ r.addr :=
    Nat.ne_of_gt (Nat.lt_of_lt_of_le h (Nat.le_trans (by decide) (Nat.le_add_right _ _)))
  unfold State.evc
  extract_lets
  split
  · rfl
  · exact (rd_limited_low _ _ _ _ _ _ h).trans (State.rd_wr_ne _ _ hw)

/-- `t` has the tables of the forwarding unit of `s`, their active banks, the flow clock, and the registers of the tables' blocks:
none from 0x0050_0000 on below the counters' has changed. -/
def SameFwd (s t : State) : Prop :=
  t.fwd = s.fwd ∧ t.epochBank = s.epochBank ∧ t.fle = s.fle
    ∧ ∀ r : Reg, 0x500000 ≤ r.addr → r.addr < 0x1200000 → t.rd r = s.rd r

theorem SameFwd.refl (s : State) : SameFwd s s := ⟨rfl, rfl, rfl, fun _ _ _ => rfl⟩

theorem SameFwd.trans {s t u : State} (h : SameFwd s t) (k : SameFwd t u) : SameFwd s u :=
  ⟨k.1.trans h.1, k.2.1.trans h.2.1, k.2.2.1.trans h.2.2.1, fun r hlo hhi => (k.2.2.2 r hlo hhi).trans (h.2.2.2 r hlo hhi)⟩

theorem SameFwd.of_counts {s t : State} (hc : CountsOnly s t) (hr : ∀ r : Reg, r.addr < 0x1200000 → t.rd r = s.rd r) :
    SameFwd s t :=
  ⟨by rw [show t = _ from hc], by rw [show t = _ from hc], by rw [show t = _ from hc], fun r _ hhi => hr r hhi⟩

theorem begin_sameFwd (s : State) : SameFwd s s.begin := ⟨rfl, rfl, rfl, fun _ _ _ => rfl⟩

theorem setCtx_sameFwd (s : State) (k : Nat) (x : Ctx) : SameFwd s (s.setCtx k x) := ⟨rfl, rfl, rfl, fun _ _ _ => rfl⟩

theorem fs_sameFwd (s : State) {f : Fld} (n : Nat) (h : f.reg.addr < 0x500000) : SameFwd s (s.fs f n) :=
  ⟨rfl, rfl, rfl, fun _ hlo _ => State.rd_fs_ne s n (Nat.ne_of_lt (Nat.lt_of_lt_of_le h hlo))⟩

theorem evc_sameFwd (s : State) (n k : Nat) : SameFwd s (s.evc n k) :=
  .of_counts (evc_counts s n k) fun _ hr => rd_evc_low s n k hr

theorem fcCount_sameFwd (s : State) (e : PmuEvent) (n : Nat) : SameFwd s (s.fcCount e n) :=
  .of_counts (fcCount_counts s e n) fun _ hr => rd_fcCount_low s e n hr

theorem log_sameFwd (s : State) (code : Nat) (d : List Byte) (cs : List (List Byte)) : SameFwd s (s.log code d cs) :=
  .of_counts (log_counts s code d cs) fun _ hr => rd_log_low s code d cs hr

/-- A package-memory request counts, and may show in KTL_PWR_STAT that the memory has left self-refresh (R473). -/
theorem pmTouch_sameFwd (s : State) (share : Nat) (write : Bool) (n : Nat) (e : PmuEvent) :
    SameFwd s (s.pmTouch share write n e) := by
  unfold State.pmTouch
  split
  · exact .refl s
  · extract_lets _ s1 s2
    have hidle : SameFwd s s1 := ⟨rfl, rfl, rfl, fun _ _ _ => rfl⟩
    have hcount : SameFwd s s2 := hidle.trans ((evc_sameFwd _ _ _).trans (fcCount_sameFwd _ _ _))
    split
    · exact hcount.trans ((fs_sameFwd s2 0 (by decide)).trans (evc_sameFwd _ _ _))
    · exact hcount

theorem engineWaits_sameFwd (s : State) (slice eng c : Nat) (x : Ctx) : SameFwd s (engineWaits s slice eng c x) :=
  (begin_sameFwd s).trans ((setCtx_sameFwd _ _ _).trans ((evc_sameFwd _ _ _).trans ((evc_sameFwd _ _ _).trans
    ((fcCount_sameFwd _ _ _).trans (setCtx_sameFwd _ _ _)))))

theorem coreIssued_sameFwd (s : State) (c : Nat) : SameFwd s (coreIssued s c) := by
  have hcount : SameFwd s (s.begin.countCore c) := (begin_sameFwd s).trans (fcCount_sameFwd _ _ _)
  unfold coreIssued State.fetchCore
  split
  · exact hcount.trans (pmTouch_sameFwd _ _ _ _ _)
  · exact hcount

section
variable {s t : State} (h : SameFwd s t)
include h

theorem SameFwd.fg {f : Fld} (hlo : 0x500000 ≤ f.reg.addr) (hhi : f.reg.addr < 0x1200000) : t.fg f = s.fg f := by
  rw [State.fg, h.2.2.2 _ hlo hhi, State.fg]

theorem SameFwd.fwdHash (k : List Byte) : t.fwdHash k = s.fwdHash k := by
  rw [State.fwdHash, h.2.2.2 _ (by decide) (by decide), h.2.2.2 _ (by decide) (by decide), State.fwdHash]

theorem SameFwd.l2Find (bank vid mac : Nat) : t.l2Find bank vid mac = s.l2Find bank vid mac := by
  simp only [State.l2Find, State.l2Buckets, h.fwdHash, h.1]

theorem SameFwd.lpmBank (f bank : Nat) : t.lpmBank f bank = s.lpmBank f bank := by
  rw [State.lpmBank, h.1, State.lpmBank]

theorem SameFwd.lpmFind (f bank len addr : Nat) : t.lpmFind f bank len addr = s.lpmFind f bank len addr := by
  simp only [State.lpmFind, State.lpmBucketsOf, State.lpmHash, h.fwdHash, h.lpmBank]

theorem SameFwd.lpmCandidate (f bank addr len : Nat) : t.lpmCandidate f bank addr len = s.lpmCandidate f bank addr len := by
  simp only [State.lpmCandidate, State.lpmPos, State.lpmHash, h.fwdHash, h.lpmBank]

theorem SameFwd.lpmProbe (f bank addr len n : Nat) : t.lpmProbe f bank addr len n = s.lpmProbe f bank addr len n := by
  induction len generalizing n with
  | zero => rfl
  | succ len ih => simp only [State.lpmProbe, h.lpmCandidate, h.lpmFind, ih]

theorem SameFwd.nextHop (i : Nat) : t.nextHop i = s.nextHop i := by
  rw [State.nextHop, h.1, State.nextHop]

theorem SameFwd.ecmpWord (g hashHi hashLo : Nat) : t.ecmpWord g hashHi hashLo = s.ecmpWord g hashHi hashLo := by
  simp only [State.ecmpWord, h.1]

theorem SameFwd.curEpoch (n : Nat) : t.curEpoch n = s.curEpoch n := by
  have hreg : (curEpochFld n).reg = Reg.RUL_EPOCH_CTL ∨ (curEpochFld n).reg = Reg.FWD_EPOCH_CTL :=
    match n with
    | 0 => .inl rfl
    | 1 | 2 | 3 => .inr rfl
    | _ + 4 => .inl rfl
  rw [State.curEpoch, State.curEpoch]
  rcases hreg with hr | hr <;> exact h.fg (by rw [hr]; decide) (by rw [hr]; decide)

theorem SameFwd.lookupBank (n : Nat) (e : Option Epochs) : t.lookupBank n e = s.lookupBank n e := by
  cases e <;> simp only [State.lookupBank, State.bankOf, State.activeBank, h.curEpoch, h.2.1]

end

/-! ## What a lookup answers (R266, R276–R279) -/

/-- The word of what a search of L2 finds; `word` stands for `L2Entry.word`, whose numbers the kernel would unfold here. -/
theorem getD_map_word (o : Option (Nat × L2Entry)) (word : L2Entry → Nat) :
    (o.map fun x => word x.2).getD 0 = match o with | some h => word h.2 | none => 0 := by
  cases o <;> rfl

section
variable {s t : State} (hs : SameFwd s t) {q : Lookup} (hb : q.bad = none)
include hs hb

theorem lookL2_answers (hv : q.v < 2 ^ 60) : (t.lookL2 q).1 =
    some (match s.l2Find (s.lookupBank 0 q.epochs) (q.v / 2 ^ 48) (q.v % 2 ^ 48) with
      | some h => h.2.word | none => 0) := by
  rw [State.lookL2, if_pos hv, hb, ← hs.lookupBank, ← hs.l2Find]
  exact congrArg some (getD_map_word (t.l2Find (t.lookupBank 0 q.epochs) _ _) L2Entry.word)

theorem lookLpm4_found {e : LpmEntry} {n : Nat} (hv : q.v < 2 ^ 32)
    (hf : s.lpmProbe 0 (s.lookupBank 1 q.epochs) q.v 32 0 = .found e n) : (t.lookLpm4 q).1 = some (e.word n) := by
  rw [← hs.lookupBank, ← hs.lpmProbe] at hf
  rw [State.lookLpm4, if_pos hv, hb]
  show some _ = _
  rw [show t.lpmProbe 0 _ q.v (lpmBits 0) 0 = _ from hf]

/-- An address of IPv4 that none of the prefixes holds takes the default route, where there is one (R276). -/
theorem lookLpm4_none {n : Nat} (hv : q.v < 2 ^ 32) (hf : s.lpmProbe 0 (s.lookupBank 1 q.epochs) q.v 32 0 = .none n) :
    (t.lookLpm4 q).1 =
      some (match (s.lpmBank 0 (s.lookupBank 1 q.epochs)).dflt with | some e => e.word n | none => 0) := by
  rw [← hs.lookupBank, ← hs.lpmProbe] at hf
  rw [State.lookLpm4, if_pos hv, hb, ← hs.lookupBank, ← hs.lpmBank]
  show some _ = _
  rewrite [show t.lpmProbe 0 _ q.v (lpmBits 0) 0 = _ from hf]
  rfl

theorem lookLpm6_found {bs : List Byte} {e : LpmEntry} {n : Nat} (hw : q.bytes = some bs)
    (hf : s.lpmProbe 1 (s.lookupBank 2 q.epochs) (beNat bs) 128 0 = .found e n) : (t.lookLpm6 q).1 = some (e.word n) := by
  rw [← hs.lookupBank, ← hs.lpmProbe] at hf
  rw [State.lookLpm6, hw, hb]
  show some _ = _
  rw [show t.lpmProbe 1 _ (beNat bs) (lpmBits 1) 0 = _ from hf]

theorem lookNhop_answers (hv : q.v ≤ 65535) : (t.lookNhop q).1 = some (s.nextHop q.v).word := by
  rw [State.lookNhop, if_pos ⟨hv, hb⟩, hs.nextHop]

theorem lookEcmp_answers (hv : q.v ≤ 4095) : (t.lookEcmp q).1 = some (s.ecmpWord q.v (hashHi q.hash) (hashLo q.hash)) := by
  rw [State.lookEcmp, if_pos ⟨hv, hb⟩, hs.ecmpWord]

end

/-! ### Operands out of range -/

section
variable {s : State} {q : Lookup}

theorem lookL2_error (hv : 2 ^ 60 ≤ q.v) : s.lookL2 q = (none, s) := if_neg (Nat.not_lt.2 hv)

theorem lookLpm4_error (hv : 2 ^ 32 ≤ q.v) : s.lookLpm4 q = (none, s) := if_neg (Nat.not_lt.2 hv)

theorem lookLpm6_error (hv : q.bytes = none) : s.lookLpm6 q = (none, s) := by
  rw [State.lookLpm6, hv]

theorem lookNhop_error (hv : 65535 < q.v) : s.lookNhop q = (none, s) := by
  rw [State.lookNhop, if_neg fun h => Nat.not_le.2 hv h.1]

theorem lookEcmp_error (hv : 4095 < q.v) : s.lookEcmp q = (none, s) := by
  rw [State.lookEcmp, if_neg fun h => Nat.not_le.2 hv h.1]

end

/-! ## The lookups of an engine and of a core (R199, R214, R542) -/

/-- What a lookup of an engine is given: its operand, the epochs and the flow hash of its packet, and the bytes of its window. -/
def asked (s : State) (x : Ctx) (rs1 : BitVec 5) : Lookup :=
  { v := (x.reg rs1).toNat, epochs := some (s.pkt x.pid).epochs, hash := (s.pkt x.pid).head.hash,
    bytes := s.windowLoad x (x.reg rs1).toNat 16, bad := none }

theorem lookupOf_engineWaits (s : State) (slice eng c : Nat) (x : Ctx) (rs1 : BitVec 5) :
    (engineWaits s slice eng c x).lookupOf (issueWaits s x) none (x.reg rs1) = asked s x rs1 := by
  have hwindow : (engineWaits s slice eng c x).windowLoad (issueWaits s x) = s.windowLoad x := by
    funext a n
    simp only [State.windowLoad, issueWaits_pid, engineWaits_pkt, Ctx.copyBytes, issueWaits_copy]
    rw [issueWaits, issue, issues_only]
  rw [State.lookupOf, hwindow, issueWaits_pid, engineWaits_pkt, asked]

section
variable {s : State} {slice eng c : Nat} {x : Ctx} (h : EngineCan s slice eng c x) {fn : Nat}
  (hp : RomRuns (engineIssued s slice eng c x) slice 0x22 fn) {rd rs1 : BitVec 5}
  {f : Lookup → State → Option Nat × State}
include h hp

theorem lookupInstr_engine : s.begin.lookupInstr fn (.engine slice eng c .none) rd rs1 0 f =
    (unitLookup (issueWaits s x) (f (asked s x rs1) (engineWaits s slice eng c x))).commit s.begin (ctxKey slice eng c)
      rd := by
  rw [State.lookupInstr]
  show s.begin.unitInstr (.engine slice eng c .none) 0x22 fn rd rs1 0 false _ = _
  rw [unitInstr_waits h hp rfl, issueWaits_reg]
  show UnitResult.commit _ _ _ (unitLookup _ (f ((engineWaits s slice eng c x).lookupOf _ none _) _)) = _
  rw [lookupOf_engineWaits]

variable {i : Instr} (hi : exec i s = .next (s.begin.lookupInstr fn (.engine slice eng c .none) rd rs1 0 f))
include hi

/-- A lookup that answers commits its result. -/
theorem lookup_gives {n : Nat} (hn : (f (asked s x rs1) (engineWaits s slice eng c x)).1 = some n) :
    ∃ u, exec i s = .next u
      ∧ u.ctx? (ctxKey slice eng c) = some ((issueWaits s x).setReg rd (BitVec.ofNat 64 n)).advance := by
  rw [hi, lookupInstr_engine h hp]
  generalize f (asked s x rs1) (engineWaits s slice eng c x) = r at hn
  obtain ⟨_, t⟩ := r
  subst hn
  exact ⟨_, rfl, ctx?_setCtx_self _ _ _⟩

/-- A lookup whose operand is out of range is a unit error. -/
theorem lookup_faults (hn : f (asked s x rs1) (engineWaits s slice eng c x) = (none, engineWaits s slice eng c x)) :
    exec i s = .next ((engineWaits s slice eng c x).raise (ctxKey slice eng c) 6) := by
  rw [hi, lookupInstr_engine h hp, hn]
  rfl

end

@[simp] theorem core_modCore_self (s : State) (c : Nat) (f : Core → Core) : (s.modCore c f).core c = f (s.core c) :=
  Table.get_put_self _ _ _ _

/-- What a lookup of a core is given: its operand, the flow hash of its context, and the bytes at its address; it reads the active
banks. -/
def coreAsked (s : State) (c : Nat) (rs1 : BitVec 5) (bytes : Option (List Byte)) : Lookup :=
  { v := ((s.core c).reg rs1.toNat).toNat, epochs := none, hash := (s.core c).hash.toNat, bytes := bytes, bad := none }

/-- A lookup of a core that answers `n` holds its context in STALL with that result to come (R542). -/
theorem lookup_waits {s : State} {c : Nat} (h : CoreCan s c) {fn n : Nat} {rd rs1 : BitVec 5}
    {f : Lookup → State → Option Nat × State} {i : Instr}
    (hi : exec i s = .next (s.begin.lookupInstr fn (.core c .none) rd rs1 0 f)) (hf : ∀ q t, (f q t).2 = t)
    (hn : ∀ bytes, (f (coreAsked s c rs1 bytes) (coreIssued s c)).1 = some n) :
    ∃ t, exec i s = .next t ∧ (t.core c).state = 4 ∧ (t.core c).wait = .lookup (BitVec.ofNat 64 n)
      ∧ (t.core c).rd = rd.toNat ∧ (t.core c).ia = (s.core c).ia := by
  have hanswer (bytes) : f (coreAsked s c rs1 bytes) (coreIssued s c) = (some n, coreIssued s c) := Prod.ext (hn bytes) (hf _ _)
  have hstall : s.begin.lookupInstr fn (.core c .none) rd rs1 0 f =
      (coreIssued s c).stall c rd 4 (.lookup (BitVec.ofNat 64 n)) := by
    simp only [State.lookupInstr, runCore_of_can h]
    rw [if_neg (not_not_intro rfl)]
    exact congrArg (fun r : Option Nat × State => match r with
      | (some n, s) => s.stall c rd 4 (.lookup (BitVec.ofNat 64 n))
      | (none, s) => s.coreFault c 6 none) (hanswer _)
  rw [hi, hstall]
  refine ⟨_, rfl, ?_⟩
  rw [State.stall, core_modCore_self, coreIssued_core]
  exact ⟨rfl, rfl, rfl, rfl⟩

/-- Settles O16: on an engine a lookup commits what its table answers, or is a unit error; on a core its context waits. -/
theorem tableLookups : Obligations.TableLookups := by
  constructor
  · intro rd rs1 s slice eng c x h k p v gives t faults a
    have hs : SameFwd s (engineWaits s slice eng c x) := engineWaits_sameFwd s slice eng c x
    exact ⟨fun hv hp => lookup_gives h hp (exec_l2 s _ _ _ _) (lookL2_answers hs (q := asked s x rs1) rfl hv),
      fun hv hp => lookup_faults h hp (exec_l2 s _ _ _ _) (lookL2_error hv),
      fun e n hv hf hp => lookup_gives h hp (exec_lpm4 s _ _ _ _) (lookLpm4_found hs rfl hv hf),
      fun n hv hf hp => lookup_gives h hp (exec_lpm4 s _ _ _ _) (lookLpm4_none hs (q := asked s x rs1) rfl hv hf),
      fun hv hp => lookup_faults h hp (exec_lpm4 s _ _ _ _) (lookLpm4_error hv),
      fun bs e n hw hf hp => lookup_gives h hp (exec_lpm6 s _ _ _ _) (lookLpm6_found hs rfl hw hf),
      fun hw hp => lookup_faults h hp (exec_lpm6 s _ _ _ _) (lookLpm6_error hw),
      fun hv hp => lookup_gives h hp (exec_nhop s _ _ _ _) (lookNhop_answers hs rfl hv),
      fun hv hp => lookup_faults h hp (exec_nhop s _ _ _ _) (lookNhop_error hv),
      fun hv hp => lookup_gives h hp (exec_ecmp s _ _ _ _) (lookEcmp_answers hs rfl hv),
      fun hv hp => lookup_faults h hp (exec_ecmp s _ _ _ _) (lookEcmp_error hv)⟩
  · intro rd rs1 s c h x v waits a
    have hs : SameFwd s (coreIssued s c) := coreIssued_sameFwd s c
    exact ⟨fun hv => lookup_waits h (exec_nhop s _ _ _ _) (fun _ _ => rfl) fun bytes => lookNhop_answers hs rfl hv,
      fun hv => lookup_waits h (exec_ecmp s _ _ _ _) (fun _ _ => rfl) fun bytes => lookEcmp_answers hs rfl hv⟩

/-! ## The forwarding commands (R283, R284, R289) -/

/-- What a command does once it is taken, by its OP (R283). -/
def fwdRun (t : State) (op table bank index : Nat) : State :=
  match op with
  | 0 => t.fwdSearch table bank
  | 1 => t.fwdNext table bank index
  | 2 => t.fwdInsert table bank index
  | 3 => t.fwdDelete table bank
  | 4 => t.fwdStartFlush table bank
  | 5 => t.fwdStartCopy table
  | _ => t.fwdRead table index

/-- The state in which a command that is taken runs: its word is stored (R289). -/
def fwdAsked (s : State) (op : Nat) (tb : BitVec 3) (bank : BitVec 2) (i : BitVec 21) : State :=
  s.store Spec.FWD_CMD [] (op * 2 ^ 28 + tb.toNat * 2 ^ 25 + bank.toNat * 2 ^ 23 + i.toNat)

section
variable {s : State} {op : Nat} {tb : BitVec 3} {bank : BitVec 2} {i : BitVec 21}

theorem fwdCommand_denied (h : 4 < tb.toNat ∨ bank = 3) (bad : List (Nat × Nat × Nat)) :
    s.fwdCommand op tb bank i bad = s.denied Spec.FWD_CMD := if_pos (.inr h)

variable (ho : op < 7) (ht : tb.toNat ≤ 4) (hbank : bank ≠ 3)
include ho ht hbank

theorem fwdCommand_legal : ¬(op = 7 ∨ 4 < tb.toNat ∨ bank = 3) := by
  rintro (h | h | h)
  · omega
  · omega
  · exact hbank h

theorem fwdCommand_busy (hb : s.fb Fld.FWD_CMD_STAT_BUSY = true) (bad : List (Nat × Nat × Nat)) :
    s.fwdCommand op tb bank i bad = s.fs Fld.FWD_CMD_STAT_STATUS 7 := by
  rw [State.fwdCommand, if_neg (fwdCommand_legal ho ht hbank), if_pos hb]

theorem fwdCommand_taken (hb : s.fb Fld.FWD_CMD_STAT_BUSY = false) :
    s.fwdCommand op tb bank i [] = fwdRun (fwdAsked s op tb bank i) op tb.toNat bank.toNat i.toNat := by
  have hlost (t : State) (c : Prop) [Decidable c] (banks : List Nat) : (if c then t.loseLines tb.toNat banks [] else t) = t :=
    ite_self t
  rw [State.fwdCommand, if_neg (fwdCommand_legal ho ht hbank), if_neg (ne_true_of_eq_false hb)]
  simp only [hlost]
  rfl

end

/-! ### What a command shows -/

section
variable (s : State) (n : Nat)

theorem fwdDone_status : (s.fwdDone n).fg Fld.FWD_CMD_STAT_STATUS = n % 16 :=
  (fg_fs_beside _ _ _ _ (by decide)).trans (State.fg_fs_self _ _ _ (by decide))

theorem fwdDone_done : (s.fwdDone n).fb Fld.FWD_CMD_STAT_DONE = true := fb_fs_one _ (by decide) rfl

theorem fwdDone_busy : (s.fwdDone n).fb Fld.FWD_CMD_STAT_BUSY = false := by
  have hbeside (t : State) (f : Fld) (m : Nat) (h : f.reg = Reg.FWD_CMD_STAT ∧ f.lo ≤ f.hi + 1 ∧ 0 < f.lo) :
      (t.fs f m).fb Fld.FWD_CMD_STAT_BUSY = t.fb Fld.FWD_CMD_STAT_BUSY := by
    obtain ⟨hreg, hbits, hlo⟩ := h
    rw [State.fb, fg_fs_apart t m hreg.symm (by decide) hbits (.inr hlo), State.fb]
  rw [State.fwdDone, hbeside _ _ _ (by decide), hbeside _ _ _ (by decide)]
  exact fb_fs_zero s (by decide) rfl

@[simp] theorem fwdDone_fwd : (s.fwdDone n).fwd = s.fwd := rfl

end

@[simp] theorem begin_fwd (s : State) : s.begin.fwd = s.fwd := rfl

/-- The data words lie above the registers of the commands. -/
theorem fwdDataReg_addr (w : Nat) : (Reg.FWD_CMD_DATA w).addr = 0xA80100 + 4 * w := by
  show 0xA80100 + ((w - 0) * 4 + 0) = _
  omega

section
variable {s : State} {op : Nat} {tb : BitVec 3} {bank : BitVec 2} {i : BitVec 21}

@[simp] theorem fwdAsked_fwd : (fwdAsked s op tb bank i).fwd = s.fwd := State.wr_fwd _ _ _

theorem rd_fwdAsked {r : Reg} (h : Reg.FWD_CMD.addr ≠ r.addr) : (fwdAsked s op tb bank i).rd r = s.rd r := rd_store_ne s _ h

@[simp] theorem rd_fwdAsked_data (w : Nat) :
    (fwdAsked s op tb bank i).rd (Reg.FWD_CMD_DATA w) = s.rd (Reg.FWD_CMD_DATA w) :=
  have hcmd : Reg.FWD_CMD.addr = 0xA80020 := rfl
  rd_fwdAsked (by rw [fwdDataReg_addr, hcmd]; omega)

@[simp] theorem fwdData_fwdAsked : (fwdAsked s op tb bank i).fwdData = s.fwdData := by
  simp only [State.fwdData, rd_fwdAsked_data]

@[simp] theorem oldLive_fwdAsked (n : Nat) : (fwdAsked s op tb bank i).oldLive n = s.oldLive n := by
  have hrul : (fwdAsked s op tb bank i).fb Fld.RUL_EPOCH_CTL_OLD_LIVE = s.fb Fld.RUL_EPOCH_CTL_OLD_LIVE := by
    rw [State.fb, State.fg, rd_fwdAsked (by decide), State.fb, State.fg]
  have hfwd (k : Nat) : (fwdAsked s op tb bank i).fbit Fld.FWD_EPOCH_CTL_OLD_LIVE k = s.fbit Fld.FWD_EPOCH_CTL_OLD_LIVE k := by
    rw [State.fbit, State.fg, rd_fwdAsked (by decide), State.fbit, State.fg]
  rw [State.oldLive, hrul, hfwd, State.oldLive]

end

/-- The state with other tables of the forwarding unit. -/
def setFwd (s : State) (f : FwdState) : State := { s with fwd := f }

@[simp] theorem setFwd_fwd (s : State) (f : FwdState) : (setFwd s f).fwd = f := rfl

/-- An insertion into the next hops puts the entry in the data words (R278, R284). -/
theorem fwdInsert_nextHop {s : State} {bank index : Nat} (hi : index < 65536) (hp : (nextHopOf s.fwdData).port ≤ 66)
    (hv : (nextHopOf s.fwdData).vid < 4096) : s.fwdInsert 3 bank index =
      (setFwd s { s.fwd with nhops := s.fwd.nhops.put index {} (nextHopOf s.fwdData) }).fwdDone 0 := by
  have hok : ¬(65536 ≤ index ∨ 66 < (nextHopOf s.fwdData).port ∨ 4096 ≤ (nextHopOf s.fwdData).vid) := by omega
  rw [State.fwdInsert, if_pos rfl]
  exact if_neg hok

/-- A flush of a table of prefixes starts unless the old epoch of the table is live (R272, R283). -/
theorem fwdStartFlush_starts {s : State} {t bank : Nat} (h1 : 1 ≤ t) (h2 : t ≤ 2) (ho : s.oldLive (epochTable t) = false) :
    s.fwdStartFlush t bank =
      (setFwd s { s.fwd with flushing := some (t, (s.rd (Reg.FWD_CMD_DATA 0)).toNat, bank == 1) }).fs
        Fld.FWD_CMD_STAT_BUSY 1 := by
  rw [State.fwdStartFlush]
  exact (if_neg (by omega)).trans (if_neg (ne_true_of_eq_false ho))

theorem fwdStartCopy_starts {s : State} {t : Nat} (h2 : t ≤ 2) (ho : s.oldLive (epochTable t) = false) :
    s.fwdStartCopy t = (setFwd s { s.fwd with copying := some t, copied := [] }).fs Fld.FWD_CMD_STAT_BUSY 1 := by
  rw [State.fwdStartCopy, if_neg (Nat.not_lt.2 h2), ho, if_neg Bool.false_ne_true, setFwd]

theorem fwdStartCopy_old {s : State} {t : Nat} (h2 : t ≤ 2) (ho : s.oldLive (epochTable t) = true) :
    s.fwdStartCopy t = s.fwdDone 5 := by
  rw [State.fwdStartCopy, if_neg (Nat.not_lt.2 h2), ho, if_pos rfl]

theorem fwdRead_nextHop {s : State} {i : Nat} (hi : i < 65536) :
    s.fwdRead 3 i = (s.setFwdData (s.nextHop i).bytes).fwdDone 0 := if_pos ⟨rfl, hi⟩

@[simp] theorem setFwdData_fwd (s : State) (bs : List Byte) : (s.setFwdData bs).fwd = s.fwd :=
  List.foldlRecOn (motive := fun t : State => t.fwd = s.fwd) _ _ rfl fun t ht _ _ => (State.wr_fwd t _ _).trans ht

section
variable {s : State} {tb : BitVec 3} {bank : BitVec 2} {i : BitVec 21}

/-- The forwarding commands, each with its OP (R283). -/
theorem exec_fwdCommand {bad : List (Nat × Nat × Nat)} {e : Instr} (he : e ∈ ([.search tb bank i bad, .next tb bank i bad,
      .insert tb bank i bad, .delete tb bank i bad, .fwdFlush tb bank i, .fwdCopy tb bank i, .fwdRead tb bank i] : List Instr)) :
    ∃ op < 7, ∃ lost, exec e s = .next (s.begin.fwdCommand op tb bank i lost) := by
  simp only [List.mem_cons, List.not_mem_nil, or_false] at he
  rcases he with rfl | rfl | rfl | rfl | rfl | rfl | rfl
  · exact ⟨0, by decide, _, rfl⟩
  · exact ⟨1, by decide, _, rfl⟩
  · exact ⟨2, by decide, _, rfl⟩
  · exact ⟨3, by decide, _, rfl⟩
  · exact ⟨4, by decide, _, rfl⟩
  · exact ⟨5, by decide, _, rfl⟩
  · exact ⟨6, by decide, _, rfl⟩

end

section
variable {s : State} {tb : BitVec 3} {bank : BitVec 2} {i : BitVec 21} (ht : tb.toNat ≤ 4) (hbank : bank ≠ 3)
  (hb : s.fb Fld.FWD_CMD_STAT_BUSY = false)
include ht hbank hb

/-! ### Each command that is taken -/

theorem exec_search_taken :
    exec (.search tb bank i []) s = .next ((fwdAsked s.begin 0 tb bank i).fwdSearch tb.toNat bank.toNat) :=
  congrArg Host.Outcome.next (fwdCommand_taken (s := s.begin) (op := 0) (by decide) ht hbank hb)

theorem exec_next_taken :
    exec (.next tb bank i []) s = .next ((fwdAsked s.begin 1 tb bank i).fwdNext tb.toNat bank.toNat i.toNat) :=
  congrArg Host.Outcome.next (fwdCommand_taken (s := s.begin) (op := 1) (by decide) ht hbank hb)

theorem exec_insert_taken :
    exec (.insert tb bank i []) s = .next ((fwdAsked s.begin 2 tb bank i).fwdInsert tb.toNat bank.toNat i.toNat) :=
  congrArg Host.Outcome.next (fwdCommand_taken (s := s.begin) (op := 2) (by decide) ht hbank hb)

theorem exec_delete_taken :
    exec (.delete tb bank i []) s = .next ((fwdAsked s.begin 3 tb bank i).fwdDelete tb.toNat bank.toNat) :=
  congrArg Host.Outcome.next (fwdCommand_taken (s := s.begin) (op := 3) (by decide) ht hbank hb)

theorem exec_fwdFlush_taken :
    exec (.fwdFlush tb bank i) s = .next ((fwdAsked s.begin 4 tb bank i).fwdStartFlush tb.toNat bank.toNat) :=
  congrArg Host.Outcome.next (fwdCommand_taken (s := s.begin) (op := 4) (by decide) ht hbank hb)

theorem exec_fwdCopy_taken : exec (.fwdCopy tb bank i) s = .next ((fwdAsked s.begin 5 tb bank i).fwdStartCopy tb.toNat) :=
  congrArg Host.Outcome.next (fwdCommand_taken (s := s.begin) (op := 5) (by decide) ht hbank hb)

theorem exec_fwdRead_taken :
    exec (.fwdRead tb bank i) s = .next ((fwdAsked s.begin 6 tb bank i).fwdRead tb.toNat i.toNat) :=
  congrArg Host.Outcome.next (fwdCommand_taken (s := s.begin) (op := 6) (by decide) ht hbank hb)

theorem exec_insert_nextHop (h3 : tb = 3) (hi : i.toNat < 65536) (hp : (nextHopOf s.fwdData).port ≤ 66)
    (hv : (nextHopOf s.fwdData).vid < 4096) : ∃ t, exec (.insert tb bank i []) s = .next t
      ∧ t.nextHop i.toNat = nextHopOf s.fwdData ∧ t.fg Fld.FWD_CMD_STAT_STATUS = 0 ∧ t.fb Fld.FWD_CMD_STAT_DONE = true := by
  have hdata : (fwdAsked s.begin 2 tb bank i).fwdData = s.fwdData := fwdData_fwdAsked
  rw [exec_insert_taken ht hbank hb, show tb.toNat = 3 by rw [h3]; rfl, fwdInsert_nextHop hi (by rwa [hdata]) (by rwa [hdata])]
  refine ⟨_, rfl, ?_, fwdDone_status _ 0, fwdDone_done _ 0⟩
  rw [State.nextHop, fwdDone_fwd, setFwd_fwd, hdata]
  exact Table.get_put_self _ _ _ _

theorem exec_fwdFlush_lpm (h1 : 1 ≤ tb.toNat) (h2 : tb.toNat ≤ 2) (ho : s.oldLive (epochTable tb.toNat) = false) :
    ∃ t, exec (.fwdFlush tb bank i) s = .next t ∧ t.fb Fld.FWD_CMD_STAT_BUSY = true
      ∧ t.fwd.flushing = some (tb.toNat, (s.rd (Reg.FWD_CMD_DATA 0)).toNat, bank == 1) := by
  have hone : (bank.toNat == 1) = (bank == 1) := by revert bank; decide
  rw [exec_fwdFlush_taken ht hbank hb, fwdStartFlush_starts h1 h2 ((oldLive_fwdAsked (s := s.begin) _).trans ho)]
  exact ⟨_, rfl, fb_fs_one _ (by decide) rfl, by rw [State.fs_fwd, setFwd_fwd, rd_fwdAsked_data, hone, State.begin_rd]⟩

theorem exec_fwdCopy_starts (h2 : tb.toNat ≤ 2) (ho : s.oldLive (epochTable tb.toNat) = false) :
    ∃ t, exec (.fwdCopy tb bank i) s = .next t ∧ t.fb Fld.FWD_CMD_STAT_BUSY = true ∧ t.fwd.copying = some tb.toNat := by
  rw [exec_fwdCopy_taken ht hbank hb, fwdStartCopy_starts h2 ((oldLive_fwdAsked (s := s.begin) _).trans ho)]
  exact ⟨_, rfl, fb_fs_one _ (by decide) rfl, by rw [State.fs_fwd, setFwd_fwd]⟩

/-- A copy into a shadow whose old epoch is live is refused with status 5. -/
theorem exec_fwdCopy_old (h2 : tb.toNat ≤ 2) (ho : s.oldLive (epochTable tb.toNat) = true) :
    ∃ t, exec (.fwdCopy tb bank i) s = .next t ∧ t.fg Fld.FWD_CMD_STAT_STATUS = 5 ∧ t.fwd.copying = s.fwd.copying := by
  rw [exec_fwdCopy_taken ht hbank hb, fwdStartCopy_old h2 ((oldLive_fwdAsked (s := s.begin) _).trans ho)]
  exact ⟨_, rfl, fwdDone_status _ 5, by rw [fwdDone_fwd, fwdAsked_fwd, begin_fwd]⟩

theorem exec_fwdRead_nextHop (h3 : tb = 3) (hi : i.toNat < 65536) :
    ∃ t, exec (.fwdRead tb bank i) s = .next t ∧ t.fg Fld.FWD_CMD_STAT_STATUS = 0 ∧ t.fwd = s.fwd := by
  rw [exec_fwdRead_taken ht hbank hb, show tb.toNat = 3 by rw [h3]; rfl, fwdRead_nextHop hi]
  exact ⟨_, rfl, fwdDone_status _ 0, by rw [fwdDone_fwd, setFwdData_fwd, fwdAsked_fwd, begin_fwd]⟩

end

/-! ## Flip (R263, R264) -/

/-- A field of FWD_EPOCH_CTL keeps its value as another one is set. -/
theorem fg_epochCtl_beside (s : State) {f g : Fld} (n : Nat)
    (h : f.reg = Reg.FWD_EPOCH_CTL ∧ g.reg = Reg.FWD_EPOCH_CTL ∧ g.hi < 32 ∧ f.lo ≤ f.hi + 1
      ∧ (f.hi < g.lo ∨ g.hi < f.lo)) :
    (s.fs f n).fg g = s.fg g :=
  let ⟨hf, hg, hrest⟩ := h
  fg_fs_beside s f g n ⟨hg.trans hf.symm, hrest⟩

theorem oldLive_fwd (s : State) {e : Nat} (h : e ≠ 0) : s.oldLive e = bitAt (s.fg Fld.FWD_EPOCH_CTL_OLD_LIVE) (3 - e) :=
  if_neg h

theorem oldLive_tables (s : State) (n t : Nat) :
    (s.fs Fld.FWD_EPOCH_CTL_TABLES n).oldLive (epochTable t) = s.oldLive (epochTable t) := by
  have he : epochTable t ≠ 0 := Nat.succ_ne_zero t
  rw [oldLive_fwd _ he, oldLive_fwd _ he, fg_epochCtl_beside _ _ (by decide)]

theorem flipBlocked_tables (s : State) (n : Nat) : (s.fs Fld.FWD_EPOCH_CTL_TABLES n).flipBlocked = s.flipBlocked := by
  funext t
  rw [State.flipBlocked, oldLive_tables, State.fs_fwd, State.flipBlocked]

/-- The tables that the TABLES bits name (R264). -/
def namedTables (tables : Nat) : List Nat := [0, 1, 2].filter fun t => bitAt tables (2 - t)

theorem namedTables_nodup (tables : Nat) : (namedTables tables).Nodup := .filter _ (by decide)

theorem namedTables_lt {tables n : Nat} (h : n ∈ namedTables tables) : n < 3 := by
  have hthree : ∀ t ∈ [0, 1, 2], t < 3 := by decide
  exact hthree n (List.mem_filter.1 h).1

/-- The current epochs of the forwarding tables lie apart from each other, in the low half of their register (R288). -/
theorem curEpochFld_apart : ∀ t < 3, ∀ n < 3, t ≠ n →
    (curEpochFld (epochTable t)).reg = Reg.FWD_EPOCH_CTL ∧ (curEpochFld (epochTable n)).reg = Reg.FWD_EPOCH_CTL
      ∧ (curEpochFld (epochTable n)).hi < 32 ∧ (curEpochFld (epochTable t)).lo ≤ (curEpochFld (epochTable t)).hi + 1
      ∧ ((curEpochFld (epochTable t)).hi < (curEpochFld (epochTable n)).lo
        ∨ (curEpochFld (epochTable n)).hi < (curEpochFld (epochTable t)).lo) := by decide

theorem curEpochFld_low : ∀ n < 3, (curEpochFld (epochTable n)).reg = Reg.FWD_EPOCH_CTL
    ∧ (curEpochFld (epochTable n)).hi < 16 ∧ (curEpochFld (epochTable n)).hi = (curEpochFld (epochTable n)).lo + 3 := by
  decide

/-- The fields above the current epochs leave them alone. -/
theorem curEpoch_fs_high (s : State) {f : Fld} (hf : f.reg = Reg.FWD_EPOCH_CTL ∧ f.lo ≤ f.hi + 1 ∧ 16 ≤ f.lo) (m : Nat)
    {n : Nat} (hn : n < 3) : (s.fs f m).curEpoch (epochTable n) = s.curEpoch (epochTable n) := by
  obtain ⟨hreg, hbits, hlo⟩ := hf
  obtain ⟨hr, hhi, -⟩ := curEpochFld_low n hn
  exact fg_epochCtl_beside s m ⟨hreg, hr, by omega, hbits, .inr (by omega)⟩

/-- The end of a flip of one table: an old epoch without packets is released at once, another one is live. -/
def flipEnded (s : State) (e refs : Nat) : State := if refs = 0 then s.log 0x0A06 else s.setOldLive e true

/-- A flip of one table up to its end: the next epoch, in the other bank (R263). -/
def flipBegun (s : State) (e : Nat) : State :=
  let t := s.fs (curEpochFld e) ((s.curEpoch e + 1) % 16)
  let t := { t with epochBank := t.epochBank.put e 0 (1 - t.epochBank.get e 0) }
  (t.setEpochRef e 1 (s.epochRef e 0)).setEpochRef e 0 0

theorem flipOne_eq (s : State) (t : Nat) :
    s.flipOne t = flipEnded (flipBegun s (epochTable t)) (epochTable t) (s.epochRef (epochTable t) 0) := rfl

section
variable (s : State) (t refs n : Nat)

theorem activeBank_flipEnded : (flipEnded s (epochTable t) refs).activeBank n = s.activeBank n := by
  have he : epochTable t ≠ 0 := Nat.succ_ne_zero t
  rw [flipEnded, State.setOldLive, if_neg he, State.fsbit, State.activeBank, State.activeBank]
  split
  · rw [log_epochBank]
  · rw [State.fs_epochBank]

theorem activeBank_flipOne : (s.flipOne t).activeBank n = if t = n then 1 - s.activeBank t else s.activeBank n := by
  rw [flipOne_eq, activeBank_flipEnded]
  exact (Table.get_put _ _ _ _ _).trans (by simp only [epochTable, Nat.add_right_cancel_iff]; rfl)

variable {t n} (ht : t < 3) (hn : n < 3)
include hn

theorem curEpoch_flipEnded : (flipEnded s (epochTable t) refs).curEpoch (epochTable n) = s.curEpoch (epochTable n) := by
  have he : epochTable t ≠ 0 := Nat.succ_ne_zero t
  rw [flipEnded, State.setOldLive, if_neg he, State.fsbit]
  split
  · exact (log_sameFwd s _ _ _).curEpoch _
  · exact curEpoch_fs_high s (by decide) _ hn

include ht

theorem curEpoch_flipOne : (s.flipOne t).curEpoch (epochTable n) =
    if t = n then (s.curEpoch (epochTable t) + 1) % 16 else s.curEpoch (epochTable n) := by
  rw [flipOne_eq, curEpoch_flipEnded _ _ hn]
  show (s.fs (curEpochFld (epochTable t)) ((s.curEpoch (epochTable t) + 1) % 16)).fg (curEpochFld (epochTable n)) = _
  split
  · next h =>
    subst h
    obtain ⟨-, hhi, hwidth⟩ := curEpochFld_low t ht
    rw [State.fg_fs_self _ _ _ (by omega), hwidth, show (curEpochFld (epochTable t)).lo + 3 + 1 - (curEpochFld (epochTable t)).lo
      = 4 by omega]
    exact Nat.mod_mod _ 16
  · next h => exact fg_epochCtl_beside s _ (curEpochFld_apart t ht n hn h)

end

section
variable (ts : List Nat) (hts : ts.Nodup) (s : State) (n : Nat)
include hts

/-- A flip of several tables changes the bank of each of them once. -/
theorem activeBank_foldl_flipOne :
    (ts.foldl State.flipOne s).activeBank n = if n ∈ ts then 1 - s.activeBank n else s.activeBank n := by
  induction ts generalizing s with
  | nil => rfl
  | cons t ts ih =>
    obtain ⟨hout, hrest⟩ := List.nodup_cons.1 hts
    rw [List.foldl_cons, ih hrest, activeBank_flipOne]
    by_cases h : t = n
    · subst h
      simp [hout]
    · simp [h, Ne.symm h]

theorem curEpoch_foldl_flipOne (hle : ∀ t ∈ ts, t < 3) (hn : n < 3) : (ts.foldl State.flipOne s).curEpoch (epochTable n) =
    if n ∈ ts then (s.curEpoch (epochTable n) + 1) % 16 else s.curEpoch (epochTable n) := by
  induction ts generalizing s with
  | nil => rfl
  | cons t ts ih =>
    obtain ⟨hout, hrest⟩ := List.nodup_cons.1 hts
    obtain ⟨ht, htail⟩ := List.forall_mem_cons.1 hle
    rw [List.foldl_cons, ih hrest _ htail, curEpoch_flipOne _ ht hn]
    by_cases h : t = n
    · subst h
      simp [hout]
    · simp [h, Ne.symm h]

end

/-- The state in which the tables that TABLES names flip: the bits stand, and event 0x0A03 is logged (R263). -/
def flipLogged (s : State) (tables : Nat) : State := (s.fs Fld.FWD_EPOCH_CTL_TABLES tables).log 0x0A03 (d1 tables)

theorem activeBank_flipLogged (s : State) (tables n : Nat) : (flipLogged s tables).activeBank n = s.activeBank n := by
  rw [State.activeBank, flipLogged, log_epochBank, State.fs_epochBank, State.activeBank]

theorem curEpoch_flipLogged (s : State) (tables : Nat) {n : Nat} (hn : n < 3) :
    (flipLogged s tables).curEpoch (epochTable n) = s.curEpoch (epochTable n) := by
  rw [flipLogged, (log_sameFwd _ _ _ _).curEpoch, curEpoch_fs_high s (by decide) _ hn]

section
variable {s : State} {tables : BitVec 3}

theorem exec_flip_blocked (h : (namedTables tables.toNat).any s.flipBlocked = true) : exec (.flip tables) s =
    .next (((s.begin.fs Fld.FWD_EPOCH_CTL_TABLES tables.toNat).fs Fld.FWD_EPOCH_CTL_FLIP_REFUSED 1).log 0x0A05) := by
  rw [exec_flip, execFlip, State.fwdFlip, flipBlocked_tables]
  exact congrArg _ (if_pos h)

theorem exec_flip_taken (h : (namedTables tables.toNat).any s.flipBlocked = false) : exec (.flip tables) s =
    .next ((namedTables tables.toNat).foldl State.flipOne (flipLogged s.begin tables.toNat)) := by
  rw [exec_flip, execFlip, State.fwdFlip, flipBlocked_tables]
  exact congrArg _ (if_neg (ne_true_of_eq_false h))

end

/-- Settles O42: a command is denied, finds the unit busy or runs; a flip takes every table it names or none. -/
theorem forwardingCommandsAndFlip : Obligations.ForwardingCommandsAndFlip := by
  refine ⟨fun s tb bank i => ⟨fun hd bad e he => ?_, fun ht hbank hb bad e he => ?_, fun ht hbank hb => ?_⟩,
    fun s tables => ⟨exec_flip_blocked, fun h => ⟨_, exec_flip_taken h, fun n hn _ => ?_⟩⟩⟩
  · obtain ⟨op, -, lost, he⟩ := exec_fwdCommand he
    rw [he, fwdCommand_denied hd]
  · obtain ⟨op, ho, lost, he⟩ := exec_fwdCommand he
    rw [he, fwdCommand_busy (s := s.begin) ho ht hbank hb]
  · exact ⟨exec_search_taken ht hbank hb, exec_next_taken ht hbank hb, fun _ => exec_insert_taken ht hbank hb,
      exec_insert_nextHop ht hbank hb, exec_delete_taken ht hbank hb, exec_fwdFlush_lpm ht hbank hb,
      exec_fwdCopy_starts ht hbank hb, exec_fwdCopy_old ht hbank hb, exec_fwdRead_nextHop ht hbank hb⟩
  · have hthree : ∀ n ∈ [0, 1, 2], n < 3 := by decide
    have hlt := hthree n hn
    rw [activeBank_foldl_flipOne _ (namedTables_nodup _), curEpoch_foldl_flipOne _ (namedTables_nodup _) _ _
      (fun _ => namedTables_lt) hlt, activeBank_flipLogged, curEpoch_flipLogged _ _ hlt]
    exact ⟨rfl, rfl⟩

/-! ## Learning (R268–R270) -/

/-- A request for reads of a table leaves the tables. -/
theorem tableReads_fwd (s : State) (n : Nat) : (s.tableReads n).fwd = s.fwd := by
  have hreads (n : Nat) (t : State) : (t.pmTables false n).fwd = t.fwd := by
    induction n generalizing t with
    | zero => rfl
    | succ n ih => exact (ih _).trans (pmTouch_sameFwd _ _ _ _ _).1
  exact hreads _ _

/-- A change of a line of L2 leaves the copy that runs. -/
theorem touchLine_copying (s : State) (k : Nat) : (s.touchLine k).fwd.copying = s.fwd.copying := by
  unfold State.touchLine
  extract_lets
  split
  · rfl
  · dsimp only
    split <;> rfl

theorem writeL2_copying (s : State) (k : Nat) (e : L2Entry) : (s.writeL2 k e).fwd.copying = s.fwd.copying := by
  rw [State.writeL2, (show SameFwd _ (State.pmTable _ _ _) from pmTouch_sameFwd _ _ _ _ _).1]
  exact touchLine_copying s k

theorem learnIn_copying (s : State) (bank vid mac port : Nat) :
    (s.learnIn bank vid mac port).2.fwd.copying = s.fwd.copying := by
  unfold State.learnIn
  extract_lets
  split
  · split
    · rfl
    · exact writeL2_copying _ _ _
  · split
    · dsimp only
      split
      · exact writeL2_copying _ _ _
      · rfl
    · split
      · rfl
      · split
        · rfl
        · exact writeL2_copying _ _ _

theorem exec_learnRequest_none {s : State} (h : s.fwd.learns = []) (bad : List (Nat × Nat × Nat)) :
    exec (.learnRequest bad) s = .next s.begin := by
  rw [exec_learnRequest, execLearnRequest]
  simp only [begin_fwd, h]

/-- The oldest request is served in the active bank and, unless L2 is being copied, in the shadow (R269, R281). -/
theorem exec_learnRequest_oldest {s : State} {vid mac port : Nat} {r : List (Nat × Nat × Nat)}
    (h : s.fwd.learns = (vid, mac, port) :: r) :
    let u := ({ s.begin with fwd := { s.fwd with learns := r } } : State).tableReads 8
    let l := u.learnIn (s.activeBank 0) vid mac port
    exec (.learnRequest []) s = .next ((if s.fwd.copying = some 0 then l.2
      else (l.2.learnIn (1 - s.activeBank 0) vid mac port).2).learnCount l.1) := by
  intro u l
  have hu : u.fwd = { s.fwd with learns := r } := tableReads_fwd _ 8
  have hcopy : l.2.fwd.copying = s.fwd.copying := by rw [learnIn_copying, hu]
  rw [← hcopy, exec_learnRequest, execLearnRequest]
  simp only [begin_fwd, h]
  rfl

/-! ## Ageing (R271, R281) -/

/-- A deletion while L2 is not being copied takes the slot from the table, and counts a write. -/
theorem eraseL2_fwd {s : State} (h : s.fwd.copying = none) (k : Nat) (a : Nat) :
    ((s.eraseL2 k).pmTable true a).fwd = { s.fwd with l2 := s.fwd.l2.erase k } := by
  have hidle : s.touchLine k = s := if_pos (.inl (by rw [h]; simp))
  rw [(show SameFwd _ (State.pmTable _ _ _) from pmTouch_sameFwd _ _ _ _ _).1, State.eraseL2, hidle]

/-- What deletions leave was there before, and is in none of their slots. -/
theorem mem_of_eraseAll {s : State} (h : s.fwd.copying = none) (gone : Table L2Entry) {e : Nat × L2Entry}
    (he : e ∈ (gone.foldl (fun s e => (s.eraseL2 e.1).pmTable true (s.l2Addr e.1)) s).fwd.l2) :
    e ∈ s.fwd.l2 ∧ ∀ g ∈ gone, e.1 ≠ g.1 := by
  induction gone generalizing s with
  | nil => exact ⟨he, fun g hg => absurd hg (List.not_mem_nil)⟩
  | cons g gone ih =>
    have hfwd := eraseL2_fwd h g.1 (s.l2Addr g.1)
    obtain ⟨hin, hout⟩ := ih (by rw [hfwd]; exact h) he
    rw [hfwd] at hin
    obtain ⟨hmem, hne⟩ := List.mem_filter.1 hin
    exact ⟨hmem, List.forall_mem_cons.2 ⟨of_decide_eq_true hne, hout⟩⟩

/-- The entries that a visit of a bucket deletes while L2 is not being copied: the aged ones of both banks (R271). -/
def agedAt (s : State) (bucket : Nat) : Table L2Entry :=
  s.fwd.l2.filter fun e => [s.activeBank 0, 1 - s.activeBank 0].any (fun b => e.1 / 8 == b * 65536 + bucket) && s.l2Aged e.2

theorem mem_agedAt {s : State} (ha : s.activeBank 0 ≤ 1) {b : Nat} {e : Nat × L2Entry} (he : e ∈ s.fwd.l2)
    (hb : e.1 / 8 % 65536 = b % 65536) (hbank : e.1 / 524288 ≤ 1) (haged : s.l2Aged e.2 = true) :
    e ∈ agedAt s (b % 65536) := by
  have hslot : e.1 / 8 = s.activeBank 0 * 65536 + b % 65536 ∨ e.1 / 8 = (1 - s.activeBank 0) * 65536 + b % 65536 := by omega
  exact List.mem_filter.2 ⟨he, by simpa [haged] using hslot⟩

/-- A visit reads the lines of its bucket, deletes the aged entries and counts them. -/
theorem exec_l2AgeVisit_idle {s : State} (hc : s.fwd.copying = none) (b : Nat) : ∃ (n : Nat) (xs : List (Nat × Nat)),
    exec (.l2AgeVisit b []) s = .next (((agedAt s (b % 65536)).foldl
      (fun s e => (s.eraseL2 e.1).pmTable true (s.l2Addr e.1)) (xs.foldl (fun s x => s.pmTable false x.2) s.begin)).inc
        Reg.FWD_AGED n) := by
  rw [exec_l2AgeVisit, execL2AgeVisit]
  simp only [begin_fwd, State.begin_activeBank, hc, reduceCtorEq, if_false]
  exact ⟨_, _, rfl⟩

/-- A visit of the ager deletes the aged entries of its bucket, and adds none. -/
theorem exec_l2AgeVisit_deletes {s : State} (hc : s.fwd.copying = none) (b : Nat) : ∃ u, exec (.l2AgeVisit b []) s = .next u
    ∧ ∀ e ∈ u.fwd.l2, e ∈ s.fwd.l2 ∧ ∀ g ∈ agedAt s (b % 65536), e.1 ≠ g.1 := by
  obtain ⟨n, xs, he⟩ := exec_l2AgeVisit_idle hc b
  have hreads : (xs.foldl (fun s x => s.pmTable false x.2) s.begin).fwd = s.fwd :=
    List.foldlRecOn (motive := fun u : State => u.fwd = s.fwd) _ _ rfl fun u hu x _ => (pmTouch_sameFwd u _ _ _ _).1.trans hu
  refine ⟨_, he, fun e hin => ?_⟩
  rw [← hreads]
  exact mem_of_eraseAll (by rw [hreads]; exact hc) _ hin

/-! ## Flushes (R272, R281, R283) -/

theorem exec_flushWalk_none {s : State} (hf : s.fwd.flushing = none) (hw : s.fwd.flushWait = [])
    (bad : List (Nat × Nat × Nat)) : exec (.flushWalk bad) s = .next s.begin := by
  have hs : s = setFwd s { s.fwd with flushing := none, flushWait := [] } := by rw [← hf, ← hw]; rfl
  rw [hs]
  rfl

/-- The state in which a flush command deletes: it is no longer in progress. -/
def flushTaken (s : State) : State := setFwd s.begin { s.fwd with flushing := none, flushWait := [] }

theorem exec_flushWalk_l2 {s : State} {w : Nat} (hw : s.fwd.flushWait = []) (hf : s.fwd.flushing = some (0, w, false)) :
    exec (.flushWalk []) s = .next (((flushTaken s).flushL2 fun _ e => flushMatch w e).2.fwdDone 0) := by
  have hs : s = setFwd s { s.fwd with flushing := some (0, w, false), flushWait := [] } := by rw [← hf, ← hw]; rfl
  rw [hs]
  rfl

/-- A change of a line of L2 leaves the tables while no L2 copy runs, or where no free value lets the copy take the line. -/
theorem touchLine_fwd {s : State} (h : s.fwd.copying ≠ some 0 ∨ ∀ n, (Config.freeValue n).toNat % 2 ≠ 1) (k : Nat) :
    (s.touchLine k).fwd = s.fwd := by
  unfold State.touchLine
  extract_lets
  split
  · rfl
  · next hcopy =>
    have heven := h.resolve_left fun hne => hcopy (.inl hne)
    show State.fwd (if (Config.freeValue s.fresh).toNat % 2 = 1 then _ else _) = _
    rw [if_neg (heven s.fresh)]

/-- A flush of L2 touches the lines that it deletes in, and deletes what matches. -/
theorem flushL2_touches (s : State) (p : Nat → L2Entry → Bool) : (s.flushL2 p).2.fwd =
    let t := (s.fwd.l2.filter fun e => p e.1 e.2).foldl (fun s e => s.touchLine e.1) s
    { t.fwd with l2 := t.fwd.l2.filter fun e => !p e.1 e.2 } := rfl

/-- A flush of L2 leaves what does not match. -/
theorem flushL2_fwd {s : State} (h : s.fwd.copying ≠ some 0 ∨ ∀ n, (Config.freeValue n).toNat % 2 ≠ 1)
    (p : Nat → L2Entry → Bool) : (s.flushL2 p).2.fwd = { s.fwd with l2 := s.fwd.l2.filter fun e => !p e.1 e.2 } := by
  have hlines (gone : Table L2Entry) : (gone.foldl (fun s e => s.touchLine e.1) s).fwd = s.fwd :=
    List.foldlRecOn (motive := fun u : State => u.fwd = s.fwd) _ _ rfl
      fun u hu e _ => (touchLine_fwd (by rwa [hu]) _).trans hu
  simp only [flushL2_touches, hlines]

/-- A flush command of L2 ends with BUSY = 0 and DONE = 1; what it leaves was there, and does not match its filter. -/
theorem exec_flushWalk_leaves {s : State} {w : Nat} (hw : s.fwd.flushWait = []) (hf : s.fwd.flushing = some (0, w, false))
    (h : s.fwd.copying ≠ some 0 ∨ ∀ n, (Config.freeValue n).toNat % 2 ≠ 1) : ∃ u, exec (.flushWalk []) s = .next u
      ∧ u.fwd.flushing = none ∧ u.fb Fld.FWD_CMD_STAT_BUSY = false ∧ u.fb Fld.FWD_CMD_STAT_DONE = true
      ∧ ∀ e ∈ u.fwd.l2, e ∈ s.fwd.l2 ∧ flushMatch w e.2 = false := by
  have hfwd := flushL2_fwd (s := flushTaken s) h fun _ e => flushMatch w e
  refine ⟨_, exec_flushWalk_l2 hw hf, ?_, fwdDone_busy _ 0, fwdDone_done _ 0, fun e he => ?_⟩
  · rw [fwdDone_fwd, hfwd]
    rfl
  · rw [fwdDone_fwd, hfwd] at he
    obtain ⟨hin, hmatch⟩ := List.mem_filter.1 he
    exact ⟨hin, by simpa using hmatch⟩

/-! ## The end of a copy (R281) -/

theorem exec_fwdCopyComplete_none {s : State} (h : s.fwd.copying = none) (bad : List (Nat × Nat)) :
    exec (.fwdCopyComplete bad) s = .next s.begin := by
  rw [exec_fwdCopyComplete, execFwdCopyComplete]
  simp only [begin_fwd, h]

/-- The state at the end of a copy of a table of prefixes: the shadow holds what the active bank holds. -/
def lpmCopied (s : State) (t : Nat) : State :=
  let u := s.begin.modLpm (t - 1) (1 - s.activeBank t) fun _ => s.lpmBank (t - 1) (s.activeBank t)
  setFwd u { u.fwd with copying := none, copied := [] }

theorem exec_fwdCopyComplete_lpm {s : State} {t : Nat} (h : s.fwd.copying = some t) (h1 : 1 ≤ t) :
    exec (.fwdCopyComplete []) s = .next ((lpmCopied s t).fwdDone 0) := by
  have ht : t ≠ 0 := Nat.ne_of_gt h1
  rw [exec_fwdCopyComplete, execFwdCopyComplete]
  simp only [begin_fwd, h, ht, if_false]
  rfl

theorem exec_fwdCopyComplete_ends {s : State} {t : Nat} (h : s.fwd.copying = some t) (h1 : 1 ≤ t) :
    ∃ u, exec (.fwdCopyComplete []) s = .next u ∧ u.fwd.copying = none
      ∧ u.lpmBank (t - 1) (1 - s.activeBank t) = s.lpmBank (t - 1) (s.activeBank t)
      ∧ u.fb Fld.FWD_CMD_STAT_BUSY = false ∧ u.fg Fld.FWD_CMD_STAT_STATUS = 0 :=
  ⟨_, exec_fwdCopyComplete_lpm h h1, rfl, Table.get_put_self _ _ _ _, fwdDone_busy _ 0, fwdDone_status _ 0⟩

/-! ## A flush while an L2 copy runs (R272, R281) -/

/-- An L2 copy runs and a flush command is in progress: of the two entries of line 0 of the active bank the filter matches the
first alone, and the shadow is empty. -/
def flushedWhileCopied (n : Nat) : State :=
  { fresh := n
    fwd := { l2 := [(0, {}), (1, { static := true })], flushing := some (0, 0, false), copying := some 0 } }

/-- Where the free value has the copy take the line before the flush deletes in it, the shadow holds a new entry after it. -/
theorem mem_flushedWhileCopied {n : Nat} (hodd : (Config.freeValue n).toNat % 2 = 1) :
    ((524289, { static := true }) : Nat × L2Entry) ∈
      (((flushTaken (flushedWhileCopied n)).flushL2 fun _ e => flushMatch 0 e).2.fwdDone 0).fwd.l2 := by
  have hgone : (flushTaken (flushedWhileCopied n)).fwd.l2.filter (fun e => flushMatch 0 e.2) = [(0, {})] := by
    show List.filter _ [((0 : Nat), ({} : L2Entry)), (1, { static := true })] = _
    decide
  have htouch : (flushTaken (flushedWhileCopied n)).touchLine 0 = (flushTaken (flushedWhileCopied n)).free.2.copyLine 0 :=
    if_pos hodd
  have hcopied : ((flushTaken (flushedWhileCopied n)).free.2.copyLine 0).fwd.l2 =
      [(0, {}), (1, { static := true }), (524288, {}), (524289, { static := true })] := by
    have hl2 : (flushTaken (flushedWhileCopied n)).free.2.fwd.l2 = [(0, {}), (1, { static := true })] := rfl
    have hbank : (flushTaken (flushedWhileCopied n)).free.2.activeBank 0 = 0 := rfl
    simp [State.copyLine, hl2, hbank, Table.ins]
  rw [fwdDone_fwd, flushL2_touches, hgone, List.foldl_cons, List.foldl_nil, htouch]
  refine List.mem_filter.2 ⟨?_, by decide⟩
  rw [hcopied]
  decide

/-- What O41 comes to: every clause holds, but that a flush of L2 adds no entry holds while an L2 copy runs only if no free value
lets the copy take a line just before the flush deletes in it (log 50). -/
theorem learningAndWalks_iff : Obligations.LearningAndWalks ↔ ∀ n, (Config.freeValue n).toNat % 2 ≠ 1 := by
  constructor
  · intro h n hodd
    obtain ⟨-, -, -, -, hflush, -⟩ := h (flushedWhileCopied n) 0
    obtain ⟨u, hu, -, -, -, hleft⟩ := hflush 0 rfl rfl
    rw [exec_flushWalk_l2 rfl rfl] at hu
    obtain rfl := Host.Outcome.next.inj hu
    have hnew : (524289, { static := true }) ∉ [((0 : Nat), ({} : L2Entry)), (1, { static := true })] := by decide
    exact hnew (hleft _ (mem_flushedWhileCopied hodd)).1
  · refine fun hfree s t => ⟨exec_learnRequest_none, fun vid mac port r h => exec_learnRequest_oldest h, fun b hc ha => ?_,
      exec_flushWalk_none, fun w hw hf => exec_flushWalk_leaves hw hf (.inr hfree), exec_fwdCopyComplete_none,
      fun hc h1 _ _ => exec_fwdCopyComplete_ends hc h1⟩
    obtain ⟨u, hu, hleft⟩ := exec_l2AgeVisit_deletes hc b
    refine ⟨u, hu, fun e he => ?_⟩
    obtain ⟨hin, hkept⟩ := hleft e he
    exact ⟨hin, fun hb hbank => Bool.eq_false_iff.2 fun haged => hkept e (mem_agedAt ha hin hb hbank haged) rfl⟩

end Sys2Proof.Forwarding

/-! # Buffers (spec chapter 8)

Frees, Compost's walks and audits, then spilling and the owners' commands. The first part says what a free decides by, and that it
leaves the packets of the device. -/

namespace Sys2Proof.BufferManager

open Sys2Proof Sys2Proof.Machine Sys2Proof.Laws Sys2Proof.FrontPorts Sys2Proof.ParsingAndRules

/-! ## Frees (R306, R307) -/

theorem logUpTo_counts (s : State) (k code : Nat) (d : List Byte) : CountsOnly s (s.logUpTo k code d) := by
  have hlog (l : Limiter) : CountsOnly s ((s.setLimiter code 0 l).log code d) :=
    (show CountsOnly s (s.setLimiter code 0 l) from rfl).trans (log_counts _ _ _ _)
  unfold State.logUpTo
  extract_lets
  split
  · exact hlog _
  · split
    · exact hlog _
    · exact .refl s

/-- What only counts leaves the packets. -/
theorem packets_of_counts {s t : State} (h : CountsOnly s t) : t.packets = s.packets := by rw [show t = _ from h]

/-- A cell that is already free counts as a double free, and event 0x0B01 names it (R307). -/
def doubleFree (s : State) (cell : Nat) : State := (s.inc Reg.BUF_DOUBLE_FREE).logUpTo 64 0x0B01 (d4 cell)

/-- A free by a requester that does not own the packet is counted, and event 0x0B02 names the cell and the tag (R307). -/
def nonOwnerFree (s : State) (tag cell : Nat) : State :=
  (s.inc Reg.BUF_NONOWNER_FREE).logUpTo 64 0x0B02 (d4 cell ++ d1 tag)

theorem doubleFree_counts (s : State) (cell : Nat) : CountsOnly s (doubleFree s cell) :=
  (inc_counts _ _ _).trans (logUpTo_counts _ _ _ _)

theorem nonOwnerFree_counts (s : State) (tag cell : Nat) : CountsOnly s (nonOwnerFree s tag cell) :=
  (inc_counts _ _ _).trans (logUpTo_counts _ _ _ _)

/-- The event that a free counts under its requester's master (R562). -/
def freeEvent (tag : Nat) : PmuEvent :=
  { kind := 10, masters := if tag % 64 = codeCompost then 2 ^ 17 else 2 ^ (tag / 64) }

/-- Whether a free fits the header of its first cell, once that is held and sound (R307). -/
def freeFits (h : CellHdr) (code tag gen : Nat) : Prop :=
  code ≤ 8 ∧ h.first = true ∧ (h.tag = tag ∨ code = codeCompost) ∧ h.gen = gen

theorem tagOf_mod {code : Nat} (h : code < 64) (slice : Nat) : tagOf slice code % 64 = code := by
  unfold tagOf
  split <;> omega

section
variable {s : State} {slice code cell gen : Nat}

theorem freeCells_free (h : (s.cell cell).held = false) (tag : Nat) :
    s.freeCells tag cell gen = (doubleFree s cell).fcCount (freeEvent tag) := by
  simp only [State.freeCells, h, Bool.not_false, Bool.true_or, if_true]
  rfl

variable (hcode : code < 64) (hheld : (s.cell cell).held = true) (hmark : (s.cell cell).badMarker = false)
include hcode hheld hmark

theorem freeCells_misfit (h : ¬freeFits (s.cell cell) code (tagOf slice code) gen) :
    s.freeCells (tagOf slice code) cell gen =
      (nonOwnerFree s (tagOf slice code) cell).fcCount (freeEvent (tagOf slice code)) := by
  have hno : (decide (8 < code) || !(s.cell cell).first
      || ((s.cell cell).tag != tagOf slice code && code != codeCompost) || (s.cell cell).gen != gen) = true := by
    refine eq_true_of_ne_false fun hfits => h ?_
    simp only [Bool.or_eq_false_iff, Bool.and_eq_false_iff, decide_eq_false_iff_not, Nat.not_lt, Bool.not_eq_false',
      bne_eq_false_iff_eq] at hfits
    obtain ⟨⟨⟨h8, hfirst⟩, htag⟩, hgen⟩ := hfits
    exact ⟨h8, hfirst, htag, hgen⟩
  simp only [State.freeCells, hheld, hmark, tagOf_mod hcode, hno, Bool.not_true, Bool.or_false, if_true, if_false,
    Bool.false_eq_true]
  rw [freeEvent, tagOf_mod hcode]
  rfl

theorem freeCells_fit (h : freeFits (s.cell cell) code (tagOf slice code) gen) :
    s.freeCells (tagOf slice code) cell gen = (s.freeChain (s.chain cell 43)).fcCount (freeEvent (tagOf slice code)) := by
  obtain ⟨h8, hfirst, htag, hgen⟩ := h
  have htag' : ((s.cell cell).tag != tagOf slice code && code != codeCompost) = false := by
    rcases htag with h | h <;> simp [h]
  simp only [State.freeCells, hheld, hmark, tagOf_mod hcode, hfirst, hgen, htag', Nat.not_lt.2 h8, decide_false, Bool.not_true,
    Bool.or_false, bne_self_eq_false, if_false, Bool.false_eq_true]
  rw [freeEvent, tagOf_mod hcode]

end

theorem appendCell_packets (s : State) (c : Nat) : (s.appendCell c).packets = s.packets := by
  rw [State.appendCell, packets_of_counts (evc_counts _ _ _), State.setFreeList, State.fs_packets]
  rfl

theorem freeChain_packets (s : State) (cs : List Nat) : (s.freeChain cs).packets = s.packets := by
  induction cs generalizing s with
  | nil => rfl
  | cons c cs ih =>
    unfold State.freeChain
    extract_lets
    split
    · rw [ih, appendCell_packets]
    · exact packets_of_counts (doubleFree_counts s c)

/-- A free leaves the packets of the device, whatever it decides. -/
theorem freeCells_packets (s : State) (tag cell gen : Nat) : (s.freeCells tag cell gen).packets = s.packets := by
  rw [State.freeCells, packets_of_counts (fcCount_counts _ _ _)]
  split
  · exact packets_of_counts (doubleFree_counts s cell)
  · split
    · exact packets_of_counts (nonOwnerFree_counts s tag cell)
    · exact freeChain_packets s _

section
variable {s : State} {slice code cell gen : Nat} (hslice : slice < 4) (hcode : code < 64) (hcell : cell < 262144)
include hslice hcode hcell

/-- Where the free is refused, or no packet of the table names its cell, the command is the free alone. -/
theorem exec_cellFree_alone (h : ¬((s.cell cell).held = true ∧ (s.cell cell).badMarker = false
      ∧ freeFits (s.cell cell) code (tagOf slice code) gen)
    ∨ (s.packets.find? fun e => e.2.cells.head? == some cell && e.2.gen == gen) = none) :
    exec (.cellFree slice code cell gen) s = .next (s.begin.freeCells (tagOf slice code) cell gen) := by
  have hrange : ¬(4 ≤ slice ∨ 64 ≤ code ∨ 262144 ≤ cell) := by omega
  rw [exec_cellFree, execCellFree, if_neg hrange]
  dsimp only
  split
  · rfl
  · next hok =>
    rw [freeCells_packets, State.begin_packets]
    rcases h with h | h
    · simp only [Bool.not_eq_true', Bool.not_eq_false, Bool.and_eq_true, Bool.or_eq_true, decide_eq_true_eq, beq_iff_eq,
        State.begin_cell] at hok
      obtain ⟨⟨⟨⟨⟨hheld, hmark⟩, h8⟩, hfirst⟩, htag⟩, hgen⟩ := hok
      exact absurd ⟨hheld, hmark, h8, hfirst, htag, hgen⟩ h
    · rw [h]

theorem exec_cellFree_free (h : (s.cell cell).held = false) :
    exec (.cellFree slice code cell gen) s =
      .next ((doubleFree s.begin cell).fcCount (freeEvent (tagOf slice code))) := by
  rw [exec_cellFree_alone hslice hcode hcell (.inl fun ⟨hheld, _⟩ => by simp [h] at hheld), freeCells_free (s := s.begin) h]

variable (hheld : (s.cell cell).held = true) (hmark : (s.cell cell).badMarker = false)
include hheld hmark

theorem exec_cellFree_misfit (h : ¬freeFits (s.cell cell) code (tagOf slice code) gen) :
    exec (.cellFree slice code cell gen) s =
      .next ((nonOwnerFree s.begin (tagOf slice code) cell).fcCount (freeEvent (tagOf slice code))) := by
  rw [exec_cellFree_alone hslice hcode hcell (.inl fun ⟨_, _, hfits⟩ => h hfits),
    freeCells_misfit (s := s.begin) hcode hheld hmark h]

theorem exec_cellFree_fit (h : freeFits (s.cell cell) code (tagOf slice code) gen)
    (hp : (s.packets.find? fun e => e.2.cells.head? == some cell && e.2.gen == gen) = none) :
    exec (.cellFree slice code cell gen) s =
      .next ((s.begin.freeChain (s.begin.chain cell 43)).fcCount (freeEvent (tagOf slice code))) := by
  rw [exec_cellFree_alone hslice hcode hcell (.inr hp), freeCells_fit (s := s.begin) hcode hheld hmark h]

end

/-! ## Compost's walks and audits (R309, R310) -/

section
variable {s : State}

theorem exec_freeListWalk_disabled (h : s.fb Fld.BUF_CFG_COMPOST_EN = false) : exec .freeListWalk s = .next s.begin := by
  rw [exec_freeListWalk, execFreeListWalk]
  exact if_pos (by rw [State.begin_fb, h]; rfl)

/-- The state after the walk of a list that is sound: the next one is due. -/
def nextList (s : State) : State := { s with buf := { s.buf with compostList := (s.buf.compostList + 1) % 32 } }

/-- A list whose cells are free, at home and as many as its COUNT says passes the walk. -/
theorem exec_freeListWalk_sound (h : s.fb Fld.BUF_CFG_COMPOST_EN = true)
    (hcells : ∀ c ∈ (s.freeList s.buf.compostList).cells s.buf.compostList, (s.cell c).held = false
      ∧ (s.cell c).badMarker = false ∧ (s.cell c).retired = false ∧ homeList c = s.buf.compostList)
    (hcount : ((s.freeList s.buf.compostList).cells s.buf.compostList).length =
      s.fg (Fld.BUF_FL_COUNT (s.buf.compostList / 8) (s.buf.compostList % 8))) :
    exec .freeListWalk s = .next (nextList s.begin) := by
  have hall : (((s.freeList s.buf.compostList).cells s.buf.compostList).all fun c =>
      (!(s.cell c).held && !(s.cell c).badMarker && !(s.cell c).retired) && homeList c == s.buf.compostList) = true := by
    refine List.all_eq_true.2 fun c hc => ?_
    obtain ⟨hheld, hmark, hretired, hhome⟩ := hcells c hc
    simp [hheld, hmark, hretired, hhome]
  rw [exec_freeListWalk, execFreeListWalk]
  refine (if_neg (by rw [State.begin_fb, h]; decide)).trans (if_pos ?_)
  exact Bool.and_eq_true_iff.2 ⟨hall, beq_iff_eq.2 hcount⟩

theorem exec_auditCycle_disabled (h : s.fb Fld.BUF_CFG_COMPOST_EN = false) : exec .auditCycle s = .next s.begin := by
  rw [exec_auditCycle, execAuditCycle]
  exact if_pos (.inl (by rw [State.begin_fb, h]; rfl))

theorem exec_auditCycle_early (h : s.aon < s.buf.auditAt + 100 * msCycles) : exec .auditCycle s = .next s.begin := by
  rw [exec_auditCycle, execAuditCycle]
  exact if_pos (.inr h)

/-- The state at the start of an audit: the parity has flipped. -/
def audited (s : State) : State := { s with buf := { s.buf with parity := !s.buf.parity, auditAt := s.aon } }

/-- With no packet there is no chain to mark, and with no cell written none to reclaim. -/
theorem exec_auditCycle_empty (h : s.fb Fld.BUF_CFG_COMPOST_EN = true) (hdue : s.buf.auditAt + 100 * msCycles ≤ s.aon)
    (hp : s.packets = []) (hc : s.buf.cells = []) : exec .auditCycle s = .next (audited s.begin) := by
  have hgo : ¬((!s.begin.fb Fld.BUF_CFG_COMPOST_EN) = true ∨ s.begin.aon < s.begin.buf.auditAt + 100 * msCycles) := by
    rw [State.begin_fb, h, State.begin_aon, State.begin_buf]
    exact not_or.2 ⟨by decide, Nat.not_lt.2 hdue⟩
  rw [exec_auditCycle, execAuditCycle]
  refine (if_neg hgo).trans ?_
  simp only [audited, State.begin_packets, State.begin_buf, hp, hc, List.foldl_nil, List.filter_nil, List.map_nil]

end

/-! ## Spilling (R315–R318) -/

section
variable {s : State} {pool : Nat} (hpool : pool < 16)
include hpool

/-- No run is written for a pool that does not spill, or none of whose owners has something to spill. -/
theorem exec_spillRunWrite_none (h : (s.begin.spillWatch pool).buf.spilling.contains pool = false
    ∨ (s.begin.spillWatch pool).spillOwner pool = none) :
    exec (.spillRunWrite pool) s = .next (s.begin.spillWatch pool) := by
  have howner : (if (s.begin.spillWatch pool).buf.spilling.contains pool then (s.begin.spillWatch pool).spillOwner pool
      else none) = none := by
    rcases h with h | h
    · rw [h, if_neg Bool.false_ne_true]
    · rw [h, ite_self]
  rw [exec_spillRunWrite, execSpillRunWrite, if_neg (Nat.not_le.2 hpool)]
  simp only [howner]
  rfl

variable {o n : Nat} {before after : List QItem} {pids : List Nat}
  (hspills : (s.begin.spillWatch pool).buf.spilling.contains pool = true)
  (howner : (s.begin.spillWatch pool).spillOwner pool = some o)
  (hrun : (s.begin.spillWatch pool).nextRun o = some (n, before, pids, after))
include hspills howner hrun

/-- The next run of a pool that spills is written, unless it does not fit the spill region. -/
theorem exec_spillRunWrite_run : exec (.spillRunWrite pool) s =
    let u := s.begin.spillWatch pool
    if u.spillPages < u.buf.usedPages + u.runPages pids ∨ 262144 ≤ u.allRuns.length then
      .next (if u.buf.spillFull then u else { u with buf := { u.buf with spillFull := true } }.log 0x0B08)
    else .next (u.writeRun o n before pids after) := by
  rw [exec_spillRunWrite, execSpillRunWrite, if_neg (Nat.not_le.2 hpool)]
  simp only [hspills, howner, hrun, if_true, Option.bind_some, Option.map_some]

theorem exec_spillRunWrite_fits
    (hpages : (s.begin.spillWatch pool).buf.usedPages + (s.begin.spillWatch pool).runPages pids ≤
      (s.begin.spillWatch pool).spillPages) (hruns : (s.begin.spillWatch pool).allRuns.length < 262144) :
    exec (.spillRunWrite pool) s = .next ((s.begin.spillWatch pool).writeRun o n before pids after) :=
  (exec_spillRunWrite_run hpool hspills howner hrun).trans
    (if_neg (not_or.2 ⟨Nat.not_lt.2 hpages, Nat.not_le.2 hruns⟩))

theorem exec_spillRunWrite_full
    (hpages : (s.begin.spillWatch pool).spillPages <
      (s.begin.spillWatch pool).buf.usedPages + (s.begin.spillWatch pool).runPages pids)
    (hfull : (s.begin.spillWatch pool).buf.spillFull = false) :
    exec (.spillRunWrite pool) s =
      let u := s.begin.spillWatch pool
      .next ({ u with buf := { u.buf with spillFull := true } }.log 0x0B08) :=
  (exec_spillRunWrite_run hpool hspills howner hrun).trans
    ((if_pos (.inl hpages)).trans (congrArg _ (if_neg (ne_true_of_eq_false hfull))))

end

@[simp] theorem begin_itemCells (s : State) (i : QItem) : s.begin.itemCells i = s.itemCells i := by cases i <;> rfl

section
variable {s : State} {q port : Nat}

theorem exec_spillReadBack_none (h : splitRun (s.queue q).items = none) (bad : List (Nat × BlockErr)) :
    exec (.spillReadBack q bad) s = .next s.begin := by
  have hq : splitRun (s.begin.queue q).items = none := h
  rw [exec_spillReadBack, execSpillReadBack]
  dsimp only
  rw [hq]
  split
  · next hrun => exact nomatch hrun
  · rfl

variable {before after : List QItem} {run : Run} (hport : s.portOf q = some port)
  (hsplit : splitRun (s.queue q).items = some (before, run, after)) (bad : List (Nat × BlockErr))
include hport hsplit

/-- A run is read back when fewer cells than FETCH_CELLS lie ahead of it. -/
theorem exec_spillReadBack_run : exec (.spillReadBack q bad) s =
    if s.fg Fld.BUF_SPILL_FETCH_FETCH_CELLS ≤ before.foldl (fun k i => k + s.itemCells i) 0 then .next s.begin
    else .next (s.begin.readRun port q bad before run after) := by
  have hp : s.begin.portOf q = some port := hport
  have hq : splitRun (s.begin.queue q).items = some (before, run, after) := hsplit
  rw [exec_spillReadBack, execSpillReadBack]
  simp only [hp, hq, State.begin_fg, begin_itemCells]

theorem exec_spillReadBack_short
    (h : before.foldl (fun k i => k + s.itemCells i) 0 < s.fg Fld.BUF_SPILL_FETCH_FETCH_CELLS) :
    exec (.spillReadBack q bad) s = .next (s.begin.readRun port q bad before run after) :=
  (exec_spillReadBack_run hport hsplit bad).trans (if_neg (Nat.not_le.2 h))

theorem exec_spillReadBack_filled
    (h : s.fg Fld.BUF_SPILL_FETCH_FETCH_CELLS ≤ before.foldl (fun k i => k + s.itemCells i) 0) :
    exec (.spillReadBack q bad) s = .next s.begin :=
  (exec_spillReadBack_run hport hsplit bad).trans (if_pos h)

end

section
variable {s : State}

theorem exec_spillWriteCapHold_none (h : s.buf.spilling = []) : exec .spillWriteCapHold s = .next s.begin := by
  rw [exec_spillWriteCapHold]
  exact if_pos h

theorem exec_spillWriteCapHold_spilling (h : s.buf.spilling ≠ []) :
    exec .spillWriteCapHold s = .next (s.begin.logLimited 0x0B05 0 1 0 fun _ _ => []) := by
  rw [exec_spillWriteCapHold]
  exact if_neg h

end

/-! ## Owners (R325) -/

@[simp] theorem store_buf (s : State) (r : RegSpec) (ix : List Nat) (v : Nat) : (s.store r ix v).buf = s.buf :=
  State.wr_buf _ _ _

theorem ownerCfg_of_buf {s t : State} (h : t.buf = s.buf) (o : Nat) : t.ownerCfg o = s.ownerCfg o := by
  rw [State.ownerCfg, h, State.ownerCfg]

theorem ownerUse_of_buf {s t : State} (h : t.buf = s.buf) (o : Nat) : t.ownerUse o = s.ownerUse o := by
  rw [State.ownerUse, h, State.ownerUse]

/-- A word of BUF_OWN_CMD with GO = 1 that names an owner, and that asks for a write or a read (R325). -/
structure OwnWord (v o : Nat) (write : Bool) : Prop where
  go : bitAt v 31 = true
  owner : v % 2048 = o
  asks : bitAt v 30 = write

theorem ownWord_read (o : BitVec 11) : OwnWord (2 ^ 31 + o.toNat) o.toNat false := by
  have := o.isLt
  constructor
  · rw [bitAt, decide_eq_true_iff]
    omega
  · omega
  · rw [bitAt, decide_eq_false_iff_not]
    omega

theorem ownWord_write (o : BitVec 11) : OwnWord (2 ^ 31 + 2 ^ 30 + o.toNat) o.toNat true := by
  have := o.isLt
  constructor
  · rw [bitAt, decide_eq_true_iff]
    omega
  · omega
  · rw [bitAt, decide_eq_true_iff]
    omega

/-- A rejected command of an owner shows its reason (R18). -/
def ownReject (s : State) (n : Nat) : State := s.reject Fld.BUF_OWN_STAT_REJECTED Fld.BUF_OWN_STAT_REASON n

theorem ownReject_buf (s : State) (n : Nat) : (ownReject s n).buf = s.buf := by
  rw [ownReject, State.reject, State.emit_buf, State.fs_buf, State.fs_buf]

theorem fg_emit (s : State) (x : Out) (f : Fld) : (s.emit x).fg f = s.fg f := rfl

theorem ownReject_reason (s : State) (n : Nat) : (ownReject s n).fg Fld.BUF_OWN_STAT_REASON = n % 16 := by
  rw [ownReject, State.reject, fg_emit]
  exact State.fg_fs_self _ _ _ (by decide)

theorem ownReject_rejected (s : State) (n : Nat) : (ownReject s n).fb Fld.BUF_OWN_STAT_REJECTED = true := by
  rw [State.fb, ownReject, State.reject, fg_emit, fg_fs_beside _ _ _ _ (by decide)]
  exact fb_fs_one s (by decide) rfl

/-- The state after a word that names an owner of the device: it is stored, and USE shows the owner's charges (R325). -/
def ownTaken (s : State) (v o : Nat) : State :=
  let u := (s.store Spec.BUF_OWN_CMD [] v).ownerUse o
  (s.store Spec.BUF_OWN_CMD [] v).fs Fld.BUF_OWN_DATA_4_USE (u.r + u.s + u.h)

theorem ownerUse_modOwner_self (s : State) (o : Nat) (f : OwnerUse → OwnerUse) :
    (s.modOwner o f).ownerUse o = f (s.ownerUse o) := Table.get_put_self _ _ _ _

theorem ownerCfg_modOwner (s : State) (o k : Nat) (f : OwnerUse → OwnerUse) : (s.modOwner o f).ownerCfg k = s.ownerCfg k := rfl

theorem rd_modOwner (s : State) (o : Nat) (f : OwnerUse → OwnerUse) (r : Reg) : (s.modOwner o f).rd r = s.rd r := rfl

/-- The configuration that the data words describe (R325). -/
def writtenOwner (s : State) : OwnerCfg :=
  { mir := s.fb Fld.BUF_OWN_DATA_0_MIR, spillEn := s.fb Fld.BUF_OWN_DATA_0_SPILL_EN
    pool := s.fg Fld.BUF_OWN_DATA_0_POOL, alpha := bitsOf (s.rd Reg.BUF_OWN_DATA_0).toNat 22 20
    min := s.fg Fld.BUF_OWN_DATA_0_MIN, hdrm := s.fg Fld.BUF_OWN_DATA_1_HDRM
    xoffSpill := s.fg Fld.BUF_OWN_DATA_2_XOFF_SPILL, xon := s.fg Fld.BUF_OWN_DATA_3_XON }

/-- The state with another configuration of an owner. -/
def setOwnerCfg (s : State) (o : Nat) (c : OwnerCfg) : State :=
  { s with buf := { s.buf with cfg := s.buf.cfg.put o (ownerDefault o) c } }

@[simp] theorem setOwnerCfg_self (s : State) (o : Nat) (c : OwnerCfg) : (setOwnerCfg s o c).ownerCfg o = c :=
  Table.get_put_self _ _ _ _

/-- The data words of an owner as a read leaves them. -/
def ownShown (s : State) (c : OwnerCfg) (drops : Nat) : State :=
  ((((s.wr Reg.BUF_OWN_DATA_0 (BitVec.ofNat 32
    (2 ^ 31 * ofBool c.mir + 2 ^ 29 * ofBool c.spillEn + 2 ^ 24 * c.pool + 2 ^ 20 * c.alpha + c.min))).wr
      Reg.BUF_OWN_DATA_1 (BitVec.ofNat 32 c.hdrm)).wr Reg.BUF_OWN_DATA_2 (BitVec.ofNat 32 c.xoffSpill)).wr
        Reg.BUF_OWN_DATA_3 (BitVec.ofNat 32 c.xon)).wr Reg.BUF_OWN_DATA_5 (BitVec.ofNat 32 drops)

@[simp] theorem ownTaken_buf (s : State) (v o : Nat) : (ownTaken s v o).buf = s.buf := by
  rw [ownTaken, State.fs_buf, store_buf]

@[simp] theorem ownShown_buf (s : State) (c : OwnerCfg) (drops : Nat) : (ownShown s c drops).buf = s.buf := by
  simp only [ownShown, State.wr_buf]

/-- The command and USE are apart from what the other data words describe. -/
theorem writtenOwner_ownTaken (s : State) (v o : Nat) :
    writtenOwner (ownTaken s v o) = writtenOwner s := by
  have hrd (r : Reg) (hcmd : Reg.BUF_OWN_CMD.addr ≠ r.addr) (huse : Reg.BUF_OWN_DATA_4.addr ≠ r.addr) :
      (ownTaken s v o).rd r = s.rd r := (State.rd_fs_ne _ _ huse).trans (rd_store_ne s _ hcmd)
  have hfg (f : Fld) (hcmd : Reg.BUF_OWN_CMD.addr ≠ f.reg.addr) (huse : Reg.BUF_OWN_DATA_4.addr ≠ f.reg.addr) :
      (ownTaken s v o).fg f = s.fg f := by rw [State.fg, hrd _ hcmd huse, State.fg]
  simp (disch := decide) only [writtenOwner, State.fb, hfg, hrd]

section
variable {s : State} {v o : Nat}

theorem writeOwnCmd_badPort {write : Bool} (hv : OwnWord v o write) (h : 66 < o / 8 % 128) :
    s.writeOwnCmd v = ownReject s 1 := by
  simp only [State.writeOwnCmd, hv.go, hv.owner, h, Bool.not_true, Bool.false_eq_true, if_false, if_true, ownReject]

theorem ownerUse_store (r : RegSpec) (ix : List Nat) : (s.store r ix v).ownerUse o = s.ownerUse o :=
  ownerUse_of_buf (store_buf s r ix v) o

theorem ownerCfg_ownTaken : (ownTaken s v o).ownerCfg o = s.ownerCfg o := ownerCfg_of_buf (ownTaken_buf s v o) o

theorem started_ownTaken : (ownTaken s v o).started = s.started := by
  rw [State.started, ownTaken, State.fs_nvm, State.store, State.wr_nvm, State.started]

theorem writeOwnCmd_read (hv : OwnWord v o false) (h : o / 8 % 128 ≤ 66) : s.writeOwnCmd v =
    ((ownShown (ownTaken s v o) (s.ownerCfg o) (s.ownerUse o).drops).modOwner o fun u => { u with drops := 0 }).done
      Fld.BUF_OWN_STAT_DONE := by
  obtain ⟨hgo, rfl, hread⟩ := hv
  rw [← ownerCfg_ownTaken (v := v), ← ownerUse_store (v := v) Spec.BUF_OWN_CMD [], State.writeOwnCmd, hgo, hread]
  refine (if_neg Bool.false_ne_true).trans ((if_neg (Nat.not_lt.2 h)).trans ((if_neg Bool.false_ne_true).trans ?_))
  simp only [ownShown, ownTaken]

/-- A write of an owner goes by the configuration that the data words describe. -/
theorem writeOwnCmd_write_decides (hv : OwnWord v o true) (h : o / 8 % 128 ≤ 66) : s.writeOwnCmd v =
    let c := writtenOwner s
    let t := setOwnerCfg (ownTaken s v o) o c
    let why := if s.started then t.bufIllegal else 0
    if why ≠ 0 then ownReject s why
    else if (1024 ≤ o ∧ (c.mir ∨ c.hdrm ≠ 0)) ∨ (o < 1024 ∧ c.spillEn) then ownReject s 7
    else ((t.poolWatch (s.ownerCfg o).pool).poolWatch c.pool).done Fld.BUF_OWN_STAT_DONE := by
  obtain ⟨hgo, rfl, hwrite⟩ := hv
  rw [← writtenOwner_ownTaken s v, ← ownerCfg_ownTaken (v := v), ← started_ownTaken (v := v), State.writeOwnCmd, hgo, hwrite]
  exact (if_neg Bool.false_ne_true).trans ((if_neg (Nat.not_lt.2 h)).trans (if_pos rfl))

/-- Before start, a write of an ingress owner that asks for no spilling is taken. -/
theorem writeOwnCmd_write (hv : OwnWord v o true) (h : o / 8 ≤ 66) (hstart : s.started = false)
    (hspill : s.fb Fld.BUF_OWN_DATA_0_SPILL_EN = false) : s.writeOwnCmd v =
      (((setOwnerCfg (ownTaken s v o) o (writtenOwner s)).poolWatch (s.ownerCfg o).pool).poolWatch
        (writtenOwner s).pool).done Fld.BUF_OWN_STAT_DONE := by
  have hlegal : ¬((1024 ≤ o ∧ ((writtenOwner s).mir = true ∨ (writtenOwner s).hdrm ≠ 0))
      ∨ (o < 1024 ∧ (writtenOwner s).spillEn = true)) := by
    rintro (⟨hegress, -⟩ | ⟨-, hen⟩)
    · omega
    · exact Bool.false_ne_true (hspill.symm.trans hen)
  rw [writeOwnCmd_write_decides hv (by omega)]
  simp only [hstart, Bool.false_eq_true, if_false]
  exact (if_neg (not_not_intro rfl)).trans (if_neg hlegal)

end

/-- A pool's peak and warning leave the configuration of the owners. -/
theorem poolWatch_cfg (s : State) (p : Nat) : (s.poolWatch p).buf.cfg = s.buf.cfg := by
  unfold State.poolWatch
  extract_lets _ _ _ t
  have ht : t.buf.cfg = s.buf.cfg := congrArg (·.cfg) (State.fs_buf _ _ _)
  split
  · split
    · exact ht
    · exact ht
  · split
    · rw [show State.log _ _ _ _ = _ from log_counts _ _ _ _]
      exact ht
    · exact ht

theorem poolWatch_ownerCfg (s : State) (p o : Nat) : (s.poolWatch p).ownerCfg o = s.ownerCfg o := by
  rw [State.ownerCfg, poolWatch_cfg, State.ownerCfg]

/-! ### What the owners' commands show -/

section
variable (s : State) (o : BitVec 11)

theorem exec_ownerRead_badPort (h : 66 < o.toNat / 8 % 128) : exec (.ownerRead o) s = .next (ownReject s.begin 1) :=
  congrArg Host.Outcome.next (writeOwnCmd_badPort (ownWord_read o) h)

theorem exec_ownerWrite_badPort (h : 66 < o.toNat / 8 % 128) : exec (.ownerWrite o) s = .next (ownReject s.begin 1) :=
  congrArg Host.Outcome.next (writeOwnCmd_badPort (ownWord_write o) h)

/-- A read of an owner shows its drops and clears them, and keeps its configuration. -/
theorem exec_ownerRead_shows (h : o.toNat / 8 % 128 ≤ 66) : ∃ t, exec (.ownerRead o) s = .next t
    ∧ t.fb Fld.BUF_OWN_STAT_DONE = true ∧ t.rd Reg.BUF_OWN_DATA_5 = BitVec.ofNat 32 (s.ownerUse o.toNat).drops
    ∧ (t.ownerUse o.toNat).drops = 0 ∧ t.rd Reg.BUF_OWN_DATA_3 = BitVec.ofNat 32 (s.ownerCfg o.toNat).xon
    ∧ t.ownerCfg o.toNat = s.ownerCfg o.toNat := by
  refine ⟨_, congrArg Host.Outcome.next (writeOwnCmd_read (s := s.begin) (ownWord_read o) h), fb_fs_one _ (by decide) rfl,
    ?_, ?_, ?_, ?_⟩
  · rw [State.done, State.rd_fs_ne _ _ (by decide), rd_modOwner, ownShown, State.rd_wr_self]
    rfl
  · rw [State.done, ownerUse_of_buf (State.fs_buf _ _ _), ownerUse_modOwner_self]
  · rw [State.done, State.rd_fs_ne _ _ (by decide), rd_modOwner, ownShown, State.rd_wr_ne _ _ (by decide), State.rd_wr_self]
    rfl
  · rw [State.done, ownerCfg_of_buf (State.fs_buf _ _ _), ownerCfg_modOwner, ownerCfg_of_buf (ownShown_buf _ _ _),
      ownerCfg_ownTaken, State.begin_ownerCfg]

theorem exec_ownerWrite_takes (h : o.toNat / 8 ≤ 66) (hstart : s.started = false)
    (hspill : s.fb Fld.BUF_OWN_DATA_0_SPILL_EN = false) : ∃ t, exec (.ownerWrite o) s = .next t
    ∧ t.ownerCfg o.toNat = writtenOwner s := by
  refine ⟨_, congrArg Host.Outcome.next (writeOwnCmd_write (s := s.begin) (ownWord_write o) h hstart hspill), ?_⟩
  rw [State.done, ownerCfg_of_buf (State.fs_buf _ _ _), poolWatch_ownerCfg, poolWatch_ownerCfg, setOwnerCfg_self]
  rfl

end

/-- Settles O47: a free goes by the header of its cell, a walk by its list, a run by its pool and its queue, and an owner's
command by its port. -/
theorem buffersAndSpill : Obligations.BuffersAndSpill := by
  refine ⟨fun s slice code cell gen hslice hcode hcell => ⟨?_, ?_, ?_, ?_, ?_, ?_, ?_⟩,
    fun s pool q o => ⟨exec_spillRunWrite_none, fun o n before pids after hpool hspills howner hrun => ⟨?_, ?_⟩,
      ?_, ?_, ?_, ?_, ?_, ?_, ?_, ?_, ?_⟩⟩
  · exact exec_cellFree_free hslice hcode hcell
  · intro hheld hmark h
    refine exec_cellFree_misfit hslice hcode hcell hheld hmark ?_
    rintro ⟨h8, hfirst, htag, hgen⟩
    rcases h with h | h | ⟨hne, hcompost⟩ | h
    · omega
    · exact Bool.false_ne_true (h.symm.trans hfirst)
    · exact htag.elim hne hcompost
    · exact h hgen
  · exact fun hheld hmark h8 hfirst htag hgen =>
      exec_cellFree_fit hslice hcode hcell hheld hmark ⟨h8, hfirst, .inl htag, hgen⟩
  · exact fun h => ⟨exec_freeListWalk_disabled h, exec_auditCycle_disabled h⟩
  · exact fun h hcells hcount => ⟨_, exec_freeListWalk_sound h hcells hcount, rfl, rfl, rfl⟩
  · exact exec_auditCycle_early
  · exact fun h hdue hp hc => ⟨_, exec_auditCycle_empty h hdue hp hc, rfl, rfl, rfl⟩
  · exact exec_spillRunWrite_fits hpool hspills howner hrun
  · exact exec_spillRunWrite_full hpool hspills howner hrun
  · exact fun before run after port bad hport hsplit => exec_spillReadBack_short hport hsplit bad
  · exact exec_spillReadBack_none
  · exact fun before run after port hport hsplit h bad => exec_spillReadBack_filled hport hsplit bad h
  · exact exec_spillWriteCapHold_none
  · exact exec_spillWriteCapHold_spilling
  · exact fun h => ⟨_, exec_ownerRead_badPort s o h, ownReject_buf _ _, ownReject_rejected _ _, ownReject_reason _ _⟩
  · exact fun h => ⟨_, exec_ownerWrite_badPort s o h, ownReject_buf _ _, ownReject_reason _ _⟩
  · exact exec_ownerRead_shows s o
  · intro h hstart hspill
    obtain ⟨t, ht, hcfg⟩ := exec_ownerWrite_takes s o h hstart hspill
    exact ⟨t, ht, congrArg OwnerCfg.pool hcfg, congrArg OwnerCfg.min hcfg, congrArg OwnerCfg.xon hcfg⟩

end Sys2Proof.BufferManager

/-! # Network time (spec chapter 10)

The waits of a context for its compare and for events, then the counter, its steps, the timestamp queues and the pulses. -/

namespace Sys2Proof.NetworkTime

open Sys2Proof Sys2Proof.Machine Sys2Proof.Laws Sys2Proof.ParsingAndRules Sys2Proof.Forwarding
open Sys2Proof.BufferManager

/-! ## What ends a wait (R527, R528) -/

@[simp] theorem resume_armed (x : Core) (v : DWord) : (x.resume v).armed = x.armed := by
  unfold Core.resume Core.setReg
  split <;> rfl

/-- Counting leaves the contexts. -/
@[simp] theorem core_evc (s : State) (n k c : Nat) : (s.evc n k).core c = s.core c := by
  rw [show s.evc n k = _ from evc_counts s n k]
  rfl

/-- A wait that ends leaves its context as it resumes. -/
@[simp] theorem core_wakeCore_self (s : State) (c v : Nat) :
    (s.wakeCore c v).core c = (s.core c).resume (BitVec.ofNat 64 v) := by
  rw [State.wakeCore, core_evc, core_modCore_self]

/-- A context that stalls keeps all but its state, its wait and the register to write. -/
@[simp] theorem core_stall_self (s : State) (c : Nat) (rd : BitVec 5) (st : Nat) (w : CoreWait) :
    (s.stall c rd st w).core c = { s.core c with state := st, wait := w, rd := rd.toNat } :=
  core_modCore_self _ _ _

section
variable {s : State} {c : Nat}

theorem compareMet_iff : s.compareMet c = true ↔ (s.core c).armed = true
    ∧ (s.core c).tmS * 1000000000 + (s.core c).tmNs ≤ s.net.sec % 2 ^ 48 * 1000000000 + s.net.ns := by
  simp only [State.compareMet, Bool.and_eq_true, decide_eq_true_eq]

theorem meetCompare_unmet (h : s.compareMet c = false) : s.meetCompare c = s := by
  rw [State.meetCompare, h]
  exact if_pos (.inl rfl)

/-- A compare that is met disarms, and its waiting context resumes with 0. -/
theorem meetCompare_met (h : s.compareMet c = true) (hst : (s.core c).state = 3)
    (hw : (s.core c).wait = .timer ∨ ∃ m, (s.core c).wait = .events m) :
    s.meetCompare c = (s.modCore c fun x => { x with armed := false }).wakeCore c 0 := by
  have hgo : ¬((!s.compareMet c) = true ∨ (s.core c).state ≠ 3) := by simp [h, hst]
  rw [State.meetCompare, if_neg hgo]
  rcases hw with hw | ⟨m, hw⟩ <;> rw [hw]

theorem exec_timerCompareMet_unmet (hc : c < 32) (h : (s.core c).armed = false
    ∨ s.net.sec % 2 ^ 48 * 1000000000 + s.net.ns < (s.core c).tmS * 1000000000 + (s.core c).tmNs) :
    exec (.timerCompareMet c) s = .next s.begin := by
  have hunmet : s.begin.compareMet c = false := Bool.eq_false_iff.2 fun hmet => by
    obtain ⟨harmed, hreached⟩ := compareMet_iff.1 hmet
    exact h.elim (fun h => Bool.false_ne_true (h.symm.trans harmed)) (Nat.not_lt.2 hreached)
  rw [exec_timerCompareMet, execTimerCompareMet, if_pos hc, meetCompare_unmet hunmet]

/-- The compare that is met ends the wait of its context with 0 in its register (R527). -/
theorem exec_timerCompareMet_met (hc : c < 32) (hst : (s.core c).state = 3) (harmed : (s.core c).armed = true)
    (hreached : (s.core c).tmS * 1000000000 + (s.core c).tmNs ≤ s.net.sec % 2 ^ 48 * 1000000000 + s.net.ns)
    (hw : (s.core c).wait = .timer ∨ ∃ m, (s.core c).wait = .events m) :
    ∃ t, exec (.timerCompareMet c) s = .next t ∧ t.core c = ({ s.core c with armed := false } : Core).resume 0 := by
  have hmet : s.begin.compareMet c = true := compareMet_iff.2 ⟨harmed, hreached⟩
  refine ⟨s.begin.meetCompare c, congrArg Host.Outcome.next (if_pos hc), ?_⟩
  rw [meetCompare_met hmet hst hw, core_wakeCore_self, core_modCore_self]
  rfl

variable (h : CoreCan s c)
include h

/-- WAITT waits for an armed compare, and answers 1 without one (R527). -/
theorem exec_waitt_core (rd : BitVec 5) : exec (.waitt (.core c .none) rd 0 0) s =
    .next (if (s.core c).armed then (coreIssued s c).stall c rd 3 .timer
      else (coreIssued s c).retire c rd 1 ((s.core c).ia + 4)) := by
  rw [exec_waitt, execWaitt, systemInstr_core h, if_neg (by decide)]

/-- WAITE takes the pending events of its mask; with none it waits, unless nothing could end the wait (R528). -/
theorem exec_waite_core (rd : BitVec 5) {rs1 : BitVec 5} {m : Nat} (hm : ((s.core c).reg rs1.toNat).toNat = m) :
    exec (.waite (.core c .none) rd rs1 0) s = .next (if (s.core c).evpend &&& m ≠ 0 then
        ((coreIssued s c).modCore c fun x => { x with evpend := x.evpend ^^^ (s.core c).evpend &&& m }).retire c rd
          (BitVec.ofNat 64 ((s.core c).evpend &&& m)) ((s.core c).ia + 4)
      else if m = 0 ∧ (!(s.core c).armed) = true then (coreIssued s c).coreFault c 6 none
      else (coreIssued s c).stall c rd 3 (.events m)) := by
  subst hm
  rw [exec_waite, execWaite, systemInstr_core h, if_neg (by decide)]

end

/-- Settles O22: a wait begins or ends by the compare and the pending events of its context, and the compare that is met resumes
it. -/
theorem waitsOfAContext : Obligations.WaitsOfAContext := by
  refine ⟨fun rd rs1 s c h => ⟨?_, ?_, ?_, ?_, ?_⟩, fun s c hc => ⟨?_, exec_timerCompareMet_unmet hc⟩⟩
  · intro harmed
    rw [exec_waitt_core h, harmed, if_neg Bool.false_ne_true]
  · intro harmed
    refine ⟨_, (exec_waitt_core h rd).trans (by rw [if_pos harmed]), ?_⟩
    rw [core_stall_self, coreIssued_core]
    exact ⟨rfl, rfl, rfl, rfl⟩
  · intro hit
    rw [exec_waite_core h rd rfl, if_pos hit]
  · intro hmiss hmask
    refine ⟨_, (exec_waite_core h rd rfl).trans (by rw [if_neg (not_not_intro hmiss), if_neg (hmask ·.1)]), ?_⟩
    rw [core_stall_self]
    exact ⟨rfl, rfl⟩
  · intro hmiss hmask harmed
    rw [exec_waite_core h rd rfl, if_neg (not_not_intro hmiss), if_pos ⟨hmask, by rw [harmed]; rfl⟩]
  · intro hst harmed hreached hw
    obtain ⟨t, ht, hcore⟩ := exec_timerCompareMet_met hc hst harmed hreached hw
    refine ⟨t, ht, ?_⟩
    rw [hcore, resume_armed]
    exact ⟨rfl, rfl, rfl, rfl⟩

/-! ## The counter (R368, R385) -/

section
variable (s : State)

theorem ppsBoundary_aon : s.ppsBoundary.aon = s.aon := by
  unfold State.ppsBoundary
  extract_lets
  split <;> rfl

theorem ppsBoundary_net : s.ppsBoundary.net = s.net := by
  unfold State.ppsBoundary
  extract_lets
  split <;> rfl

theorem tickPlain_aon (n : Nat) : (s.tickPlain n).aon = s.aon + n := by
  unfold State.tickPlain
  extract_lets
  split
  · rfl
  · exact ppsBoundary_aon _

theorem tickPlain_net (n : Nat) : (s.tickPlain n).net =
    s.net.move ((n * ({ s with tim := { s.tim with adjPending := none } } : State).increment : Nat) : Int) := by
  unfold State.tickPlain
  extract_lets
  split
  · rfl
  · exact ppsBoundary_net _

/-- The stall watchdog's count is the Glasshouse's own. -/
theorem watchStall_glh_only : s.watchStall = { s with glh := s.watchStall.glh } := by
  unfold State.watchStall
  split <;> rfl

/-- The edges' command ends the watchdog's count unless its conditions hold again (R545). -/
def endStall (s : State) : State := if s.stalled then s else { s with glh := { s.glh with stallSince := none } }

theorem endStall_aon : (endStall s).aon = s.aon := by
  unfold endStall
  split <;> rfl

theorem endStall_net : (endStall s).net = s.net := by
  unfold endStall
  split <;> rfl

/-- With no step to apply the edges only advance the counter (R368). -/
theorem exec_timeCounterIncrement_plain (hstep : s.tim.step = none) (n : Nat) :
    exec (.timeCounterIncrement (n + 1)) s = .next (endStall (s.begin.watchStall.tickPlain (n + 1))) := by
  have hnone : ¬s.begin.watchStall.tim.step.isSome = true := by
    rw [watchStall_glh_only]
    exact fun h => Bool.false_ne_true ((congrArg Option.isSome hstep).symm.trans h)
  rw [exec_timeCounterIncrement, execTimeCounterIncrement, if_neg hnone, endStall]

end

/-! ## Steps (R371) -/

theorem store_tim (s : State) (r : RegSpec) (ix : List Nat) (v : Nat) : (s.store r ix v).tim = s.tim := State.wr_tim _ _ _

theorem rejectBit_tim (s : State) (f : Fld) : (s.rejectBit f).tim = s.tim := by
  rw [State.rejectBit, State.emit_tim, State.fs_tim]

/-- A step to an absolute time as GO takes it: the time that the registers name, pending until the next edge. -/
def stepTaken (s : State) (v : Nat) : State :=
  ({ s.store Spec.TIM_STEP_CTL [] v with tim := { s.tim with step := some (false,
    (s.rd Reg.TIM_SET_SH).toNat * 2 ^ 32 + (s.rd Reg.TIM_SET_SL).toNat, s.fg Fld.TIM_SET_NS_NS) } } : State).fs
    Fld.TIM_STEP_CTL_BUSY 1

theorem stepTaken_step (s : State) (v : Nat) : (stepTaken s v).tim.step = some (false,
    (s.rd Reg.TIM_SET_SH).toNat * 2 ^ 32 + (s.rd Reg.TIM_SET_SL).toNat, s.fg Fld.TIM_SET_NS_NS) := by
  rw [stepTaken, State.fs_tim]

theorem stepTaken_net (s : State) (v : Nat) : (stepTaken s v).net = s.net := by
  rw [stepTaken, State.fs_net, State.store, State.wr_net]

theorem stepTaken_busy (s : State) (v : Nat) : (stepTaken s v).fb Fld.TIM_STEP_CTL_BUSY = true :=
  fb_fs_one _ (by decide) rfl

section
variable {s : State} {v : Nat} (hgo : bitAt v 31 = true)
include hgo

/-- A GO while a step is pending is rejected. -/
theorem writeStepCtl_pending (hstep : s.tim.step.isSome = true) :
    s.writeStepCtl v = s.rejectBit Fld.TIM_STEP_CTL_REJECTED := by
  simp only [State.writeStepCtl, hgo, store_tim, hstep, Bool.not_true, Bool.false_eq_true, if_false, true_or, if_true]

theorem writeStepCtl_absolute (hmode : bitAt v 30 = false) (hstep : s.tim.step = none)
    (hns : s.fg Fld.TIM_SET_NS_NS ≤ 999999999) : s.writeStepCtl v = stepTaken s v := by
  have hset : (s.store Spec.TIM_STEP_CTL [] v).fg Fld.TIM_SET_NS_NS = s.fg Fld.TIM_SET_NS_NS :=
    State.fg_wr_ne s _ (by decide)
  have hrd {q : Reg} (h : Reg.TIM_STEP_CTL.addr ≠ q.addr) : (s.store Spec.TIM_STEP_CTL [] v).rd q = s.rd q :=
    rd_store_ne s v h
  have htake : ¬(s.tim.step.isSome = true ∨ (!false) = true ∧ 999999999 < s.fg Fld.TIM_SET_NS_NS) := by
    rw [hstep]
    exact fun h => h.elim Bool.noConfusion fun h => Nat.not_lt.2 hns h.2
  simp only [State.writeStepCtl, stepTaken, hgo, hmode, store_tim, hset, hrd (q := Reg.TIM_SET_SH) (by decide),
    hrd (q := Reg.TIM_SET_SL) (by decide), Bool.not_true, if_neg htake, Bool.false_eq_true, if_false]

end

/-- The value that GO writes has the GO bit set. -/
theorem bitAt_go (mode : Bool) : bitAt (2 ^ 31 + 2 ^ 30 * ofBool mode) 31 = true := by cases mode <;> decide

section
variable {s : State}

theorem exec_timeStepGo_pending (hstep : s.tim.step.isSome = true) (mode : Bool) :
    exec (.timeStepGo mode) s = .next (s.begin.rejectBit Fld.TIM_STEP_CTL_REJECTED) :=
  congrArg Host.Outcome.next (writeStepCtl_pending (s := s.begin) (bitAt_go mode) hstep)

theorem exec_timeStepGo_takes (hstep : s.tim.step = none) (hns : s.fg Fld.TIM_SET_NS_NS ≤ 999999999) :
    exec (.timeStepGo false) s = .next (stepTaken s.begin (2 ^ 31 + 2 ^ 30 * ofBool false)) :=
  congrArg Host.Outcome.next (writeStepCtl_absolute (s := s.begin) (bitAt_go false) (by decide) hstep hns)

theorem exec_timeStepApplied_none (hstep : s.tim.step = none) : exec .timeStepApplied s = .next s.begin :=
  if_pos (congrArg Option.isNone hstep)

theorem exec_timeStepApplied_pending (hstep : s.tim.step.isSome = true) : exec .timeStepApplied s = .next s.begin.stepEdge :=
  if_neg (Option.isNone_eq_false_iff.2 hstep ▸ Bool.false_ne_true)

end

/-! ## The read of the nanoseconds (R370, R373) -/

/-- The read of the nanoseconds latches the seconds and the fraction of the same time. -/
def latchNow (s : State) (t : NetTime) : State :=
  ((s.wr Reg.TIM_NOW_SH (BitVec.ofNat 32 (t.sec / 2 ^ 32))).wr Reg.TIM_NOW_SL (BitVec.ofNat 32 t.sec)).fs
    Fld.TIM_NOW_FRAC_FRAC (t.frac / 2 ^ 32)

theorem rd_emit (s : State) (o : Out) (r : Reg) : (s.emit o).rd r = s.rd r := rfl

section
variable (s : State) (t : NetTime)

theorem latchNow_net : (latchNow s t).net = s.net := by
  rw [latchNow, State.fs_net, State.wr_net, State.wr_net]

theorem latchNow_out : (latchNow s t).out = s.out := by
  rw [latchNow, State.fs_out, State.wr_out, State.wr_out]

theorem latchNow_seconds : (latchNow s t).rd Reg.TIM_NOW_SL = BitVec.ofNat 32 t.sec := by
  rw [latchNow, State.rd_fs_ne _ _ (by decide), State.rd_wr_self]

theorem latchNow_fraction : (latchNow s t).fg Fld.TIM_NOW_FRAC_FRAC = t.frac / 2 ^ 32 % 2 ^ 16 := by
  rw [latchNow, State.fg_fs_self _ _ _ (by decide)]
  rfl

theorem readNowNs_eq : s.readNowNs =
    (BitVec.ofNat 32 s.sampleTime.1.ns, latchNow s.sampleTime.2 s.sampleTime.1) := rfl

/-- The read answers the nanoseconds of one core clock of the present period, and latches the rest of that time (R370, R373). -/
theorem exec_timNowNsRead_latches : ∃ t k, k < 50 ∧ exec .timNowNsRead s = .next t ∧ t.net = s.net
    ∧ t.out = [.readData (BitVec.ofNat 32 (s.net.copyAt s.increment k).ns)]
    ∧ t.rd Reg.TIM_NOW_SL = BitVec.ofNat 32 (s.net.copyAt s.increment k).sec
    ∧ t.fg Fld.TIM_NOW_FRAC_FRAC = (s.net.copyAt s.increment k).frac / 2 ^ 32 % 2 ^ 16 := by
  have hexec : exec .timNowNsRead s = .next ((latchNow s.begin.sampleTime.2 s.begin.sampleTime.1).emit
      (.readData (BitVec.ofNat 32 s.begin.sampleTime.1.ns))) := by
    rw [exec_timNowNsRead, execTimNowNsRead, readNowNs_eq]
  refine ⟨_, s.begin.free.1.toNat % 50, Nat.mod_lt _ (by decide), hexec, ?_, ?_, ?_, ?_⟩
  · rw [State.emit_net, latchNow_net]
    rfl
  · rw [State.emit, latchNow_out]
    rfl
  · rw [rd_emit, latchNow_seconds]
    rfl
  · rw [fg_emit, latchNow_fraction]
    rfl

end

/-! ## Timestamp queues (R379, R380) -/

/-- A read of the first word takes the head of the queue, and the other words show the rest of it. -/
theorem readTsq_cons {s : State} {slice : Nat} {e : TsEntry} {r : List TsEntry} (hq : s.tim.tsq.get slice [] = e :: r) :
    ∃ t, s.readTsq slice = (BitVec.ofNat 32 (beNat (sliceBytes e.bytes 0 4)), t) ∧ t.tim.tsq.get slice [] = r
      ∧ t.out = s.out ∧ t.rd (Reg.TIM_TSQ_W3 slice) = BitVec.ofNat 32 (beNat (sliceBytes e.bytes 12 4)) := by
  simp only [State.readTsq, hq, List.tail_cons]
  refine ⟨_, rfl, ?_, ?_, State.rd_wr_self _ _ _⟩
  · rw [State.wr_tim, State.wr_tim, State.wr_tim]
    exact Table.get_put_self _ _ _ _
  · rw [State.wr_out, State.wr_out, State.wr_out]

theorem exec_tsqW0Read_takes {s : State} {slice : Nat} {e : TsEntry} {r : List TsEntry} (hslice : slice < 4)
    (hq : s.tim.tsq.get slice [] = e :: r) : ∃ t, exec (.tsqW0Read slice) s = .next t
    ∧ t.tim.tsq.get slice [] = r
    ∧ t.out = [.readData (BitVec.ofNat 32 (beNat (sliceBytes e.bytes 0 4)))]
    ∧ t.rd (Reg.TIM_TSQ_W3 slice) = BitVec.ofNat 32 (beNat (sliceBytes e.bytes 12 4)) := by
  obtain ⟨t, ht, hrest, hout, hword⟩ := readTsq_cons (s := s.begin) hq
  refine ⟨t.emit (.readData _), ?_, hrest, congrArg (· ++ _) hout, hword⟩
  rw [exec_tsqW0Read, execTsqW0Read, if_neg (Nat.not_le.2 hslice), ht]

/-! ## Pulses per second (R385, R386) -/

section
variable {s : State}

/-- PPS_OUT as its rise leaves it: high until its width is over (R385). -/
def ppsRaised (s : State) : TimState :=
  { s.tim with
    ppsHigh := true
    ppsFallAt := s.aon + s.tim.pps.2.1 * usCycles
    ppsLast := some s.net.sec }

theorem exec_ppsOutRise_rises (hen : s.tim.pps.1 = true) (hlow : s.tim.ppsHigh = false) (hoffset : s.tim.pps.2.2 ≤ s.net.ns)
    (hbefore : s.tim.ppsNotBefore + ceilDiv (s.net.ns - s.tim.pps.2.2) 40 ≤ s.aon) (hlast : s.tim.ppsLast ≠ some s.net.sec) :
    exec .ppsOutRise s = .next (({ s.begin with tim := ppsRaised s } : State).emit (.ppsOut true)) := by
  refine if_pos ?_
  simp only [Bool.and_eq_true, Bool.not_eq_true', decide_eq_true_eq, bne_iff_ne]
  exact ⟨⟨⟨hen, hlow⟩, hoffset, hbefore⟩, hlast⟩

theorem exec_ppsOutRise_high (hhigh : s.tim.ppsHigh = true) : exec .ppsOutRise s = .next s.begin := by
  refine if_neg ?_
  simp only [Bool.and_eq_true, Bool.not_eq_true', decide_eq_true_eq, bne_iff_ne]
  rintro ⟨⟨⟨-, hlow⟩, -⟩, -⟩
  exact Bool.false_ne_true (hlow.symm.trans hhigh)

theorem exec_ppsOutFall_falls (hhigh : s.tim.ppsHigh = true) (hdue : s.tim.ppsFallAt ≤ s.aon) : exec .ppsOutFall s =
    .next (({ s.begin with tim := { s.tim with ppsHigh := false } } : State).emit (.ppsOut false)) :=
  if_pos ⟨hhigh, hdue⟩

theorem exec_ppsOutFall_none (h : s.tim.ppsHigh = false ∨ s.aon < s.tim.ppsFallAt) : exec .ppsOutFall s = .next s.begin :=
  if_neg fun ⟨hhigh, hdue⟩ => h.elim (fun hlow => Bool.false_ne_true (hlow.symm.trans hhigh)) (Nat.not_lt.2 hdue)

theorem exec_ppsInCapture_off (hen : s.fb Fld.TIM_PPSIN_CTL_EN = false) : exec .ppsInCapture s = .next s.begin := by
  have hb : s.begin.fb Fld.TIM_PPSIN_CTL_EN = false := hen
  simp only [exec_ppsInCapture, execPpsInCapture, hb, Bool.not_false, Bool.true_or, if_true]

theorem logLimited_tim (s : State) (code unit n first : Nat) (mk : Nat → Nat → List Byte) :
    (s.logLimited code unit n first mk).tim = s.tim := by
  rw [show s.logLimited code unit n first mk = _ from logLimited_counts s code unit n first mk]

/-- A capture whose predecessor was not read is noted as missed (R386). -/
def noteMissed (s : State) : State :=
  if s.fb Fld.TIM_PPSIN_CTL_CAPTURED then (s.fs Fld.TIM_PPSIN_CTL_MISSED 1).logLimited 0x0E04 0 1 0 fun _ _ => [] else s

theorem noteMissed_tim (s : State) : (noteMissed s).tim = s.tim := by
  unfold noteMissed
  split
  · rw [logLimited_tim, State.fs_tim]
  · rfl

/-- The registers that show the time of a capture, and its bit (R386). -/
def showCapture (s : State) (t : NetTime) : State :=
  ((((s.fs Fld.TIM_PPSIN_SH_SEC_HI (t.sec / 2 ^ 32 % 65536)).wr Reg.TIM_PPSIN_SL (BitVec.ofNat 32 t.sec)).fs
    Fld.TIM_PPSIN_NS_NS t.ns).fs Fld.TIM_PPSIN_FRAC_FRAC (t.frac / 2 ^ 32)).fs Fld.TIM_PPSIN_CTL_CAPTURED 1

theorem showCapture_tim (s : State) (t : NetTime) : (showCapture s t).tim = s.tim := by
  rw [showCapture, State.fs_tim, State.fs_tim, State.fs_tim, State.wr_tim, State.fs_tim]

theorem showCapture_captured (s : State) (t : NetTime) : (showCapture s t).fb Fld.TIM_PPSIN_CTL_CAPTURED = true :=
  fb_fs_one _ (by decide) rfl

/-- A capture's time is kept for the millisecond in which no other is taken (R386). -/
def keepCaptureTime (s : State) : State := { s with tim := { s.tim with ppsInLast := some s.aon } }

/-- The first capture is never too early: it is shown, and line 20 is raised. -/
theorem exec_ppsInCapture_first (hen : s.fb Fld.TIM_PPSIN_CTL_EN = true) (hfirst : s.tim.ppsInLast = none) :
    exec .ppsInCapture s = .next
      ((showCapture (noteMissed (keepCaptureTime s.begin.sampleTime.2)) s.begin.sampleTime.1).raiseLine 20) := by
  have hon : s.begin.fb Fld.TIM_PPSIN_CTL_EN = true := hen
  have hnone : s.begin.tim.ppsInLast = none := hfirst
  rw [exec_ppsInCapture, execPpsInCapture, hon, hnone]
  exact if_neg Bool.false_ne_true

end

/-- Settles O49: an edge, a step, a read, a queue and a pulse each act by the time state alone. -/
theorem networkTime : Obligations.NetworkTime := by
  refine fun s mode slice n => ⟨rfl, ?_, ?_, ?_, exec_timeStepApplied_none, exec_timeStepApplied_pending,
    exec_timNowNsRead_latches s, fun e r => exec_tsqW0Read_takes, ?_, exec_ppsOutRise_high, ?_, exec_ppsOutFall_none,
    exec_ppsInCapture_off, ?_⟩
  · intro hstep
    refine ⟨_, exec_timeCounterIncrement_plain s hstep n, ?_, ?_⟩
    · rw [endStall_aon, tickPlain_aon, watchStall_glh_only]
      rfl
    · rw [endStall_net, tickPlain_net, watchStall_glh_only]
      rfl
  · intro hstep
    refine ⟨_, exec_timeStepGo_pending hstep mode, ?_, rejectBit_shows _ (by decide) rfl⟩
    rw [rejectBit_tim]
    rfl
  · exact fun hstep hns => ⟨_, exec_timeStepGo_takes hstep hns, stepTaken_step _ _, stepTaken_busy _ _, stepTaken_net _ _⟩
  · exact fun hen hlow hoffset hbefore hlast =>
      ⟨_, exec_ppsOutRise_rises hen hlow hoffset hbefore hlast, rfl, rfl, rfl⟩
  · exact fun hhigh hdue => ⟨_, exec_ppsOutFall_falls hhigh hdue, rfl, rfl⟩
  · intro hen hfirst
    refine ⟨_, showCapture_captured _ _, ?_, exec_ppsInCapture_first hen hfirst⟩
    rw [showCapture_tim, noteMissed_tim]
    rfl

end Sys2Proof.NetworkTime
